-- ==== Sys2Proof/Word.lean ====
section
/-!
DEFINITION. The word types the manual's formats are written in.
-/

namespace Sys2Proof

/-- A 32-bit word of a ring frame (chapter 12, ring frame header). -/
abbrev Word := BitVec 32

/-- A byte of a link frame (chapter 12, link frames). -/
abbrev Byte := BitVec 8

/-- A value of TMB's 32-bit millisecond counter, which wraps (chapter 11, timebase). -/
abbrev Ms := BitVec 32

end Sys2Proof
end

