-- ==== Sys2Proof/Syntax.lean ====
section
/-!
DEFINITION. The commands the part takes: one constructor for each row of spec/opcode_table.json.

A row that is the delivery of a ring frame or of a buffered link frame has no operand: its operands stand in the
frame at the head of the ingress queue (R179) or in the oldest receive buffer (R129). A row that is the expiry of a
timer names the timer where there are several. A row that arrives on a pin or a line carries what arrives.
-/

namespace Sys2Proof

/-- KEY_MAINT: RUN when open, MAINT when closed (chapter 0, connections). -/
inductive KeyPosition where
  | run
  | maint
  deriving DecidableEq, Repr

/-- ESTOP_IN: the station emergency-stop loop (chapter 0, connections; R169). -/
inductive LoopLevel where
  | loopClosed
  | loopOpen
  deriving DecidableEq, Repr

/-- The two door units of R92. -/
inductive DoorUnitName where
  | openUnit
  | closeUnit
  deriving DecidableEq, Repr

/-- The commands, in the order of spec/opcode_table.json. -/
inductive Instr where
  /-- POWER_ON_RESET (R192). -/
  | powerOnReset
  /-- ESTOP_IN_CHANGE (R169): the level the loop changes to. -/
  | estopInChange (level : LoopLevel)
  /-- TIMEBASE_WINDOW_END (R194): the reference edges counted in the window. -/
  | timebaseWindowEnd (edges : Nat)
  /-- RING_SLOT_PASS (R173): the slot and the words it carries as it reaches the master. -/
  | ringSlotPass (slot : Fin 8) (w0 w1 : Word) (payload : List Word)
  /-- FRAME_UNDELIVERABLE (R179). -/
  | frameUndeliverable
  /-- TACH_SAMPLE (R1). -/
  | tachSample
  /-- TACH_LOST_EXPIRY (R14). -/
  | tachLostExpiry
  /-- STILLNESS_EXPIRY (R11). -/
  | stillnessExpiry
  /-- REF_MARK (R15, R16). -/
  | refMark
  /-- GATE_REPORT (R29). -/
  | gateReport
  /-- GATE_REPORT_TIMEOUT (R30). -/
  | gateReportTimeout
  /-- NACK_GATE_RELEASE (R30). -/
  | nackGateRelease
  /-- ATTACH (R32). -/
  | attach
  /-- ARRIVAL_FORWARD (R64). -/
  | arrivalForward
  /-- ARRIVAL_BACKWARD (R68). -/
  | arrivalBackward
  /-- PASSAGE_FORWARD (R66). -/
  | passageForward
  /-- PASSAGE_BACKWARD (R67). -/
  | passageBackward
  /-- GRIP_SAMPLE_FORWARD (R70). -/
  | gripSampleForward
  /-- GRIP_SAMPLE_BACKWARD (R67). -/
  | gripSampleBackward
  /-- SWITCH_PASSAGE_FORWARD (R73). -/
  | switchPassageForward
  /-- SWITCH_PASSAGE_BACKWARD (R67). -/
  | switchPassageBackward
  /-- NACK_SWITCH_SET (R72). -/
  | nackSwitchSet
  /-- GARAGE_EXIT_FORWARD (R77). -/
  | garageExitForward
  /-- GARAGE_EXIT_BACKWARD (R68). -/
  | garageExitBackward
  /-- GARAGE_EXIT_TIMEOUT (R79). -/
  | garageExitTimeout
  /-- NACK_GARAGE_EXIT_COMMAND (R79). -/
  | nackGarageExitCommand
  /-- DOOR_REPORT (R98). -/
  | doorReport
  /-- NACK_DOOR (R103). -/
  | nackDoor
  /-- DOOR_DEADLINE_EXPIRY (R102): the unit whose deadline expires. -/
  | doorDeadlineExpiry (unit : DoorUnitName)
  /-- UNIT_RECOVER_EXPIRY (R92): the unit whose recover time expires. -/
  | unitRecoverExpiry (unit : DoorUnitName)
  /-- DOOR_RETRY_TIMER_EXPIRY (R103): the unit whose retry timer expires. -/
  | doorRetryTimerExpiry (unit : DoorUnitName)
  /-- DWELL_EXPIRY (R99): the entry serial of the door record. -/
  | dwellExpiry (serial : Nat)
  /-- REOPEN_WAIT_EXPIRY (R99): the entry serial of the door record. -/
  | reopenWaitExpiry (serial : Nat)
  /-- SETTLE_EXPIRY (R100): the entry serial of the door record. -/
  | settleExpiry (serial : Nat)
  /-- TENSION_SAMPLE (R113). -/
  | tensionSample
  /-- TENSION_LOSS_EXPIRY (R114). -/
  | tensionLossExpiry
  /-- TOWER_DUE_EXPIRY (R118): the tower table index. -/
  | towerDueExpiry (tower : Nat)
  /-- SCAN_REPORT (R120). -/
  | scanReport
  /-- SCAN_DEADLINE_EXPIRY (R121): the tower table index. -/
  | scanDeadlineExpiry (tower : Nat)
  /-- NACK_SCAN_REQUEST (R121). -/
  | nackScanRequest
  /-- TOWER_ALARM (R123). -/
  | towerAlarm
  /-- LINK_BAD_CHECK_FRAME (R128): the bytes received. -/
  | linkBadCheckFrame (bytes : List Byte)
  /-- LINK_SAFETY_FRAME (R137): the bytes received, header, payload and check. -/
  | linkSafetyFrame (bytes : List Byte)
  /-- LINK_BUFFERED_FRAME (R129): the bytes received, header, payload and check. -/
  | linkBufferedFrame (bytes : List Byte)
  /-- HANDOVER_SUMMIT_ARRIVAL (R45). -/
  | handoverSummitArrival
  /-- HANDOVER_SUMMIT_LAUNCH (R46). -/
  | handoverSummitLaunch
  /-- REPLY_PART (R55). -/
  | replyPart
  /-- RECONCILE_RETRY_EXPIRY (R55). -/
  | reconcileRetryExpiry
  /-- REQUEST_TIMEOUT (R140): the tag of the request. -/
  | requestTimeout (tag : Nat)
  /-- VALLEY_SET_QUERY (R57). -/
  | valleySetQuery
  /-- LOCATE (R57). -/
  | locate
  /-- SUMMIT_REQUEST_UNSUPPORTED (R142). -/
  | summitRequestUnsupported
  /-- LINK_VOICE_FRAME (R155): the bytes received, header, payload and check. -/
  | linkVoiceFrame (bytes : List Byte)
  /-- SILENCE_EXPIRY (R133). -/
  | silenceExpiry
  /-- SAFETY_SEND_EXPIRY (R136). -/
  | safetySendExpiry
  /-- TRANSMIT_COMPLETE (R131). -/
  | transmitComplete
  /-- CALL_SETUP (R149). -/
  | callSetup
  /-- CALL_ACCEPT (R149). -/
  | callAccept
  /-- CALL_CLEAR (R149). -/
  | callClear
  /-- CALL_TIMER_EXPIRY (R150). -/
  | callTimerExpiry
  /-- PLAYOUT_EXPIRY (R156). -/
  | playoutExpiry
  /-- HANDSET_VOICE (R154). -/
  | handsetVoice
  /-- CALL_KEY_CALL (R147). -/
  | callKeyCall
  /-- CALL_KEY_ANSWER (R147). -/
  | callKeyAnswer
  /-- CALL_KEY_HANG_UP (R147). -/
  | callKeyHangUp
  /-- CALL (R147). -/
  | call
  /-- ANSWER (R147). -/
  | answer
  /-- HANG_UP (R147). -/
  | hangUp
  /-- READ_STATUS (R185): the key position at the request. -/
  | readStatus (key : KeyPosition)
  /-- READ_ENTRY (R185). -/
  | readEntry
  /-- READ_COLLECTION (R185). -/
  | readCollection
  /-- STAGE_ENTRY (R186). -/
  | stageEntry
  /-- DISCARD_STAGE (R186). -/
  | discardStage
  /-- COMMIT (R188): the key position at the request. -/
  | commit (key : KeyPosition)
  /-- WRITE_FLEET_ENTRY (R190). -/
  | writeFleetEntry
  /-- SET_PROTECTION (R187): the key position at the request. -/
  | setProtection (key : KeyPosition)
  /-- PARK (R191). -/
  | park
  /-- RESTART (R192): the key position at the request. -/
  | restart (key : KeyPosition)
  /-- RESTART_OFFER_TIMEOUT (R192). -/
  | restartOfferTimeout
  /-- RESET_CAUSES (R167): the key position at the request. -/
  | resetCauses (key : KeyPosition)
  /-- SET_DOOR_MODE (R108). -/
  | setDoorMode
  /-- HOLD_OPEN (R106). -/
  | holdOpen
  /-- RELEASE_HOLD (R106). -/
  | releaseHold
  /-- DOOR_RETRY (R107). -/
  | doorRetry
  /-- GARAGE_NEXT (R82). -/
  | garageNext
  /-- GARAGE_RELEASE (R81). -/
  | garageRelease
  /-- REMOVE_CABIN (R83). -/
  | removeCabin
  /-- LOCATE_CABIN (R84). -/
  | locateCabin
  /-- LINK_RESTART (R135). -/
  | linkRestart
  /-- COMMIT_WRITE_COMPLETE (R189). -/
  | commitWriteComplete
  /-- FLEET_WRITE_COMPLETE (R190). -/
  | fleetWriteComplete
  /-- PROTECTION_WRITE_COMPLETE (R187). -/
  | protectionWriteComplete
  /-- PARK_WRITE_COMPLETE (R191). -/
  | parkWriteComplete
  /-- INVALIDATION_WRITE_COMPLETE (R189). -/
  | invalidationWriteComplete
  /-- RESET_IN_ASSERTED (R172). -/
  | resetInAsserted
  /-- MGMT_REQUEST_UNKNOWN_KIND (R185). -/
  | mgmtRequestUnknownKind
  deriving DecidableEq, Repr

end Sys2Proof
end

