-- ==== Sys2Proof/Machine/Types.lean ====
section
/-!
DEFINITION. The names and small records the manual speaks in: categories, causes, kinds, states.
-/

namespace Sys2Proof.Machine

/-- A stop category, ascending. For a cause the first is REPORT_ONLY, for the output it is RUN: both are coded 0 and a
REPORT_ONLY cause counts as RUN (chapter 9, the scale of categories; chapter 12). -/
inductive Category where
  | run
  | holdLaunch
  | serviceStop
  | emergencyStop
  deriving DecidableEq, Repr

/-- The 48 causes of the catalogue, in the order of their numbers (R158). -/
inductive Cause where
  | tachLost | tachSingle | tachDisagree | tachImplausible | ropeSlip | overspeed | ropeUnreferenced | ropeRefDrift
  | tensionWarn | tensionLimit | tensionLost | deropement | ropeOffset | towerSensor | towerScanOverdue | towerScanLost
  | gripReject | spacingError | attachMissing | gateFault | headBlocked | slotOccupied | phantomPassage | segmentFull
  | stationOverflow | unknownCabin | idUnread | routeMismatch | mergeConflict | reversePassageFault | missingCabin
  | duplicateCabin | slotMismatch | overdueAtSummit | overdueAtValley | handoverGap | doorNotLocked | doorTimeout
  | doorObstruction | doorDriveFault | linkLost | positionDisagree | summitStop | tablesInvalid | nodeAbsent | powerOn
  | estopLoop | timebaseDegraded
  deriving DecidableEq, Repr

/-- The blocks that judge the conditions of causes (R158). -/
inductive Block where
  | rpu | lgt | ctr | dsq | rmn | slk | stc | rng | tst | tmb
  deriving DecidableEq, Repr

/-- The state of a cause record (R160). -/
inductive CauseState where
  | inactive
  | active
  | latched
  deriving DecidableEq, Repr

/-- The kind of the last change of a cause record (R160): a raise, its end, a momentary raise, a release by
RESET_CAUSES, a change of the mirror's category. -/
inductive ChangeKind where
  | raised
  | cleared
  | momentary
  | released
  | category
  deriving DecidableEq, Repr

/-- The kinds of EVENT report the manual's rules name. -/
inductive EventKind where
  | tachGap | refCorrection
  | slotOccupied | lateRelease | gateReportMismatch | releaseMismatch | unmatchedNack | gateLateReport | spacingError
  | attachUnslotted | attachMissing
  | cabinUnlocated | duplicateCabin | slotMismatch | downhillFull | unknownHandover | overdueAtSummit | overdueAtValley
  | reconcileDone | restoreUnlocated | linesCleared
  | unknownCabin | arrivalDropped | phantomPassage | reversePassage | segmentFull | routeForcedLine | garageNextDropped
  | switchRefused | routeMismatch | garageTopChanged | mergeConflict | garageExitRefused | garageExitTimeout | garageNext
  | cabinRemoved
  | doorDriveFault | doorOpenSkipped | doorReportUnexpected | doorObstruction | doorTimeout | doorLateReport
  | doorReportUnmatched | doorNotLocked | doorReportAfterDeparture
  | tensionBand | towerScanLost | unknownTower | towerStatus | gripReject | gripUnjudged
  | linkOverrun | linkDown | positionDisagree | replyDropped | handoverDropped
  | callState | callFrameDropped | clearRefused
  | causeState | causeCategory | outputCategory
  | frameFiltered | nodeAbsent | nodePresent | ingressOverrun | frameUndeliverable | frameMalformed
  | fleetWrite | parkStale | parkNotRestored | timebaseBackup
  deriving DecidableEq, Repr

/-- Ring frame kinds (chapter 12, ring payloads). -/
inductive RingKind where
  | tachSample | refMark | arrival | passage | gripSample | switchPassage | garageExit | gateReport | attach | doorReport
  | tensionSample | scanReport | towerAlarm | voice | callKey | mgmtRequest | nack | doorOpen | doorClose | doorLock
  | gateRelease | switchSet | garageExitCommand | scanRequest | callIndication | mgmtReply | event
  deriving DecidableEq, Repr

/-- Node roles (R183). -/
inductive Role where
  | none | manager | arrivalReader | detector2 | detector3 | detector4 | gripGauge | switch | gate | attach | garageDrive
  | doorOpenUnit | doorCloseUnit | tach | tension | towerConcentrator | refMark | handset
  deriving DecidableEq, Repr

/-- The egress classes of R180. -/
inductive EgressClass where
  | control
  | voice
  | poll
  | report
  deriving DecidableEq, Repr

/-- The reasons of R176 and R174 for which the filter removes a frame. -/
inductive FilterReason where
  | sourceZero
  | roleKind
  | emptyMask
  | destination
  | format
  | badMark
  deriving DecidableEq, Repr

/-- Motion of the rope (R11). -/
inductive Motion where
  | forward
  | reverse
  | stopped
  | unknown
  deriving DecidableEq, Repr

/-- Door states, in the order of the table of R89. -/
inductive DoorState where
  | locked
  | opening
  | opened
  | closing
  | reopening
  | closed
  | locking
  | fault
  | unknown
  deriving DecidableEq, Repr

/-- Grip verdicts (R61). -/
inductive GripVerdict where
  | untested
  | pass
  | reject
  deriving DecidableEq, Repr

/-- The location field of a registry entry (R61). -/
inductive Location where
  | station
  | garage
  | uphill
  | summit
  | downhill
  | unlocated
  | outOfService
  deriving DecidableEq, Repr

/-- The station queue segments (R62). -/
inductive Segment where
  | s1 | s2 | s3 | s4 | s5 | s6 | s7
  deriving DecidableEq, Repr

/-- The route of a station queue entry (R62). -/
inductive Route where
  | undecided
  | line
  | garage
  deriving DecidableEq, Repr

/-- A position of the switch (R72). -/
inductive SwitchPosition where
  | line
  | garage
  deriving DecidableEq, Repr

/-- A slot table entry (R21); a cabin is named by its registry index. -/
inductive SlotState where
  | empty
  | releasePending (cabin : Nat)
  | releasing (cabin : Nat)
  | up (cabin : Nat)
  | down (cabin : Nat)
  deriving DecidableEq, Repr

/-- The window phase of a passage (R22). -/
inductive WindowPhase where
  | before
  | opened
  | after
  deriving DecidableEq, Repr

/-- Lock modes (R91, R99). -/
inductive LockMode where
  | auto
  | separate
  deriving DecidableEq, Repr

/-- Why a door record is held (R91). -/
inductive HeldReason where
  | notHeld
  | obstruction
  | drive
  deriving DecidableEq, Repr

/-- What a door command orders (R92). -/
inductive DoorAction where
  | openDoor
  | closeDoor (mode : LockMode)
  | lockDoor
  deriving DecidableEq, Repr

/-- The result of a DOOR_REPORT (chapter 12, code 10). -/
inductive DoorResult where
  | opened
  | closed
  | locked
  | obstructed
  | reopened
  | fault
  deriving DecidableEq, Repr

/-- The door modes of R108. -/
inductive DoorMode where
  | normal
  | closedRun
  deriving DecidableEq, Repr

/-- A train status (R116). -/
inductive TrainStatus where
  | inGroove
  | offset
  | deroped
  | sensorFault
  deriving DecidableEq, Repr

/-- Where a tower's latest statuses came from (R116). -/
inductive StatusSource where
  | report
  | alarm
  deriving DecidableEq, Repr

/-- Link frame classes (chapter 12, link frames). -/
inductive LinkClass where
  | safety
  | answered
  | unanswered
  | voice
  deriving DecidableEq, Repr

/-- Link states (R132). -/
inductive LinkState where
  | down
  | acquiring
  | up
  deriving DecidableEq, Repr

/-- The requests of the ANSWERED class (chapter 7, link frames and classes). -/
inductive RequestKind where
  | summitSetQuery
  | valleySetQuery
  | locate
  deriving DecidableEq, Repr

/-- Handover kinds (chapter 12, HANDOVER payload). -/
inductive HandoverKind where
  | summitArrival
  | summitLaunch
  | valleyLaunch
  | valleyArrival
  deriving DecidableEq, Repr

/-- Call states (chapter 8, state held). -/
inductive CallState where
  | idle
  | calling
  | ringing
  | talk
  deriving DecidableEq, Repr

/-- CALL frames (chapter 12, CALL payload). -/
inductive CallFrame where
  | setup
  | accept
  | clear
  deriving DecidableEq, Repr

/-- The reason a CALL_STATE report carries (R146). -/
inductive CallReason where
  | managerRequest
  | handsetRequest
  | summitFrame
  | timeout
  | summitIdle
  | emergency
  | linkDown
  deriving DecidableEq, Repr

/-- Playout phases (chapter 8, state held). -/
inductive PlayoutPhase where
  | filling
  | playing
  deriving DecidableEq, Repr

/-- The oscillator selection of TMB (chapter 11, timebase). -/
inductive Oscillator where
  | reference
  | backup
  deriving DecidableEq, Repr

/-- The stored protection mode (R187). -/
inductive ProtectionMode where
  | unlocked
  | locked
  deriving DecidableEq, Repr

/-- The committable table groups and FLEET (chapter 11, table groups and staging). -/
inductive TableGroup where
  | safety
  | operations
  | fleet
  deriving DecidableEq, Repr

/-- The status codes of a MGMT_REPLY (R185). -/
inductive Status where
  | ok
  | refusedKey
  | refusedMotion
  | refusedLocked
  | busy
  | badEntry
  | inconsistent (check : Nat)
  | clamped
  | notAllowed
  deriving DecidableEq, Repr

/-- The collections that READ_COLLECTION pages: those whose chapters say it returns them. -/
inductive Collection where
  | slotTable
  | uphillList
  | downhillList
  | summitSet
  | unlocatedSet
  | stationQueue
  | garageStack
  | towerTable
  | causeTable
  deriving DecidableEq, Repr

/-- The blocks that may issue a link request (R140): CTR issues the reconcile's. -/
inductive Requester where
  | cabinTracker
  deriving DecidableEq, Repr

end Sys2Proof.Machine
end

