-- ==== Sys2Proof/Config.lean ====
section
/-!
DEFINITION. What the manual leaves to each implementation or does not state: constants with no body, so that no proof
can rest on a value of one (log entries 7 and 8).
-/

namespace Sys2Proof

/-- The code of an event kind in w0 31..24 of an EVENT frame: chapter 12 gives the field and no codes. -/
opaque Config.eventKindCode : Machine.EventKind → BitVec 8

/-- The words w4 onward of an EVENT frame: chapter 12 says they hold "the data the raising rule names" and gives no
layout. At most eight of them go into the frame, whose payload has at most 12 words. -/
opaque Config.eventDataWords : Machine.EventKind → List Int → List Word

/-- The data words of the reply to READ_STATUS, as a function of every value the chapters say it reports, in the order
of `statusValues`: R185 names the contents and the manual gives no layout. At most eleven go into the frame. -/
opaque Config.statusWords : List Int → List Word

/-- Which collection a `which` code of READ_COLLECTION names (chapter 12 gives the field and no codes). -/
opaque Config.collectionOfCode : Nat → Option Machine.Collection

/-- The data words of a page of READ_COLLECTION, as a function of the collection, its total count, its change count and
the fields of its entries from the start asked for: R185 names the contents and the manual gives no layout. At most
eleven go into the frame. -/
opaque Config.pageWords : Machine.Collection → Nat → Nat → List (List Int) → List Word

/-- Whether a park valid flag that a store write was to clear as part of its contents still stands when a reset cuts
the write short (R189 says it of the flag of what the write writes, and not of this one). -/
opaque Config.parkFlagSurvives : Nat → Bool

end Sys2Proof
end

