-- ==== Sys2Proof/Machine/Tables.lean ====
section
/-!
DEFINITION. The table groups of the store, their default contents, and the cause catalogue of R158.
-/

namespace Sys2Proof.Machine

/-- A node table entry (R183). -/
structure NodeEntry where
  role : Role
  kinds : Word
  dests : Word
  critical : Bool
  deriving DecidableEq, Repr

/-- A tower table entry (chapter 6, parameters read). -/
structure TowerEntry where
  node : Nat
  number : Nat
  trains : Nat
  interval : Nat
  deriving DecidableEq, Repr

/-- The SAFETY group (chapter 11, table groups; the entry names are those of chapter 12, geometry and SAFETY entries).
`towers` has 24 places, `nodes` 32, `matrix` one category for each cause (that of SUMMIT_STOP is not read). -/
structure SafetyTables where
  L : Nat
  N : Nat
  S : Nat
  A : Nat
  W : Nat
  B : Nat
  U : Nat
  Dn : Nat
  tolArr : Nat
  gAtt : Nat
  eMax : Nat
  pMark : Nat
  rTol : Nat
  caps : List Nat
  gcap : Nat
  ts : Nat
  ka : Nat
  kb : Nat
  dMax : Nat
  qLim : Nat
  vMax : Nat
  stopLo : Nat
  warnLo : Nat
  warnHi : Nat
  stopHi : Nat
  pTol : Nat
  tLat : Nat
  matrix : List Category
  nodes : List NodeEntry
  towers : List (Option TowerEntry)
  deriving DecidableEq, Repr

/-- A door profile (R90). -/
structure DoorProfile where
  tOpenMax : Nat
  tCloseMax : Nat
  tDwell : Nat
  tSettle : Nat
  tRecover : Nat
  tReopenWait : Nat
  maxReopen : Nat
  deriving DecidableEq, Repr

/-- A grip class (chapter 6, parameters read). -/
structure GripClass where
  fMin : Nat
  fMax : Nat
  deriving DecidableEq, Repr

/-- The OPERATIONS group: door profiles 0..3 and grip classes 0..3 (chapter 11, table groups). -/
structure OperationsTables where
  profiles : List DoorProfile
  classes : List GripClass
  deriving DecidableEq, Repr

/-- The static fields of a registry entry, which are the FLEET group (R61, R190). An ID of 0 is an absent ID. -/
structure FleetStatic where
  id : Nat
  profile : Nat
  gripClass : Nat
  inService : Bool
  deriving DecidableEq, Repr

/-- The number of a cause in the catalogue of R158. -/
def Cause.num : Cause → Nat
  | .tachLost => 0
  | .tachSingle => 1
  | .tachDisagree => 2
  | .tachImplausible => 3
  | .ropeSlip => 4
  | .overspeed => 5
  | .ropeUnreferenced => 6
  | .ropeRefDrift => 7
  | .tensionWarn => 8
  | .tensionLimit => 9
  | .tensionLost => 10
  | .deropement => 11
  | .ropeOffset => 12
  | .towerSensor => 13
  | .towerScanOverdue => 14
  | .towerScanLost => 15
  | .gripReject => 16
  | .spacingError => 17
  | .attachMissing => 18
  | .gateFault => 19
  | .headBlocked => 20
  | .slotOccupied => 21
  | .phantomPassage => 22
  | .segmentFull => 23
  | .stationOverflow => 24
  | .unknownCabin => 25
  | .idUnread => 26
  | .routeMismatch => 27
  | .mergeConflict => 28
  | .reversePassageFault => 29
  | .missingCabin => 30
  | .duplicateCabin => 31
  | .slotMismatch => 32
  | .overdueAtSummit => 33
  | .overdueAtValley => 34
  | .handoverGap => 35
  | .doorNotLocked => 36
  | .doorTimeout => 37
  | .doorObstruction => 38
  | .doorDriveFault => 39
  | .linkLost => 40
  | .positionDisagree => 41
  | .summitStop => 42
  | .tablesInvalid => 43
  | .nodeAbsent => 44
  | .powerOn => 45
  | .estopLoop => 46
  | .timebaseDegraded => 47

/-- The causes in the order of their numbers. -/
def Cause.all : List Cause :=
  [.tachLost, .tachSingle, .tachDisagree, .tachImplausible, .ropeSlip, .overspeed, .ropeUnreferenced, .ropeRefDrift,
   .tensionWarn, .tensionLimit, .tensionLost, .deropement, .ropeOffset, .towerSensor, .towerScanOverdue, .towerScanLost,
   .gripReject, .spacingError, .attachMissing, .gateFault, .headBlocked, .slotOccupied, .phantomPassage, .segmentFull,
   .stationOverflow, .unknownCabin, .idUnread, .routeMismatch, .mergeConflict, .reversePassageFault, .missingCabin,
   .duplicateCabin, .slotMismatch, .overdueAtSummit, .overdueAtValley, .handoverGap, .doorNotLocked, .doorTimeout,
   .doorObstruction, .doorDriveFault, .linkLost, .positionDisagree, .summitStop, .tablesInvalid, .nodeAbsent, .powerOn,
   .estopLoop, .timebaseDegraded]

/-- The block that judges a cause's condition (R158). PHANTOM_PASSAGE is judged by CTR and by LGT; it is counted with LGT,
whose other conditions can come in the same command, where no other of CTR's can (log entry 6). -/
def Cause.block : Cause → Block
  | .tachLost | .tachSingle | .tachDisagree | .tachImplausible | .ropeSlip | .overspeed | .ropeUnreferenced
  | .ropeRefDrift => .rpu
  | .tensionWarn | .tensionLimit | .tensionLost | .deropement | .ropeOffset | .towerSensor | .towerScanOverdue
  | .towerScanLost | .gripReject => .rmn
  | .spacingError | .attachMissing | .gateFault | .headBlocked | .slotOccupied | .phantomPassage => .lgt
  | .segmentFull | .stationOverflow | .unknownCabin | .idUnread | .routeMismatch | .mergeConflict
  | .reversePassageFault | .missingCabin | .duplicateCabin | .slotMismatch | .overdueAtSummit | .overdueAtValley => .ctr
  | .handoverGap | .linkLost | .positionDisagree | .summitStop => .slk
  | .doorNotLocked | .doorTimeout | .doorObstruction | .doorDriveFault => .dsq
  | .tablesInvalid => .tst
  | .nodeAbsent => .rng
  | .powerOn | .estopLoop => .stc
  | .timebaseDegraded => .tmb

/-- The default category of a cause (R158). SUMMIT_STOP has no category of its own; REPORT_ONLY stands for it. -/
def Cause.defaultCategory : Cause → Category
  | .tachLost | .overspeed | .tensionLimit | .deropement | .stationOverflow | .estopLoop => .emergencyStop
  | .tachDisagree | .tachImplausible | .ropeSlip | .ropeRefDrift | .tensionLost | .ropeOffset | .towerScanLost
  | .attachMissing | .gateFault | .slotOccupied | .phantomPassage | .segmentFull | .routeMismatch | .mergeConflict
  | .reversePassageFault | .missingCabin | .duplicateCabin | .slotMismatch | .overdueAtSummit | .overdueAtValley
  | .doorNotLocked | .doorTimeout | .doorObstruction | .doorDriveFault | .linkLost | .positionDisagree | .tablesInvalid
  | .nodeAbsent | .powerOn | .timebaseDegraded => .serviceStop
  | .tachSingle | .ropeUnreferenced | .towerSensor | .towerScanOverdue | .spacingError | .headBlocked | .unknownCabin
  | .idUnread | .handoverGap => .holdLaunch
  | .tensionWarn | .gripReject | .summitStop => .run

/-- The minimum category of a cause (R158); for a fixed cause it is the default. -/
def Cause.minCategory : Cause → Category
  | .deropement | .stationOverflow | .estopLoop => .emergencyStop
  | .tachLost | .overspeed | .tensionLimit | .tensionLost | .attachMissing | .segmentFull | .mergeConflict
  | .reversePassageFault | .missingCabin | .overdueAtSummit | .overdueAtValley | .doorNotLocked | .linkLost
  | .tablesInvalid | .powerOn => .serviceStop
  | .tachDisagree | .tachImplausible | .ropeSlip | .ropeUnreferenced | .ropeRefDrift | .ropeOffset | .towerScanLost
  | .gateFault | .headBlocked | .slotOccupied | .phantomPassage | .routeMismatch | .duplicateCabin | .slotMismatch
  | .handoverGap | .doorTimeout | .doorObstruction | .doorDriveFault | .positionDisagree | .nodeAbsent
  | .timebaseDegraded => .holdLaunch
  | .tachSingle | .tensionWarn | .towerSensor | .towerScanOverdue | .gripReject | .spacingError | .unknownCabin
  | .idUnread | .summitStop => .run

/-- The causes marked "fixed" in the catalogue of R158. -/
def Cause.fixed : Cause → Bool
  | .ropeUnreferenced | .deropement | .stationOverflow | .tablesInvalid | .powerOn | .estopLoop => true
  | _ => false

/-- A node table entry of role NONE. -/
def NodeEntry.unused : NodeEntry := { role := .none, kinds := 0, dests := 0, critical := false }

/-- The default contents of the SAFETY group (R186). -/
def SafetyTables.default : SafetyTables where
  L := 2
  N := 2
  S := 1
  A := 0
  W := 1
  B := 0
  U := 1000
  Dn := 1000
  tolArr := 0
  gAtt := 1000
  eMax := 0
  pMark := 0
  rTol := 0
  caps := [1, 1, 1, 1, 1, 1, 1]
  gcap := 0
  ts := 5
  ka := 500
  kb := 500
  dMax := 1
  qLim := 1
  vMax := 1
  stopLo := 0
  warnLo := 1
  warnHi := 2
  stopHi := 3
  pTol := 0
  tLat := 0
  matrix := Cause.all.map Cause.defaultCategory
  nodes := List.replicate 32 NodeEntry.unused
  towers := List.replicate 24 none

/-- A door profile with every time 0 and max_reopen 0 (R186). -/
def DoorProfile.zero : DoorProfile :=
  { tOpenMax := 0, tCloseMax := 0, tDwell := 0, tSettle := 0, tRecover := 0, tReopenWait := 0, maxReopen := 0 }

/-- The grip class with bounds 0 and 65,535 (R186). -/
def GripClass.widest : GripClass := { fMin := 0, fMax := 65535 }

/-- The default contents of the OPERATIONS group (R186). -/
def OperationsTables.default : OperationsTables :=
  { profiles := List.replicate 4 DoorProfile.zero, classes := List.replicate 4 GripClass.widest }

/-- A registry entry of an invalid FLEET group: not in service, ID absent (R190). -/
def FleetStatic.blank : FleetStatic := { id := 0, profile := 0, gripClass := 0, inService := false }

end Sys2Proof.Machine
end

