-- ==== Sys2Proof/Machine/State.lean ====
section
/-!
DEFINITION. The state of the part, block by block, as plain data, and its value right after reset.

Every timer is an `Option Ms`: `none` is stopped, `some e` runs to expire at counter value `e`.
Every list of the manual's collections keeps the manual's order: the oldest, the head or the top comes first.
-/

namespace Sys2Proof.Machine

/-! ## Rope Position Unit (chapter 1, state held) -/

/-- The record a position update hands out (R9). -/
structure PositionRecord where
  p : Int
  k : Nat
  o : Int
  v : Int
  motion : Motion
  referenced : Bool
  time : Ms
  deriving DecidableEq, Repr

/-- RPU (chapter 1, state held). `prevA` and `prevB` are both `none` while the channels are unprimed. -/
structure Rpu where
  prevA : Option Nat
  prevB : Option Nat
  seqPrev : Option Nat
  odo : Int
  res : Int
  odoRef : Int
  referenced : Bool
  window : List Int
  q : Nat
  v : Int
  motion : Motion
  stillness : Option Ms
  tachLoss : Option Ms
  record : PositionRecord
  missed : Nat
  stale : Nat
  implausibleA : Nat
  implausibleB : Nat
  corrections : Nat
  deriving DecidableEq, Repr

/-! ## Launch Gate (chapter 2) -/

/-- The passage record of R22. `confirmed` and `forwardRef` are the model's own: whether the release made in this
passage was confirmed, and whether the last update of the passage had motion FORWARD and was REFERENCED (R35). -/
structure PassageRecord where
  slot : Option Nat
  phase : WindowPhase
  launchWindow : Bool
  releaseMade : Bool
  barred : Bool
  confirmed : Bool
  forwardRef : Bool
  deriving DecidableEq, Repr

/-- The phase of a pending release: QUEUED, or SENT with its report deadline (R25). -/
inductive ReleasePhase where
  | queued
  | sent (deadline : Ms)
  deriving DecidableEq, Repr

/-- The pending release of R25. `windowClosed` is the model's own: its window closed while it was SENT, so that a later
failure counts the empty slot (R35). -/
structure PendingRelease where
  slot : Nat
  cabin : Nat
  id : Nat
  tag : Nat
  phase : ReleasePhase
  windowClosed : Bool
  deriving DecidableEq, Repr

/-- The last-failed record of R30. -/
structure FailedRelease where
  tag : Nat
  slot : Nat
  cabin : Nat
  deriving DecidableEq, Repr

/-- An attach watch entry of R29. -/
structure WatchEntry where
  cabin : Nat
  slot : Nat
  oRelease : Int
  deriving DecidableEq, Repr

/-- LGT (R37). The counted head of R36 is held by its entry serial, which names a registered and an anonymous head alike. -/
structure Lgt where
  passage : PassageRecord
  pending : Option PendingRelease
  lastFailed : Option FailedRelease
  tagSeq : Nat
  failures : Nat
  watch : List WatchEntry
  blocked : Nat
  countedHead : Option Nat
  emptySlots : Nat
  unseenWindows : Nat
  lateReleases : Nat
  withdrawals : Nat
  unmatchedNacks : Nat
  deriving DecidableEq, Repr

/-! ## Cabin Tracker (chapters 3 and 4) -/

/-- A fleet registry entry: its static fields and its dynamic record (R61). -/
structure RegEntry where
  stat : FleetStatic
  location : Location
  door : DoorState
  verdict : GripVerdict
  force : Option Nat
  garageNext : Bool
  holdOpen : Bool
  overdue : Bool
  idAssumed : Bool
  attachErr : Option Int
  deriving DecidableEq, Repr

/-- Who stands in a station queue or garage entry: a registered cabin by its registry index, or an anonymous one with
its own copies of door state, grip verdict and last force (R62, R74). -/
inductive Who where
  | cabin (index : Nat)
  | anon (door : DoorState) (verdict : GripVerdict) (force : Option Nat)
  deriving DecidableEq, Repr

/-- A station queue entry (R62). -/
structure StationEntry where
  serial : Nat
  who : Who
  segment : Segment
  route : Route
  slotless : Bool
  deriving DecidableEq, Repr

/-- A garage stack entry (R74). -/
structure GarageEntry where
  serial : Nat
  who : Who
  deriving DecidableEq, Repr

/-- An uphill list entry (R40). -/
structure UphillEntry where
  cabin : Nat
  slot : Nat
  oRelease : Int
  attachErr : Option Int
  deriving DecidableEq, Repr

/-- A downhill list entry (R40). -/
structure DownhillEntry where
  cabin : Nat
  slot : Nat
  oReport : Int
  deriving DecidableEq, Repr

/-- The parts of a reconcile reply received so far (R53): the part count and reply sequence of the first part, the
indices received and the IDs collected. -/
structure ReplyParts where
  count : Nat
  seq : Nat
  indices : List Nat
  ids : List Nat
  deriving DecidableEq, Repr

/-- The reconcile of R53. -/
inductive Reconcile where
  | idle
  | querying (tag : Nat) (parts : Option ReplyParts)
  | retryWait (expiry : Ms)
  deriving DecidableEq, Repr

/-- An outstanding garage exit command (R75). -/
structure ExitCommand where
  tag : Nat
  serial : Nat
  deadline : Ms
  deriving DecidableEq, Repr

/-- CTR (R21, R40, R53, R62, R72, R74, R75, R86). `commanded = none` is UNKNOWN. `lastSwitchTag` is the tag of CTR's last
SWITCH_SET. `partsRepeated` and `idsIgnored` are the counts R55 and R56 speak of without a name. -/
structure Ctr where
  queue : List StationEntry
  garage : List GarageEntry
  uphill : List UphillEntry
  downhill : List DownhillEntry
  summit : List Nat
  unlocated : List Nat
  slots : List SlotState
  unread : Nat
  exitPending : Nat
  exitCommand : Option ExitCommand
  commanded : Option SwitchPosition
  lastSwitchTag : Option Nat
  tagSeq : Nat
  nextSerial : Nat
  reconcile : Reconcile
  reconcileFailures : Nat
  partsRepeated : Nat
  idsIgnored : Nat
  deriving DecidableEq, Repr

/-! ## Door Sequencer (chapter 5) -/

/-- The door record of a station queue entry, named by the entry's serial (R91). -/
structure DoorRecord where
  serial : Nat
  closeRequested : Bool
  dwell : Option Ms
  dwellDone : Bool
  reopenWait : Option Ms
  settle : Option Ms
  reopens : Nat
  reopened : Bool
  held : HeldReason
  holdOpen : Bool
  beyondReach : Bool
  lockMode : LockMode
  openDropped : Bool
  deriving DecidableEq, Repr

/-- A door command: the entry it acts on, its registry index if it has one, the cabin field of its frame (0 for an
anonymous entry, R93), and the action. -/
structure DoorCommand where
  serial : Nat
  cabin : Option Nat
  field : Nat
  action : DoorAction
  deriving DecidableEq, Repr

/-- The phases of a BUSY command (R92). -/
inductive CommandPhase where
  | queued
  | sent (deadline : Ms)
  | retryWait (expiry : Ms)
  deriving DecidableEq, Repr

/-- A BUSY command (R92). `before` is the door state held before its insertion and `acted` marks a close whose CLOSED or
OBSTRUCTED report has been taken (R103). -/
structure BusyCommand where
  cmd : DoorCommand
  tag : Nat
  phase : CommandPhase
  retries : Nat
  before : DoorState
  acted : Bool
  deriving DecidableEq, Repr

/-- The state of a door unit record (R92). -/
inductive UnitState where
  | idle
  | busy (b : BusyCommand)
  | recover (expiry : Ms)
  deriving DecidableEq, Repr

/-- A door unit record (R92). -/
structure DoorUnit where
  state : UnitState
  pending : Option DoorCommand
  timedOut : Option DoorCommand
  deriving DecidableEq, Repr

/-- DSQ (R112). -/
structure Dsq where
  openUnit : DoorUnit
  closeUnit : DoorUnit
  records : List DoorRecord
  mode : DoorMode
  tagSeq : Nat
  unexpected : Nat
  unmatched : Nat
  unmatchedNacks : Nat
  deriving DecidableEq, Repr

/-! ## Rope Monitor (chapter 6) -/

/-- The phase of a tower's scan record (R116). -/
inductive ScanPhase where
  | idle
  | tagWait
  | queued (inControl : Bool) (tag : Nat)
  | awaiting (tag : Nat) (deadline : Ms)
  deriving DecidableEq, Repr

/-- The latest statuses of a tower: one per train, with the source and the time of the reading that replaced them (R116). -/
structure TowerStatuses where
  trains : List TrainStatus
  source : StatusSource
  time : Ms
  deriving DecidableEq, Repr

/-- A tower's scan record (R116). -/
structure TowerRecord where
  phase : ScanPhase
  due : Bool
  dueTimer : Option Ms
  debt : Nat
  failures : Nat
  overdue : Bool
  lost : Bool
  statuses : Option TowerStatuses
  scansSent : Nat
  reports : Nat
  failed : Nat
  lateReports : Nat
  alarms : Nat
  deriving DecidableEq, Repr

/-- The last carriage position and the time of its sample (chapter 6, tension carriage). -/
structure CarriageSample where
  position : Nat
  time : Ms
  deriving DecidableEq, Repr

/-- RMN. `towers` has one record for each of the 24 table indices; `lastTag` is the last tag taken (R117). -/
structure Rmn where
  carriage : Option CarriageSample
  tensionLoss : Option Ms
  towers : List TowerRecord
  lastTag : Option Nat
  gripSamples : Nat
  gripRejects : Nat
  deriving DecidableEq, Repr

/-! ## Summit Link (chapter 7) -/

/-- A link frame received and held in a buffer (R129). -/
structure LinkFrame where
  cls : LinkClass
  kind : Nat
  tag : Nat
  payload : List Byte
  deriving DecidableEq, Repr

/-- An entry of the request table (R140); `deadline` is `none` while QUEUED. -/
structure RequestEntry where
  tag : Nat
  kind : RequestKind
  requester : Requester
  deadline : Option Ms
  deriving DecidableEq, Repr

/-- The stored summit SAFETY contents (R137). -/
structure SummitContents where
  category : Category
  servicePermit : Bool
  emergencyPermit : Bool
  p : Nat
  referenced : Bool
  motion : Motion
  lastHandover : Nat
  call : CallState
  emergencyOpen : Bool
  time : Ms
  deriving DecidableEq, Repr

/-- SLK (R144). `txSafety` is the SAFETY frame built and not yet taken; `sending` holds the bytes of the frame the
transmitter has taken, `none` while it is free. -/
structure Slk where
  link : LinkState
  acq : Nat
  silence : Option Ms
  lastSafety : Option Ms
  farAnswered : Bool
  farUnanswered : Bool
  rxAnswered : List LinkFrame
  rxUnanswered : List LinkFrame
  txSafety : Option LinkFrame
  txVoice : List LinkFrame
  txUnanswered : List LinkFrame
  txAnswered : List LinkFrame
  sending : Option (List Byte)
  nextSeq : Nat
  lastSeq : Option Nat
  requests : List RequestEntry
  lastTag : Option Nat
  handoverSeq : Nat
  handoverBase : Option Nat
  summit : Option SummitContents
  stale : Bool
  sendTimer : Option Ms
  badChecks : Nat
  frameGaps : Nat
  malformed : Nat
  overrunsAnswered : Nat
  overrunsUnanswered : Nat
  notUp : Nat
  linkLosses : Nat
  skippedCompares : Nat
  compareFailures : Nat
  requestTimeouts : Nat
  unknownTags : Nat
  droppedReplies : Nat
  droppedHandovers : Nat
  handoverGaps : Nat
  discardedHandovers : Nat
  deriving DecidableEq, Repr

/-! ## Intercom (chapter 8, state held) -/

/-- A jitter buffer entry: its voice sequence and the 40 bytes of its coded audio. -/
structure VoiceEntry where
  seq : Nat
  audio : List Byte
  deriving DecidableEq, Repr

/-- ICM (chapter 8, state held). -/
structure Icm where
  call : CallState
  emergencyOpen : Bool
  callTimer : Option Ms
  talkEntry : Ms
  buffer : List VoiceEntry
  phase : PlayoutPhase
  playout : Option Ms
  lastPlayed : Option Nat
  refused : Nat
  ignoredFrames : Nat
  droppedFrames : Nat
  droppedIndications : Nat
  outboundDropped : Nat
  late : Nat
  duplicate : Nat
  overflow : Nat
  lost : Nat
  underrun : Nat
  deriving DecidableEq, Repr

/-! ## Stop Chain (chapter 9) -/

/-- A cause record (R160). `present` is the condition as its owning block judges it. -/
structure CauseRecord where
  present : Bool
  state : CauseState
  category : Category
  lastTime : Ms
  lastKind : Option ChangeKind
  cabin : Option Nat
  raises : Nat
  deriving DecidableEq, Repr

/-- What a block reports of a cause (R160 to R162). -/
inductive CauseChange where
  | raised (cabin : Option Nat)
  | cleared
  | momentary (cabin : Option Nat)
  | mirror (category : Category)
  deriving DecidableEq, Repr

/-- One condition of a block's report to STC. -/
structure CauseReport where
  cause : Cause
  change : CauseChange
  deriving DecidableEq, Repr

/-- A rise entry of the first-out record (R165). -/
structure RiseEntry where
  category : Category
  cause : Cause
  time : Ms
  p : Int
  referenced : Bool
  cabin : Option Nat
  deriving DecidableEq, Repr

/-- A first-out record (R165). -/
structure FirstOut where
  entries : List RiseEntry
  overflow : Nat
  deriving DecidableEq, Repr

/-- STC. `gathered` is the model's own: the conditions one block reports at the event in progress, which STC takes as
one report (R160); it is empty between events. -/
structure Stc where
  records : List CauseRecord
  output : Category
  servicePermit : Bool
  emergencyPermit : Bool
  episode : FirstOut
  previous : FirstOut
  gathered : List CauseReport
  deriving DecidableEq, Repr

/-! ## Ring Port (chapter 10) -/

/-- A ring frame as its header fields give it (chapter 12, ring frame header). -/
structure RingFrame where
  kind : Nat
  source : Nat
  tag : Nat
  length : Nat
  mark : Bool
  mask : Word
  payload : List Word
  deriving DecidableEq, Repr

/-- An ingress queue entry: the frame and the source's role when it was copied (R177). -/
structure IngressEntry where
  frame : RingFrame
  role : Role
  deriving DecidableEq, Repr

/-- A frame offered to an egress class and not yet inserted (R180). `restartReply` marks the reply whose insertion
begins a RESTART (R192). -/
structure EgressFrame where
  kind : RingKind
  mask : Word
  tag : Nat
  payload : List Word
  restartReply : Bool
  deriving DecidableEq, Repr

/-- A slot as the master let it go on: an output of the part, kept so that it can be observed. -/
structure SlotOut where
  slot : Nat
  w0 : Word
  w1 : Word
  payload : List Word
  deriving DecidableEq, Repr

/-- RNG (R173, R175, R177, R178, R180, R183, R184). `purge` marks the slots that have still to pass in the purge
revolution; `ringOut` is the slot last let go on. -/
structure Rng where
  slotRecords : List (Option Word)
  purge : List Bool
  ingress : List IngressEntry
  hold : Bool
  control : List EgressFrame
  voice : List EgressFrame
  poll : List EgressFrame
  report : List EgressFrame
  misses : List Nat
  absent : List Bool
  provisional : Word
  reportDropped : Bool
  purged : Nat
  orphans : Nat
  filtered : List Nat
  overruns : Nat
  undeliverable : Nat
  voiceDrops : Nat
  holdChanges : Nat
  malformed : Nat
  ringOut : Option SlotOut
  deriving DecidableEq, Repr

/-! ## Table Store and Timebase (chapter 11) -/

/-- A station queue or garage entry of a park snapshot (R191); `index` is `none` for an anonymous entry. -/
structure ParkEntry where
  index : Option Nat
  segment : Segment
  route : Route
  slotless : Bool
  door : DoorState
  verdict : GripVerdict
  force : Option Nat
  deriving DecidableEq, Repr

/-- The park record (R191). -/
structure ParkRecord where
  queue : List ParkEntry
  garage : List ParkEntry
  uphill : List UphillEntry
  downhill : List DownhillEntry
  summit : List Nat
  slots : List SlotState
  odo : Int
  res : Int
  odoRef : Int
  referenced : Bool
  L : Nat
  S : Nat
  deriving DecidableEq, Repr

/-- The non-volatile store. `none` is a clear validity flag (R189). -/
structure Store where
  safety : Option SafetyTables
  operations : Option OperationsTables
  fleet : Option (List FleetStatic)
  protection : ProtectionMode
  park : Option ParkRecord
  deriving DecidableEq, Repr

/-- Where the reply to a request goes: its source address, its tag and its request kind (R185). -/
structure ReplyTo where
  source : Nat
  tag : Nat
  kind : Nat
  deriving DecidableEq, Repr

/-- What a store write in flight writes (R189). -/
inductive WriteKind where
  | commit (group : TableGroup)
  | fleet (index : Nat)
  | protection (mode : ProtectionMode)
  | park (snapshot : ParkRecord) (stale : Bool)
  | invalidation
  deriving DecidableEq, Repr

/-- A store write in flight, with the reply it owes (R185, R189). -/
structure StoreWrite where
  kind : WriteKind
  reply : Option ReplyTo
  deriving DecidableEq, Repr

/-- An event report queue entry (R193). -/
structure EventEntry where
  seq : Nat
  kind : EventKind
  cause : Option Cause
  cabin : Option Nat
  data : List Int
  p : Int
  referenced : Bool
  time : Ms
  deriving DecidableEq, Repr

/-- TST. `safety` and `operations` are the groups in force, `none` while invalid; the FLEET group in force is the static
part of the registry. `restart` is the deadline of an accepted RESTART. `changeCounts` has one count for each
collection of READ_COLLECTION. -/
structure Tst where
  safety : Option SafetyTables
  operations : Option OperationsTables
  fleetValid : Bool
  stageSafety : SafetyTables
  safetyChanged : Bool
  stageOperations : OperationsTables
  operationsChanged : Bool
  lockedToPowerCycle : Bool
  write : Option StoreWrite
  invalidationQueued : Bool
  restart : Option Ms
  events : List EventEntry
  eventSeq : Nat
  eventDropped : Bool
  eventsDropped : Nat
  malformedRequests : Nat
  changeCounts : List Nat
  deriving DecidableEq, Repr

/-- TMB (R194, R195). `lastWindow` is the count of the last window. -/
structure Tmb where
  counter : Ms
  selection : Oscillator
  lastWindow : Option Nat
  switches : Nat
  deriving DecidableEq, Repr

/-- The input levels: the key as last sampled, the emergency-stop loop, and whether the part is held in reset or without
supply (R172). -/
structure Pins where
  key : KeyPosition
  loop : LoopLevel
  held : Bool
  deriving DecidableEq, Repr

/-- The state of the part. `pending` is the queue of the commands that wait, first in first out. `free` is the model's
own: the counter from which the step draws fresh free values (Config). -/
structure State where
  pending : List Instr
  pins : Pins
  registry : List RegEntry
  rpu : Rpu
  lgt : Lgt
  ctr : Ctr
  dsq : Dsq
  rmn : Rmn
  slk : Slk
  icm : Icm
  stc : Stc
  rng : Rng
  tst : Tst
  tmb : Tmb
  store : Store
  free : Nat
  deriving DecidableEq, Repr

/-- The reasons for which the part itself would stop: there are none. Every condition the manual names is a cause of
the stop chain, which is state. -/
inductive Fault where
  deriving DecidableEq, Repr

/-- The reasons for which the model gives a command no meaning. -/
inductive Refusal where
  /-- Raised by an arm of `exec` for a command whose meaning is not written (safe: nothing is claimed of it). No arm
  raises it: every command has its meaning. -/
  | notModelled (mnemonic : String)
  deriving DecidableEq, Repr

/-! ## The blocks after reset -/

/-- RPU's record before any position update (R8, R18). -/
def PositionRecord.initial : PositionRecord :=
  { p := 0, k := 0, o := 0, v := 0, motion := .unknown, referenced := false, time := 0 }

/-- RPU after power-on reset and RESTART (R18). -/
def Rpu.initial : Rpu where
  prevA := none
  prevB := none
  seqPrev := none
  odo := 0
  res := 0
  odoRef := 0
  referenced := false
  window := []
  q := 0
  v := 0
  motion := .unknown
  stillness := none
  tachLoss := none
  record := PositionRecord.initial
  missed := 0
  stale := 0
  implausibleA := 0
  implausibleB := 0
  corrections := 0

/-- The passage record with no slot index recorded (R37). -/
def PassageRecord.initial : PassageRecord where
  slot := none
  phase := .before
  launchWindow := false
  releaseMade := false
  barred := false
  confirmed := false
  forwardRef := false

/-- LGT after power-on reset and RESTART (R37). -/
def Lgt.initial : Lgt where
  passage := PassageRecord.initial
  pending := none
  lastFailed := none
  tagSeq := 0
  failures := 0
  watch := []
  blocked := 0
  countedHead := none
  emptySlots := 0
  unseenWindows := 0
  lateReleases := 0
  withdrawals := 0
  unmatchedNacks := 0

/-- A registry entry after a reset without a park record (R58, R86). -/
def RegEntry.initial (f : FleetStatic) : RegEntry where
  stat := f
  location := if f.inService then .unlocated else .outOfService
  door := .unknown
  verdict := .untested
  force := none
  garageNext := false
  holdOpen := false
  overdue := false
  idAssumed := false
  attachErr := none

/-- CTR after power-on reset and RESTART without a park record, for a given slot table and unlocated set
(R37, R58, R86; log entry 46 for the last SWITCH_SET and the unnamed counts). -/
def Ctr.initial (slots : List SlotState) (unlocated : List Nat) : Ctr where
  queue := []
  garage := []
  uphill := []
  downhill := []
  summit := []
  unlocated := unlocated
  slots := slots
  unread := 0
  exitPending := 0
  exitCommand := none
  commanded := none
  lastSwitchTag := none
  tagSeq := 0
  nextSerial := 0
  reconcile := .idle
  reconcileFailures := 0
  partsRepeated := 0
  idsIgnored := 0

/-- A door unit record after reset (R112). -/
def DoorUnit.initial : DoorUnit := { state := .idle, pending := none, timedOut := none }

/-- DSQ after power-on reset and RESTART (R112). -/
def Dsq.initial : Dsq where
  openUnit := DoorUnit.initial
  closeUnit := DoorUnit.initial
  records := []
  mode := .normal
  tagSeq := 0
  unexpected := 0
  unmatched := 0
  unmatchedNacks := 0

/-- A tower record after reset (R125). -/
def TowerRecord.initial : TowerRecord where
  phase := .idle
  due := false
  dueTimer := none
  debt := 0
  failures := 0
  overdue := false
  lost := false
  statuses := none
  scansSent := 0
  reports := 0
  failed := 0
  lateReports := 0
  alarms := 0

/-- RMN after power-on reset and RESTART, before the first scans are queued (R115, R125, R127). -/
def Rmn.initial : Rmn where
  carriage := none
  tensionLoss := none
  towers := List.replicate 24 TowerRecord.initial
  lastTag := none
  gripSamples := 0
  gripRejects := 0

/-- SLK after power-on reset and RESTART (R144; log entry 46 for the transmitter). -/
def Slk.initial : Slk where
  link := .down
  acq := 0
  silence := none
  lastSafety := none
  farAnswered := false
  farUnanswered := false
  rxAnswered := []
  rxUnanswered := []
  txSafety := none
  txVoice := []
  txUnanswered := []
  txAnswered := []
  sending := none
  nextSeq := 0
  lastSeq := none
  requests := []
  lastTag := none
  handoverSeq := 0
  handoverBase := none
  summit := none
  stale := true
  sendTimer := some 50
  badChecks := 0
  frameGaps := 0
  malformed := 0
  overrunsAnswered := 0
  overrunsUnanswered := 0
  notUp := 0
  linkLosses := 0
  skippedCompares := 0
  compareFailures := 0
  requestTimeouts := 0
  unknownTags := 0
  droppedReplies := 0
  droppedHandovers := 0
  handoverGaps := 0
  discardedHandovers := 0

/-- ICM after power-on reset and RESTART (R157; log entry 46 for the TALK entry time). -/
def Icm.initial : Icm where
  call := .idle
  emergencyOpen := false
  callTimer := none
  talkEntry := 0
  buffer := []
  phase := .filling
  playout := none
  lastPlayed := none
  refused := 0
  ignoredFrames := 0
  droppedFrames := 0
  droppedIndications := 0
  outboundDropped := 0
  late := 0
  duplicate := 0
  overflow := 0
  lost := 0
  underrun := 0

/-- A cause record after reset: INACTIVE in the category given (R172; log entry 46 for its last change). -/
def CauseRecord.initial (category : Category) : CauseRecord where
  present := false
  state := .inactive
  category := category
  lastTime := 0
  lastKind := none
  cabin := none
  raises := 0

/-- A first-out record with no entry. -/
def FirstOut.empty : FirstOut := { entries := [], overflow := 0 }

/-- STC at the end of a reset, before the reset report (R172). -/
def Stc.initial (records : List CauseRecord) : Stc where
  records := records
  output := .run
  servicePermit := true
  emergencyPermit := true
  episode := FirstOut.empty
  previous := FirstOut.empty
  gathered := []

/-- RNG after power-on reset and RESTART, before the purge revolution (R173, R184). -/
def Rng.initial : Rng where
  slotRecords := List.replicate 8 none
  purge := List.replicate 8 true
  ingress := []
  hold := false
  control := []
  voice := []
  poll := []
  report := []
  misses := List.replicate 32 0
  absent := List.replicate 32 false
  provisional := 0
  reportDropped := false
  purged := 0
  orphans := 0
  filtered := List.replicate 6 0
  overruns := 0
  undeliverable := 0
  voiceDrops := 0
  holdChanges := 0
  malformed := 0
  ringOut := none

/-- TST after power-on reset and RESTART with the groups loaded (R186, R187, R189, R193). -/
def Tst.initial (safety : Option SafetyTables) (operations : Option OperationsTables) (fleetValid locked : Bool) :
    Tst where
  safety := safety
  operations := operations
  fleetValid := fleetValid
  stageSafety := safety.getD SafetyTables.default
  safetyChanged := false
  stageOperations := operations.getD OperationsTables.default
  operationsChanged := false
  lockedToPowerCycle := locked
  write := none
  invalidationQueued := false
  restart := none
  events := []
  eventSeq := 0
  eventDropped := false
  eventsDropped := 0
  malformedRequests := 0
  changeCounts := List.replicate 9 0

/-- TMB after power-on reset and RESTART (R195). -/
def Tmb.initial : Tmb := { counter := 0, selection := .reference, lastWindow := none, switches := 0 }

/-- A store that nothing has been written to (log entry 3): every flag clear, the stored mode UNLOCKED. -/
def Store.blank : Store :=
  { safety := none, operations := none, fleet := none, protection := .unlocked, park := none }

/-- The cause records right after a reset with the groups invalid, UNREFERENCED and the loop closed: POWER_ON stands
LATCHED, ROPE_UNREFERENCED and TABLES_INVALID ACTIVE (R170, R172). -/
def CauseRecord.afterBlankReset (c : Cause) : CauseRecord :=
  match c with
  | .powerOn => { CauseRecord.initial c.defaultCategory with state := .latched, lastKind := some .momentary, raises := 1 }
  | .ropeUnreferenced | .tablesInvalid =>
    { CauseRecord.initial c.defaultCategory with
      present := true, state := .active, lastKind := some .raised, raises := 1 }
  | _ => CauseRecord.initial c.defaultCategory

/-- STC right after a reset with the groups invalid and the loop closed: SERVICE_STOP, with an episode whose first entry
names TABLES_INVALID (R172). -/
def Stc.afterBlankReset : Stc where
  records := Cause.all.map CauseRecord.afterBlankReset
  output := .serviceStop
  servicePermit := false
  emergencyPermit := true
  episode :=
    { entries :=
        [{ category := .serviceStop, cause := .tablesInvalid, time := 0, p := 0, referenced := false, cabin := none }]
      overflow := 0 }
  previous := FirstOut.empty
  gathered := []

/-- The machine right after a power-on reset of a part whose store nothing has written (R192; log entries 3 and 4): every
group invalid, no park record, the loop closed, the key at RUN. The reset queued four event reports (three CAUSE_STATE,
one OUTPUT_CATEGORY), which found no MANAGER address and were lost, so the report-dropped flag is set (R183, R193). -/
def State.reset : State where
  pending := []
  pins := { key := .run, loop := .loopClosed, held := false }
  registry := List.replicate 128 (RegEntry.initial FleetStatic.blank)
  rpu := Rpu.initial
  lgt := Lgt.initial
  ctr := Ctr.initial [] []
  dsq := Dsq.initial
  rmn := Rmn.initial
  slk := Slk.initial
  icm := Icm.initial
  stc := Stc.afterBlankReset
  rng := { Rng.initial with reportDropped := true }
  tst := { Tst.initial none none false false with eventSeq := 4 }
  tmb := Tmb.initial
  store := Store.blank
  free := 0

end Sys2Proof.Machine
end

