-- ==== Sys2Proof/Machine/Operands.lean ====
section
/-!
DEFINITION. The forms of the commands' operands: the layouts of chapter 12 for ring frames, management words and link
frames, read and written.
-/

namespace Sys2Proof.Machine

/-! ## Words and bits -/

/-- The field of `width` bits whose lowest bit is bit `lo`. -/
def field (w : Word) (lo width : Nat) : Nat := w.toNat / 2 ^ lo % 2 ^ width

/-- Bit `n` of a word. -/
def bitOf (w : Word) (n : Nat) : Bool := field w n 1 = 1

/-- A value placed at bit `lo` of a word. -/
def place (v lo : Nat) : Word := BitVec.ofNat 32 (v * 2 ^ lo)

/-- A Bool as the bit it is written as. -/
def bit (b : Bool) : Nat := if b then 1 else 0

/-- The mask that names one address. -/
def addressBit (a : Nat) : Word := place 1 a

/-- The word of a signed value, in two's complement. -/
def signedWord (i : Int) : Word := BitVec.ofInt 32 i

/-- Naturals as the integers of a report's data. -/
def ints (xs : List Nat) : List Int := xs.map fun n => (n : Int)

/-! ## Codes -/

/-- Category codes: RUN or REPORT_ONLY 0, HOLD_LAUNCH 1, SERVICE_STOP 2, EMERGENCY_STOP 3 (chapter 12). -/
def Category.code : Category → Nat
  | .run => 0
  | .holdLaunch => 1
  | .serviceStop => 2
  | .emergencyStop => 3

/-- The category of a code. -/
def Category.ofCode : Nat → Option Category
  | 0 => some .run
  | 1 => some .holdLaunch
  | 2 => some .serviceStop
  | 3 => some .emergencyStop
  | _ => none

/-- Whether a category lies at or above another (chapter 9, the scale of categories). -/
def Category.atLeast (a b : Category) : Bool := b.code ≤ a.code

/-- The higher of two categories. -/
def Category.max (a b : Category) : Category := if a.atLeast b then a else b

/-- Ring frame kind codes (chapter 12, ring payloads). -/
def RingKind.code : RingKind → Nat
  | .tachSample => 1
  | .refMark => 2
  | .arrival => 3
  | .passage => 4
  | .gripSample => 5
  | .switchPassage => 6
  | .garageExit => 7
  | .gateReport => 8
  | .attach => 9
  | .doorReport => 10
  | .tensionSample => 11
  | .scanReport => 12
  | .towerAlarm => 13
  | .voice => 14
  | .callKey => 15
  | .mgmtRequest => 16
  | .nack => 17
  | .doorOpen => 18
  | .doorClose => 19
  | .doorLock => 20
  | .gateRelease => 21
  | .switchSet => 22
  | .garageExitCommand => 23
  | .scanRequest => 24
  | .callIndication => 25
  | .mgmtReply => 26
  | .event => 27

/-- The kinds in the order of their codes. -/
def RingKind.all : List RingKind :=
  [.tachSample, .refMark, .arrival, .passage, .gripSample, .switchPassage, .garageExit, .gateReport, .attach,
   .doorReport, .tensionSample, .scanReport, .towerAlarm, .voice, .callKey, .mgmtRequest, .nack, .doorOpen, .doorClose,
   .doorLock, .gateRelease, .switchSet, .garageExitCommand, .scanRequest, .callIndication, .mgmtReply, .event]

/-- The kind of a code; code 0 marks a free slot and names none. -/
def RingKind.ofCode (c : Nat) : Option RingKind := if c = 0 then none else RingKind.all[c - 1]?

/-- Whether a length, in payload words, agrees with a kind (R196; the Words column of chapter 12, ring payloads). -/
def RingKind.lengthAgrees : RingKind → Nat → Bool
  | .tachSample, n => n = 2
  | .refMark, n | .garageExitCommand, n => n = 0
  | .voice, n => n = 11
  | .mgmtRequest, n | .mgmtReply, n => 1 ≤ n && n ≤ 12
  | .event, n => 4 ≤ n && n ≤ 12
  | _, n => n = 1

/-- Role codes (chapter 12): NONE 0 to HANDSET 17. -/
def Role.code : Role → Nat
  | .none => 0
  | .manager => 1
  | .arrivalReader => 2
  | .detector2 => 3
  | .detector3 => 4
  | .detector4 => 5
  | .gripGauge => 6
  | .switch => 7
  | .gate => 8
  | .attach => 9
  | .garageDrive => 10
  | .doorOpenUnit => 11
  | .doorCloseUnit => 12
  | .tach => 13
  | .tension => 14
  | .towerConcentrator => 15
  | .refMark => 16
  | .handset => 17

/-- The roles in the order of their codes. -/
def Role.all : List Role :=
  [.none, .manager, .arrivalReader, .detector2, .detector3, .detector4, .gripGauge, .switch, .gate, .attach,
   .garageDrive, .doorOpenUnit, .doorCloseUnit, .tach, .tension, .towerConcentrator, .refMark, .handset]

/-- The role of a code. -/
def Role.ofCode (c : Nat) : Option Role := Role.all[c]?

/-- Door state codes, in the order of the door state table: LOCKED 0 to UNKNOWN 8 (chapter 12, registry entry). -/
def DoorState.code : DoorState → Nat
  | .locked => 0
  | .opening => 1
  | .opened => 2
  | .closing => 3
  | .reopening => 4
  | .closed => 5
  | .locking => 6
  | .fault => 7
  | .unknown => 8

/-- Grip verdict codes (chapter 12, registry entry). -/
def GripVerdict.code : GripVerdict → Nat
  | .untested => 0
  | .pass => 1
  | .reject => 2

/-- Location codes (chapter 12, registry entry). -/
def Location.code : Location → Nat
  | .station => 0
  | .garage => 1
  | .uphill => 2
  | .summit => 3
  | .downhill => 4
  | .unlocated => 5
  | .outOfService => 6

/-- The number of a segment, 1..7. -/
def Segment.num : Segment → Nat
  | .s1 => 1
  | .s2 => 2
  | .s3 => 3
  | .s4 => 4
  | .s5 => 5
  | .s6 => 6
  | .s7 => 7

/-- The segments in conveyor order. -/
def Segment.all : List Segment := [.s1, .s2, .s3, .s4, .s5, .s6, .s7]

/-- Motion codes (chapter 12, SAFETY payload). -/
def Motion.code : Motion → Nat
  | .forward => 0
  | .reverse => 1
  | .stopped => 2
  | .unknown => 3

/-- The motion of a two-bit code. -/
def Motion.ofCode : Nat → Motion
  | 0 => .forward
  | 1 => .reverse
  | 2 => .stopped
  | _ => .unknown

/-- Call state codes (chapter 12, CALL_INDICATION and SAFETY payloads). -/
def CallState.code : CallState → Nat
  | .idle => 0
  | .calling => 1
  | .ringing => 2
  | .talk => 3

/-- The call state of a two-bit code. -/
def CallState.ofCode : Nat → CallState
  | 0 => .idle
  | 1 => .calling
  | 2 => .ringing
  | _ => .talk

/-- CALL payload codes (chapter 12). -/
def CallFrame.code : CallFrame → Nat
  | .setup => 1
  | .accept => 2
  | .clear => 3

/-- The CALL frame of a code. -/
def CallFrame.ofCode : Nat → Option CallFrame
  | 1 => some .setup
  | 2 => some .accept
  | 3 => some .clear
  | _ => none

/-- HANDOVER kind codes (chapter 12). -/
def HandoverKind.code : HandoverKind → Nat
  | .summitArrival => 1
  | .summitLaunch => 2
  | .valleyLaunch => 3
  | .valleyArrival => 4

/-- The handover kind of a code. -/
def HandoverKind.ofCode : Nat → Option HandoverKind
  | 1 => some .summitArrival
  | 2 => some .summitLaunch
  | 3 => some .valleyLaunch
  | 4 => some .valleyArrival
  | _ => none

/-- ANSWERED kind codes (chapter 12, link frames). -/
def RequestKind.code : RequestKind → Nat
  | .summitSetQuery => 1
  | .valleySetQuery => 2
  | .locate => 3

/-- Link class codes (chapter 12, link frames). -/
def LinkClass.code : LinkClass → Nat
  | .safety => 0
  | .answered => 1
  | .unanswered => 2
  | .voice => 3

/-- The link class of a two-bit code. -/
def LinkClass.ofCode : Nat → LinkClass
  | 0 => .safety
  | 1 => .answered
  | 2 => .unanswered
  | _ => .voice

/-- DOOR_REPORT result codes (chapter 12, code 10); 6 and 7 are outside the list. -/
def DoorResult.ofCode : Nat → Option DoorResult
  | 0 => some .opened
  | 1 => some .closed
  | 2 => some .locked
  | 3 => some .obstructed
  | 4 => some .reopened
  | 5 => some .fault
  | _ => none

/-- The code of a DOOR_REPORT result. -/
def DoorResult.code : DoorResult → Nat
  | .opened => 0
  | .closed => 1
  | .locked => 2
  | .obstructed => 3
  | .reopened => 4
  | .fault => 5

/-- The train status of a two-bit code (chapter 12, codes 12 and 13). -/
def TrainStatus.ofCode : Nat → TrainStatus
  | 0 => .inGroove
  | 1 => .offset
  | 2 => .deroped
  | _ => .sensorFault

/-- The code of a train status. -/
def TrainStatus.code : TrainStatus → Nat
  | .inGroove => 0
  | .offset => 1
  | .deroped => 2
  | .sensorFault => 3

/-- Slot states as numbers for reports: EMPTY 0, RELEASE_PENDING 1, RELEASING 2, UP 3, DOWN 4. -/
def SlotState.tag : SlotState → Nat
  | .empty => 0
  | .releasePending _ => 1
  | .releasing _ => 2
  | .up _ => 3
  | .down _ => 4

/-- The cabin a slot state names. -/
def SlotState.cabin : SlotState → Option Nat
  | .empty => none
  | .releasePending c | .releasing c | .up c | .down c => some c

/-- Route as a number for reports: UNDECIDED 0, LINE 1, GARAGE 2. -/
def Route.tag : Route → Nat
  | .undecided => 0
  | .line => 1
  | .garage => 2

/-- The switch position bit: LINE 0, GARAGE 1 (chapter 12, codes 6 and 22). -/
def SwitchPosition.code : SwitchPosition → Nat
  | .line => 0
  | .garage => 1

/-- The position a route asks of the switch; UNDECIDED asks none. -/
def Route.position : Route → Option SwitchPosition
  | .undecided => none
  | .line => some .line
  | .garage => some .garage

/-- The status code of a MGMT_REPLY (chapter 12, management frames). -/
def Status.code : Status → Nat
  | .ok => 0
  | .refusedKey => 1
  | .refusedMotion => 2
  | .refusedLocked => 3
  | .busy => 4
  | .badEntry => 5
  | .inconsistent _ => 6
  | .clamped => 7
  | .notAllowed => 8

/-- The number of a filter reason in the filter counters. -/
def FilterReason.num : FilterReason → Nat
  | .sourceZero => 0
  | .roleKind => 1
  | .emptyMask => 2
  | .destination => 3
  | .format => 4
  | .badMark => 5

/-- The number of a collection in the change counts. -/
def Collection.num : Collection → Nat
  | .slotTable => 0
  | .uphillList => 1
  | .downhillList => 2
  | .summitSet => 3
  | .unlocatedSet => 4
  | .stationQueue => 5
  | .garageStack => 6
  | .towerTable => 7
  | .causeTable => 8

/-- The collections in the order of their numbers. -/
def Collection.all : List Collection :=
  [.slotTable, .uphillList, .downhillList, .summitSet, .unlocatedSet, .stationQueue, .garageStack, .towerTable,
   .causeTable]

/-! ## Ring frames (chapter 12, ring frame header) -/

/-- Whether word 0 marks a full slot: its kind code is not 0. -/
def slotFull (w0 : Word) : Bool := field w0 24 8 ≠ 0

/-- The frame a full slot carries. Its payload is as many words as the length field says. -/
def frameOfWords (w0 w1 : Word) (payload : List Word) : RingFrame :=
  let n := field w0 12 4
  { kind := field w0 24 8
    source := field w0 19 5
    tag := field w0 16 3
    length := n
    mark := bitOf w0 11
    mask := w1
    payload := (List.range n).map fun i => payload.getD i 0 }

/-- Word 0 of a slot: kind code, source, tag, length, revolution mark and hold-inject indicator. -/
def headerWord (kind source tag length : Nat) (mark hold : Bool) : Word :=
  place kind 24 ||| place source 19 ||| place (tag % 8) 16 ||| place length 12 ||| place (bit mark) 11 |||
    place (bit hold) 10

/-- Payload word `i` of a frame. -/
def RingFrame.word (f : RingFrame) (i : Nat) : Word := f.payload.getD i 0

/-- Bit 31 of the first payload word: 0 forward, 1 backward. -/
def RingFrame.backward (f : RingFrame) : Bool := bitOf (f.word 0) 31

/-- The cabin ID in bits 11..0 of the first payload word; 0 is absent. -/
def RingFrame.cabinId (f : RingFrame) : Nat := field (f.word 0) 0 12

/-- The refused kind code of a NACK (code 17). -/
def RingFrame.refusedKind (f : RingFrame) : Nat := field (f.word 0) 8 8

/-- The reason of a NACK: 1 BUSY, 2 UNSUPPORTED. -/
def RingFrame.nackReason (f : RingFrame) : Nat := field (f.word 0) 0 2

/-- The tower number of a SCAN_REPORT or TOWER_ALARM. -/
def RingFrame.towerNumber (f : RingFrame) : Nat := field (f.word 0) 24 8

/-- The status count of a SCAN_REPORT or TOWER_ALARM. -/
def RingFrame.statusCount (f : RingFrame) : Nat := field (f.word 0) 16 3

/-- The status list of a SCAN_REPORT or TOWER_ALARM: two bits per train, train 1 in bits 1..0. -/
def RingFrame.statuses (f : RingFrame) : List TrainStatus :=
  (List.range f.statusCount).map fun i => TrainStatus.ofCode (field (f.word 0) (2 * i) 2)

/-- The four bytes of a word, most significant first. -/
def bytesOfWord (w : Word) : List Byte :=
  [BitVec.ofNat 8 (field w 24 8), BitVec.ofNat 8 (field w 16 8), BitVec.ofNat 8 (field w 8 8), BitVec.ofNat 8 (field w 0 8)]

/-- The 40 bytes of coded audio of a VOICE frame: words 1 to 10, each most significant byte first. -/
def RingFrame.audio (f : RingFrame) : List Byte := (f.payload.drop 1).flatMap bytesOfWord

/-- Four bytes as a word, most significant first. -/
def wordOfBytes (a b c d : Byte) : Word := place a.toNat 24 ||| place b.toNat 16 ||| place c.toNat 8 ||| place d.toNat 0

/-- Bytes as words, most significant byte first; bytes beyond a multiple of four are not there in a 40-byte audio. -/
def wordsOfBytes : List Byte → List Word
  | a :: b :: c :: d :: rest => wordOfBytes a b c d :: wordsOfBytes rest
  | _ => []

/-! ## Management words (chapter 12, management frames) -/

/-- The request kind of a MGMT_REQUEST: bits 31..24 of its word 0. -/
def RingFrame.requestKind (f : RingFrame) : Nat := field (f.word 0) 24 8

/-- The number of words a request kind has (the Words column of the management table); `none` is an unknown kind. A
STAGE_ENTRY of the tension bands has 4 words. -/
def requestWords (f : RingFrame) : Option Nat :=
  match f.requestKind with
  | 1 | 9 | 18 | 19 | 20 | 21 | 22 | 23 => some 1
  | 2 | 3 | 5 | 6 | 8 | 10 | 11 | 12 | 13 | 14 | 15 | 16 | 17 => some 2
  | 4 => some (if field (f.word 1) 24 8 = 0 && field (f.word 1) 0 16 = 27 then 4 else 3)
  | 7 => some 3
  | _ => none

/-- The target word of a request: an anonymous entry's serial, or a cabin ID. -/
inductive Target where
  | serial (n : Nat)
  | id (n : Nat)
  deriving DecidableEq, Repr

/-- The target a target word names. -/
def targetOf (w : Word) : Target := if bitOf w 31 then .serial (field w 0 16) else .id (field w 0 12)

/-- The static word of a registry entry. -/
def staticWord (f : FleetStatic) : Word :=
  place (bit f.inService) 31 ||| place f.gripClass 16 ||| place f.profile 12 ||| place f.id 0

/-- The static fields of a static word. -/
def staticOfWord (w : Word) : FleetStatic :=
  { id := field w 0 12, profile := field w 12 2, gripClass := field w 16 2, inService := bitOf w 31 }

/-- Words 1 to 3 of a registry entry: its dynamic record. -/
def dynamicWords (r : RegEntry) : List Word :=
  [place r.location.code 0 ||| place r.door.code 4 ||| place r.verdict.code 8 ||| place (bit r.idAssumed) 12 |||
     place (bit r.overdue) 13 ||| place (bit r.holdOpen) 14 ||| place (bit r.garageNext) 15 |||
     place (bit r.force.isSome) 16 ||| place (bit r.attachErr.isSome) 17,
   place (r.force.getD 0) 0,
   signedWord (r.attachErr.getD 0)]

/-- Word 0 of a MGMT_REPLY. -/
def replyWord (kind : Nat) (status : Status) : Word :=
  place kind 24 ||| place status.code 16 ||| place (match status with | .inconsistent c => c | _ => 0) 8

/-- The group of a group code. -/
def TableGroup.ofCode : Nat → Option TableGroup
  | 0 => some .safety
  | 1 => some .operations
  | 2 => some .fleet
  | _ => none

/-- The word of a tower entry (entries 192..215); an absent entry is the word 0 (log entry 17). -/
def towerWord : Option TowerEntry → Word
  | none => 0
  | some t => place t.node 24 ||| place t.number 16 ||| place t.trains 13 ||| place t.interval 0

/-! ## Link frames (chapter 12, link frames) -/

/-- One bit of the cyclic check, generator x^16 + x^12 + x^5 + 1, most significant bit first. -/
def crcShift (c : BitVec 16) : BitVec 16 :=
  if c.toNat < 32768 then c <<< 1 else (c <<< 1) ^^^ 0x1021#16

/-- One byte into the check. -/
def crcByte (c : BitVec 16) (b : Byte) : BitVec 16 :=
  (List.range 8).foldl (fun x _ => crcShift x) (c ^^^ (BitVec.ofNat 16 (b.toNat * 256)))

/-- The check over a list of bytes, initial value 65,535, no reflection and no final inversion. -/
def crc (bytes : List Byte) : BitVec 16 := bytes.foldl crcByte 0xFFFF#16

/-- A 16-bit value as two bytes, most significant first. -/
def twoBytes (n : Nat) : List Byte := [BitVec.ofNat 8 (n / 256), BitVec.ofNat 8 n]

/-- Byte `i` of a list as a number. -/
def byteAt (bytes : List Byte) (i : Nat) : Nat := (bytes.getD i 0).toNat

/-- The 16-bit value at byte `i`, most significant byte first. -/
def halfAt (bytes : List Byte) (i : Nat) : Nat := byteAt bytes i * 256 + byteAt bytes (i + 1)

/-- Whether bytes form a whole frame whose check is good: header, as many payload bytes as byte 3 says, and the check
over them (R128). -/
def checkGood (bytes : List Byte) : Bool :=
  bytes.length = 4 + byteAt bytes 3 + 2 &&
    (crc (bytes.take (bytes.length - 2))).toNat = halfAt bytes (bytes.length - 2)

/-- The class of a frame: bits 7..6 of byte 0. -/
def linkClassOf (bytes : List Byte) : LinkClass := LinkClass.ofCode (byteAt bytes 0 / 64)

/-- The frame the receive side keeps: class, kind, tag and payload. -/
def linkFrameOf (bytes : List Byte) : LinkFrame :=
  { cls := linkClassOf bytes
    kind := byteAt bytes 0 % 64
    tag := byteAt bytes 2 % 8
    payload := (bytes.drop 4).take (byteAt bytes 3) }

/-- The frame sequence of a frame. -/
def linkSeqOf (bytes : List Byte) : Nat := byteAt bytes 1

/-- The ANSWERED busy bit of a frame. -/
def answeredBusyOf (bytes : List Byte) : Bool := byteAt bytes 2 / 128 % 2 = 1

/-- The UNANSWERED busy bit of a frame. -/
def unansweredBusyOf (bytes : List Byte) : Bool := byteAt bytes 2 / 64 % 2 = 1

/-- The bytes of an outgoing frame: header, payload and check. -/
def linkBytes (f : LinkFrame) (seq : Nat) (answeredBusy unansweredBusy : Bool) : List Byte :=
  let body :=
    [BitVec.ofNat 8 (f.cls.code * 64 + f.kind), BitVec.ofNat 8 seq,
     BitVec.ofNat 8 (bit answeredBusy * 128 + bit unansweredBusy * 64 + f.tag), BitVec.ofNat 8 f.payload.length]
      ++ f.payload
  body ++ twoBytes (crc body).toNat

/-- The kind of a frame in its class (chapter 12): SAFETY 1; SUMMIT_SET_QUERY 1, VALLEY_SET_QUERY 2, LOCATE 3; REPLY 1,
HANDOVER 2, CALL 3; VOICE 1. -/
inductive LinkKind where
  | safety
  | request (kind : RequestKind)
  | reply
  | handover
  | call
  | voice
  deriving DecidableEq, Repr

/-- The kind a class and a kind code name together; `none` where they do not belong together (R128). -/
def linkKindOf (f : LinkFrame) : Option LinkKind :=
  match f.cls, f.kind with
  | .safety, 1 => some .safety
  | .answered, 1 => some (.request .summitSetQuery)
  | .answered, 2 => some (.request .valleySetQuery)
  | .answered, 3 => some (.request .locate)
  | .unanswered, 1 => some .reply
  | .unanswered, 2 => some .handover
  | .unanswered, 3 => some .call
  | .voice, 1 => some .voice
  | _, _ => none

/-- Whether a frame is malformed by R197 as it arrives: its payload length differs from what its class and kind require,
or a coded field holds a value outside its list. A REPLY is judged later, against the request its tag names. -/
def malformedOnArrival (f : LinkFrame) : Bool :=
  match linkKindOf f with
  | none => true
  | some .safety => f.payload.length ≠ 8 || (Category.ofCode (byteAt f.payload 0)).isNone
  | some (.request .locate) => f.payload.length ≠ 2
  | some (.request _) => f.payload.length ≠ 0
  | some .reply => false
  | some .handover => f.payload.length ≠ 6 || (HandoverKind.ofCode (byteAt f.payload 0)).isNone
  | some .call => f.payload.length ≠ 1 || (CallFrame.ofCode (byteAt f.payload 0)).isNone
  | some .voice => f.payload.length ≠ 42

/-- The contents of a summit SAFETY payload, taken at time `t` (R137). -/
def summitContentsOf (payload : List Byte) (t : Ms) : SummitContents :=
  let flags := byteAt payload 1
  let last := byteAt payload 7
  { category := (Category.ofCode (byteAt payload 0)).getD .run
    servicePermit := flags % 2 = 1
    emergencyPermit := flags / 2 % 2 = 1
    p := halfAt payload 2 * 65536 + halfAt payload 4
    referenced := flags / 4 % 2 = 1
    motion := Motion.ofCode (flags / 16 % 4)
    lastHandover := byteAt payload 6
    call := CallState.ofCode (last % 4)
    emergencyOpen := last / 4 % 2 = 1
    time := t }

/-- The slot field of a payload at byte `i`: absent when bit 15 is set. -/
def slotAt (payload : List Byte) (i : Nat) : Option Nat :=
  let h := halfAt payload i
  if h < 32768 then some h else none

/-- The two bytes of an optional slot. -/
def slotBytes : Option Nat → List Byte
  | some k => twoBytes k
  | none => twoBytes 32768

/-- Twelve-bit IDs packed in order, most significant bit first, two to three bytes. -/
def packIds : List Nat → List Byte
  | a :: b :: rest =>
    [BitVec.ofNat 8 (a / 16), BitVec.ofNat 8 (a % 16 * 16 + b / 256), BitVec.ofNat 8 b] ++ packIds rest
  | [a] => [BitVec.ofNat 8 (a / 16), BitVec.ofNat 8 (a % 16 * 16)]
  | [] => []

/-- The twelve-bit IDs of packed bytes; a byte pair left at the end holds one ID. -/
def unpackIds : List Byte → List Nat
  | x :: y :: z :: rest =>
    (x.toNat * 16 + y.toNat / 16) :: (y.toNat % 16 * 256 + z.toNat) :: unpackIds rest
  | [x, y] => [x.toNat * 16 + y.toNat / 16]
  | _ => []

/-- The IDs of a set-query reply whose ID count is `n`. -/
def replyIds (payload : List Byte) : List Nat := (unpackIds (payload.drop 4)).take (byteAt payload 3)

/-- Whether a REPLY payload is malformed for a set query (R197): the UNSUPPORTED layout is one byte, the OK layout
4 + ceil(12n/8) bytes with an index and a count that are not 0 and at most 32 IDs. -/
def setReplyMalformed (payload : List Byte) : Bool :=
  if payload.length = 0 then true
  else match byteAt payload 0 with
    | 1 => payload.length ≠ 1
    | 0 =>
      let n := byteAt payload 3
      payload.length ≠ 4 + (12 * n + 7) / 8 || byteAt payload 2 / 16 = 0 || byteAt payload 2 % 16 = 0 || 32 < n
    | _ => true

end Sys2Proof.Machine
end

