-- ==== Sys2Proof/Machine/Ops.lean ====
section
/-!
DEFINITION. The shared operations: time, the registry, the slot table, event reports, the egress queues, and the
gathering of a block's conditions for the stop chain.
-/

namespace Sys2Proof.Machine

/-! ## Block updates -/

/-- The state with `pins` replaced. -/
def State.setPins (s : State) (x : Pins) : State := { s with pins := x }

/-- The state with `registry` replaced. -/
def State.setRegistry (s : State) (x : List RegEntry) : State := { s with registry := x }

/-- The state with `rpu` replaced. -/
def State.setRpu (s : State) (x : Rpu) : State := { s with rpu := x }

/-- The state with `lgt` replaced. -/
def State.setLgt (s : State) (x : Lgt) : State := { s with lgt := x }

/-- The state with `ctr` replaced. -/
def State.setCtr (s : State) (x : Ctr) : State := { s with ctr := x }

/-- The state with `dsq` replaced. -/
def State.setDsq (s : State) (x : Dsq) : State := { s with dsq := x }

/-- The state with `rmn` replaced. -/
def State.setRmn (s : State) (x : Rmn) : State := { s with rmn := x }

/-- The state with `slk` replaced. -/
def State.setSlk (s : State) (x : Slk) : State := { s with slk := x }

/-- The state with `icm` replaced. -/
def State.setIcm (s : State) (x : Icm) : State := { s with icm := x }

/-- The state with `stc` replaced. -/
def State.setStc (s : State) (x : Stc) : State := { s with stc := x }

/-- The state with `rng` replaced. -/
def State.setRng (s : State) (x : Rng) : State := { s with rng := x }

/-- The state with `tst` replaced. -/
def State.setTst (s : State) (x : Tst) : State := { s with tst := x }

/-- The state with `tmb` replaced. -/
def State.setTmb (s : State) (x : Tmb) : State := { s with tmb := x }

/-- The state with `store` replaced. -/
def State.setStore (s : State) (x : Store) : State := { s with store := x }

/-- The state with `free` replaced. -/
def State.setFree (s : State) (x : Nat) : State := { s with free := x }

/-! ## Time (chapter 11, timebase) -/

/-- The value of the millisecond counter. -/
def State.now (s : State) : Ms := s.tmb.counter

/-- The counter value `d` ms from now. -/
def State.after (s : State) (d : Nat) : Ms := s.now + BitVec.ofNat 32 d

/-- The ms since counter value `t`. -/
def State.since (s : State) (t : Ms) : Nat := (s.now - t).toNat

/-- Whether expiry `e` has been reached, by the half-range comparison of chapter 0, sequence numbers. -/
def State.due (s : State) (e : Ms) : Bool := s.since e < 2147483648

/-- Whether a timer runs and its expiry has been reached. -/
def State.expired (s : State) (timer : Option Ms) : Bool :=
  match timer with
  | some e => s.due e
  | none => false

/-- A counter 0..65535 that saturates, raised by `k`. -/
def satAdd (n k : Nat) : Nat := if n + k < 65535 then n + k else 65535

/-- A counter 0..65535 that saturates, raised by 1. -/
def satInc (n : Nat) : Nat := satAdd n 1

/-! ## Tables in force -/

/-- Whether the SAFETY group is valid. -/
def State.safetyValid (s : State) : Bool := s.tst.safety.isSome

/-- Whether the OPERATIONS group is valid. -/
def State.operationsValid (s : State) : Bool := s.tst.operations.isSome

/-- The node table entry of an address. -/
def SafetyTables.node (t : SafetyTables) (a : Nat) : NodeEntry := t.nodes.getD a NodeEntry.unused

/-- The addresses 1..31 whose role is `r`. -/
def SafetyTables.addressesOf (t : SafetyTables) (r : Role) : List Nat :=
  (List.range 32).filter fun a => a ≠ 0 && (t.node a).role = r

/-- The destination mask of every node that holds a role in the node table in force (chapter 10, egress). -/
def State.roleMask (s : State) (r : Role) : Word :=
  match s.tst.safety with
  | none => 0
  | some t => (t.addressesOf r).foldl (fun m a => m ||| addressBit a) 0

/-! ## The registry (R61) -/

/-- Registry entry `i`. -/
def State.reg (s : State) (i : Nat) : RegEntry := s.registry.getD i (RegEntry.initial FleetStatic.blank)

/-- The state with registry entry `i` changed. -/
def State.modReg (s : State) (i : Nat) (f : RegEntry → RegEntry) : State :=
  s.setRegistry (s.registry.set i (f (s.reg i)))

/-- The registry index an ID names: of several entries that carry it, the lowest (R61). ID 0 is absent and names none. -/
def State.lookup (s : State) (id : Nat) : Option Nat :=
  if id = 0 then none else s.registry.findIdx? fun r => r.stat.id = id

/-- The cabin ID of a registry index. -/
def State.idOf (s : State) (i : Nat) : Nat := (s.reg i).stat.id

/-- The cabin ID of whoever stands in an entry; absent for an anonymous entry. -/
def State.whoId (s : State) : Who → Option Nat
  | .cabin i => some (s.idOf i)
  | .anon _ _ _ => none

/-- The ID of a report's data: 0 where it is absent. -/
def idData (id : Option Nat) : Int := (id.getD 0 : Nat)

/-! ## The slot table (R21) -/

/-- The state of slot `k`. -/
def State.slot (s : State) (k : Nat) : SlotState := s.ctr.slots.getD k .empty

/-- The state with slot `k` set. -/
def State.setSlot (s : State) (k : Nat) (x : SlotState) : State := s.setCtr { s.ctr with slots := s.ctr.slots.set k x }

/-- Slot `k` returns to EMPTY if it is in state `x`. -/
def State.freeSlotIf (s : State) (k : Nat) (x : SlotState) : State := if s.slot k = x then s.setSlot k .empty else s

/-! ## Egress queues (R180, R182) -/

/-- The state with the CONTROL queue set. -/
def State.setControl (s : State) (q : List EgressFrame) : State := s.setRng { s.rng with control := q }

/-- The state with the REPORT queue set. -/
def State.setReport (s : State) (q : List EgressFrame) : State := s.setRng { s.rng with report := q }

/-- The state with the POLL queue set. -/
def State.setPoll (s : State) (q : List EgressFrame) : State := s.setRng { s.rng with poll := q }

/-- Whether the CONTROL queue takes another frame: it holds 8. -/
def State.controlRoom (s : State) : Bool := s.rng.control.length < 8

/-- A frame placed in the CONTROL queue, where it has room. -/
def State.placeControl (s : State) (f : EgressFrame) : State :=
  if s.controlRoom then s.setControl (s.rng.control ++ [f]) else s

/-- A frame placed in the POLL queue, which holds 24; with the queue full it is refused. -/
def State.placePoll (s : State) (f : EgressFrame) : State :=
  if s.rng.poll.length < 24 then s.setPoll (s.rng.poll ++ [f]) else s

/-- A frame offered to the VOICE class, which holds 4 and removes its oldest when full. -/
def State.placeVoice (s : State) (f : EgressFrame) : State :=
  if s.rng.voice.length < 4 then s.setRng { s.rng with voice := s.rng.voice ++ [f] }
  else s.setRng { s.rng with voice := s.rng.voice.drop 1 ++ [f], voiceDrops := satInc s.rng.voiceDrops }

/-- The report-dropped flag set. -/
def State.dropReport (s : State) : State := s.setRng { s.rng with reportDropped := true }

/-- A frame offered to the REPORT class, which holds 32; a frame that finds it full is not placed and sets the
report-dropped flag. -/
def State.placeReport (s : State) (f : EgressFrame) : State :=
  if s.rng.report.length < 32 then s.setReport (s.rng.report ++ [f]) else s.dropReport

/-- Whether a queued frame is the one a withdrawal names, by kind and tag, and by its destination where one is given:
tags of scans are distinct towards one node only (R117, R182; log entry 34). -/
def EgressFrame.named (f : EgressFrame) (kind : RingKind) (tag : Nat) (mask : Option Word) : Bool :=
  f.kind = kind && f.tag = tag && (match mask with | some m => f.mask = m | none => true)

/-- The queue without the first frame that a withdrawal names; the frames behind it keep their order (R182). -/
def withoutFrame (q : List EgressFrame) (kind : RingKind) (tag : Nat) (mask : Option Word) : List EgressFrame :=
  q.eraseP fun f => f.named kind tag mask

/-- A frame withdrawn from the CONTROL queue. -/
def State.withdrawControl (s : State) (kind : RingKind) (tag : Nat) (mask : Option Word := none) : State :=
  s.setControl (withoutFrame s.rng.control kind tag mask)

/-- A frame withdrawn from the POLL queue. -/
def State.withdrawPoll (s : State) (kind : RingKind) (tag : Nat) (mask : Option Word := none) : State :=
  s.setPoll (withoutFrame s.rng.poll kind tag mask)

/-! ## Event reports (R193) -/

/-- The addresses EVENT frames go to: the MANAGER nodes, or the provisional manager mask while SAFETY is invalid. -/
def State.eventMask (s : State) : Word := if s.safetyValid then s.roleMask .manager else s.rng.provisional

/-- The payload of an EVENT frame (chapter 12, code 27). -/
def EventEntry.words (e : EventEntry) : List Word :=
  [place (Config.eventKindCode e.kind).toNat 24 ||| place (match e.cause with | some c => c.num | none => 255) 16 |||
     place e.seq 0,
   place (e.cabin.getD 0) 0,
   place (bit e.referenced) 31 ||| place e.p.toNat 0,
   e.time] ++ (Config.eventDataWords e.kind e.data).take 8

/-- TST offers the oldest event report to the REPORT class while that holds fewer than 16 frames. With no address to
send to, the entry leaves as lost. -/
def State.offerEvent (s : State) : State :=
  match s.tst.events with
  | [] => s
  | e :: rest =>
    if s.rng.report.length < 16 then
      let s' := s.setTst { s.tst with events := rest }
      if s.eventMask = 0 then s'.dropReport
      else s'.placeReport { kind := .event, mask := s.eventMask, tag := 0, payload := e.words, restartReply := false }
    else s

/-- The entry TST records for a report queued now; its cause and cabin fields are optional (R193; log entry 66). -/
def State.eventEntry (s : State) (kind : EventKind) (cause : Option Cause) (cabin : Option Nat) (data : List Int) :
    EventEntry :=
  { seq := s.tst.eventSeq, kind := kind, cause := cause, cabin := cabin, data := data, p := s.rpu.record.p,
    referenced := s.rpu.record.referenced, time := s.now }

/-- A block queues an EVENT report: it takes the next event sequence; with 32 entries held it is not placed (R193). Each
report that is placed makes an offer of its own (log entry 80), and reports of one event come in the order in which the
model makes its effects (log entry 77). -/
def State.report (s : State) (kind : EventKind) (cause : Option Cause) (cabin : Option Nat) (data : List Int) : State :=
  let next := (s.tst.eventSeq + 1) % 65536
  if s.tst.events.length < 32 then
    (s.setTst
      { s.tst with
        eventSeq := next
        events := s.tst.events ++ [s.eventEntry kind cause cabin data] }).offerEvent
  else
    s.setTst
      { s.tst with
        eventSeq := next
        eventDropped := true
        eventsDropped := satInc s.tst.eventsDropped }

/-! ## Conditions (R160, R161) -/

/-- The record of a cause. -/
def State.cause (s : State) (c : Cause) : CauseRecord :=
  s.stc.records.getD c.num (CauseRecord.initial c.defaultCategory)

/-- Whether the condition of a cause is present. -/
def State.condition (s : State) (c : Cause) : Bool := (s.cause c).present

/-- One condition joins the report that the block in progress makes to STC. -/
def State.gather (s : State) (r : CauseReport) : State := s.setStc { s.stc with gathered := s.stc.gathered ++ [r] }

/-- A momentary condition is raised, with the cabin the raising rule names. -/
def State.raise (s : State) (c : Cause) (cabin : Option Nat) : State := s.gather { cause := c, change := .momentary cabin }

/-- The condition of a cause as its owner holds it. -/
def State.holdCondition (s : State) (c : Cause) (b : Bool) : State :=
  s.setStc { s.stc with records := s.stc.records.set c.num { s.cause c with present := b } }

/-- A lasting condition is judged: a change is held and reported, at the event at which it comes about. -/
def State.judge (s : State) (c : Cause) (b : Bool) (cabin : Option Nat := none) : State :=
  if s.condition c = b then s
  else (s.holdCondition c b).gather { cause := c, change := if b then .raised cabin else .cleared }

/-- Whether launch is held: the output category is HOLD_LAUNCH or above (R164). -/
def State.launchHeld (s : State) : Bool := s.stc.output.atLeast .holdLaunch

/-! ## The station queue (R62) -/

/-- The entries of a segment, oldest first. -/
def State.inSegment (s : State) (g : Segment) : List StationEntry := s.ctr.queue.filter fun e => e.segment = g

/-- The oldest entry of a segment: the one nearest the head of the queue. -/
def State.oldest (s : State) (g : Segment) : Option StationEntry := (s.inSegment g).head?

/-- The newest entry of a segment. -/
def State.newest (s : State) (g : Segment) : Option StationEntry := (s.inSegment g).getLast?

/-- The entry of a serial. -/
def State.entry (s : State) (serial : Nat) : Option StationEntry := s.ctr.queue.find? fun e => e.serial = serial

/-- The entry of a registered cabin. -/
def State.entryOfCabin (s : State) (i : Nat) : Option StationEntry := s.ctr.queue.find? fun e => e.who = .cabin i

/-- The state with the station queue set. -/
def State.setQueue (s : State) (q : List StationEntry) : State := s.setCtr { s.ctr with queue := q }

/-- The queue with the entry of a serial changed. -/
def modSerial (q : List StationEntry) (serial : Nat) (f : StationEntry → StationEntry) : List StationEntry :=
  q.map fun e => if e.serial = serial then f e else e

/-- The state with the entry of a serial changed. -/
def State.modEntry (s : State) (serial : Nat) (f : StationEntry → StationEntry) : State :=
  s.setQueue (modSerial s.ctr.queue serial f)

/-- The state with the SLOTLESS flag of a cabin's entry in S7 set. -/
def State.setSlotless (s : State) (cabin : Nat) : State :=
  s.setQueue (s.ctr.queue.map fun e => if e.who = .cabin cabin then { e with slotless := true } else e)

/-- The door state of an entry: the registry's, or its own copy (R89). -/
def State.doorOf (s : State) : Who → DoorState
  | .cabin i => (s.reg i).door
  | .anon d _ _ => d

/-- The grip verdict of an entry. -/
def State.verdictOf (s : State) : Who → GripVerdict
  | .cabin i => (s.reg i).verdict
  | .anon _ v _ => v

/-- The last force of an entry. -/
def State.forceOf (s : State) : Who → Option Nat
  | .cabin i => (s.reg i).force
  | .anon _ _ f => f

/-- An anonymous entry's door state set; a registered cabin's stands in the registry. -/
def Who.withDoor (d : DoorState) : Who → Who
  | .cabin i => .cabin i
  | .anon _ v f => .anon d v f

/-- An anonymous entry's verdict and force set. -/
def Who.withGrip (v : GripVerdict) (f : Option Nat) : Who → Who
  | .cabin i => .cabin i
  | .anon d _ _ => .anon d v f

/-- A cabin's door state set, in the registry or in its anonymous entry. -/
def State.setDoor (s : State) (e : StationEntry) (d : DoorState) : State :=
  match e.who with
  | .cabin i => s.modReg i fun r => { r with door := d }
  | .anon _ _ _ => s.modEntry e.serial fun x => { x with who := x.who.withDoor d }

/-- A cabin's verdict and force set, in the registry or in its anonymous entry (R126). -/
def State.setGrip (s : State) (e : StationEntry) (v : GripVerdict) (f : Option Nat) : State :=
  match e.who with
  | .cabin i => s.modReg i fun r => { r with verdict := v, force := f }
  | .anon _ _ _ => s.modEntry e.serial fun x => { x with who := x.who.withGrip v f }

/-! ## The head of S6 (R24) -/

/-- The head of S6: the oldest entry whose segment is S6. -/
def State.headS6 (s : State) : Option StationEntry := s.oldest .s6

/-- Whether an entry is ready as the head of S6: registered, in service, LOCKED, PASS and routed LINE (R24). -/
def State.ready (s : State) (e : StationEntry) : Bool :=
  match e.who with
  | .cabin i =>
    (s.reg i).stat.inService && (s.reg i).door = .locked && (s.reg i).verdict = .pass && e.route = .line
  | .anon _ _ _ => false

/-! ## Circular difference (chapter 0, circular signed difference) -/

/-- The circular signed difference of positions `x` and `y` on a loop of length `L`. -/
def circularDiff (x y : Int) (L : Nat) : Int := ((x - y + (L / 2 : Nat)) % (L : Int)) - (L / 2 : Nat)

end Sys2Proof.Machine
end

