-- ==== Sys2Proof/Machine/Transmit.lean ====
section
/-!
DEFINITION. The transmit side of the summit link: call frames, valley handovers, the transmitter (R130, R131, R143, R148).
-/

namespace Sys2Proof.Machine

/-- The state with the UNANSWERED transmit queue set. -/
def State.setTxUnanswered (s : State) (q : List LinkFrame) : State := s.setSlk { s.slk with txUnanswered := q }

/-- The frame of a CALL kind. -/
def callFrameOf (f : CallFrame) : LinkFrame :=
  { cls := .unanswered, kind := 3, tag := 0, payload := [BitVec.ofNat 8 f.code] }

/-- ICM offers a call frame to the UNANSWERED transmit queue; with 16 frames held it is not placed (R148). -/
def State.sendCallFrame (s : State) (f : CallFrame) : State :=
  if s.slk.txUnanswered.length < 16 then s.setTxUnanswered (s.slk.txUnanswered ++ [callFrameOf f])
  else
    (s.setIcm { s.icm with droppedFrames := satInc s.icm.droppedFrames }).report .callFrameDropped none none
      [(f.code : Nat)]

/-- The frame of a valley handover (chapter 12, HANDOVER payload). -/
def handoverFrame (kind : HandoverKind) (seq id : Nat) (assumed : Bool) (slot : Option Nat) : LinkFrame :=
  { cls := .unanswered
    kind := 2
    tag := 0
    payload :=
      [BitVec.ofNat 8 kind.code, BitVec.ofNat 8 seq] ++ twoBytes (bit assumed * 32768 + id) ++ slotBytes slot }

/-- Whether a transmit frame is a HANDOVER. -/
def LinkFrame.isHandover (f : LinkFrame) : Bool := f.cls = .unanswered && f.kind = 2

/-- A handover that is dropped is counted and reported with its kind, cabin and sequence (R143). -/
def State.dropHandover (s : State) (f : LinkFrame) : State :=
  (s.setSlk { s.slk with droppedHandovers := satInc s.slk.droppedHandovers }).report .handoverDropped none
    (some (halfAt f.payload 2 % 4096)) [(byteAt f.payload 0 : Nat), (halfAt f.payload 2 % 4096 : Nat), (byteAt f.payload 1 : Nat)]

/-- A handover frame offered to the UNANSWERED transmit queue: with the queue full the oldest handover in it makes room,
and with none in it the new one is not placed (R143). -/
def State.offerHandover (s : State) (f : LinkFrame) : State :=
  let q := s.slk.txUnanswered
  if q.length < 16 then s.setTxUnanswered (q ++ [f])
  else match q.find? LinkFrame.isHandover with
    | some old => (s.setTxUnanswered (q.eraseP LinkFrame.isHandover ++ [f])).dropHandover old
    | none => s.dropHandover f

/-- A valley handover takes the next send sequence and is offered (R48, R143). -/
def State.sendHandover (s : State) (kind : HandoverKind) (id : Nat) (assumed : Bool) (slot : Option Nat) : State :=
  let seq := (s.slk.handoverSeq + 1) % 256
  (s.setSlk { s.slk with handoverSeq := seq }).offerHandover (handoverFrame kind seq id assumed slot)

/-- ANSWERED busy: 2 or more of the 4 buffers are occupied (R130). -/
def Slk.answeredBusy (k : Slk) : Bool := 2 ≤ k.rxAnswered.length

/-- UNANSWERED busy: 6 or more of the 8 buffers are occupied (R130). -/
def Slk.unansweredBusy (k : Slk) : Bool := 6 ≤ k.rxUnanswered.length

/-- The next eligible frame and SLK without it, in the order SAFETY, VOICE, UNANSWERED, ANSWERED; outside UP only a
SAFETY frame is eligible, and a class whose far busy bit is set is held (R130, R131). -/
def Slk.nextFrame (k : Slk) : Option (LinkFrame × Slk) :=
  match k.txSafety with
  | some f => some (f, { k with txSafety := none })
  | none =>
    if k.link = .up then
      match k.txVoice, k.txUnanswered, k.txAnswered with
      | f :: rest, _, _ => some (f, { k with txVoice := rest })
      | [], u, a =>
        match (if k.farUnanswered then [] else u), (if k.farAnswered then [] else a) with
        | f :: rest, _ => some (f, { k with txUnanswered := rest })
        | [], f :: rest => some (f, { k with txAnswered := rest })
        | [], [] => none
    else none

/-- The request entry of a tag becomes SENT with its reply deadline (R140). -/
def markSent (entries : List RequestEntry) (tag : Nat) (deadline : Ms) : List RequestEntry :=
  entries.map fun e => if e.tag = tag then { e with deadline := some deadline } else e

/-- The transmitter takes a frame: the sequence and the busy bits are written as it is taken (R131), and a REQUEST's
reply deadline starts (R140). -/
def State.takeFrame (s : State) (f : LinkFrame) (k : Slk) : State :=
  s.setSlk
    { k with
      sending := some (linkBytes f k.nextSeq k.answeredBusy k.unansweredBusy)
      nextSeq := (k.nextSeq + 1) % 256
      requests := if f.cls = .answered then markSent k.requests f.tag (s.after 500) else k.requests }

/-- A free transmitter takes the next eligible frame (R131). -/
def State.transmit (s : State) : State :=
  match s.slk.sending with
  | some _ => s
  | none =>
    match s.slk.nextFrame with
    | some (f, k) => s.takeFrame f k
    | none => s

end Sys2Proof.Machine
end

