-- ==== Sys2Proof/Machine/Calls.lean ====
section
/-!
DEFINITION. The call of the intercom: its state, its indications, its requests and frames, the emergency opening and the
jitter buffer's start (chapter 8).
-/

namespace Sys2Proof.Machine

/-- A CALL_INDICATION of the present state to every HANDSET node; with no such node, or SAFETY invalid, none is offered,
and a full CONTROL queue drops it (R145, R146). -/
def State.indicate (s : State) : State :=
  let mask := s.roleMask .handset
  if mask = 0 then s
  else if s.controlRoom then
    s.placeControl
      { kind := .callIndication
        mask := mask
        tag := 0
        payload := [place (bit s.icm.emergencyOpen) 8 ||| place s.icm.call.code 0]
        restartReply := false }
  else s.setIcm { s.icm with droppedIndications := satInc s.icm.droppedIndications }

/-- The reason of a CALL_STATE report as a number: the request or frame it names follows (R146). -/
def CallReason.code : CallReason → Nat
  | .managerRequest => 0
  | .handsetRequest => 1
  | .summitFrame => 2
  | .timeout => 3
  | .summitIdle => 4
  | .emergency => 5
  | .linkDown => 6

/-- The call takes a state and an EMERGENCY_OPEN: a change of either is indicated, and a change of the call state is
reported (R146). `detail` is the request or the summit frame the reason names. -/
def State.setCall (s : State) (call : CallState) (emergency : Bool) (reason : CallReason) (detail : Nat) : State :=
  let old := s.icm.call
  if old = call && s.icm.emergencyOpen = emergency then s
  else
    let s' := (s.setIcm { s.icm with call := call, emergencyOpen := emergency }).indicate
    if old = call then s'
    else
      s'.report .callState none none
        [(old.code : Nat), (call.code : Nat), (bit emergency : Nat), (reason.code : Nat), (detail : Nat)]

/-- The call timer started or stopped. -/
def State.setCallTimer (s : State) (t : Option Ms) : State := s.setIcm { s.icm with callTimer := t }

/-- The jitter buffer emptied and the playout timer stopped, with phase FILLING and last played unset (R153, R154). -/
def State.startJitter (s : State) : State :=
  s.setIcm { s.icm with buffer := [], phase := .filling, lastPlayed := none, playout := none }

/-- The jitter buffer emptied and the playout timer stopped, as a call ends (R147, R149, R151). -/
def State.emptyJitter (s : State) : State := s.setIcm { s.icm with buffer := [], playout := none }

/-- Entry into TALK: the call timer stops, the entry time is taken and the jitter buffer starts (R147, R149, R154). -/
def State.enterTalk (s : State) (emergency : Bool) (reason : CallReason) (detail : Nat) : State :=
  ((s.setIcm { s.icm with callTimer := none, talkEntry := s.now }).startJitter).setCall .talk emergency reason detail

/-- Whether the emergency holds: the link is UP and the output category, or the category of the stored summit SAFETY
contents, is EMERGENCY_STOP (R152). -/
def State.emergencyHolds (s : State) : Bool :=
  s.slk.link = .up &&
    (s.stc.output = .emergencyStop ||
      (match s.slk.summit with | some c => c.category = .emergencyStop | none => false))

/-- ICM judges the emergency (R152). -/
def State.judgeEmergency (s : State) : State :=
  if s.emergencyHolds then
    if s.icm.emergencyOpen then s
    else match s.icm.call with
      | .talk => s.setCall .talk true .emergency 0
      | .ringing => (s.enterTalk true .emergency 0).sendCallFrame .accept
      | _ => s.enterTalk true .emergency 0
  else if s.icm.emergencyOpen then s.setCall s.icm.call false .emergency 0
  else s

/-- ICM ends the call as the link enters DOWN; a call in IDLE is left as it is (R153). -/
def State.callLinkDown (s : State) : State :=
  if s.icm.call = .idle && !s.icm.emergencyOpen then s
  else ((s.setCallTimer none).startJitter).setCall .idle false .linkDown 0

/-- A refused request or CALL_KEY changes no state and is counted (R147). -/
def State.refuseCall (s : State) : State := s.setIcm { s.icm with refused := satInc s.icm.refused }

/-- The CALL request: the state after it and whether it was taken (R147). CALL_STATE is reported before CALL_FRAME_DROPPED,
here and wherever a change of the call sends a frame (R148; log entry 77). -/
def State.callRequest (s : State) (reason : CallReason) : State × Bool :=
  if s.icm.call = .idle && s.slk.link = .up then
    (((s.setCallTimer (some (s.after 30000))).setCall .calling s.icm.emergencyOpen reason 0).sendCallFrame .setup, true)
  else (s.refuseCall, false)

/-- The ANSWER request (R147). -/
def State.answerRequest (s : State) (reason : CallReason) : State × Bool :=
  if s.icm.call = .ringing then ((s.enterTalk s.icm.emergencyOpen reason 1).sendCallFrame .accept, true)
  else (s.refuseCall, false)

/-- The HANG_UP request (R147). -/
def State.hangUpRequest (s : State) (reason : CallReason) : State × Bool :=
  if s.icm.call ≠ .idle && !s.icm.emergencyOpen then
    ((((s.setCallTimer none).emptyJitter).setCall .idle false reason 2).sendCallFrame .clear, true)
  else (s.refuseCall, false)

/-- A CALL_KEY is answered by indication only, and a refused one is followed by an indication (R147). -/
def State.keyOutcome (r : State × Bool) : State := if r.2 then r.1 else r.1.indicate

/-- A CALL frame that the call state ignores (R149). -/
def State.ignoreCallFrame (s : State) : State := s.setIcm { s.icm with ignoredFrames := satInc s.icm.ignoredFrames }

/-- A summit CALL_SETUP (R149). -/
def State.takeCallSetup (s : State) : State :=
  match s.icm.call with
  | .idle => (s.setCallTimer (some (s.after 30000))).setCall .ringing s.icm.emergencyOpen .summitFrame 1
  | .calling => (s.enterTalk s.icm.emergencyOpen .summitFrame 1).sendCallFrame .accept
  | .ringing => s.ignoreCallFrame
  | .talk => s.sendCallFrame .accept

/-- A summit CALL_ACCEPT (R149). -/
def State.takeCallAccept (s : State) : State :=
  match s.icm.call with
  | .calling => s.enterTalk s.icm.emergencyOpen .summitFrame 2
  | _ => s.ignoreCallFrame

/-- A summit CALL_CLEAR (R149). -/
def State.takeCallClear (s : State) : State :=
  match s.icm.call with
  | .idle => s.ignoreCallFrame
  | .talk =>
    if s.icm.emergencyOpen then s.ignoreCallFrame.report .clearRefused none none []
    else s.emptyJitter.setCall .idle false .summitFrame 3
  | _ => (s.setCallTimer none).setCall .idle s.icm.emergencyOpen .summitFrame 3

/-- The summit supervision: a summit shown IDLE more than 200 ms after the entry into TALK has left the call (R151). -/
def State.superviseSummit (s : State) (summit : CallState) : State :=
  if s.icm.call = .talk && !s.icm.emergencyOpen && summit = .idle && 200 < s.since s.icm.talkEntry then
    s.emptyJitter.setCall .idle false .summitIdle 0
  else s

/-- The expiry of the call timer (R150). -/
def State.callTimeout (s : State) : State :=
  ((s.setCallTimer none).setCall .idle s.icm.emergencyOpen .timeout 0).sendCallFrame .clear

/-! ## Voice (R154 to R156) -/

/-- A handset voice frame: in TALK it joins the VOICE transmit queue, which holds 2 and loses its oldest; in any other
state it is dropped. Both losses count as outbound voice dropped (R154). -/
def State.takeHandsetVoice (s : State) (seq : Nat) (audio : List Byte) : State :=
  if s.icm.call = .talk then
    let f : LinkFrame := { cls := .voice, kind := 1, tag := 0, payload := twoBytes seq ++ audio }
    if s.slk.txVoice.length < 2 then s.setSlk { s.slk with txVoice := s.slk.txVoice ++ [f] }
    else
      (s.setSlk { s.slk with txVoice := s.slk.txVoice.drop 1 ++ [f] }).setIcm
        { s.icm with outboundDropped := satInc s.icm.outboundDropped }
  else s.setIcm { s.icm with outboundDropped := satInc s.icm.outboundDropped }

/-- Whether voice sequence `a` is later than `b`, by half range (chapter 0, sequence numbers). -/
def laterSeq (a b : Nat) : Bool :=
  let d := (a + 65536 - b) % 65536
  1 ≤ d && d ≤ 32767

/-- Whether two voice sequences lie 32,768 apart, so that neither is later. -/
def oppositeSeq (a b : Nat) : Bool := (a + 65536 - b) % 65536 = 32768

/-- A voice entry placed among the held ones in ascending order of sequence: before the first that is later than it, also
where the held sequences span more than half the range (R155; log entry 72). -/
def insertVoice (x : VoiceEntry) : List VoiceEntry → List VoiceEntry
  | [] => [x]
  | y :: rest => if laterSeq y.seq x.seq then x :: y :: rest else y :: insertVoice x rest

/-- A placed voice frame: a seventh entry removes the oldest, and a second starts the playout from FILLING (R155). -/
def State.placeVoiceEntry (s : State) (x : VoiceEntry) : State :=
  let b := insertVoice x s.icm.buffer
  let seventh := b.length = 7
  let kept := if seventh then b.drop 1 else b
  let starts := s.icm.phase = .filling && 2 ≤ kept.length
  s.setIcm
    { s.icm with
      buffer := kept
      overflow := if seventh then satInc s.icm.overflow else s.icm.overflow
      phase := if starts then .playing else s.icm.phase
      playout := if starts then some (s.after 20) else s.icm.playout }

/-- A summit voice frame taken by ICM (R155). -/
def State.takeSummitVoice (s : State) (x : VoiceEntry) : State :=
  let notLater := match s.icm.lastPlayed with | some p => !laterSeq x.seq p | none => false
  if s.icm.call ≠ .talk then s
  else if notLater || s.icm.buffer.any (fun y => oppositeSeq x.seq y.seq) then
    s.setIcm { s.icm with late := satInc s.icm.late }
  else if s.icm.buffer.any (fun y => y.seq = x.seq) then
    s.setIcm { s.icm with duplicate := satInc s.icm.duplicate }
  else s.placeVoiceEntry x

/-- The VOICE frame to the HANDSET nodes that plays an entry; with no such node, or SAFETY invalid, none is offered
(R145, R156). -/
def State.playEntry (s : State) (x : VoiceEntry) : State :=
  let mask := s.roleMask .handset
  if mask = 0 then s
  else
    s.placeVoice
      { kind := .voice, mask := mask, tag := 0, payload := place x.seq 0 :: wordsOfBytes x.audio, restartReply := false }

/-- The sequences missing between the last played frame and `seq`. -/
def missingBefore (last : Option Nat) (seq : Nat) : Nat :=
  match last with
  | some p => (seq + 65536 - p - 1) % 65536
  | none => 0

/-- The expiry of the playout timer (R156). -/
def State.playout (s : State) : State :=
  match s.icm.buffer with
  | x :: rest =>
    (s.playEntry x).setIcm
      { s.icm with
        buffer := rest
        lost := satAdd s.icm.lost (missingBefore s.icm.lastPlayed x.seq)
        lastPlayed := some x.seq
        playout := some (s.after 20) }
  | [] => s.setIcm { s.icm with underrun := satInc s.icm.underrun, phase := .filling, playout := none }

end Sys2Proof.Machine
end

