-- ==== Sys2Proof/Machine/Release.lean ====
section
/-!
DEFINITION. What other blocks ask of LGT: the withdrawal of a queued release, and the report of the head of S6
(R27, R36, R85).
-/

namespace Sys2Proof.Machine

/-- The state with the pending release set. -/
def State.setPendingRelease (s : State) (p : Option PendingRelease) : State := s.setLgt { s.lgt with pending := p }

/-- A withdrawal is counted: a late release is also reported with its slot and cabin, any other is counted only (R27). -/
def State.countWithdrawal (s : State) (p : PendingRelease) (late : Bool) : State :=
  if late then
    (s.setLgt { s.lgt with lateReleases := satInc s.lgt.lateReleases }).report .lateRelease none (some p.id)
      [(p.slot : Nat), (p.id : Nat)]
  else s.setLgt { s.lgt with withdrawals := satInc s.lgt.withdrawals }

/-- The pending release is withdrawn while it is QUEUED: the frame leaves the CONTROL queue, the slot returns to EMPTY
and the pending release is cleared. A SENT release is not recalled (R27). -/
def State.withdrawRelease (s : State) (late : Bool) : State :=
  match s.lgt.pending with
  | some p =>
    match p.phase with
    | .queued =>
      ((((s.withdrawControl .gateRelease p.tag).freeSlotIf p.slot (.releasePending p.cabin)).setPendingRelease
        none).countWithdrawal p late)
    | .sent _ => s
  | none => s

/-- Whether the pending release's cabin stands ready at the head of S6 (R27). -/
def State.pendingHeadReady (s : State) (p : PendingRelease) : Bool :=
  match s.headS6 with
  | some e => e.who = .cabin p.cabin && s.ready e
  | none => false

/-- A queued release whose cabin is no longer the head of S6, or no longer ready, is withdrawn (R27). -/
def State.withdrawUnlessHead (s : State) : State :=
  match s.lgt.pending with
  | some p => if s.pendingHeadReady p then s else s.withdrawRelease false
  | none => s

/-- Whether the counted head still stands in S6 and is not ready (R36). -/
def State.countedHeadStands (s : State) (serial : Nat) : Bool :=
  match s.entry serial with
  | some e => e.segment = .s6 && !s.ready e
  | none => false

/-- The counted head that has become ready or has left S6 ends HEAD_BLOCKED, and the count becomes 0 (R36). -/
def State.releaseCountedHead (s : State) : State :=
  match s.lgt.countedHead with
  | some serial =>
    if s.countedHeadStands serial then s
    else (s.setLgt { s.lgt with blocked := 0, countedHead := none }).judge .headBlocked false
  | none => s

/-- CTR reports the head of S6 and its readiness to LGT, which acts on it at once (R85). -/
def State.reportHead (s : State) : State := s.withdrawUnlessHead.releaseCountedHead

end Sys2Proof.Machine
end

