-- ==== Sys2Proof/Machine/Flags.lean ====
section
/-!
DEFINITION. The stop chain: cause records, the output category, the permits, the first-out record (chapter 9).
-/

namespace Sys2Proof.Machine

/-- SERVICE_PERMIT for an output category (R163). -/
def Category.servicePermit (c : Category) : Bool := c = .run || c = .holdLaunch

/-- EMERGENCY_PERMIT for an output category (R163). -/
def Category.emergencyPermit (c : Category) : Bool := c ≠ .emergencyStop

/-- A cause record after a change its block reports (R160 to R162). -/
def CauseRecord.take (r : CauseRecord) (ch : CauseChange) (now : Ms) : CauseRecord :=
  match ch with
  | .raised cabin =>
    { r with
      state := .active
      lastTime := if r.state = .active then r.lastTime else now
      lastKind := if r.state = .active then r.lastKind else some .raised
      cabin := cabin
      raises := satInc r.raises }
  | .cleared =>
    if r.state = .active then { r with state := .latched, lastTime := now, lastKind := some .cleared } else r
  | .momentary cabin =>
    { r with
      state := .latched
      lastTime := now
      lastKind := some .momentary
      cabin := cabin
      raises := satInc r.raises }
  | .mirror .run =>
    if r.state = .active then { r with state := .inactive, lastTime := now, lastKind := some .cleared } else r
  | .mirror c =>
    if r.state = .active then
      if r.category = c then r else { r with category := c, lastTime := now, lastKind := some .category }
    else
      { r with
        state := .active
        category := c
        lastTime := now
        lastKind := some .raised
        cabin := none
        raises := satInc r.raises }

/-- A cause state as a number for reports. -/
def CauseState.code : CauseState → Nat
  | .inactive => 0
  | .active => 1
  | .latched => 2

/-- Whether a change is a momentary raise. -/
def CauseChange.isMomentary : CauseChange → Bool
  | .momentary _ => true
  | _ => false

/-- The record of a cause replaced. -/
def State.setCause (s : State) (c : Cause) (r : CauseRecord) : State :=
  s.setStc { s.stc with records := s.stc.records.set c.num r }

/-- A CAUSE_STATE report (R171). -/
def State.reportCauseState (s : State) (c : Cause) (old : CauseState) (r : CauseRecord) (momentary : Bool) : State :=
  s.report .causeState (some c) r.cabin
    [(old.code : Nat), (r.state.code : Nat), (r.category.code : Nat), (bit momentary : Nat)]

/-- A CAUSE_CATEGORY report (R171). -/
def State.reportCauseCategory (s : State) (c : Cause) (old new : Category) : State :=
  s.report .causeCategory (some c) none [(old.code : Nat), (new.code : Nat)]

/-- STC takes one condition of a report: the record changes, and a change of state, a momentary raise or a change of the
mirror's category is reported (R160 to R162, R171). -/
def State.takeCondition (s : State) (x : CauseReport) : State :=
  let old := s.cause x.cause
  let new := old.take x.change s.now
  let s' := s.setCause x.cause new
  if new.state ≠ old.state || x.change.isMomentary then
    s'.reportCauseState x.cause old.state new x.change.isMomentary
  else if new.category ≠ old.category then s'.reportCauseCategory x.cause old.category new.category
  else s'

/-- The highest category in force among the causes that are ACTIVE or LATCHED (R163). -/
def highestStanding (records : List CauseRecord) : Category :=
  records.foldl (fun m r => if r.state = .inactive then m else m.max r.category) .run

/-- The category of the valley's own stop: the highest category in force among the causes other than SUMMIT_STOP that are
ACTIVE or LATCHED (R138). -/
def State.ownCategory (s : State) : Category :=
  highestStanding ((Cause.all.filter fun c => c ≠ .summitStop).map s.cause)

/-- A cause that may have raised the output, with the cabin of its raise. -/
structure Riser where
  cause : Cause
  cabin : Option Nat
  deriving DecidableEq, Repr

/-- The causes that a report made ACTIVE or passed through ACTIVE, the mirror with no cabin (R165). -/
def risersOf (xs : List CauseReport) : List Riser :=
  xs.filterMap fun x =>
    match x.change with
    | .raised cabin | .momentary cabin => some { cause := x.cause, cabin := cabin }
    | .mirror .run => none
    | .mirror _ => some { cause := x.cause, cabin := none }
    | .cleared => none

/-- Of the causes that may have raised the output, the one of the highest category and, among equals, of the lowest
number (R165), with the cabin of its first raise where the report raises it twice (log entry 79). -/
def State.riser (s : State) (rs : List Riser) : Option Riser :=
  rs.foldl
    (fun best r =>
      match best with
      | none => some r
      | some b =>
        let cr := (s.cause r.cause).category.code
        let cb := (s.cause b.cause).category.code
        if cb < cr || (cb = cr && r.cause.num < b.cause.num) then some r else some b)
    none

/-- The rise entry of a rise to `c` (R165). -/
def State.riseEntry (s : State) (c : Category) (r : Riser) : RiseEntry :=
  { category := c, cause := r.cause, time := s.now, p := s.rpu.record.p, referenced := s.rpu.record.referenced,
    cabin := r.cabin }

/-- The first-out record in progress with a rise entered: at a rise from RUN it begins anew, and with 8 entries held a
further rise counts as overflow, a counter 0..255 (R165). -/
def FirstOut.rise (f : FirstOut) (fromRun : Bool) (e : RiseEntry) : FirstOut :=
  if fromRun then { entries := [e], overflow := 0 }
  else if f.entries.length < 8 then { f with entries := f.entries ++ [e] }
  else { f with overflow := if f.overflow < 255 then f.overflow + 1 else 255 }

/-- The output category and the permits set to `c`, with the first-out records (R163, R165, R166). -/
def State.setOutput (s : State) (c : Category) (rise : Option Riser) : State :=
  let old := s.stc.output
  let episode :=
    match rise with
    | some r => if old.code < c.code then s.stc.episode.rise (old = .run) (s.riseEntry c r) else s.stc.episode
    | none => s.stc.episode
  s.setStc
    { s.stc with
      output := c
      servicePermit := c.servicePermit
      emergencyPermit := c.emergencyPermit
      episode := if c = .run then FirstOut.empty else episode
      previous := if c = .run && old ≠ .run then s.stc.episode else s.stc.previous }

/-- An OUTPUT_CATEGORY report: the old and new category, the permits, and at a rise the cause of its entry (R171), or the
cause that an entry would name where 8 are held (log entry 68). -/
def State.reportOutput (s : State) (old : Category) (rise : Option Riser) : State :=
  let new := s.stc.output
  s.report .outputCategory (if old.code < new.code then rise.map Riser.cause else none) none
    [(old.code : Nat), (new.code : Nat), (bit s.stc.servicePermit : Nat), (bit s.stc.emergencyPermit : Nat)]

/-- LGT and ICM act on a change of the output category at its event (R164). -/
def State.tellOutput (s : State) : State :=
  (if s.launchHeld then s.withdrawRelease false else s).judgeEmergency

/-- STC forms the output category again (R163): with no change nothing follows; a change sets the permits, is reported,
and then reaches LGT and ICM (R164), whose CALL_STATE report follows OUTPUT_CATEGORY (R152; log entry 77). -/
def State.formOutput (s : State) (rs : List Riser) : State :=
  let c := highestStanding s.stc.records
  if c = s.stc.output then s
  else
    let rise := s.riser rs
    ((s.setOutput c rise).reportOutput s.stc.output rise).tellOutput

/-- The gathered conditions emptied. -/
def State.clearGathered (s : State) : State := s.setStc { s.stc with gathered := [] }

/-- STC takes conditions as one report: all their changes are made, in the order in which the conditions were gathered
(log entry 74) and reported, and the output category is then formed again (R160, R163; log entry 77). -/
def State.takeTogether (s : State) (xs : List CauseReport) : State :=
  (xs.foldl State.takeCondition s).formOutput (risersOf xs)

/-- Whether the conditions of a report are those of the block that judges a cause. -/
def reportOf (b : Block) : List CauseReport → Bool
  | [] => false
  | x :: _ => x.cause.block = b

/-- A condition added to the report of its block, or begun as a report of its own. -/
def addToReport (x : CauseReport) : List (List CauseReport) → List (List CauseReport)
  | [] => [[x]]
  | g :: rest => if reportOf x.cause.block g then (g ++ [x]) :: rest else g :: addToReport x rest

/-- What a command has gathered as reports, one for each block, in the order in which the blocks first spoke (R160). -/
def reportsOf (xs : List CauseReport) : List (List CauseReport) := xs.foldl (fun gs x => addToReport x gs) []

/-- STC takes what the blocks have gathered, the conditions of one block as one report (R160, R163; log entry 6). -/
def State.takeReport (s : State) : State :=
  match s.stc.gathered with
  | [] => s
  | xs => (reportsOf xs).foldl State.takeTogether s.clearGathered

/-- The mirror cause SUMMIT_STOP set from a summit category, RUN for absent (R138, R162). -/
def State.setMirror (s : State) (c : Category) : State :=
  if s.condition .summitStop = (c ≠ .run) && (c = .run || (s.cause .summitStop).category = c) then s
  else (s.holdCondition .summitStop (c ≠ .run)).gather { cause := .summitStop, change := .mirror c }

end Sys2Proof.Machine
end

