-- ==== Sys2Proof/Machine/DoorOps.lean ====
section
/-!
DEFINITION. The shared operations of the door sequencer: records, units, commands, the close test (chapter 5).
-/

namespace Sys2Proof.Machine

/-! ## Records and profiles -/

/-- A door record as it is made at a D1 arrival: every flag clear, every timer stopped, lock mode AUTO (R91). -/
def DoorRecord.fresh (serial : Nat) : DoorRecord where
  serial := serial
  closeRequested := false
  dwell := none
  dwellDone := false
  reopenWait := none
  settle := none
  reopens := 0
  reopened := false
  held := .notHeld
  holdOpen := false
  beyondReach := false
  lockMode := .auto
  openDropped := false

/-- A door record as it is made at a garage exit: beyond reach, with close requested set (R91), and the rest as at a D1
arrival (log entry 54). -/
def DoorRecord.fromGarage (serial : Nat) : DoorRecord :=
  { DoorRecord.fresh serial with closeRequested := true, beyondReach := true }

/-- The door record of an entry serial. -/
def State.doorRecord (s : State) (serial : Nat) : Option DoorRecord := s.dsq.records.find? fun r => r.serial = serial

/-- The state with the door records set. -/
def State.setDoorRecords (s : State) (rs : List DoorRecord) : State := s.setDsq { s.dsq with records := rs }

/-- The state with the door record of a serial changed. -/
def State.modRecord (s : State) (serial : Nat) (f : DoorRecord → DoorRecord) : State :=
  s.setDoorRecords (s.dsq.records.map fun r => if r.serial = serial then f r else r)

/-- The door profile of a registered cabin, or profile 0 for an anonymous entry; none while OPERATIONS is invalid (R90). -/
def State.profile (s : State) (cabin : Option Nat) : Option DoorProfile :=
  match s.tst.operations with
  | none => none
  | some o =>
    some (o.profiles.getD (match cabin with | some i => (s.reg i).stat.profile | none => 0) DoorProfile.zero)

/-- The registry index of whoever stands in an entry. -/
def Who.index : Who → Option Nat
  | .cabin i => some i
  | .anon _ _ _ => none

/-- The cabin field of a door frame: the cabin's ID, or 0 for an anonymous entry (R93). -/
def State.cabinField (s : State) (w : Who) : Nat := (s.whoId w).getD 0

/-- The command of an action on an entry. -/
def State.doorCommand (s : State) (e : StationEntry) (a : DoorAction) : DoorCommand :=
  { serial := e.serial, cabin := e.who.index, field := s.cabinField e.who, action := a }

/-- Whether door commands may be sent at all: the OPERATIONS and SAFETY groups are valid (R90, R96). -/
def State.doorsServed (s : State) : Bool := s.safetyValid && s.operationsValid

/-- The HOLD_OPEN flag of an entry: the registry's, or the door record's for an anonymous entry (R91). -/
def State.holdOpenOf (s : State) (e : StationEntry) : Bool :=
  match e.who with
  | .cabin i => (s.reg i).holdOpen
  | .anon _ _ _ => match s.doorRecord e.serial with | some r => r.holdOpen | none => false

/-- The HOLD_OPEN flag of an entry set or cleared. -/
def State.setHoldOpen (s : State) (e : StationEntry) (b : Bool) : State :=
  match e.who with
  | .cabin i => s.modReg i fun r => { r with holdOpen := b }
  | .anon _ _ _ => s.modRecord e.serial fun r => { r with holdOpen := b }

/-- Whether an entry is a cabin between D7 and D8 after a confirmed release: it stands in the attach watch (R29, R42). -/
def State.launched (s : State) (e : StationEntry) : Bool := s.lgt.watch.any fun w => e.who = .cabin w.cabin

/-- A change of an entry's door state, handed to CTR, which reports the head of S6 (R89, R85). The door state of a cabin
between D7 and D8 after a confirmed release is not changed (R42; log entry 60). -/
def State.changeDoor (s : State) (e : StationEntry) (d : DoorState) : State :=
  if s.launched e then s else (s.setDoor e d).reportHead

/-- The DOOR_OBSTRUCTION condition: at least one record is held with reason OBSTRUCTION (R101). -/
def State.judgeObstruction (s : State) (cabin : Option Nat := none) : State :=
  s.judge .doorObstruction (s.dsq.records.any fun r => r.held = .obstruction) cabin

/-! ## Units -/

/-- A door unit record. -/
def State.doorUnit (s : State) : DoorUnitName → DoorUnit
  | .openUnit => s.dsq.openUnit
  | .closeUnit => s.dsq.closeUnit

/-- The state with a door unit record set. -/
def State.setDoorUnit (s : State) (u : DoorUnitName) (x : DoorUnit) : State :=
  match u with
  | .openUnit => s.setDsq { s.dsq with openUnit := x }
  | .closeUnit => s.setDsq { s.dsq with closeUnit := x }

/-- The role of a door unit's node. -/
def unitRole : DoorUnitName → Role
  | .openUnit => .doorOpenUnit
  | .closeUnit => .doorCloseUnit

/-- A door unit as a number for reports: OPEN 0, CLOSE 1. -/
def unitNumber : DoorUnitName → Nat
  | .openUnit => 0
  | .closeUnit => 1

/-- The frame kind of a door action. -/
def DoorAction.kind : DoorAction → RingKind
  | .openDoor => .doorOpen
  | .closeDoor _ => .doorClose
  | .lockDoor => .doorLock

/-- The payload of a door frame (chapter 12, codes 18 to 20). -/
def DoorCommand.word (c : DoorCommand) : Word :=
  match c.action with
  | .closeDoor .separate => place 1 16 ||| place c.field 0
  | _ => place c.field 0

/-- The frame of a door command, addressed to the unit's node. -/
def State.doorFrame (s : State) (u : DoorUnitName) (c : DoorCommand) (tag : Nat) : EgressFrame :=
  { kind := c.action.kind, mask := s.roleMask (unitRole u), tag := tag, payload := [c.word], restartReply := false }

/-- The ID a door report names; absent for an anonymous entry. -/
def DoorCommand.id (c : DoorCommand) : Option Nat := if c.cabin.isSome then some c.field else none

/-- A command as a unit's BUSY command. -/
def busyWith (c : DoorCommand) (tag retries : Nat) (phase : CommandPhase) : UnitState :=
  .busy { cmd := c, tag := tag, phase := phase, retries := retries, before := .unknown, acted := false }

/-- DSQ's tag sequence advanced, as at each offer (R93). -/
def State.advanceDoorTag (s : State) : State := s.setDsq { s.dsq with tagSeq := (s.dsq.tagSeq + 1) % 8 }

/-- A unit's BUSY command set. -/
def State.setUnitState (s : State) (u : DoorUnitName) (x : UnitState) : State :=
  s.setDoorUnit u { s.doorUnit u with state := x }

/-- The first offer of a command: accepted, it is QUEUED; a refusal by a full CONTROL queue is taken as a NACK of reason
BUSY, and the command waits to retry (R93, R103). -/
def State.offerFirst (s : State) (u : DoorUnitName) (c : DoorCommand) : State :=
  let tag := s.dsq.tagSeq
  let s' := s.advanceDoorTag
  if s'.controlRoom then
    (s'.placeControl (s'.doorFrame u c tag)).setUnitState u (busyWith c tag 0 .queued)
  else s'.setUnitState u (busyWith c tag 1 (.retryWait (s'.after 20)))

/-- Whether a pending command may still be sent: no close or lock is sent for a held record until DOOR_RETRY (R91; log
entry 55). -/
def State.maySend (s : State) (c : DoorCommand) : Bool :=
  c.action = .openDoor || (match s.doorRecord c.serial with | some r => r.held = .notHeld | none => true)

/-- A unit becomes IDLE, and its pending command, if it holds one that may still be sent, becomes its BUSY command and is
offered (R91, R92; log entry 55). -/
def State.unitToIdle (s : State) (u : DoorUnitName) : State :=
  match (s.doorUnit u).pending with
  | none => s.setUnitState u .idle
  | some c =>
    let s1 := s.setDoorUnit u { s.doorUnit u with state := .idle, pending := none }
    if s.maySend c then s1.offerFirst u c else s1

/-- The reason of a DOOR_DRIVE_FAULT report as a number: BACKLOG 0, FAULT_REPORT 1, NACK_LIMIT 2, UNSUPPORTED 3. -/
inductive DriveReason where
  | backlog
  | faultReport
  | nackLimit
  | unsupported
  deriving DecidableEq, Repr

/-- The number of a DOOR_DRIVE_FAULT reason. -/
def DriveReason.code : DriveReason → Nat
  | .backlog => 0
  | .faultReport => 1
  | .nackLimit => 2
  | .unsupported => 3

/-- DOOR_DRIVE_FAULT raised, with its report (R94, R98, R103). -/
def State.driveFault (s : State) (u : DoorUnitName) (c : DoorCommand) (r : DriveReason) : State :=
  (s.raise .doorDriveFault c.id).report .doorDriveFault none c.id [(r.code : Nat), (unitNumber u : Nat)]

/-- The record of a command that is dropped or abandoned: an open sets the open dropped flag, a close or a lock holds
the record with reason DRIVE (R94, R103), also one held with reason OBSTRUCTION, and DOOR_OBSTRUCTION is not judged then
(log entry 63). -/
def State.markDropped (s : State) (c : DoorCommand) : State :=
  match c.action with
  | .openDoor => s.modRecord c.serial fun r => { r with openDropped := true }
  | _ => s.modRecord c.serial fun r => { r with held := .drive }

/-- Whether a command phase is not yet sent. -/
def CommandPhase.unsent : CommandPhase → Bool
  | .sent _ => false
  | _ => true

/-- A unit's BUSY command withdrawn where it is not yet sent and `p` holds of it: its frame leaves the CONTROL queue, its
retry timer stops, and the unit becomes IDLE (R92, R103). -/
def State.withdrawBusy (s : State) (u : DoorUnitName) (p : DoorCommand → Bool) : State :=
  match (s.doorUnit u).state with
  | .busy b =>
    if b.phase.unsent && p b.cmd then
      (if b.phase = .queued then s.withdrawControl b.cmd.action.kind b.tag else s).unitToIdle u
    else s
  | _ => s

/-- A unit's BUSY command withdrawn where it is not yet sent and its record is held: it is not inserted, nor offered again,
until DOOR_RETRY (R91; log entry 55). -/
def State.withdrawHeld (s : State) (u : DoorUnitName) : State := s.withdrawBusy u fun c => !s.maySend c

/-- DSQ issues a command to a unit: an IDLE unit takes it, a BUSY or recovering one holds it as its pending command, and
one that already holds a pending command drops it as a backlog, with which a QUEUED or refused command of a record so
held is withdrawn (R91, R92, R94; log entry 55). -/
def State.issueDoor (s : State) (u : DoorUnitName) (c : DoorCommand) : State :=
  match (s.doorUnit u).state, (s.doorUnit u).pending with
  | .idle, none => s.offerFirst u c
  | _, none => s.setDoorUnit u { s.doorUnit u with pending := some c }
  | _, some _ => ((s.driveFault u c .backlog).markDropped c).withdrawHeld u

/-- An abandoned command (R103): the unit becomes IDLE and its pending command follows. -/
def State.abandonDoor (s : State) (u : DoorUnitName) (c : DoorCommand) (r : DriveReason) : State :=
  ((s.driveFault u c r).markDropped c).unitToIdle u

/-- A command refused with reason BUSY: below 3 retries it waits 20 ms, and then it is abandoned (R103). -/
def State.refuseDoor (s : State) (u : DoorUnitName) (c : DoorCommand) (tag retries : Nat) : State :=
  if retries < 3 then s.setUnitState u (busyWith c tag (retries + 1) (.retryWait (s.after 20)))
  else s.abandonDoor u c .nackLimit

/-- A command offered again, with a new tag (R93, R103). -/
def State.offerAgain (s : State) (u : DoorUnitName) (c : DoorCommand) (retries : Nat) : State :=
  let tag := s.dsq.tagSeq
  let s' := s.advanceDoorTag
  if s'.controlRoom then
    (s'.placeControl (s'.doorFrame u c tag)).setUnitState u (busyWith c tag retries .queued)
  else s'.refuseDoor u c tag retries

/-- A unit's action completes: it enters RECOVER for the profile's t_recover (R95). A unit with no profile in force
starts no timer (R90) and is IDLE at once. -/
def State.completeUnit (s : State) (u : DoorUnitName) (cabin : Option Nat) : State :=
  match s.profile cabin with
  | some p => s.setUnitState u (.recover (s.after p.tRecover))
  | none => s.unitToIdle u

/-- A unit's pending command withdrawn where `p` holds of it. -/
def State.withdrawPending (s : State) (u : DoorUnitName) (p : DoorCommand → Bool) : State :=
  match (s.doorUnit u).pending with
  | some c => if p c then s.setDoorUnit u { s.doorUnit u with pending := none } else s
  | none => s

/-- Every command of a unit that is not yet sent and of which `p` holds is withdrawn, pending, QUEUED or in RETRY_WAIT
(R106, R108 to R111). -/
def State.withdrawUnsent (s : State) (u : DoorUnitName) (p : DoorCommand → Bool) : State :=
  (s.withdrawPending u p).withdrawBusy u p

/-- Every unsent command for an entry withdrawn at either unit. -/
def State.withdrawAllFor (s : State) (serial : Nat) : State :=
  (s.withdrawUnsent .openUnit fun c => c.serial = serial).withdrawUnsent .closeUnit fun c => c.serial = serial

/-- Whether an action is a close. -/
def DoorAction.isClose : DoorAction → Bool
  | .closeDoor _ => true
  | _ => false

/-- A DOOR_CLOSE issued for an entry and not yet sent withdrawn (R106, R110). -/
def State.withdrawClose (s : State) (serial : Nat) : State :=
  s.withdrawUnsent .closeUnit fun c => c.serial = serial && c.action.isClose

/-- Whether a DOOR_CLOSE is issued for an entry and not yet sent (R99). -/
def State.closeIssued (s : State) (serial : Nat) : Bool :=
  let u := s.dsq.closeUnit
  (match u.pending with | some c => c.serial = serial && c.action.isClose | none => false) ||
    (match u.state with
     | .busy b => b.phase.unsent && b.cmd.serial = serial && b.cmd.action.isClose
     | _ => false)

/-! ## Timers of a record -/

/-- The dwell timer started afresh: dwell done no longer holds. A record beyond reach, or with no profile in force,
starts no timer (R90, R91). -/
def State.startDwell (s : State) (e : StationEntry) : State :=
  match s.profile e.who.index with
  | some p =>
    s.modRecord e.serial fun r =>
      if r.beyondReach then { r with dwell := none, dwellDone := false }
      else { r with dwell := some (s.after p.tDwell), dwellDone := false }
  | none => s.modRecord e.serial fun r => { r with dwell := none, dwellDone := false }

/-- The door of an entry has entered OPEN: the dwell timer is started afresh, and a DOOR_CLOSE not yet sent is withdrawn,
since none is sent before the dwell is over; R99 then issues it (R91, R95; log entry 55). -/
def State.enterOpen (s : State) (e : StationEntry) : State := (s.startDwell e).withdrawClose e.serial

/-- The settle timer started for the profile's t_settle (R98, R100). -/
def State.startSettle (s : State) (e : StationEntry) : State :=
  match s.profile e.who.index with
  | some p => s.modRecord e.serial fun r => if r.beyondReach then r else { r with settle := some (s.after p.tSettle) }
  | none => s

/-- The reopen wait timer started for the profile's t_reopen_wait (R101). -/
def State.startReopenWait (s : State) (e : StationEntry) : State :=
  match s.profile e.who.index with
  | some p =>
    s.modRecord e.serial fun r => if r.beyondReach then r else { r with reopenWait := some (s.after p.tReopenWait) }
  | none => s

/-- The dwell, reopen wait and settle timers of a record stopped. -/
def DoorRecord.stopTimers (r : DoorRecord) : DoorRecord := { r with dwell := none, reopenWait := none, settle := none }

/-! ## Issuing (R96, R99, R100) -/

/-- Whether the close conditions of R99 hold. -/
def State.closeReady (s : State) (e : StationEntry) (r : DoorRecord) : Bool :=
  s.doorOf e.who = .opened && r.closeRequested && r.dwellDone && r.reopenWait.isNone && !s.holdOpenOf e &&
    r.held = .notHeld && !r.beyondReach && !s.closeIssued e.serial && s.doorsServed

/-- The lock mode a close is issued with (R99). -/
def DoorRecord.closeMode (r : DoorRecord) : LockMode := if r.reopened then .separate else .auto

/-- The close test: DOOR_CLOSE is issued where the close conditions hold, and the record keeps its lock mode (R99). -/
def State.closeTest (s : State) (serial : Nat) : State :=
  match s.entry serial, s.doorRecord serial with
  | some e, some r =>
    if s.closeReady e r then
      (s.modRecord serial fun x => { x with lockMode := r.closeMode }).issueDoor .closeUnit
        (s.doorCommand e (.closeDoor r.closeMode))
    else s
  | _, _ => s

/-- DOOR_OPEN at a forward D2 passage (R96). -/
def State.openAtD2 (s : State) (e : StationEntry) : State :=
  if s.dsq.mode = .closedRun then s
  else if s.doorOf e.who ≠ .locked then
    s.report .doorOpenSkipped none (s.whoId e.who) [((s.doorOf e.who).code : Nat)]
  else if s.doorsServed && (match s.doorRecord e.serial with | some r => !r.openDropped | none => false) then
    s.issueDoor .openUnit (s.doorCommand e .openDoor)
  else s

/-! ## Insertion (R93) -/

/-- The door state a command sets at its insertion, and the allowance its deadline runs for. -/
def DoorAction.atInsertion (a : DoorAction) (p : DoorProfile) : DoorState × Nat :=
  match a with
  | .openDoor => (.opening, p.tOpenMax)
  | .closeDoor _ => (.closing, p.tCloseMax)
  | .lockDoor => (.locking, p.tCloseMax)

/-- RNG reports the insertion of a unit's QUEUED command: the phase becomes SENT, the door state and the deadline are
set (R93). The record of the last timed-out action stands until its late report or the next timeout (R102; log entry
22). -/
def State.insertDoor (s : State) (u : DoorUnitName) (b : BusyCommand) : State :=
  match s.entry b.cmd.serial, s.profile b.cmd.cabin with
  | some e, some p =>
    let (d, allowance) := b.cmd.action.atInsertion p
    (s.setDoorUnit u
      { s.doorUnit u with
        state := .busy { b with phase := .sent (s.after allowance), before := s.doorOf e.who } }).changeDoor e d
  | _, _ => s

/-- RNG reports the insertion of a door frame to DSQ, naming its kind and tag. -/
def State.doorInserted (s : State) (kind : RingKind) (tag : Nat) : State :=
  let try1 (u : DoorUnitName) : Option BusyCommand :=
    match (s.doorUnit u).state with
    | .busy b => if b.phase = .queued && b.tag = tag && b.cmd.action.kind = kind then some b else none
    | _ => none
  match try1 .openUnit, try1 .closeUnit with
  | some b, _ => s.insertDoor .openUnit b
  | none, some b => s.insertDoor .closeUnit b
  | none, none => s

/-! ## Departure (R111) -/

/-- DSQ ends the door record of an entry that has left the station queue: its unsent commands are withdrawn and
DOOR_OBSTRUCTION is judged again; the HOLD_OPEN flag of a registered cabin is cleared (R106, R111). -/
def State.doorDeparted (s : State) (e : StationEntry) : State :=
  let s1 := (s.withdrawAllFor e.serial).setHoldOpen e false
  (s1.setDoorRecords (s1.dsq.records.filter fun r => r.serial ≠ e.serial)).judgeObstruction

end Sys2Proof.Machine
end

