-- ==== Sys2Proof/Machine/TrackOps.lean ====
section
/-!
DEFINITION. The shared operations of the cabin tracker: serials, segments, departures, moves between collections, the
switch demand, the garage exit, and the matching of arrivals (chapters 3 and 4).
-/

namespace Sys2Proof.Machine

/-- The SAFETY tables in force; while the group is invalid its default contents stand in. A part
without the group takes no frame of a field node, and of the rules it then still meets only that of LOCATE_CABIN reads
them (log entry 48). -/
def State.tables (s : State) : SafetyTables := s.tst.safety.getD SafetyTables.default

/-! ## Serials (R62) -/

/-- Whether an entry of the queue or of the garage stack holds a serial. -/
def State.serialHeld (s : State) (n : Nat) : Bool :=
  s.ctr.queue.any (fun e => e.serial = n) || s.ctr.garage.any (fun e => e.serial = n)

/-- The next serial, in order and wrapping, that no entry holds: at most 80 are held. -/
def State.freshSerial (s : State) : Nat :=
  match ((List.range 81).map fun d => (s.ctr.nextSerial + d) % 65536).find? fun n => !s.serialHeld n with
  | some n => n
  | none => s.ctr.nextSerial

/-- A serial taken: the next one to try follows it. -/
def State.takeSerial (s : State) (n : Nat) : State := s.setCtr { s.ctr with nextSerial := (n + 1) % 65536 }

/-! ## Momentary causes with their reports -/

/-- PHANTOM_PASSAGE raised by CTR, with a report that names the detector: 2 to 6 for D2 to D6 (R66, R67), and 9 for DG,
for which R77 names no report (log entry 61). -/
def State.phantom (s : State) (detector : Nat) : State :=
  (s.raise .phantomPassage none).report .phantomPassage none none [(detector : Nat)]

/-- REVERSE_PASSAGE_FAULT raised, with a report that names the detector: 1, 7, 8, or 9 for DG (R68). -/
def State.reversePassage (s : State) (detector : Nat) : State :=
  (s.raise .reversePassageFault none).report .reversePassage none none [(detector : Nat)]

/-! ## Capacities (R69) -/

/-- The number of entries of a segment. -/
def State.segmentCount (s : State) (g : Segment) : Nat := (s.inSegment g).length

/-- The segments that hold more entries than their capacity in force. -/
def State.fullSegments (s : State) : List Segment :=
  match s.tst.safety with
  | some t => Segment.all.filter fun g => t.caps.getD (g.num - 1) 0 < s.segmentCount g
  | none => []

/-- SEGMENT_FULL judged: at a change to present a report names the segments over capacity (R69). -/
def State.judgeSegments (s : State) : State :=
  let full := s.fullSegments
  if !full.isEmpty && !s.condition .segmentFull then
    (s.judge .segmentFull true).report .segmentFull none none (full.map fun g => (g.num : Nat))
  else s.judge .segmentFull (!full.isEmpty)

/-! ## The switch (R72) -/

/-- The switch demand: the route of the oldest entry of S5, none while S5 is empty. -/
def State.switchDemand (s : State) : Option SwitchPosition := (s.oldest .s5).bind fun e => e.route.position

/-- CTR's tag sequence advanced, as at each command it sends. -/
def State.advanceTrackTag (s : State) : State := s.setCtr { s.ctr with tagSeq := (s.ctr.tagSeq + 1) % 8 }

/-- SWITCH_SET offered: taken, the commanded position is the one demanded; refused, it is UNKNOWN (R72). -/
def State.commandSwitch (s : State) (p : SwitchPosition) : State :=
  if s.controlRoom then
    let tag := s.ctr.tagSeq
    let s1 :=
      s.placeControl
        { kind := .switchSet, mask := s.roleMask .switch, tag := tag, payload := [place p.code 0], restartReply := false }
    (s1.setCtr { s1.ctr with commanded := some p, lastSwitchTag := some tag }).advanceTrackTag
  else (s.setCtr { s.ctr with commanded := none }).report .switchRefused none none []

/-- The switch demand judged: a demanded position that differs from the last commanded one is sent. While the SAFETY group
is invalid no field command is sent (R72). -/
def State.judgeSwitch (s : State) : State :=
  match s.switchDemand with
  | some p => if s.safetyValid && s.ctr.commanded ≠ some p then s.commandSwitch p else s
  | none => s

/-! ## The garage exit (R75, R76) -/

/-- Whether the conditions of R76 hold. -/
def State.exitReady (s : State) : Bool :=
  0 < s.ctr.exitPending && s.ctr.exitCommand.isNone && (s.inSegment .s4).isEmpty && !s.ctr.garage.isEmpty &&
    s.ctr.queue.length < 32 && s.safetyValid

/-- The garage exit test: GARAGE_EXIT_COMMAND is offered where its conditions hold; accepted, it is outstanding for
30,000 ms (R76). -/
def State.judgeGarageExit (s : State) : State :=
  match s.ctr.garage with
  | top :: _ =>
    if s.exitReady && s.controlRoom then
      let tag := s.ctr.tagSeq
      let s1 :=
        s.placeControl
          { kind := .garageExitCommand, mask := s.roleMask .garageDrive, tag := tag, payload := [], restartReply := false }
      (s1.setCtr
        { s1.ctr with exitCommand := some { tag := tag, serial := top.serial, deadline := s1.after 30000 } }).advanceTrackTag
    else s
  | [] => s

/-- RNG reports the insertion of the GARAGE_EXIT_COMMAND of a tag: the deadline of the outstanding command starts from this
event (R181; log entry 59). -/
def State.exitInserted (s : State) (tag : Nat) : State :=
  s.setCtr
    { s.ctr with
      exitCommand :=
        s.ctr.exitCommand.map fun c => if c.tag = tag then { c with deadline := s.after 30000 } else c }

/-- An outstanding garage exit command ends (R77, R79). -/
def State.endExitCommand (s : State) : State := s.setCtr { s.ctr with exitCommand := none }

/-! ## Departures (R63) -/

/-- The attach watch without the entry of a cabin, whose slot returns to EMPTY if it is still RELEASING for it (R63). -/
def State.unwatch (s : State) (who : Who) : State :=
  match who with
  | .anon _ _ _ => s
  | .cabin i =>
    match s.lgt.watch.find? fun w => w.cabin = i with
    | some w =>
      (s.setLgt { s.lgt with watch := s.lgt.watch.filter fun x => x.cabin ≠ i }).freeSlotIf w.slot (.releasing i)
    | none => s

/-- Whether the garage exit is judged again at a departure: S4 has become empty, or the queue has fallen below 32
entries (R63, R76). -/
def departureOpensExit (before after : State) : Bool :=
  (!(before.inSegment .s4).isEmpty && (after.inSegment .s4).isEmpty) ||
    (32 ≤ before.ctr.queue.length && after.ctr.queue.length < 32)

/-- An entry leaves the station queue, with the consequences of R63 in the order given there. -/
def State.leaveStation (s : State) (e : StationEntry) : State :=
  let s1 := s.setQueue (s.ctr.queue.filter fun x => x.serial ≠ e.serial)
  let s2 := ((((s1.judgeSegments).unwatch e.who).reportHead).doorDeparted e).judgeSwitch
  if departureOpensExit s s2 then s2.judgeGarageExit else s2

/-! ## The collections (R40, R41) -/

/-- A registry index placed among the ascending ones of a set; no index twice. -/
def insertIndex (i : Nat) : List Nat → List Nat
  | [] => [i]
  | x :: rest => if i < x then i :: x :: rest else if i = x then x :: rest else x :: insertIndex i rest

/-- The location field of a cabin set. -/
def State.setLocation (s : State) (i : Nat) (l : Location) : State := s.modReg i fun r => { r with location := l }

/-- The OVERDUE flag of a cabin cleared (R52). -/
def State.clearOverdue (s : State) (i : Nat) : State := s.modReg i fun r => { r with overdue := false }

/-- The cabin leaves the uphill list, and the slot it held returns to EMPTY (R41). -/
def State.leaveUphill (s : State) (i : Nat) : State :=
  match s.ctr.uphill.find? fun u => u.cabin = i with
  | some u => (s.setCtr { s.ctr with uphill := s.ctr.uphill.filter fun x => x.cabin ≠ i }).setSlot u.slot .empty
  | none => s

/-- The cabin leaves the downhill list, and the slot it held returns to EMPTY (R41). -/
def State.leaveDownhill (s : State) (i : Nat) : State :=
  match s.ctr.downhill.find? fun d => d.cabin = i with
  | some d => (s.setCtr { s.ctr with downhill := s.ctr.downhill.filter fun x => x.cabin ≠ i }).setSlot d.slot .empty
  | none => s

/-- The cabin leaves the collection that its location field names, from wherever it stands there (R41). -/
def State.takeOut (s : State) (i : Nat) : State :=
  match (s.reg i).location with
  | .station => match s.entryOfCabin i with | some e => s.leaveStation e | none => s
  | .garage => s.setCtr { s.ctr with garage := s.ctr.garage.filter fun g => g.who ≠ .cabin i }
  | .uphill => s.leaveUphill i
  | .downhill => s.leaveDownhill i
  | .summit => s.setCtr { s.ctr with summit := s.ctr.summit.filter fun x => x ≠ i }
  | .unlocated => s.setCtr { s.ctr with unlocated := s.ctr.unlocated.filter fun x => x ≠ i }
  | .outOfService => s

/-- The slot that the pending release books for a cabin returned to EMPTY (R42, R43, R46, R56). A release already sent
stands and no longer owns the slot (R63; log entry 47). -/
def State.freeReleaseSlot (s : State) (i : Nat) : State :=
  match s.lgt.pending with
  | some p => if p.cabin = i then s.freeSlotIf p.slot (.releasePending i) else s
  | none => s

/-- A booked cabin taken from where it stands, with every slot it held returned to EMPTY (R42, R43, R46, R56). -/
def State.takeBooked (s : State) (i : Nat) : State := (s.takeOut i).freeReleaseSlot i

/-- The cabin joins the summit set, its OVERDUE flag cleared (R45, R52). -/
def State.joinSummit (s : State) (i : Nat) : State :=
  ((s.setCtr { s.ctr with summit := insertIndex i s.ctr.summit }).setLocation i .summit).clearOverdue i

/-- The cabin joins the unlocated set. -/
def State.joinUnlocated (s : State) (i : Nat) : State :=
  (s.setCtr { s.ctr with unlocated := insertIndex i s.ctr.unlocated }).setLocation i .unlocated

/-- What a CABIN_UNLOCATED report names: the cause, or the event kind, of the booking (R41). -/
inductive UnlocatedBy where
  | cause (c : Cause)
  | downhillFull
  | attachUnslotted
  | cabinRemoved
  deriving DecidableEq, Repr

/-- The cause field of a CABIN_UNLOCATED report. -/
def UnlocatedBy.causeField : UnlocatedBy → Option Cause
  | .cause c => some c
  | _ => none

/-- The event kind of the booking as a number: 0 where a cause is named. -/
def UnlocatedBy.code : UnlocatedBy → Nat
  | .cause _ => 0
  | .downhillFull => 1
  | .attachUnslotted => 2
  | .cabinRemoved => 3

/-- A CABIN_UNLOCATED report: the cabin, the collection it left, and the cause or event kind of the booking (R41). A
cabin that was in the unlocated set has not moved into it (log entry 32). -/
def State.reportUnlocated (s : State) (i : Nat) (left : Location) (b : UnlocatedBy) : State :=
  if left = .unlocated then s
  else s.report .cabinUnlocated b.causeField (some (s.idOf i)) [(left.code : Nat), (b.code : Nat)]

/-- A move of one cabin to the unlocated set (R41). -/
def State.unlocate (s : State) (i : Nat) (b : UnlocatedBy) : State :=
  ((s.takeOut i).joinUnlocated i).reportUnlocated i (s.reg i).location b

/-! ## Arrival matching (R43) -/

/-- The end at which a cabin arrives. -/
inductive Terminal where
  | valley
  | summit
  deriving DecidableEq, Repr

/-- The registry indices of the list an end expects its arrivals from, head first: the downhill list at the valley, the
uphill list at the summit. -/
def State.expectedList (s : State) : Terminal → List Nat
  | .valley => s.ctr.downhill.map DownhillEntry.cabin
  | .summit => s.ctr.uphill.map UphillEntry.cabin

/-- The slot recorded for a cabin on the list an end expects it from. -/
def State.expectedSlot (s : State) (x : Terminal) (i : Nat) : Option Nat :=
  match x with
  | .valley => (s.ctr.downhill.find? fun d => d.cabin = i).map DownhillEntry.slot
  | .summit => (s.ctr.uphill.find? fun u => u.cabin = i).map UphillEntry.slot

/-- The cabins of a list ahead of `i`, oldest first. -/
def cabinsAhead (list : List Nat) (i : Nat) : List Nat := list.takeWhile fun x => x ≠ i

/-- The skipped entries move to the unlocated set, oldest first, with MISSING_CABIN as the cause named (R43). -/
def State.skipCabins (s : State) : List Nat → State
  | [] => s
  | i :: rest => (s.unlocate i (.cause .missingCabin)).skipCabins rest

/-- DUPLICATE_CABIN raised, with a report that names the collection left (R43, R46). -/
def State.duplicate (s : State) (i : Nat) (left : Location) : State :=
  (s.raise .duplicateCabin (some (s.idOf i))).report .duplicateCabin none (some (s.idOf i)) [(left.code : Nat)]

/-- The arrival matching rule up to the cabin's leaving of its collection; the destination is joined by the caller
(R43). -/
def State.matchArrival (s : State) (x : Terminal) (i : Nat) : State :=
  let list := s.expectedList x
  if i ∈ list then
    match cabinsAhead list i with
    | [] => s.takeBooked i
    | skipped => ((s.raise .missingCabin (some (s.idOf i))).skipCabins skipped).takeBooked i
  else if (s.reg i).location = .unlocated then s.takeBooked i
  else (s.duplicate i (s.reg i).location).takeBooked i

/-! ## Entries (R62, R65, R77) -/

/-- An entry appended at the tail of the queue. -/
def State.appendEntry (s : State) (e : StationEntry) : State := s.setQueue (s.ctr.queue ++ [e])

/-- The queue with an entry placed at the tail of S4: behind the entries of S4 to S7, ahead of any in S3, S2 or S1
(R62, R77). -/
def placeInS4 (q : List StationEntry) (e : StationEntry) : List StationEntry :=
  q.takeWhile (fun x => 4 ≤ x.segment.num) ++ e :: q.dropWhile (fun x => 4 ≤ x.segment.num)

/-- The segment of an entry set; it keeps its place in the order (R66, R67). -/
def State.moveEntry (s : State) (e : StationEntry) (g : Segment) : State :=
  (s.modEntry e.serial fun x => { x with segment := g }).judgeSegments

/-- The garage stack with an entry pushed at the top. -/
def State.pushGarage (s : State) (g : GarageEntry) : State := s.setCtr { s.ctr with garage := g :: s.ctr.garage }

/-- The head of S6 goes to S7, with SLOTLESS set where no slot is booked to it, and the change of head is reported
(R29, R30, R85). -/
def State.headToS7 (s : State) (e : StationEntry) (slotless : Bool) : State :=
  ((s.modEntry e.serial fun x => { x with segment := .s7, slotless := slotless }).judgeSegments).reportHead

/-- OVERDUE_AT_SUMMIT, or OVERDUE_AT_VALLEY, for a list head: the flag is set, the cause raised and a report queued
(R51). -/
def State.markOverdue (s : State) (c : Cause) (k : EventKind) (i slot : Nat) (travel : Int) : State :=
  ((s.modReg i fun r => { r with overdue := true }).raise c (some (s.idOf i))).report k none (some (s.idOf i))
    [(slot : Nat), travel]

/-- The check of the uphill head (R51). -/
def State.checkUphill (s : State) : State :=
  match s.ctr.uphill with
  | u :: _ =>
    let travel := s.rpu.odo - u.oRelease
    if !(s.reg u.cabin).overdue && ((s.tables.U + s.tables.tolArr : Nat) : Int) < travel then
      s.markOverdue .overdueAtSummit .overdueAtSummit u.cabin u.slot travel
    else s
  | [] => s

/-- The check of the downhill head (R51). -/
def State.checkDownhill (s : State) : State :=
  match s.ctr.downhill with
  | d :: _ =>
    let travel := s.rpu.odo - d.oReport
    if !(s.reg d.cabin).overdue && ((s.tables.Dn + s.tables.tolArr : Nat) : Int) < travel then
      s.markOverdue .overdueAtValley .overdueAtValley d.cabin d.slot travel
    else s
  | [] => s

/-- CTR's part of a position update (R9, R51). -/
def State.trackUpdate (s : State) : State := s.checkUphill.checkDownhill

end Sys2Proof.Machine
end

