-- ==== Sys2Proof/Machine/Reconcile.lean ====
section
/-!
DEFINITION. The request table, the reconcile and the answers to the summit's requests (R53 to R57, R140 to R142).
-/

namespace Sys2Proof.Machine

/-- The reconcile set. -/
def State.setReconcile (s : State) (r : Reconcile) : State := s.setCtr { s.ctr with reconcile := r }

/-! ## The request table (R140) -/

/-- Whether an entry of the request table holds a tag. -/
def Slk.tagHeld (k : Slk) (tag : Nat) : Bool := k.requests.any fun e => e.tag = tag

/-- The first tag to try after the last one taken: 0 after a reset (R144). -/
def nextTag (last : Option Nat) : Nat := match last with | some t => (t + 1) % 8 | none => 0

/-- The next tag, counting on modulo 8 from the last tag taken, that no entry holds. -/
def Slk.freeTag (k : Slk) : Option Nat :=
  ((List.range 8).map fun d => (nextTag k.lastTag + d) % 8).find? fun t => !k.tagHeld t

/-- The entry of a tag leaves the request table; a REQUEST frame that still waits for it leaves the ANSWERED transmit
queue, which holds one for each QUEUED entry (R140; log entry 49). -/
def State.freeRequest (s : State) (tag : Nat) : State :=
  s.setSlk
    { s.slk with
      requests := s.slk.requests.filter fun e => e.tag ≠ tag
      txAnswered := s.slk.txAnswered.filter fun f => f.tag ≠ tag }

/-- The REQUEST frame of SUMMIT_SET_QUERY. -/
def summitSetQueryFrame (tag : Nat) : LinkFrame :=
  { cls := .answered, kind := RequestKind.summitSetQuery.code, tag := tag, payload := [] }

/-- A request accepted: the entry is made QUEUED and its frame joins the ANSWERED transmit queue (R140). -/
def State.acceptRequest (s : State) (tag : Nat) : State :=
  s.setSlk
    { s.slk with
      requests :=
        s.slk.requests ++ [{ tag := tag, kind := .summitSetQuery, requester := .cabinTracker, deadline := none }]
      lastTag := some tag
      txAnswered := s.slk.txAnswered ++ [summitSetQueryFrame tag] }

/-! ## The reconcile (R53 to R56) -/

/-- The tag of the attempt in progress. -/
def Reconcile.tag : Reconcile → Option Nat
  | .querying t _ => some t
  | _ => none

/-- An attempt fails: the tag is freed, the parts are discarded, the failure is counted, and a retry waits 2000 ms if the
link is UP (R55). -/
def State.failReconcile (s : State) : State :=
  let s1 := match s.ctr.reconcile.tag with | some t => s.freeRequest t | none => s
  s1.setCtr
    { s1.ctr with
      reconcileFailures := satInc s1.ctr.reconcileFailures
      reconcile := if s1.slk.link = .up then .retryWait (s1.after 2000) else .idle }

/-- A query is issued: SLK refuses it while the link is not UP or the table holds 8 entries, and the attempt then fails
at once (R54, R140). -/
def State.issueQuery (s : State) : State :=
  let s1 := s.setReconcile .idle
  if s1.slk.link = .up && s1.slk.requests.length < 8 then
    match s1.slk.freeTag with
    | some t => (s1.acceptRequest t).setReconcile (.querying t none)
    | none => s1.failReconcile
  else s1.failReconcile

/-- A start of a reconcile (R54). -/
def State.startReconcile (s : State) : State :=
  match s.ctr.reconcile with
  | .querying _ _ => s
  | _ => s.issueQuery

/-- The registry indices of the IDs CTR can use, each once (R56). -/
def State.replySet (s : State) (ids : List Nat) : List Nat :=
  (ids.filterMap fun id => (s.lookup id).filter fun i => (s.reg i).stat.inService).dedup

/-- The number of IDs CTR cannot use: not in the registry, or of an entry not in service; one that appears twice counts
twice (R56; log entry 51). -/
def State.ignoredIds (s : State) (ids : List Nat) : Nat :=
  (ids.filter fun id => ((s.lookup id).filter fun i => (s.reg i).stat.inService).isNone).length

/-- Each cabin of a list moved to the summit set by a reconcile (R56). -/
def State.moveToSummit (s : State) : List Nat → State
  | [] => s
  | i :: rest => ((s.takeBooked i).joinSummit i).moveToSummit rest

/-- Each cabin of a list moved to the unlocated set by a reconcile, reported together (R56). -/
def State.moveToUnlocated (s : State) : List Nat → State
  | [] => s
  | i :: rest => ((s.takeOut i).joinUnlocated i).moveToUnlocated rest

/-- The handover base set (R49, R56). -/
def State.setHandoverBase (s : State) (seq : Nat) : State := s.setSlk { s.slk with handoverBase := some seq }

/-- A complete reply is applied, in the steps of R56; within a step the cabins move in the order of their list or of the
reply's IDs (log entry 76). -/
def State.applyReply (s : State) (seq : Nat) (ids : List Nat) : State :=
  let set := s.replySet ids
  let ignored := s.ignoredIds ids
  let up := (s.ctr.uphill.map UphillEntry.cabin).filter fun i => i ∈ set
  let s1 := s.moveToSummit up
  let gone := s1.ctr.summit.filter fun i => i ∉ set
  let s2 := s1.moveToUnlocated gone
  let rest := set.filter fun i => i ∉ s2.ctr.summit && i ∉ s2.ctr.uphill.map UphillEntry.cabin
  let s3 := (s2.moveToSummit rest).setHandoverBase seq
  let s4 := ((s3.judge .handoverGap false).setReconcile .idle)
  (s4.setCtr { s4.ctr with idsIgnored := satAdd s4.ctr.idsIgnored ignored }).report .reconcileDone none none
    [(up.length : Nat), (gone.length : Nat), (rest.length : Nat), (ignored : Nat), (seq : Nat)]

/-- A REPLY part to a set query (chapter 12, link payloads). -/
structure ReplyPart where
  ok : Bool
  seq : Nat
  index : Nat
  count : Nat
  ids : List Nat
  deriving DecidableEq, Repr

/-- The part a payload carries. -/
def replyPartOf (payload : List Byte) : ReplyPart :=
  { ok := byteAt payload 0 = 0
    seq := byteAt payload 1
    index := byteAt payload 2 / 16
    count := byteAt payload 2 % 16
    ids := replyIds payload }

/-- The parts with a further part taken in. -/
def ReplyParts.add (q : ReplyParts) (p : ReplyPart) : ReplyParts :=
  { q with indices := q.indices ++ [p.index], ids := q.ids ++ p.ids }

/-- Whether all indices 1 to the part count have been received. -/
def ReplyParts.complete (q : ReplyParts) : Bool := (List.range q.count).all fun n => (n + 1) ∈ q.indices

/-- A part that fails the attempt: a status other than OK, a part count above 4, an index above the count, or a count or
sequence that differs from the first part's (R55). -/
def ReplyPart.fails (p : ReplyPart) (first : Option ReplyParts) : Bool :=
  !p.ok || 4 < p.count || p.count < p.index ||
    (match first with | some q => p.count ≠ q.count || p.seq ≠ q.seq | none => false)

/-- CTR takes a part of the attempt whose request has tag `tag` (R55). -/
def State.takePart (s : State) (tag : Nat) (first : Option ReplyParts) (p : ReplyPart) : State :=
  if p.fails first then s.failReconcile
  else
    let q := first.getD { count := p.count, seq := p.seq, indices := [], ids := [] }
    if p.index ∈ q.indices then s.setCtr { s.ctr with partsRepeated := satInc s.ctr.partsRepeated }
    else
      let q' := q.add p
      if q'.complete then (s.freeRequest tag).applyReply q'.seq q'.ids
      else s.setReconcile (.querying tag (some q'))

/-- SLK hands a well-formed reply to the block that issued the request (R141). -/
def State.handReply (s : State) (tag : Nat) (payload : List Byte) : State :=
  match s.ctr.reconcile with
  | .querying t first => if t = tag then s.takePart tag first (replyPartOf payload) else s
  | _ => s

/-! ## The handover sequence (R49, R50) -/

/-- SLK judges the sequence of a summit handover (R49). -/
def State.judgeHandoverSeq (s : State) (seq : Nat) : State :=
  let inOrder := match s.slk.handoverBase with | none => true | some b => seq = (b + 1) % 256
  if inOrder then s.setHandoverBase seq
  else
    (((s.setSlk { s.slk with handoverGaps := satInc s.slk.handoverGaps }).judge .handoverGap true).startReconcile
      ).setHandoverBase seq

/-- A handover discarded after its sequence has been judged (R50). -/
def State.discardHandover (s : State) (kind id : Nat) : State :=
  (s.setSlk { s.slk with discardedHandovers := satInc s.slk.discardedHandovers }).report .unknownHandover none none
    [(kind : Nat), (id : Nat)]

/-! ## Answers (R57, R142) -/

/-- The registered cabins of the station queue, oldest first, and then of the garage stack, from the top down (R57). -/
def State.valleySet (s : State) : List Nat :=
  (s.ctr.queue.filterMap fun e => e.who.index) ++ (s.ctr.garage.filterMap fun g => g.who.index)

/-- A list cut into parts of at most 32; the empty list is one part (R57). The fuel is the number of parts at most. -/
def partsOf (fuel : Nat) (ids : List Nat) : List (List Nat) :=
  match fuel with
  | 0 => [ids]
  | n + 1 => if ids.length ≤ 32 then [ids] else ids.take 32 :: partsOf n (ids.drop 32)

/-- A REPLY frame. -/
def replyFrame (tag : Nat) (payload : List Byte) : LinkFrame :=
  { cls := .unanswered, kind := 1, tag := tag, payload := payload }

/-- The REPLY frames of the answer to VALLEY_SET_QUERY, in part order (R57). -/
def State.valleySetReply (s : State) (tag : Nat) : List LinkFrame :=
  let parts := partsOf 4 (s.valleySet.map s.idOf)
  (List.range parts.length).map fun n =>
    let ids := parts.getD n []
    replyFrame tag
      ([0#8, BitVec.ofNat 8 s.slk.handoverSeq, BitVec.ofNat 8 ((n + 1) * 16 + parts.length), BitVec.ofNat 8 ids.length]
        ++ packIds ids)

/-- The slot of a cabin on a line list (R57). -/
def State.lineSlot (s : State) (i : Nat) : Option Nat :=
  match s.expectedSlot .summit i with
  | some k => some k
  | none => s.expectedSlot .valley i

/-- The number of the segment a cabin of the station queue stands in; 0 is absent (R57). -/
def State.segmentOf (s : State) (i : Nat) : Nat :=
  match s.entryOfCabin i with
  | some e => e.segment.num
  | none => 0

/-- The REPLY frame of the answer to LOCATE; an ID not in the registry has location absent, 7 (R57). -/
def State.locateReply (s : State) (tag id : Nat) : LinkFrame :=
  match s.lookup id with
  | some i =>
    replyFrame tag
      ([0#8, BitVec.ofNat 8 (s.reg i).location.code] ++ slotBytes (s.lineSlot i) ++
        [BitVec.ofNat 8 (s.segmentOf i), BitVec.ofNat 8 (bit (s.reg i).overdue)])
  | none => replyFrame tag ([0#8, 7#8] ++ slotBytes none ++ [0#8, 0#8])

/-- The REPLY frame of status UNSUPPORTED (R142). -/
def unsupportedReply (tag : Nat) : LinkFrame := replyFrame tag [1#8]

/-- An answer is placed whole in the UNANSWERED transmit queue, or dropped whole (R142). -/
def State.placeAnswer (s : State) (kind tag : Nat) (parts : List LinkFrame) : State :=
  if s.slk.txUnanswered.length + parts.length ≤ 16 then s.setTxUnanswered (s.slk.txUnanswered ++ parts)
  else
    (s.setSlk { s.slk with droppedReplies := satInc s.slk.droppedReplies }).report .replyDropped none none
      [(kind : Nat), (tag : Nat)]

end Sys2Proof.Machine
end

