-- ==== Sys2Proof/Machine/LinkOps.lean ====
section
/-!
DEFINITION. The shared operations of the summit link's receive side: valid frames, the link states, the mirror and the
position compare (R128 to R139).
-/

namespace Sys2Proof.Machine

/-- The acquisition count set. -/
def State.setAcq (s : State) (n : Nat) : State := s.setSlk { s.slk with acq := n }

/-- A frame whose check fails (R128). -/
def State.badCheck (s : State) : State :=
  s.setSlk { s.slk with badChecks := satInc s.slk.badChecks, acq := if s.slk.link = .acquiring then 0 else s.slk.acq }

/-- The frames missing between the last valid frame and one of sequence `seq` (R128). -/
def frameGap (last : Option Nat) (seq : Nat) : Nat :=
  match last with
  | some l => (seq + 256 - l - 1) % 256
  | none => 0

/-- What every valid frame does: the silence timer restarts, its busy bits are taken and its sequence is judged (R128). -/
def State.takeValid (s : State) (bytes : List Byte) : State :=
  s.setSlk
    { s.slk with
      silence := some (s.after 200)
      farAnswered := answeredBusyOf bytes
      farUnanswered := unansweredBusyOf bytes
      frameGaps := satAdd s.slk.frameGaps (frameGap s.slk.lastSeq (linkSeqOf bytes))
      lastSeq := some (linkSeqOf bytes) }

/-- A valid frame that is not SAFETY, or is malformed, in the link state rule: in DOWN it begins acquisition with count 0
(R132, R197). -/
def State.linkOther (s : State) : State :=
  if s.slk.link = .down then s.setSlk { s.slk with link := .acquiring, acq := 0 } else s

/-- Whether the last valid SAFETY frame came within 200 ms. -/
def State.safetyRecent (s : State) : Bool :=
  match s.slk.lastSafety with
  | some t => s.since t ≤ 200
  | none => false

/-- The acquisition count after a SAFETY frame taken in ACQUIRING (R132). -/
def State.nextAcq (s : State) : Nat := if s.slk.acq = 0 || !s.safetyRecent then 1 else s.slk.acq + 1

/-- A valid SAFETY frame in the link state rule (R132). -/
def State.linkSafety (s : State) : State :=
  let k := s.slk
  match k.link with
  | .down => s.setSlk { k with link := .acquiring, acq := 1, lastSafety := some s.now }
  | .acquiring =>
    let n := s.nextAcq
    s.setSlk { k with link := if n = 3 then .up else .acquiring, acq := n, lastSafety := some s.now }
  | .up => s.setSlk { k with lastSafety := some s.now }

/-- A malformed frame is counted and discarded (R128, R197). -/
def State.countMalformed (s : State) : State := s.setSlk { s.slk with malformed := satInc s.slk.malformed }

/-! ## Entry into DOWN (R133) -/

/-- The UNANSWERED frames an entry into DOWN keeps: the handovers. -/
def handoversOf (q : List LinkFrame) : List LinkFrame := q.filter LinkFrame.isHandover

/-- SLK's own changes at an entry into DOWN (R133). -/
def Slk.down (k : Slk) : Slk :=
  { k with
    link := .down
    acq := 0
    silence := none
    farAnswered := false
    farUnanswered := false
    requests := []
    txAnswered := []
    txUnanswered := handoversOf k.txUnanswered
    txVoice := []
    rxAnswered := []
    rxUnanswered := handoversOf k.rxUnanswered
    stale := true }

/-- The requesting block is told that its request has failed by the link going DOWN (R133, R55). -/
def State.failRequests (s : State) : State :=
  match s.ctr.reconcile with
  | .querying _ _ => s.failReconcile
  | _ => s

/-- The loss of a link that was UP: LINK_LOST, counted and reported (R133). -/
def State.linkLost (s : State) : State :=
  ((s.setSlk { s.slk with linkLosses := satInc s.slk.linkLosses }).judge .linkLost true).report .linkDown none none []

/-- The entry into DOWN, with the effects of R133 in the order given there. -/
def State.enterDown (s : State) : State :=
  let s1 := (((s.setSlk s.slk.down).failRequests).setMirror .run).judge .positionDisagree false
  let s2 := s1.callLinkDown
  (if s.slk.link = .up then s2.linkLost else s2).takeReport

/-! ## The safety exchange (R134, R137 to R139) -/

/-- The entry into UP, as far as SLK's own condition goes (R134). -/
def State.enterUp (s : State) : State := s.judge .linkLost false

/-- The difference of the compare and the difference allowed (R139). -/
def State.compareFigures (s : State) (t : SafetyTables) (c : SummitContents) : Nat × Nat :=
  ((circularDiff (c.p : Nat) s.rpu.record.p t.L).natAbs, t.pTol + s.rpu.record.v.natAbs * t.tLat / 1000)

/-- Whether the compare is skipped for want of a reference or a known motion at either end (R139). -/
def State.compareSkipped (s : State) (c : SummitContents) : Bool :=
  !s.rpu.record.referenced || !c.referenced || s.rpu.record.motion = .unknown || c.motion = .unknown

/-- A compare that is made (R139). -/
def State.makeCompare (s : State) (t : SafetyTables) (c : SummitContents) : State :=
  let f := s.compareFigures t c
  if f.2 < f.1 then
    let s1 := (s.setSlk { s.slk with compareFailures := satInc s.slk.compareFailures }).judge .positionDisagree true
    if s.condition .positionDisagree then s1
    else s1.report .positionDisagree none none [(c.p : Nat), s.rpu.record.p, (f.1 : Nat), (f.2 : Nat)]
  else s.judge .positionDisagree false

/-- The position compare (R139). -/
def State.comparePosition (s : State) (c : SummitContents) : State :=
  match s.tst.safety with
  | some t =>
    if s.compareSkipped c then s.setSlk { s.slk with skippedCompares := satInc s.slk.skippedCompares }
    else s.makeCompare t c
  | none => s.setSlk { s.slk with skippedCompares := satInc s.slk.skippedCompares }

/-- The summit contents replace those stored (R137). -/
def State.storeSummit (s : State) (c : SummitContents) : State := s.setSlk { s.slk with summit := some c, stale := false }

/-- A SAFETY frame taken in UP: the mirror, the compare, STC's taking of the report, and ICM, which judges the emergency
and then supervises the summit's call (R137, R151, R152; log entry 67). -/
def State.actOnSafety (s : State) (c : SummitContents) : State :=
  (((((s.setMirror c.category).comparePosition c).takeReport).judgeEmergency).superviseSummit c.call)

/-- A well-formed summit SAFETY frame after R128: the link state rule, the stored contents, and in UP the actions of
R134 and R137. -/
def State.takeSafety (s : State) (c : SummitContents) : State :=
  let s1 := s.linkSafety.storeSummit c
  if s1.slk.link = .up then
    if s.slk.link = .up then s1.actOnSafety c else (s1.enterUp.actOnSafety c).startReconcile
  else s1

/-! ## Receive buffers (R129) -/

/-- Whether the link state admits a frame to its buffer: in UP every frame, in ACQUIRING a HANDOVER (R132). -/
def admittedTo (link : LinkState) (kind : LinkKind) : Bool :=
  link = .up || (match kind with | .handover => true | _ => false)

/-- An overrun: the frame is dropped, counted and reported (R129). -/
def State.linkOverrun (s : State) (f : LinkFrame) : State :=
  (match f.cls with
   | .answered => s.setSlk { s.slk with overrunsAnswered := satInc s.slk.overrunsAnswered }
   | _ => s.setSlk { s.slk with overrunsUnanswered := satInc s.slk.overrunsUnanswered }).report .linkOverrun none none
    [(f.cls.code : Nat), (f.kind : Nat)]

/-- A frame placed in a free receive buffer of its class: 4 ANSWERED, 8 UNANSWERED (R129). -/
def State.bufferFrame (s : State) (f : LinkFrame) : State :=
  match f.cls with
  | .answered =>
    if s.slk.rxAnswered.length < 4 then s.setSlk { s.slk with rxAnswered := s.slk.rxAnswered ++ [f] } else s.linkOverrun f
  | _ =>
    if s.slk.rxUnanswered.length < 8 then s.setSlk { s.slk with rxUnanswered := s.slk.rxUnanswered ++ [f] }
    else s.linkOverrun f

/-- A valid frame of a buffered class after R128 (R129, R132, R197). -/
def State.takeBuffered (s : State) (f : LinkFrame) : State :=
  let s1 := s.linkOther
  if malformedOnArrival f then s1.countMalformed
  else
    match linkKindOf f with
    | some kind =>
      if admittedTo s1.slk.link kind then s1.bufferFrame f
      else s1.setSlk { s1.slk with notUp := satInc s1.slk.notUp }
    | none => s1

/-- A valid VOICE frame after R128: handed to ICM in UP, dropped in any other state (R129, R132). -/
def State.takeVoice (s : State) (f : LinkFrame) : State :=
  let s1 := s.linkOther
  if malformedOnArrival f then s1.countMalformed
  else if s1.slk.link = .up then
    s1.takeSummitVoice { seq := halfAt f.payload 0, audio := f.payload.drop 2 }
  else s1

/-! ## The SAFETY frame built (R136) -/

/-- The category sent: the one built from the causes other than the mirror (R138), at least SERVICE_STOP while
TABLES_INVALID stands (R136). DEDUCED, the model's choice (log entry 85): R136 names the output category, which counts
SUMMIT_STOP, and R138 the category built from the other causes; the two differ only while SUMMIT_STOP is ACTIVE, and the
model then follows R138, so that the summit's stop does not come back to it and each mirror can fall. -/
def State.sentCategory (s : State) : Category :=
  if (s.cause .tablesInvalid).state = .inactive then s.ownCategory else s.ownCategory.max .serviceStop

/-- The flag byte of an outgoing SAFETY payload; its permits are STC's permit outputs (R136), which a mirror withdraws too
(log entry 85). -/
def State.safetyFlags (s : State) : Nat :=
  bit s.stc.servicePermit + bit s.stc.emergencyPermit * 2 + bit s.rpu.record.referenced * 4 +
    s.rpu.record.motion.code * 16

/-- The SAFETY frame built from the state held (R136). -/
def State.safetyFrame (s : State) : LinkFrame :=
  { cls := .safety
    kind := 1
    tag := 0
    payload :=
      [BitVec.ofNat 8 s.sentCategory.code, BitVec.ofNat 8 s.safetyFlags] ++ bytesOfWord (signedWord s.rpu.record.p) ++
        [BitVec.ofNat 8 s.slk.handoverSeq,
         BitVec.ofNat 8 (s.icm.call.code + bit s.icm.emergencyOpen * 4)] }

/-- The expiry of the send timer: the frame built replaces one the transmitter has not yet taken (R136). -/
def State.sendSafety (s : State) : State :=
  s.setSlk { s.slk with sendTimer := some (s.after 50), txSafety := some s.safetyFrame }

end Sys2Proof.Machine
end

