-- ==== Sys2Proof/Machine/LaunchOps.lean ====
section
/-!
DEFINITION. The shared operations of the launch gate: passages and windows, the release test, failures and
confirmations, the attach watch (chapter 2).
-/

namespace Sys2Proof.Machine

/-- The passage record set. -/
def State.setPassage (s : State) (p : PassageRecord) : State := s.setLgt { s.lgt with passage := p }

/-- Whether an offset lies in the launch window [A, A+W). -/
def SafetyTables.inWindow (t : SafetyTables) (o : Int) : Bool := (t.A : Int) ≤ o && o < ((t.A + t.W : Nat) : Int)

/-- Whether the record of the most recent position update shows a rope that may be launched onto: motion FORWARD and
REFERENCED. -/
def State.launchRope (s : State) : Bool := s.rpu.record.motion = .forward && s.rpu.record.referenced

/-! ## Window close (R35, R36) -/

/-- The empty-slot counter raised by 1 (R35). -/
def State.countEmptySlot (s : State) : State := s.setLgt { s.lgt with emptySlots := satInc s.lgt.emptySlots }

/-- Whether the release made in the passage in progress has been sent and is not yet settled. -/
def State.releaseInFlight (s : State) : Bool :=
  s.lgt.passage.releaseMade &&
    (match s.lgt.pending with
     | some p => (match p.phase with | .sent _ => true | .queued => false)
     | none => false)

/-- The pending release whose window has closed while it was SENT (R35). -/
def State.markWindowClosed (s : State) : State :=
  s.setPendingRelease (s.lgt.pending.map fun p => { p with windowClosed := true })

/-- The window counted at its close: an empty slot unless its release has been confirmed, or is SENT and so counted when
it fails (R35). -/
def State.countWindow (s : State) : State :=
  if s.lgt.passage.confirmed then s
  else if s.releaseInFlight then s.markWindowClosed
  else s.countEmptySlot

/-- The blocked-window count and its head set. -/
def State.setBlocked (s : State) (n : Nat) (head : Option Nat) : State :=
  s.setLgt { s.lgt with blocked := n, countedHead := head }

/-- The blocked-window count updated from the head of S6 at a close; at 2 HEAD_BLOCKED is present (R36). -/
def State.countHead (s : State) : State :=
  match s.headS6 with
  | none => s.setBlocked 0 none
  | some e =>
    if s.ready e then s.setBlocked 0 none
    else if s.lgt.countedHead = some e.serial then
      (s.setBlocked 2 (some e.serial)).judge .headBlocked true (s.whoId e.who)
    else s.setBlocked 1 (some e.serial)

/-- The window in progress closes: one that had a launch window start is counted (R22, R35, R36). -/
def State.closeWindow (s : State) : State :=
  if s.lgt.passage.launchWindow then s.countWindow.countHead else s

/-- A passage that ends in phase BEFORE under motion FORWARD and REFERENCED was not seen in its window (R35). -/
def State.countUnseen (s : State) : State :=
  if s.lgt.passage.forwardRef then
    (s.setLgt { s.lgt with unseenWindows := satInc s.lgt.unseenWindows }).countEmptySlot
  else s

/-- The passage of the recorded slot ends (R22, R35). -/
def State.endPassage (s : State) : State :=
  match s.lgt.passage.slot with
  | none => s
  | some _ =>
    match s.lgt.passage.phase with
    | .before => s.countUnseen
    | .opened => s.closeWindow
    | .after => s

/-- A new passage begins, for the index of the update, unless the index is the recorded one (R22). -/
def State.beginPassage (s : State) : State :=
  if s.lgt.passage.slot = some s.rpu.record.k then s
  else s.endPassage.setPassage { PassageRecord.initial with slot := some s.rpu.record.k }

/-- The SLOT_OCCUPIED check at a launch window start (R23). -/
def State.checkOccupied (s : State) (k : Nat) : State :=
  let x := s.slot k
  if x = .empty then s
  else
    let id := x.cabin.map s.idOf
    ((s.setPassage { s.lgt.passage with barred := true }).raise .slotOccupied id).report .slotOccupied none id
      [(k : Nat), (x.tag : Nat), idData id]

/-- The window opens; under FORWARD and REFERENCED this update is the launch window start (R22, R23). -/
def State.openWindow (s : State) : State :=
  if s.launchRope then
    (s.setPassage { s.lgt.passage with phase := .opened, launchWindow := true }).checkOccupied s.rpu.record.k
  else s.setPassage { s.lgt.passage with phase := .opened }

/-- The window phase moved on from the offset of the update (R22). -/
def State.movePhase (s : State) (t : SafetyTables) : State :=
  match s.lgt.passage.phase with
  | .before => if t.inWindow s.rpu.record.o then s.openWindow else s
  | .opened =>
    if t.inWindow s.rpu.record.o then s
    else
      let s1 := s.closeWindow
      s1.setPassage { s1.lgt.passage with phase := .after }
  | .after => s

/-- Whether the last update of the passage had motion FORWARD and was REFERENCED is kept for R35. -/
def State.noteRope (s : State) : State := s.setPassage { s.lgt.passage with forwardRef := s.launchRope }

/-! ## Withdrawal at a position update (R27) -/

/-- A queued release withdrawn by a position update: late where the slot index or the offset has left the window, and
otherwise where the rope may no longer be launched onto (R27). -/
def State.withdrawAtUpdate (s : State) (t : SafetyTables) : State :=
  match s.lgt.pending with
  | some p =>
    if s.rpu.record.k ≠ p.slot || !t.inWindow s.rpu.record.o then s.withdrawRelease true
    else if !s.launchRope then s.withdrawRelease false
    else s
  | none => s

/-! ## Failures (R30) -/

/-- The gate failure count raised by 1; at 3 GATE_FAULT is raised and the count becomes 0 (R30). -/
def State.countFailure (s : State) (id : Nat) : State :=
  if s.lgt.failures + 1 < 3 then s.setLgt { s.lgt with failures := s.lgt.failures + 1 }
  else (s.setLgt { s.lgt with failures := 0 }).raise .gateFault (some id)

/-- A release refused by a full CONTROL queue fails; its slot is EMPTY already (R26, R30). -/
def State.refuseRelease (s : State) (slot cabin : Nat) : State :=
  (s.setLgt { s.lgt with lastFailed := some { tag := s.lgt.tagSeq, slot := slot, cabin := cabin } }).countFailure
    (s.idOf cabin)

/-- A SENT release fails: its slot returns to EMPTY if it is still its own, the last-failed record is kept and the
failure is counted (R30, R31); a window that has closed is counted as an empty slot now (R35). -/
def State.failRelease (s : State) (p : PendingRelease) : State :=
  let s1 := s.freeSlotIf p.slot (.releasePending p.cabin)
  let s2 :=
    (s1.setLgt
      { s1.lgt with
        pending := none
        lastFailed := some { tag := p.tag, slot := p.slot, cabin := p.cabin } }).countFailure p.id
  if p.windowClosed then s2.countEmptySlot else s2

/-! ## The release test (R26) -/

/-- The GATE_RELEASE frame (chapter 12, code 21). -/
def State.releaseFrame (s : State) (slot id : Nat) : EgressFrame :=
  { kind := .gateRelease
    mask := s.roleMask .gate
    tag := s.lgt.tagSeq
    payload := [place slot 12 ||| place id 0]
    restartReply := false }

/-- A release accepted: its slot becomes RELEASE_PENDING and the pending release is recorded QUEUED (R25, R26). -/
def State.queueRelease (s : State) (slot cabin : Nat) : State :=
  let s1 := (s.placeControl (s.releaseFrame slot (s.idOf cabin))).setSlot slot (.releasePending cabin)
  s1.setLgt
    { s1.lgt with
      pending :=
        some
          { slot := slot, cabin := cabin, id := s.idOf cabin, tag := s.lgt.tagSeq, phase := .queued,
            windowClosed := false }
      lastFailed := none
      tagSeq := (s1.lgt.tagSeq + 1) % 8 }

/-- The release made: the flag of the passage is set, and the frame is offered to the CONTROL class (R26). -/
def State.makeRelease (s : State) (slot cabin : Nat) : State :=
  let s1 := s.setPassage { s.lgt.passage with releaseMade := true }
  if s1.controlRoom then s1.queueRelease slot cabin else s1.refuseRelease slot cabin

/-- The conditions of the release test but for the head of S6 (R26). -/
def State.mayRelease (s : State) : Bool :=
  let p := s.lgt.passage
  p.phase = .opened && p.launchWindow && !p.releaseMade && !p.barred && s.lgt.pending.isNone &&
    s.slot s.rpu.record.k = .empty && s.launchRope && !s.launchHeld

/-- The registered cabin at the head of S6, if that head is ready (R24). -/
def State.readyHead (s : State) : Option Nat :=
  match s.headS6 with
  | some e => if s.ready e then e.who.index else none
  | none => none

/-- The release test of a position update (R26). -/
def State.testRelease (s : State) : State :=
  if s.mayRelease then
    match s.readyHead with
    | some i => s.makeRelease s.rpu.record.k i
    | none => s
  else s

/-! ## The attach watch (R29, R33, R34) -/

/-- A watch entry ends without an ATTACH: its cabin stays in S7 flagged SLOTLESS and its slot returns to EMPTY if it is
still RELEASING for it (R33). -/
def State.slotlessWatch (s : State) (w : WatchEntry) : State :=
  (s.freeSlotIf w.slot (.releasing w.cabin)).setSlotless w.cabin

/-- ATTACH_MISSING for a watch entry, which is removed (R34). -/
def State.missAttach (s : State) (w : WatchEntry) : State :=
  let id := s.idOf w.cabin
  (((s.setLgt { s.lgt with watch := s.lgt.watch.filter fun x => x.cabin ≠ w.cabin }).slotlessWatch w).raise
    .attachMissing (some id)).report .attachMissing none (some id) [(id : Nat), (w.slot : Nat)]

/-- The watch entries of a list checked in order (R34). -/
def State.checkWatch (s : State) (t : SafetyTables) : List WatchEntry → State
  | [] => s
  | w :: rest =>
    (if (t.gAtt : Int) < s.rpu.odo - w.oRelease then s.missAttach w else s).checkWatch t rest

/-- LGT's part of a position update: the passage and its window, the withdrawal, the release test and the attach watch
(R9, R22, R27, R26, R34; log entry 15). -/
def State.launchUpdate (s : State) : State :=
  match s.tst.safety with
  | none => s
  | some t =>
    let s1 := (((s.beginPassage.movePhase t).noteRope).withdrawAtUpdate t).testRelease
    s1.checkWatch t s1.lgt.watch

/-! ## Gate answers (R29, R30) -/

/-- A confirmed release joins the attach watch; a ninth removes the oldest as at ATTACH_MISSING (R29). -/
def State.watchRelease (s : State) (p : PendingRelease) : State :=
  let s1 :=
    if s.lgt.watch.length < 8 then s
    else match s.lgt.watch with
      | w :: _ => s.missAttach w
      | [] => s
  s1.setLgt { s1.lgt with watch := s1.lgt.watch ++ [{ cabin := p.cabin, slot := p.slot, oRelease := s.rpu.odo }] }

/-- A report RELEASE_MISMATCH for a confirmed release (R29; log entry 71). -/
def State.reportMismatch (s : State) (p : PendingRelease) : State :=
  s.report .releaseMismatch none (some p.id) [(p.slot : Nat), (p.id : Nat)]

/-- The booking of a confirmed release: the pending cabin, still the head of S6, is booked to its slot if the release
still owns it. Any other head goes on SLOTLESS (R29, R31). -/
def State.bookRelease (s : State) (p : PendingRelease) : State :=
  match s.headS6 with
  | none => (s.freeSlotIf p.slot (.releasePending p.cabin)).raise .phantomPassage none
  | some e =>
    if e.who = .cabin p.cabin && s.slot p.slot = .releasePending p.cabin then
      ((s.headToS7 e false).setSlot p.slot (.releasing p.cabin)).watchRelease p
    else ((s.headToS7 e true).freeSlotIf p.slot (.releasePending p.cabin)).reportMismatch p

/-- LGT's record of a confirmed release: none is pending, the failures are no longer consecutive, and a window still
open is not an empty slot (R29, R35). -/
def State.settleRelease (s : State) (p : PendingRelease) : State :=
  s.setLgt
    { s.lgt with
      pending := none
      failures := 0
      passage := if p.windowClosed then s.lgt.passage else { s.lgt.passage with confirmed := true } }

/-- The slot field of a GATE_REPORT. -/
def RingFrame.gateSlot (f : RingFrame) : Nat := field (f.word 0) 12 10

/-- A release is confirmed (R29; log entry 71). -/
def State.confirmRelease (s : State) (p : PendingRelease) (f : RingFrame) : State :=
  let s1 :=
    if f.gateSlot ≠ p.slot || f.cabinId ≠ p.id then
      s.report .gateReportMismatch none (some p.id)
        [(f.gateSlot : Nat), (f.cabinId : Nat), (p.slot : Nat), (p.id : Nat)]
    else s
  (s1.settleRelease p).bookRelease p

/-- A report of a release that has failed: the gate has let a cabin go after the part gave up on it (R30; log entry 71). -/
def State.lateGateReport (s : State) (x : FailedRelease) : State :=
  let s1 :=
    match s.headS6 with
    | some e => if e.who = Who.cabin x.cabin then s.headToS7 e true else s.raise .phantomPassage none
    | none => s.raise .phantomPassage none
  ((s1.setLgt { s1.lgt with lastFailed := none }).raise .gateFault (some (s.idOf x.cabin))).report .gateLateReport none
    (some (s.idOf x.cabin)) [(x.slot : Nat), (s.idOf x.cabin : Nat)]

/-- The SENT pending release that carries a tag. -/
def State.sentRelease (s : State) (tag : Nat) : Option PendingRelease :=
  s.lgt.pending.filter fun p => p.tag = tag && (match p.phase with | .sent _ => true | .queued => false)

/-- A GATE_REPORT(RELEASED), forward (R29, R30). -/
def State.takeGateReport (s : State) (f : RingFrame) : State :=
  match s.sentRelease f.tag with
  | some p => s.confirmRelease p f
  | none =>
    match s.lgt.lastFailed.filter fun x => x.tag = f.tag with
    | some x => s.lateGateReport x
    | none => s.raise .phantomPassage none

/-- A NACK of a GATE_RELEASE (R30). One with the tag of a release that is still QUEUED is unmatched (log entries 39
and 71). -/
def State.takeGateNack (s : State) (f : RingFrame) : State :=
  match s.sentRelease f.tag with
  | some p => s.failRelease p
  | none =>
    (s.setLgt { s.lgt with unmatchedNacks := satInc s.lgt.unmatchedNacks }).report .unmatchedNack none none
      [(f.refusedKind : Nat), (f.tag : Nat)]

/-- RNG reports the insertion of the GATE_RELEASE of a tag: the release is SENT, with a report deadline of 100 ms (R28). -/
def State.releaseInserted (s : State) (tag : Nat) : State :=
  s.setPendingRelease
    (s.lgt.pending.map fun p =>
      if p.tag = tag && p.phase = .queued then { p with phase := .sent (s.after 100) } else p)

/-! ## Attach (R32, R33) -/

/-- The attach error of a cabin of slot `k` (R32). -/
def State.attachError (s : State) (k : Nat) : Int :=
  circularDiff s.rpu.record.p (((k * s.tables.S + s.tables.B) % s.tables.L : Nat) : Int) s.tables.L

/-- A watched cabin attached with error `e`: it leaves S7 and joins the uphill tail, its slot is UP (R32, R63), and as each
cabin on the uphill list it is LOCKED and PASS (R42; log entry 60). -/
def State.joinUphill (s : State) (w : WatchEntry) (e : Int) : State :=
  let s1 := match s.entryOfCabin w.cabin with | some x => s.leaveStation x | none => s
  let s2 :=
    s1.setCtr
      { s1.ctr with
        uphill := s1.ctr.uphill ++ [{ cabin := w.cabin, slot := w.slot, oRelease := w.oRelease, attachErr := some e }] }
  (s2.modReg w.cabin fun r =>
    { r with location := .uphill, door := .locked, verdict := .pass, attachErr := some e }).setSlot w.slot (.up w.cabin)

/-- SPACING_ERROR where the attach error passes E_max (R32). -/
def State.checkSpacing (s : State) (w : WatchEntry) (e : Int) : State :=
  if s.tables.eMax < e.natAbs then
    (s.raise .spacingError (some (s.idOf w.cabin))).report .spacingError none (some (s.idOf w.cabin))
      [(s.idOf w.cabin : Nat), (w.slot : Nat), e]
  else s

/-- A cabin of the attach watch is booked to its slot at its ATTACH (R32, R48). -/
def State.bookAttach (s : State) (w : WatchEntry) : State :=
  let e := s.attachError w.slot
  ((s.joinUphill w e).sendHandover .valleyLaunch (s.idOf w.cabin) false (some w.slot)).checkSpacing w e

/-- An ATTACH of a SLOTLESS cabin: it moves to the unlocated set, or is dropped if anonymous (R33; log entry 71). -/
def State.attachUnslotted (s : State) (x : StationEntry) : State :=
  (match x.who with
   | .cabin i => s.unlocate i .attachUnslotted
   | .anon _ _ _ => s.leaveStation x).report .attachUnslotted none (s.whoId x.who) [(x.serial : Nat)]

/-- An ATTACH that takes the oldest watch entry, which is removed (R32). -/
def State.attachWatched (s : State) (w : WatchEntry) (rest : List WatchEntry) : State :=
  (s.setLgt { s.lgt with watch := rest }).bookAttach w

/-- An ATTACH that finds the attach watch empty (R33). -/
def State.attachWithoutWatch (s : State) : State :=
  match (s.inSegment .s7).find? fun x => x.slotless with
  | some x => s.attachUnslotted x
  | none => s.raise .phantomPassage none

/-- An ATTACH, forward: the passage of D8 (R32, R33). -/
def State.takeAttach (s : State) : State :=
  match s.lgt.watch with
  | w :: rest => s.attachWatched w rest
  | [] => s.attachWithoutWatch

end Sys2Proof.Machine
end

