-- ==== Sys2Proof/Machine/RopeOps.lean ====
section
/-!
DEFINITION. The shared operations of the rope position unit: samples, travel, slip, odometer, position update, speed and
motion, tach loss, reference marks (chapter 1).
-/

namespace Sys2Proof.Machine

/-! ## Store writes that a rope start begins (R12, R189) -/

/-- The invalidation write begins: the park valid flag is cleared first (R189; log entry 31). -/
def State.startInvalidation (s : State) : State :=
  (s.setStore { s.store with park := none }).setTst
    { s.tst with write := some { kind := .invalidation, reply := none } }

/-- A change of motion to FORWARD or REVERSE while the park valid flag is set: the invalidation write is started from an
idle store, and queued behind a write in flight (R189). -/
def State.ropeStarted (s : State) : State :=
  if s.store.park.isNone then s
  else match s.tst.write with
    | none => s.startInvalidation
    | some _ => s.setTst { s.tst with invalidationQueued := true }

/-- The motion state set; a change to FORWARD or REVERSE is handed to TST (R12). -/
def State.setMotion (s : State) (m : Motion) : State :=
  if s.rpu.motion = m then s
  else
    let s1 := s.setRpu { s.rpu with motion := m }
    if m = .forward || m = .reverse then s1.ropeStarted else s1

/-- The stillness timer set. -/
def State.setStillness (s : State) (t : Option Ms) : State := s.setRpu { s.rpu with stillness := t }

/-! ## Position update (R8, R9) -/

/-- The position record of an update, with the geometry in force (R8). -/
def State.positionRecord (s : State) (t : SafetyTables) : PositionRecord :=
  let p := (s.rpu.odo - s.rpu.odoRef) % (t.L : Int)
  let k := p / (t.S : Int)
  { p := p, k := k.toNat, o := p - k * (t.S : Int), v := s.rpu.v, motion := s.rpu.motion,
    referenced := s.rpu.referenced, time := s.now }

/-- The record of the most recent position update set. -/
def State.setRecord (s : State) (t : SafetyTables) : State := s.setRpu { s.rpu with record := s.positionRecord t }

/-- A position update up to CTR's part: RPU's conditions reach STC, the record is formed, and LGT acts on it and reports
(R8, R9; log entry 6). -/
def State.updateRope (s : State) (t : SafetyTables) : State := (((s.takeReport).setRecord t).launchUpdate).takeReport

/-- A position update: LGT and then CTR act on it, the conditions of each taken as one report. While the SAFETY group is
invalid none is made (R8, R9; log entries 6 and 15). -/
def State.positionUpdate (s : State) : State :=
  match s.tst.safety with
  | none => s
  | some t => ((s.updateRope t).trackUpdate).takeReport

/-- The position update of a reset, before STC takes any report (R18, R19, R172). -/
def State.quietUpdate (s : State) : State :=
  match s.tst.safety with
  | none => s
  | some t => ((s.setRecord t).launchUpdate).trackUpdate

/-! ## Travel and fusion (R3 to R5) -/

/-- The delta of a channel, in -32768..32767 (R3). -/
def countDelta (c prev : Nat) : Int :=
  let d := (c + 65536 - prev) % 65536
  if d < 32768 then (d : Int) else (d : Int) - 65536

/-- Whether a delta is plausible (R3). -/
def plausible (d : Int) (dMax : Nat) : Bool := d.natAbs ≤ dMax

/-- What the two channels of a sample show. -/
structure Fusion where
  plausibleA : Bool
  plausibleB : Bool
  travelA : Int
  travelB : Int
  deriving DecidableEq, Repr

/-- The channels of a sample judged by the tables in force (R3, R4). -/
def fusionOf (t : SafetyTables) (dA dB : Int) : Fusion :=
  { plausibleA := plausible dA t.dMax
    plausibleB := plausible dB t.dMax
    travelA := dA * (t.ka : Int)
    travelB := dB * (t.kb : Int) }

/-- Whether both channels are plausible. -/
def Fusion.both (f : Fusion) : Bool := f.plausibleA && f.plausibleB

/-- Whether the travels have opposite nonzero signs (R5). -/
def Fusion.opposite (f : Fusion) : Bool :=
  (f.travelA < 0 && 0 < f.travelB) || (0 < f.travelA && f.travelB < 0)

/-- The fused travel of a sample (R5). -/
def Fusion.travel (f : Fusion) : Int :=
  if f.both then
    if f.opposite then 0 else if f.travelB.natAbs < f.travelA.natAbs then f.travelB else f.travelA
  else if f.plausibleA then f.travelA
  else if f.plausibleB then f.travelB
  else 0

/-- The TACH_SINGLE condition of a sample (R5). -/
def Fusion.single (f : Fusion) : Bool := f.plausibleA != f.plausibleB

/-- The TACH_DISAGREE condition of a sample (R5). -/
def Fusion.disagree (f : Fusion) : Bool := f.both && f.opposite

/-- The counts stored, and the implausible samples counted, per channel (R3). -/
def State.storeCounts (s : State) (f : Fusion) (cA cB : Nat) : State :=
  s.setRpu
    { s.rpu with
      prevA := some cA
      prevB := some cB
      implausibleA := if f.plausibleA then s.rpu.implausibleA else satInc s.rpu.implausibleA
      implausibleB := if f.plausibleB then s.rpu.implausibleB else satInc s.rpu.implausibleB }

/-- The plausibility, single-channel and disagreement conditions of a sample (R3, R5). -/
def State.judgeChannels (s : State) (f : Fusion) : State :=
  ((s.judge .tachImplausible (!f.both)).judge .tachSingle f.single).judge .tachDisagree f.disagree

/-! ## Slip (R6) -/

/-- The slip accumulator after a difference of travels (R6). -/
def slipAfter (q : Nat) (d : Nat) : Nat :=
  let x := q - q / 16 + d
  if x < 2147483647 then x else 2147483647

/-- Q updated where both channels are plausible, and ROPE_SLIP judged with its hysteresis (R6). -/
def State.judgeSlip (s : State) (t : SafetyTables) (f : Fusion) : State :=
  if f.both then
    let q := slipAfter s.rpu.q (f.travelA - f.travelB).natAbs
    let s1 := s.setRpu { s.rpu with q := q }
    if t.qLim < q then s1.judge .ropeSlip true
    else if q ≤ t.qLim / 2 then s1.judge .ropeSlip false
    else s1
  else s

/-! ## Odometer (R7) -/

/-- The odometer bound, 2^39 mm. -/
def odoBound : Int := 549755813888

/-- The odometer kept within its bounds (R7). -/
def boundOdo (x : Int) : Int := if x > odoBound then odoBound else if x < -odoBound then -odoBound else x

/-- The fused travel added to the odometer and its residue (R7). -/
def State.addTravel (s : State) (t : Int) : State :=
  let total := s.rpu.res + t
  let whole := total / 1000
  s.setRpu { s.rpu with odo := boundOdo (s.rpu.odo + whole), res := total - 1000 * whole }

/-! ## Speed and motion (R10, R11, R13) -/

/-- The speed window with a travel appended; of 8 entries the oldest is first removed (R10). -/
def pushWindow (w : List Int) (t : Int) : List Int := (if w.length < 8 then w else w.drop 1) ++ [t]

/-- The speed of a window: the sum of its entries over n * Ts, truncated toward zero (R10). -/
def speedOf (w : List Int) (ts : Nat) : Int := if w.isEmpty then 0 else (w.sum).tdiv ((w.length * ts : Nat) : Int)

/-- The speed recomputed with a travel appended to the window, and OVERSPEED judged (R10, R13). -/
def State.updateSpeed (s : State) (t : SafetyTables) (travel : Int) : State :=
  let w := pushWindow s.rpu.window travel
  let v := speedOf w t.ts
  (s.setRpu { s.rpu with window := w, v := v }).judge .overspeed (t.vMax < v.natAbs)

/-- A moving rope: the stillness timer is stopped and motion takes its direction (R11). -/
def State.moving (s : State) (m : Motion) : State := (s.setStillness none).setMotion m

/-- A rope slower than 50 mm/s over a full window: the stillness timer is started if stopped, but in STOPPED (R11). -/
def State.slow (s : State) : State :=
  if s.rpu.motion = .stopped then s
  else if s.rpu.stillness.isNone then s.setStillness (some (s.after 1000))
  else s

/-- The motion state set from v (R11). -/
def State.judgeMotion (s : State) : State :=
  if s.rpu.window.length < 8 then s.moving .unknown
  else if 50 ≤ s.rpu.v then s.moving .forward
  else if s.rpu.v ≤ -50 then s.moving .reverse
  else s.slow

/-- The channel stages of a sample that is not a priming sample (R3 to R13). -/
def State.takeCounts (s : State) (t : SafetyTables) (prevA prevB cA cB : Nat) : State :=
  let f := fusionOf t (countDelta cA prevA) (countDelta cB prevB)
  (((((s.storeCounts f cA cB).judgeChannels f).judgeSlip t f).addTravel f.travel).updateSpeed t f.travel).judgeMotion

/-- A priming sample: the counts are stored and TACH_LOST becomes absent (R2, R14). -/
def State.primeChannels (s : State) (cA cB : Nat) : State :=
  (s.setRpu { s.rpu with prevA := some cA, prevB := some cB }).judge .tachLost false

/-- An accepted sample: its sequence is kept, the tach loss timer restarts, and the sample passes to the channel stages
(R1, R2). -/
def State.acceptSample (s : State) (t : SafetyTables) (seq cA cB : Nat) : State :=
  let s1 := s.setRpu { s.rpu with seqPrev := some seq, tachLoss := some (s.after (5 * t.ts)) }
  (match s1.rpu.prevA, s1.rpu.prevB with
   | some a, some b => s1.takeCounts t a b cA cB
   | _, _ => s1.primeChannels cA cB).positionUpdate

/-- A gap in the sample sequence, counted and reported (R1). -/
def State.tachGap (s : State) (n : Nat) : State :=
  (s.setRpu { s.rpu with missed := satAdd s.rpu.missed n }).report .tachGap none none [(n : Nat)]

/-- A tach sample judged by its sequence (R1). -/
def State.takeSample (s : State) (t : SafetyTables) (seq cA cB : Nat) : State :=
  match s.rpu.seqPrev with
  | none => s.acceptSample t seq cA cB
  | some p =>
    let d := (seq + 256 - p) % 256
    if d = 1 then s.acceptSample t seq cA cB
    else if 2 ≤ d && d ≤ 127 then (s.tachGap (d - 1)).acceptSample t seq cA cB
    else s.setRpu { s.rpu with stale := satInc s.rpu.stale }

/-! ## Tach loss (R14) -/

/-- The expiry of the tach loss timer (R14). -/
def State.loseTach (s : State) : State :=
  let s1 := s.judge .tachLost true
  let s2 :=
    (s1.setRpu
      { s1.rpu with
        window := [], v := 0, stillness := none, prevA := none, prevB := none, seqPrev := none, tachLoss := none
        }).setMotion .unknown
  ((((s2.judge .tachImplausible false).judge .tachSingle false).judge .tachDisagree false).judge .overspeed
    false).positionUpdate

/-- The motion state handed on at an event that makes no position update: the most recent record takes it (R12; log entry
23). -/
def State.handMotion (s : State) : State :=
  s.setRpu { s.rpu with record := { s.rpu.record with motion := s.rpu.motion } }

/-- The expiry of the stillness timer: motion is STOPPED and handed on, and a queued release is withdrawn (R11, R12,
R27). -/
def State.becomeStopped (s : State) : State :=
  (((s.setStillness none).setMotion .stopped).handMotion).withdrawRelease false

/-! ## Reference marks (R15, R16) -/

/-- A mark while UNREFERENCED (R15). -/
def State.firstMark (s : State) (t : SafetyTables) : State :=
  ((s.setRpu { s.rpu with odoRef := s.rpu.odo - (t.pMark : Int), referenced := true }).judge .ropeUnreferenced
    false).positionUpdate

/-- A mark within R_tol: the position is corrected, counted and reported (R16). O_ref is not held to a range (log entry
21). -/
def State.correctReference (s : State) (e : Int) : State :=
  (((s.setRpu
    { s.rpu with odoRef := s.rpu.odoRef + e, corrections := satInc s.rpu.corrections }).report .refCorrection none none
    [e]).judge .ropeRefDrift false).positionUpdate

/-- A mark while REFERENCED (R16). -/
def State.laterMark (s : State) (t : SafetyTables) : State :=
  let e := circularDiff s.rpu.record.p (t.pMark : Int) t.L
  if e.natAbs ≤ t.rTol then s.correctReference e else s.judge .ropeRefDrift true

/-- A REF_MARK (R15, R16). -/
def State.takeMark (s : State) (t : SafetyTables) : State :=
  if s.rpu.referenced then s.laterMark t else s.firstMark t

/-- REFERENCED lost, as by a commit that changes L or S (R17, R20). -/
def State.loseReference (s : State) : State :=
  (s.setRpu { s.rpu with referenced := false }).judge .ropeUnreferenced true

/-- The tach loss timer started for 5 * Ts (R14). -/
def State.startTachLoss (s : State) (t : SafetyTables) : State :=
  s.setRpu { s.rpu with tachLoss := some (s.after (5 * t.ts)) }

end Sys2Proof.Machine
end

