-- ==== Sys2Proof/Machine/DoorActs.lean ====
section
/-!
DEFINITION. What the door sequencer does at passages, reports, refusals, deadlines, timers and operator requests
(R96 to R110).
-/

namespace Sys2Proof.Machine

/-! ## Passages (R96, R99, R109, R110) -/

/-- A forward D3 passage: the close is requested, and the close test is made (R91, R99). -/
def State.requestClose (s : State) (e : StationEntry) : State :=
  (s.modRecord e.serial fun r => { r with closeRequested := true }).closeTest e.serial

/-- DOOR_NOT_LOCKED for a cabin that crosses D4 with a door not LOCKED (R109). -/
def State.checkLocked (s : State) (e : StationEntry) : State :=
  if s.doorOf e.who = .locked then s
  else
    (s.raise .doorNotLocked (s.whoId e.who)).report .doorNotLocked none (s.whoId e.who)
      [((s.doorOf e.who).code : Nat)]

/-- A forward D4 passage: the lock check, and the record marked beyond reach (R109). -/
def State.leaveReach (s : State) (e : StationEntry) : State :=
  (((s.checkLocked e).modRecord e.serial fun r => { r.stopTimers with beyondReach := true }).setHoldOpen e
    false).withdrawAllFor e.serial

/-- A backward D2 passage (R110). -/
def State.backD2 (s : State) (e : StationEntry) : State :=
  (s.withdrawUnsent .openUnit fun c => c.serial = e.serial).modRecord e.serial fun r => { r with openDropped := false }

/-- A backward D3 passage (R110). -/
def State.backD3 (s : State) (e : StationEntry) : State :=
  (s.modRecord e.serial fun r => { r with closeRequested := false }).withdrawClose e.serial

/-- Whether the CLOSE unit holds a BUSY command for an entry (R110). -/
def State.closeUnitBusyFor (s : State) (serial : Nat) : Bool :=
  match s.dsq.closeUnit.state with
  | .busy b => b.cmd.serial = serial
  | _ => false

/-- A CLOSED door is to be locked on the part's own word: the settle timer is started with lock mode SEPARATE
(R107, R110, R112). -/
def State.settleSeparate (s : State) (e : StationEntry) : State :=
  (s.modRecord e.serial fun r => { r with lockMode := .separate }).startSettle e

/-- A backward D4 passage: the record is within reach again (R110). -/
def State.backD4 (s : State) (e : StationEntry) : State :=
  let s1 := s.modRecord e.serial fun r => { r with beyondReach := false }
  (if s1.doorOf e.who = .opened then s1.startDwell e
   else if s1.doorOf e.who = .closed && !s1.closeUnitBusyFor e.serial then s1.settleSeparate e
   else s1).closeTest e.serial

/-! ## Reports (R97, R98, R101, R102, R104, R111) -/

/-- Whether a result completes a command (R95). -/
def DoorAction.completedBy : DoorAction → DoorResult → Bool
  | _, .fault => true
  | .openDoor, .opened => true
  | .closeDoor .auto, .locked => true
  | .closeDoor .separate, .closed => true
  | .closeDoor _, .reopened => true
  | .lockDoor, .locked => true
  | _, _ => false

/-- The unit's BUSY command with a deadline set afresh by a report that it has acted (R98, R103). -/
def State.extendDeadline (s : State) (u : DoorUnitName) (b : BusyCommand) (d : Nat) : State :=
  s.setUnitState u (.busy { b with phase := .sent (s.after d), acted := true })

/-- A report that the table of R98 ignores (log entry 71). -/
def State.unexpectedReport (s : State) (u : DoorUnitName) (b : BusyCommand) (r : DoorResult) : State :=
  (s.setDsq { s.dsq with unexpected := satInc s.dsq.unexpected }).report .doorReportUnexpected none b.cmd.id
    [(unitNumber u : Nat), (b.cmd.field : Nat), (r.code : Nat)]

/-- A record held for obstruction once its reopen count passes max_reopen (R101). -/
def State.holdObstructed (s : State) (e : StationEntry) (p : DoorProfile) : State :=
  match s.doorRecord e.serial with
  | some r =>
    if p.maxReopen < r.reopens then
      ((s.modRecord e.serial fun x => { x with held := .obstruction }).report .doorObstruction none (s.whoId e.who)
        [idData (s.whoId e.who), (r.reopens : Nat)]).judgeObstruction (s.whoId e.who)
    else s
  | none => s

/-- The reopen of R101. -/
def State.reopenDoor (s : State) (e : StationEntry) (p : DoorProfile) : State :=
  (((s.modRecord e.serial fun r =>
    { r with reopens := if r.reopens < 4 then r.reopens + 1 else 4, reopened := true }).enterOpen e).startReopenWait
    e).holdObstructed e p

/-- A FAULT report (R98). -/
def State.faultReport (s : State) (u : DoorUnitName) (b : BusyCommand) (e : StationEntry) : State :=
  ((((s.changeDoor e .fault).driveFault u b.cmd .faultReport).modRecord e.serial DoorRecord.stopTimers).completeUnit u
    b.cmd.cabin)

/-- Whether a door state has a running command that a FAULT report ends (R98). -/
def DoorState.inAction : DoorState → Bool
  | .opening | .closing | .reopening | .closed | .locking => true
  | _ => false

/-- A matched report of an entry in the queue, by door state and result (R98). -/
def State.takeMatched (s : State) (u : DoorUnitName) (b : BusyCommand) (e : StationEntry) (p : DoorProfile)
    (r : DoorResult) : State :=
  match s.doorOf e.who, r with
  | .opening, .opened => ((s.changeDoor e .opened).enterOpen e).completeUnit u b.cmd.cabin
  | .closing, .closed =>
    let s1 := (s.changeDoor e .closed).startSettle e
    if b.cmd.action = .closeDoor .separate then s1.completeUnit u b.cmd.cabin
    else s1.extendDeadline u b (p.tSettle + p.tCloseMax)
  | .closing, .obstructed => (s.changeDoor e .reopening).extendDeadline u b p.tOpenMax
  | .reopening, .reopened => ((s.changeDoor e .opened).reopenDoor e p).completeUnit u b.cmd.cabin
  | .closed, .locked | .locking, .locked =>
    ((s.changeDoor e .locked).modRecord e.serial fun x => { x with settle := none }).completeUnit u b.cmd.cabin
  | d, .fault => if d.inAction then s.faultReport u b e else s.unexpectedReport u b r
  | _, _ => s.unexpectedReport u b r

/-- A report for a cabin that has left the queue: whatever it says, also where it is none that R95 lists, it completes the
unit's action, and no door state is changed (R111; log entry 78). -/
def State.departedReport (s : State) (u : DoorUnitName) (b : BusyCommand) (r : DoorResult) : State :=
  (s.completeUnit u b.cmd.cabin).report .doorReportAfterDeparture none b.cmd.id [(b.cmd.field : Nat), (r.code : Nat)]

/-- A late report for a unit's last timed-out action: the unit, RECOVER or IDLE, enters RECOVER afresh (R102; log entries
22 and 71). -/
def State.lateDoorReport (s : State) (u : DoorUnitName) (c : DoorCommand) : State :=
  ((s.setDoorUnit u { s.doorUnit u with timedOut := none }).completeUnit u c.cabin).report .doorLateReport none c.id
    [(unitNumber u : Nat), (c.field : Nat)]

/-- A report that is neither matched nor late (R104). -/
def State.unmatchedReport (s : State) (u : DoorUnitName) (field code : Nat) : State :=
  (s.setDsq { s.dsq with unmatched := satInc s.dsq.unmatched }).report .doorReportUnmatched none none
    [(unitNumber u : Nat), (field : Nat), (code : Nat)]

/-- A report against a BUSY unit: matched when its phase is SENT and the cabin field is the command's (R97). The command's
entry is found by its serial, under which a cabin may have come back through DG (log entry 58). -/
def State.reportWhileBusy (s : State) (u : DoorUnitName) (b : BusyCommand) (field : Nat) (r : DoorResult) : State :=
  if !b.phase.unsent && field = b.cmd.field then
    match s.entry b.cmd.serial, s.profile b.cmd.cabin with
    | some e, some p => s.takeMatched u b e p r
    | _, _ => s.departedReport u b r
  else s.unmatchedReport u field r.code

/-- A DOOR_REPORT of a unit (R97). -/
def State.takeDoorReport (s : State) (u : DoorUnitName) (field : Nat) (r : DoorResult) : State :=
  match (s.doorUnit u).state with
  | .busy b => s.reportWhileBusy u b field r
  | _ =>
    match (s.doorUnit u).timedOut.filter fun c => c.field = field && c.action.completedBy r with
    | some c => s.lateDoorReport u c
    | none => s.unmatchedReport u field r.code

/-! ## Refusals (R103) -/

/-- A command that a NACK names, put back: the door state returns to the one held before the insertion (R103), which is
FAULT or UNKNOWN for a close that R107 issued. A return to OPEN is no entry into OPEN, so that dwell done stands (log
entry 57). -/
def State.revertDoor (s : State) (b : BusyCommand) : State :=
  match s.entry b.cmd.serial with
  | some e => s.changeDoor e b.before
  | none => s

/-- Whether a command may be offered again: its entry stands in the queue within reach, and a close or a lock is not one
of a held record (R91, R111; log entries 20 and 55). -/
def State.mayRetry (s : State) (c : DoorCommand) : Bool :=
  match s.entry c.serial, s.doorRecord c.serial with
  | some _, some r => !r.beyondReach && s.maySend c
  | _, _ => false

/-- A matched NACK. With reason BUSY at retry count 3 the command is abandoned; below 3 it waits to be offered again, and
one that may not be leaves its unit IDLE (R103; log entry 20). -/
def State.takeDoorNack (s : State) (u : DoorUnitName) (b : BusyCommand) (unsupported : Bool) : State :=
  let s1 := s.revertDoor b
  if unsupported then s1.abandonDoor u b.cmd .unsupported
  else if 3 ≤ b.retries || s1.mayRetry b.cmd then s1.refuseDoor u b.cmd b.tag b.retries
  else s1.unitToIdle u

/-- The BUSY command of a unit that a NACK of a tag may name: SENT, and not yet acted on (R103). -/
def State.nackable (s : State) (u : DoorUnitName) (tag : Nat) : Option BusyCommand :=
  match (s.doorUnit u).state with
  | .busy b => if !b.phase.unsent && b.tag = tag && !b.acted then some b else none
  | _ => none

/-- A NACK of a door command: of two units that carry its tag, the one whose command has the kind it names, and otherwise
the OPEN unit (R103; log entries 56 and 71). -/
def State.takeDoorRefusal (s : State) (f : RingFrame) : State :=
  let hit (u : DoorUnitName) : Option BusyCommand := s.nackable u f.tag
  let isKind (b : BusyCommand) : Bool := b.cmd.action.kind.code = f.refusedKind
  match hit .openUnit, hit .closeUnit with
  | some a, some b =>
    if isKind b && !isKind a then s.takeDoorNack .closeUnit b (f.nackReason = 2)
    else s.takeDoorNack .openUnit a (f.nackReason = 2)
  | some a, none => s.takeDoorNack .openUnit a (f.nackReason = 2)
  | none, some b => s.takeDoorNack .closeUnit b (f.nackReason = 2)
  | none, none =>
    (s.setDsq { s.dsq with unmatchedNacks := satInc s.dsq.unmatchedNacks }).report .unmatchedNack none none
      [(f.refusedKind : Nat), (f.tag : Nat)]

/-! ## Deadlines (R102, R111) -/

/-- The door state that a deadline timed out: the entry's, or the registry's of a cabin that has left the queue (R102);
UNKNOWN for an anonymous entry that has left (log entry 64). -/
def State.timedOutDoor (s : State) (c : DoorCommand) : DoorState :=
  match s.entry c.serial, c.cabin with
  | some e, _ => s.doorOf e.who
  | none, some i => (s.reg i).door
  | none, none => .unknown

/-- The door of an entry still in the queue is FAULT, and its record's timers stop (R102, R111). -/
def State.timeoutDoor (s : State) (c : DoorCommand) : State :=
  match s.entry c.serial with
  | some e => (s.changeDoor e .fault).modRecord e.serial DoorRecord.stopTimers
  | none => s

/-- The expiry of a SENT command's deadline (R102). -/
def State.doorTimeout (s : State) (u : DoorUnitName) (b : BusyCommand) : State :=
  let s1 :=
    (((s.raise .doorTimeout b.cmd.id).timeoutDoor b.cmd).report .doorTimeout none b.cmd.id
      [(unitNumber u : Nat), (b.cmd.field : Nat), ((s.timedOutDoor b.cmd).code : Nat)])
  (s1.setDoorUnit u { s1.doorUnit u with timedOut := some b.cmd }).completeUnit u b.cmd.cabin

/-! ## Record timers (R99, R100) -/

/-- The expiry of the dwell timer (R91, R99). -/
def State.dwellOver (s : State) (serial : Nat) : State :=
  (s.modRecord serial fun r => { r with dwell := none, dwellDone := true }).closeTest serial

/-- The expiry of the reopen wait timer (R99). -/
def State.reopenWaitOver (s : State) (serial : Nat) : State :=
  (s.modRecord serial fun r => { r with reopenWait := none }).closeTest serial

/-- The expiry of the settle timer of a CLOSED door, by the lock mode its record keeps (R100). -/
def State.lockAfterSettle (s : State) (e : StationEntry) (r : DoorRecord) : State :=
  match r.lockMode with
  | .auto => s.changeDoor e .locking
  | .separate =>
    if r.held = .notHeld && !r.beyondReach && s.doorsServed then s.issueDoor .closeUnit (s.doorCommand e .lockDoor)
    else s

/-- The expiry of the settle timer (R100). It does nothing to a door that is no longer CLOSED (log entry 55). -/
def State.settleOver (s : State) (serial : Nat) : State :=
  let s1 := s.modRecord serial fun r => { r with settle := none }
  match s1.entry serial, s1.doorRecord serial with
  | some e, some r => if s1.doorOf e.who = .closed then s1.lockAfterSettle e r else s1
  | _, _ => s1

/-! ## Operator requests (R105 to R108) -/

/-- What a door request's target names: an entry of the station queue, or the status of the refusal (R105). -/
inductive DoorTarget where
  | entry (e : StationEntry)
  | refusal (status : Status)
  deriving DecidableEq, Repr

/-- Whether an entry is anonymous. -/
def Who.isAnon : Who → Bool
  | .cabin _ => false
  | .anon _ _ _ => true

/-- The target of a door request (R105). -/
def State.doorTarget (s : State) (w : Word) : DoorTarget :=
  match targetOf w with
  | .serial n =>
    match (s.entry n).filter fun e => e.who.isAnon with
    | some e => .entry e
    | none => .refusal .badEntry
  | .id n =>
    match s.lookup n with
    | none => .refusal .badEntry
    | some i =>
      match s.entryOfCabin i with
      | some e => .entry e
      | none => .refusal .notAllowed

/-- Whether HOLD_OPEN is taken for an entry: OPENING or OPEN, and not beyond reach (R106). -/
def State.mayHoldOpen (s : State) (e : StationEntry) : Bool :=
  (s.doorOf e.who = .opening || s.doorOf e.who = .opened) &&
    (match s.doorRecord e.serial with | some r => !r.beyondReach | none => false)

/-- HOLD_OPEN taken: the flag is set, and an unsent close is withdrawn (R106). -/
def State.takeHoldOpen (s : State) (e : StationEntry) : State :=
  (s.setHoldOpen e true).withdrawClose e.serial

/-- RELEASE_HOLD taken: the flag is cleared, and the close test is made (R106). -/
def State.takeReleaseHold (s : State) (e : StationEntry) : State := (s.setHoldOpen e false).closeTest e.serial

/-- Whether DOOR_RETRY is taken for an entry: in S2 or S3, held or with a FAULT or UNKNOWN door (R107). -/
def State.mayRetryDoor (s : State) (e : StationEntry) : Bool :=
  (e.segment = .s2 || e.segment = .s3) &&
    ((match s.doorRecord e.serial with | some r => r.held ≠ .notHeld | none => false) ||
      s.doorOf e.who = .fault || s.doorOf e.who = .unknown)

/-- DOOR_CLOSE issued with lock mode SEPARATE, which the record keeps (R91, R107). -/
def State.closeSeparate (s : State) (e : StationEntry) : State :=
  if s.doorsServed then
    (s.modRecord e.serial fun r => { r with lockMode := .separate }).issueDoor .closeUnit
      (s.doorCommand e (.closeDoor .separate))
  else s

/-- DOOR_RETRY taken (R107). -/
def State.takeDoorRetry (s : State) (e : StationEntry) : State :=
  let s1 := (s.modRecord e.serial fun r => { r with reopens := 0, held := .notHeld }).judgeObstruction
  match s1.doorOf e.who with
  | .opened => s1.closeTest e.serial
  | .closed => s1.settleSeparate e
  | .fault | .unknown => s1.closeSeparate e
  | _ => s1

/-- The door mode set; at the change into CLOSED_RUN every unsent DOOR_OPEN is withdrawn (R108). -/
def State.setDoorMode (s : State) (m : DoorMode) : State :=
  let s1 := s.setDsq { s.dsq with mode := m }
  if m = .closedRun && s.dsq.mode ≠ .closedRun then s1.withdrawUnsent .openUnit fun c => c.action = .openDoor else s1

/-! ## Restore (R112) -/

/-- A restored door state: no unit action survives a reset. -/
def DoorState.restored : DoorState → DoorState
  | .opening | .closing | .reopening | .locking => .unknown
  | d => d

/-- The door record made for a restored entry (R112). -/
def DoorRecord.restored (e : StationEntry) : DoorRecord :=
  { DoorRecord.fresh e.serial with
    closeRequested := 3 ≤ e.segment.num
    beyondReach := 4 ≤ e.segment.num
    lockMode := .separate }

/-- The timers of a restored entry within reach (R112). -/
def State.restoreDoorTimers (s : State) (e : StationEntry) : State :=
  if 4 ≤ e.segment.num then s
  else match s.doorOf e.who with
    | .opened => s.startDwell e
    | .closed => s.startSettle e
    | _ => s

end Sys2Proof.Machine
end

