-- ==== Sys2Proof/Machine/ScanOps.lean ====
section
/-!
DEFINITION. The shared operations of the rope monitor: tension, tower scans, train statuses, grip force (chapter 6).
-/

namespace Sys2Proof.Machine

/-! ## Tension (R113 to R115) -/

/-- A TENSION_BAND report where a band condition becomes present: the position and the band passed, numbered upwards:
stop_lo 1, warn_lo 2, warn_hi 3, stop_hi 4 (R113). Its cause field names the cause (log entry 66). -/
def State.judgeBand (s : State) (c : Cause) (present : Bool) (x band : Nat) : State :=
  if present && !s.condition c then (s.judge c true).report .tensionBand (some c) none [(x : Nat), (band : Nat)]
  else s.judge c present

/-- A carriage position judged against the bands in force: TENSION_WARN first, so that its TENSION_BAND report comes first
where both become present (R113; log entry 77). -/
def State.judgeTension (s : State) (t : SafetyTables) (x : Nat) : State :=
  let inWarn := t.warnLo ≤ x && x ≤ t.warnHi
  let inStop := t.stopLo ≤ x && x ≤ t.stopHi
  (s.judgeBand .tensionWarn (!inWarn) x (if x < t.warnLo then 2 else 3)).judgeBand .tensionLimit (!inStop) x
    (if x < t.stopLo then 1 else 4)

/-- A TENSION_SAMPLE (R113). -/
def State.takeTension (s : State) (x : Nat) : State :=
  let s1 :=
    s.setRmn
      { s.rmn with carriage := some { position := x, time := s.now }, tensionLoss := some (s.after 1000) }
  (s1.judge .tensionLost false).judgeTension s.tables x

/-! ## Tower records (R116) -/

/-- The tower entry of a table index. -/
def State.towerEntry (s : State) (i : Nat) : Option TowerEntry :=
  match s.tst.safety with
  | some t => t.towers.getD i none
  | none => none

/-- The scan record of a table index. -/
def State.tower (s : State) (i : Nat) : TowerRecord := s.rmn.towers.getD i TowerRecord.initial

/-- The scan record of a table index changed. -/
def State.modTower (s : State) (i : Nat) (f : TowerRecord → TowerRecord) : State :=
  s.setRmn { s.rmn with towers := s.rmn.towers.set i (f (s.tower i)) }

/-- The phase of a tower set. -/
def State.setScan (s : State) (i : Nat) (p : ScanPhase) : State := s.modTower i fun r => { r with phase := p }

/-- The tag a phase holds: while QUEUED or AWAITING. -/
def ScanPhase.tag : ScanPhase → Option Nat
  | .queued _ t | .awaiting t _ => some t
  | _ => none

/-- Whether a scan to a concentrator node carries a tag (R117). -/
def State.scanTagUsed (s : State) (node tag : Nat) : Bool :=
  (List.range 24).any fun i =>
    match s.towerEntry i with
    | some e => e.node = node && (s.tower i).phase.tag = some tag
    | none => false

/-- The next value of RMN's tag sequence that no scan to the node carries (R117). -/
def State.scanTag (s : State) (node : Nat) : Option Nat :=
  let first := match s.rmn.lastTag with | some t => (t + 1) % 8 | none => 0
  ((List.range 8).map fun d => (first + d) % 8).find? fun t => !s.scanTagUsed node t

/-- The SCAN_REQUEST frame of a tower (chapter 12, code 24). -/
def scanFrame (e : TowerEntry) (tag : Nat) : EgressFrame :=
  { kind := .scanRequest, mask := addressBit e.node, tag := tag, payload := [place e.number 0], restartReply := false }

/-- A scan offered with its tag: at debt 8 to CONTROL, or to POLL where CONTROL refuses it; below, to POLL (R117). -/
def State.offerScan (s : State) (i : Nat) (e : TowerEntry) (tag : Nat) : State :=
  if (s.tower i).debt = 8 && s.controlRoom then
    (s.placeControl (scanFrame e tag)).setScan i (.queued true tag)
  else (s.placePoll (scanFrame e tag)).setScan i (.queued false tag)

/-- A scan queued for a tower: a tag is taken, or the tower waits for one (R117). -/
def State.queueScan (s : State) (i : Nat) : State :=
  match s.towerEntry i with
  | some e =>
    match s.scanTag e.node with
    | some tag => (s.setRmn { s.rmn with lastTag := some tag }).offerScan i e tag
    | none => s.setScan i .tagWait
  | none => s

/-- The towers of a node that wait for a tag take the freed ones, lowest table index first (R117). -/
def State.serveTagWait (s : State) (node : Nat) : State :=
  (List.range 24).foldl
    (fun x i =>
      match x.towerEntry i with
      | some e => if e.node = node && (x.tower i).phase = .tagWait then x.queueScan i else x
      | none => x)
    s

/-- TOWER_SCAN_OVERDUE and TOWER_SCAN_LOST judged over the flags of all towers (R118, R121). -/
def State.judgeScanFlags (s : State) : State :=
  (s.judge .towerScanOverdue (s.rmn.towers.any fun r => r.overdue)).judge .towerScanLost
    (s.rmn.towers.any fun r => r.lost)

/-- A tower whose scan has ended, by a matched report or a failure: it enters IDLE, its freed tag goes to the towers that
wait for one, and a scan that has fallen due meanwhile is queued at once (R117, R120, R121; log entry 36). -/
def State.endScan (s : State) (i : Nat) (e : TowerEntry) : State :=
  let due := (s.tower i).due
  let s1 := ((s.modTower i fun r => { r with phase := .idle, due := false })).serveTagWait e.node
  if due then s1.queueScan i else s1

/-! ## Due expiry (R118) -/

/-- Promotion: a request queued in POLL at debt 8 moves to CONTROL with its tag, or back to POLL as its newest frame
where CONTROL refuses it (R118, R182). -/
def State.promoteScan (s : State) (i : Nat) (e : TowerEntry) : State :=
  let r := s.tower i
  match r.phase with
  | .queued false tag =>
    if r.debt = 8 then (s.withdrawPoll .scanRequest tag (some (addressBit e.node))).offerScan i e tag else s
  | _ => s

/-- A due expiry in a phase in which the scan due has not been sent: debt rises to at most 8, and at 8 the overdue flag is
set (R118). -/
def State.raiseDebt (s : State) (i : Nat) (e : TowerEntry) : State :=
  let s1 :=
    if (s.tower i).debt < 8 then s.modTower i fun r => { r with debt := r.debt + 1 }
    else (s.modTower i fun r => { r with overdue := true }).judgeScanFlags
  s1.promoteScan i e

/-- The expiry of a tower's due timer (R118). -/
def State.scanDue (s : State) (i : Nat) (e : TowerEntry) : State :=
  let s1 := s.modTower i fun r => { r with dueTimer := some (s.after e.interval) }
  match (s.tower i).phase with
  | .idle => s1.queueScan i
  | .awaiting _ _ => if (s.tower i).due then s1.raiseDebt i e else s1.modTower i fun r => { r with due := true }
  | _ => s1.raiseDebt i e

/-! ## Insertion (R119) -/

/-- The table index of the tower whose queued request has a mask and a tag. -/
def State.queuedScan (s : State) (mask : Word) (tag : Nat) : Option Nat :=
  (List.range 24).find? fun i =>
    match s.towerEntry i, (s.tower i).phase with
    | some e, .queued _ t => addressBit e.node = mask && t = tag
    | _, _ => false

/-- RNG reports the insertion of a SCAN_REQUEST (R119). -/
def State.scanInserted (s : State) (mask : Word) (tag : Nat) : State :=
  match s.queuedScan mask tag with
  | some i =>
    s.modTower i fun r =>
      { r with phase := .awaiting tag (s.after 250), debt := 0, scansSent := satInc r.scansSent }
  | none => s

/-! ## Statuses (R122 to R124) -/

/-- A status list fitted to a train count: statuses beyond it are ignored, and trains it does not reach take SENSOR_FAULT
(R123). -/
def fitStatuses (trains : Nat) (xs : List TrainStatus) : List TrainStatus :=
  (List.range trains).map fun n => xs.getD n .sensorFault

/-- Whether a train of one tower shows a status. -/
def State.anyTrain (s : State) (x : TrainStatus) : Bool :=
  s.rmn.towers.any fun r => match r.statuses with | some y => x ∈ y.trains | none => false

/-- DEROPEMENT, ROPE_OFFSET and TOWER_SENSOR judged over the latest statuses of every tower (R124). -/
def State.judgeTrains (s : State) : State :=
  ((s.judge .deropement (s.anyTrain .deroped)).judge .ropeOffset (s.anyTrain .offset)).judge .towerSensor
    (s.anyTrain .sensorFault)

/-- A reading's source as a number: REPORT 0, ALARM 1. -/
def StatusSource.code : StatusSource → Nat
  | .report => 0
  | .alarm => 1

/-- The train statuses of a tower, none before any reading. -/
def TowerRecord.trains (r : TowerRecord) : List TrainStatus :=
  match r.statuses with
  | some y => y.trains
  | none => []

/-- A TOWER_STATUS report where the status of at least one train has changed (R124). -/
def State.reportStatuses (s : State) (e : TowerEntry) (src : StatusSource) (old new : List TrainStatus) : State :=
  if old = new then s
  else
    s.report .towerStatus none none
      (ints ([e.number, src.code, old.length] ++ (old ++ new).map TrainStatus.code))

/-- A tower's latest statuses replaced, and the three status conditions judged (R120, R122, R123, R124). -/
def State.replaceStatuses (s : State) (i : Nat) (e : TowerEntry) (xs : List TrainStatus) (src : StatusSource) : State :=
  let new := fitStatuses e.trains xs
  ((s.modTower i fun r => { r with statuses := some { trains := new, source := src, time := s.now } }).judgeTrains
    ).reportStatuses e src (s.tower i).trains new

/-- The table index and entry that name a node and a tower number. -/
def State.towerNamed (s : State) (node number : Nat) : Option (Nat × TowerEntry) :=
  (List.range 24).findSome? fun i =>
    match s.towerEntry i with
    | some e => if e.node = node && e.number = number then some (i, e) else none
    | none => none

/-- A report or an alarm whose tower number no entry names with its node (R122). -/
def State.unknownTower (s : State) (f : RingFrame) : State :=
  s.report .unknownTower none none [(f.source : Nat), (f.towerNumber : Nat)]

/-- A matched report: a successful scan (R120). -/
def State.matchedReport (s : State) (i : Nat) (e : TowerEntry) (f : RingFrame) : State :=
  let s1 :=
    s.modTower i fun r => { r with failures := 0, lost := false, overdue := false, reports := satInc r.reports }
  ((s1.judgeScanFlags).replaceStatuses i e f.statuses .report).endScan i e

/-- A late report: its statuses are taken, and the scan record stands (R122). -/
def State.lateScanReport (s : State) (i : Nat) (e : TowerEntry) (f : RingFrame) : State :=
  (s.modTower i fun r => { r with lateReports := satInc r.lateReports }).replaceStatuses i e f.statuses .report

/-- Whether a tower is AWAITING with a tag. -/
def State.awaitsTag (s : State) (i tag : Nat) : Bool :=
  match (s.tower i).phase with
  | .awaiting t _ => t = tag
  | _ => false

/-- A SCAN_REPORT (R120, R122). -/
def State.takeScanReport (s : State) (f : RingFrame) : State :=
  match s.towerNamed f.source f.towerNumber with
  | some (i, e) => if s.awaitsTag i f.tag then s.matchedReport i e f else s.lateScanReport i e f
  | none => s.unknownTower f

/-- A TOWER_ALARM (R122, R123). -/
def State.takeAlarm (s : State) (f : RingFrame) : State :=
  match s.towerNamed f.source f.towerNumber with
  | some (i, e) =>
    (s.modTower i fun r => { r with alarms := satInc r.alarms }).replaceStatuses i e f.statuses .alarm
  | none => s.unknownTower f

/-! ## Failures (R121) -/

/-- The lost flag of a tower set at the third failure in a row, with a report that names the tower by its number (R121; log
entry 71) and leaves the cause field absent (R193; log entry 66). -/
def State.markLost (s : State) (i : Nat) (e : TowerEntry) : State :=
  if (s.tower i).failures = 3 && !(s.tower i).lost then
    ((s.modTower i fun r => { r with lost := true }).judgeScanFlags).report .towerScanLost none none
      [(e.number : Nat)]
  else s

/-- A tower's AWAITING scan fails (R121). -/
def State.failScan (s : State) (i : Nat) (e : TowerEntry) : State :=
  let s1 :=
    s.modTower i fun r =>
      { r with failures := if r.failures < 3 then r.failures + 1 else 3, failed := satInc r.failed }
  (s1.markLost i e).endScan i e

/-- The tower of a node whose AWAITING scan carries a tag. -/
def State.awaitingScan (s : State) (node tag : Nat) : Option (Nat × TowerEntry) :=
  (List.range 24).findSome? fun i =>
    match s.towerEntry i with
    | some e => if e.node = node && s.awaitsTag i tag then some (i, e) else none
    | none => none

/-- A NACK of a SCAN_REQUEST (R121; log entry 71). -/
def State.takeScanNack (s : State) (f : RingFrame) : State :=
  match s.awaitingScan f.source f.tag with
  | some (i, e) => s.failScan i e
  | none => s.report .unmatchedNack none none [(f.refusedKind : Nat), (f.tag : Nat)]

/-! ## After resets and commits (R125) -/

/-- A tower of the table starts: a scan is queued and its due timer runs (R125). -/
def State.startTower (s : State) (i : Nat) : State :=
  match s.towerEntry i with
  | some e => (s.queueScan i).modTower i fun r => { r with dueTimer := some (s.after e.interval) }
  | none => s

/-- Every tower of the table starts, in index order (R125). -/
def State.startTowers (s : State) : State := (List.range 24).foldl State.startTower s

/-- Whether a table index keeps its record at a commit: its node, tower number and train count are unchanged (R125). -/
def sameTower (old new : Option TowerEntry) : Bool :=
  match old, new with
  | some a, some b => a.node = b.node && a.number = b.number && a.trains = b.trains
  | none, none => true
  | _, _ => false

/-- The queued request of an old entry withdrawn from its egress queue (R125). -/
def State.withdrawScan (s : State) (i : Nat) (old : Option TowerEntry) : State :=
  match old, (s.tower i).phase with
  | some e, .queued true tag => s.withdrawControl .scanRequest tag (some (addressBit e.node))
  | some e, .queued false tag => s.withdrawPoll .scanRequest tag (some (addressBit e.node))
  | _, _ => s

/-- The table indices whose record is reinitialised at a commit (R125). -/
def changedTowers (old new : List (Option TowerEntry)) : List Nat :=
  (List.range 24).filter fun i => !sameTower (old.getD i none) (new.getD i none)

/-- RMN's part of a SAFETY commit, with the new tables in force: changed indices take the values of a reset, towers
that wait take the freed tags, the changed indices start afresh, and the conditions are judged (R117, R125; log entry
36). -/
def State.commitTowers (s : State) (old new : List (Option TowerEntry)) : State :=
  let changed := changedTowers old new
  let s1 := changed.foldl (fun x i => (x.withdrawScan i (old.getD i none)).modTower i fun _ => TowerRecord.initial) s
  let s2 := (List.range 32).foldl State.serveTagWait s1
  let s3 := changed.foldl State.startTower s2
  (s3.judgeTrains).judgeScanFlags

/-! ## Grip (R126) -/

/-- The grip class of an entry: the registry's, or class 0 for an anonymous entry (R126). -/
def State.gripClassOf (s : State) (w : Who) : Nat :=
  match w with
  | .cabin i => (s.reg i).stat.gripClass
  | .anon _ _ _ => 0

/-- GRIP_REJECT with its report, whose cause field stays absent (R126, R193; log entry 66). -/
def State.rejectGrip (s : State) (e : StationEntry) (g : Nat) (c : GripClass) (force : Nat) : State :=
  (s.raise .gripReject (s.whoId e.who)).report .gripReject none (s.whoId e.who)
    [(e.serial : Nat), idData (s.whoId e.who), (g : Nat), (force : Nat), (c.fMin : Nat), (c.fMax : Nat)]

/-- A force judged against the class bounds in force (R126). -/
def State.judgeForce (s : State) (e : StationEntry) (o : OperationsTables) (force : Nat) : State :=
  let g := s.gripClassOf e.who
  let c := o.classes.getD g GripClass.widest
  if c.fMin ≤ force && force ≤ c.fMax then
    (s.setRmn { s.rmn with gripSamples := satInc s.rmn.gripSamples }).setGrip e .pass (some force)
  else
    ((s.setRmn
      { s.rmn with gripSamples := satInc s.rmn.gripSamples, gripRejects := satInc s.rmn.gripRejects }).setGrip e
      .reject (some force)).rejectGrip e g c force

/-- RMN judges a grip, or stores it UNTESTED while the OPERATIONS group is invalid, and counts the sample either way (R126;
log entries 65 and 71). -/
def State.judgeGrip (s : State) (e : StationEntry) (force : Nat) : State :=
  match s.tst.operations with
  | some o => s.judgeForce e o force
  | none =>
    ((s.setRmn { s.rmn with gripSamples := satInc s.rmn.gripSamples }).setGrip e .untested (some force)).report
      .gripUnjudged none (s.whoId e.who) [(e.serial : Nat), (force : Nat)]

end Sys2Proof.Machine
end

