-- ==== Sys2Proof/Machine/StationActs.lean ====
section
/-!
DEFINITION. What the cabin tracker does at arrivals, passages, routing, the switch, the garage exit, operator requests
and summit handovers (R43 to R48, R63 to R84).
-/

namespace Sys2Proof.Machine

/-! ## Arrivals at D1 (R64, R65) -/

/-- The count of consecutive arrivals without an ID, and the ID_UNREAD condition (R64). -/
def State.countUnread (s : State) (id : Nat) : State :=
  let n := if id = 0 then (if s.ctr.unread < 2 then s.ctr.unread + 1 else 2) else 0
  (s.setCtr { s.ctr with unread := n }).judge .idUnread (n = 2)

/-- The identity of a forward arrival: a registry index and whether it is assumed, or anonymous (R64). -/
def State.arrivalIdentity (s : State) (id : Nat) : Option (Nat × Bool) :=
  if id = 0 then s.ctr.downhill.head?.map fun d => (d.cabin, true)
  else ((s.lookup id).filter fun i => (s.reg i).stat.inService).map fun i => (i, false)

/-- UNKNOWN_CABIN for an arrival whose ID names no entry in service (R64). -/
def State.reportUnknownCabin (s : State) (id : Nat) : State :=
  (s.raise .unknownCabin (some id)).report .unknownCabin none none [(id : Nat)]

/-- Whether the station queue is full: it holds 32 entries (R62). -/
def State.queueFull (s : State) : Bool := 32 ≤ s.ctr.queue.length

/-- The registry's record of a cabin that joins the queue at D1 (R44, R61, R65, R106). -/
def RegEntry.arrived (r : RegEntry) (assumed : Bool) : RegEntry :=
  { r with
    location := .station, door := .locked, verdict := .untested, force := none, overdue := false, holdOpen := false
    idAssumed := assumed }

/-- A new entry at the tail, in S1 and UNDECIDED, with its door record (R62, R65, R91). -/
def State.joinAtD1 (s : State) (who : Who) : State :=
  let n := s.freshSerial
  let s1 :=
    (s.takeSerial n).appendEntry { serial := n, who := who, segment := .s1, route := .undecided, slotless := false }
  (s1.setDoorRecords (s1.dsq.records ++ [DoorRecord.fresh n])).judgeSegments

/-- STATION_OVERFLOW raised, with the cabin concerned (R65, R73, R77). -/
def State.stationOverflow (s : State) (id : Option Nat) : State := s.raise .stationOverflow id

/-- A registered arrival (R43, R44, R65). Its OVERDUE flag is cleared also where the station entry is refused (R44, R52);
its door state, verdict and force are then kept (log entry 70), and CABIN_UNLOCATED names STATION_OVERFLOW also where the
booking raises DUPLICATE_CABIN (R41; log entry 81). -/
def State.arriveRegistered (s : State) (i : Nat) (assumed : Bool) : State :=
  let slot := s.expectedSlot .valley i
  let left := (s.reg i).location
  (if s.queueFull then
     ((((s.stationOverflow (some (s.idOf i))).matchArrival .valley i).joinUnlocated i).modReg i fun r =>
       { r with idAssumed := assumed, overdue := false }).reportUnlocated i left (.cause .stationOverflow)
   else ((s.matchArrival .valley i).modReg i fun r => r.arrived assumed).joinAtD1 (.cabin i)).sendHandover
    .valleyArrival (s.idOf i) assumed slot

/-- An anonymous arrival (R65). -/
def State.arriveAnonymous (s : State) : State :=
  if s.queueFull then (s.stationOverflow none).report .arrivalDropped none none []
  else s.joinAtD1 (.anon .locked .untested none)

/-- A forward ARRIVAL (R64, R65). -/
def State.takeArrival (s : State) (id : Nat) : State :=
  let s1 := s.countUnread id
  match s1.arrivalIdentity id with
  | some (i, assumed) => s1.arriveRegistered i assumed
  | none => (if id = 0 then s1 else s1.reportUnknownCabin id).arriveAnonymous

/-! ## Passages (R66, R67, R78) -/

/-- The garage exit judged again where S4 is empty now and was not (R76). -/
def State.exitIfEmptied (s : State) (before : State) : State :=
  if !(before.inSegment .s4).isEmpty && (s.inSegment .s4).isEmpty then s.judgeGarageExit else s

/-- MERGE_CONFLICT for a forward D4 passage while a garage exit command is outstanding (R78). -/
def State.checkMerge (s : State) (e : StationEntry) : State :=
  if s.ctr.exitCommand.isSome then
    (s.raise .mergeConflict (s.whoId e.who)).report .mergeConflict none (s.whoId e.who)
      [(e.serial : Nat), idData (s.whoId e.who)]
  else s

/-- A forward passage at D2, D3 or D4 (R66). -/
def State.passForward (s : State) (detector : Nat) (source dest : Segment) (act : State → StationEntry → State) : State :=
  match s.oldest source with
  | some e => act (s.moveEntry e dest) e
  | none => s.phantom detector

/-- A backward passage (R67). -/
def State.passBackward (s : State) (detector : Nat) (source dest : Segment) (act : State → StationEntry → State) : State :=
  match s.newest source with
  | some e => act (s.moveEntry e dest) e
  | none => s.phantom detector

/-- What follows a forward D4 passage: the lock check, the merge check and the garage exit test (R66). -/
def State.afterD4 (s : State) (e : StationEntry) : State := ((s.leaveReach e).checkMerge e).judgeGarageExit

/-- A forward PASSAGE, by the role of its detector (R66). -/
def State.takePassage (s : State) (r : Role) : State :=
  match r with
  | .detector2 => s.passForward 2 .s1 .s2 State.openAtD2
  | .detector3 => s.passForward 3 .s2 .s3 State.requestClose
  | .detector4 => s.passForward 4 .s3 .s4 State.afterD4
  | _ => s

/-- A backward PASSAGE, by the role of its detector (R67, R76). -/
def State.takeBackPassage (s : State) (r : Role) : State :=
  match r with
  | .detector2 => s.passBackward 2 .s2 .s1 State.backD2
  | .detector3 => s.passBackward 3 .s3 .s2 State.backD3
  | .detector4 => (s.passBackward 4 .s4 .s3 State.backD4).exitIfEmptied s
  | _ => s

/-! ## Grip test and routing (R70, R71) -/

/-- Whether the route wanted is GARAGE (R71). -/
def State.wantsGarage (s : State) (e : StationEntry) : Bool :=
  s.verdictOf e.who = .reject || e.who.isAnon ||
    (match e.who with | .cabin i => (s.reg i).garageNext | .anon _ _ _ => false)

/-- The claims on the garage other than an entry's own: the other queue entries routed GARAGE (R71). -/
def State.otherClaims (s : State) (e : StationEntry) : Nat :=
  (s.ctr.queue.filter fun x => x.route = .garage && x.serial ≠ e.serial).length

/-- Whether GARAGE is granted (R71). -/
def State.garageGranted (s : State) (e : StationEntry) : Bool :=
  s.ctr.garage.length + s.otherClaims e < s.tables.gcap

/-- The route of an entry set. -/
def State.setRoute (s : State) (e : StationEntry) (r : Route) : State :=
  s.modEntry e.serial fun x => { x with route := r }

/-- ROUTE_FORCED_LINE for a REJECT or anonymous cabin routed LINE (R71). -/
def State.reportForced (s : State) (e : StationEntry) : State :=
  if s.verdictOf e.who = .reject || e.who.isAnon then
    s.report .routeForcedLine none (s.whoId e.who)
      [(e.serial : Nat), idData (s.whoId e.who), ((s.verdictOf e.who).code : Nat)]
  else s

/-- GARAGE_NEXT dropped by a route of LINE (R71; log entry 71). -/
def State.dropGarageNext (s : State) (e : StationEntry) : State :=
  match e.who with
  | .cabin i =>
    if (s.reg i).garageNext then
      (s.modReg i fun r => { r with garageNext := false }).report .garageNextDropped none (some (s.idOf i))
        [(s.idOf i : Nat)]
    else s
  | .anon _ _ _ => s

/-- The entry that has crossed D5 is routed (R71). -/
def State.routeEntry (s : State) (e : StationEntry) : State :=
  if s.wantsGarage e && s.garageGranted e then s.setRoute e .garage
  else ((s.setRoute e .line).reportForced e).dropGarageNext e

/-- Judging and routing of the entry that has crossed D5 (R70, R71, R72). -/
def State.afterD5 (s : State) (force : Nat) (e : StationEntry) : State :=
  let s1 := s.judgeGrip e force
  (s1.routeEntry ((s1.entry e.serial).getD e)).judgeSwitch

/-- A forward GRIP_SAMPLE (R70): the switch demand is judged before the garage exit (log entry 69). One that finds S4
empty is a phantom, at which the demand is not judged (log entry 53). -/
def State.takeGrip (s : State) (force : Nat) : State :=
  (s.passForward 5 .s4 .s5 fun x e => x.afterD5 force e).exitIfEmptied s

/-- A backward GRIP_SAMPLE (R67, R72). -/
def State.takeBackGrip (s : State) : State := s.passBackward 5 .s5 .s4 fun x _ => x.judgeSwitch

/-! ## The switch (R72, R73) -/

/-- ROUTE_MISMATCH where the position differs from the entry's route (R73). -/
def State.checkRoute (s : State) (e : StationEntry) (p : SwitchPosition) : State :=
  if e.route.position = some p then s
  else
    (s.raise .routeMismatch (s.whoId e.who)).report .routeMismatch none (s.whoId e.who)
      [(e.serial : Nat), idData (s.whoId e.who), (e.route.tag : Nat), (p.code : Nat)]

/-- A D6 passage to LINE: the entry joins S6 with route LINE (R73). -/
def State.toLaunchQueue (s : State) (e : StationEntry) : State :=
  ((s.modEntry e.serial fun x => { x with segment := .s6, route := .line }).judgeSegments).reportHead

/-- The GARAGE_NEXT flag cleared, and the location set, of a registered cabin pushed on the stack (R73). -/
def State.garageCabin (s : State) (who : Who) : State :=
  match who with
  | .cabin i => s.modReg i fun r => { r with location := .garage, garageNext := false }
  | .anon _ _ _ => s

/-- A D6 passage into the garage below Gcap: the entry leaves the queue and is pushed on the stack (R73, R76). -/
def State.toGarage (s : State) (e : StationEntry) : State :=
  (((s.leaveStation e).pushGarage { serial := e.serial, who := e.who }).garageCabin e.who).judgeGarageExit

/-- A D6 passage into a full garage (R73), whose CABIN_UNLOCATED names STATION_OVERFLOW also after
a ROUTE_MISMATCH (R41; log entry 81). -/
def State.garageOverflow (s : State) (e : StationEntry) : State :=
  let s1 := s.stationOverflow (s.whoId e.who)
  match e.who with
  | .cabin i => s1.unlocate i (.cause .stationOverflow)
  | .anon _ _ _ => s1.leaveStation e

/-- A D6 passage to a position (R73). -/
def State.crossSwitch (s : State) (e : StationEntry) (p : SwitchPosition) : State :=
  match p with
  | .line => s.toLaunchQueue e
  | .garage => if s.ctr.garage.length < s.tables.gcap then s.toGarage e else s.garageOverflow e

/-- A forward SWITCH_PASSAGE (R73). -/
def State.takeSwitch (s : State) (p : SwitchPosition) : State :=
  match s.oldest .s5 with
  | some e => ((s.crossSwitch e p).checkRoute e p).judgeSwitch
  | none => s.phantom 6

/-- A backward SWITCH_PASSAGE: a change of head is reported, and the demand is judged again (R67); at a phantom it is not
(log entry 53). -/
def State.takeBackSwitch (s : State) : State := s.passBackward 6 .s6 .s5 fun x _ => x.reportHead.judgeSwitch

/-- The position bit of a SWITCH_PASSAGE. -/
def RingFrame.position (f : RingFrame) : SwitchPosition := if bitOf (f.word 0) 0 then .garage else .line

/-- A NACK of a SWITCH_SET (R72; log entry 71). -/
def State.takeSwitchNack (s : State) (f : RingFrame) : State :=
  if s.ctr.lastSwitchTag = some f.tag then
    (s.setCtr { s.ctr with commanded := none }).report .switchRefused none none []
  else s.report .unmatchedNack none none [(f.refusedKind : Nat), (f.tag : Nat)]

/-! ## The garage exit (R77, R79) -/

/-- The pending exit count lowered by 1. -/
def State.countExit (s : State) : State := s.setCtr { s.ctr with exitPending := s.ctr.exitPending - 1 }

/-- GARAGE_TOP_CHANGED where the popped entry is not the one on top when the command was sent (R77; log entry 71). -/
def State.checkTop (s : State) (c : ExitCommand) (g : GarageEntry) : State :=
  if c.serial = g.serial then s
  else s.report .garageTopChanged none (s.whoId g.who) [(c.serial : Nat), (g.serial : Nat)]

/-- The stack set. -/
def State.setGarage (s : State) (g : List GarageEntry) : State := s.setCtr { s.ctr with garage := g }

/-- The location of a registered cabin set; an anonymous one has none. -/
def State.locateWho (s : State) (w : Who) (l : Location) : State :=
  match w with
  | .cabin i => s.setLocation i l
  | .anon _ _ _ => s

/-- The popped cabin placed at the tail of S4, with its door record (R77, R91). -/
def State.exitToS4 (s : State) (g : GarageEntry) : State :=
  let s1 :=
    s.setQueue
      (placeInS4 s.ctr.queue
        { serial := g.serial, who := g.who, segment := .s4, route := .undecided, slotless := false })
  (s1.setDoorRecords (s1.dsq.records ++ [DoorRecord.fromGarage g.serial])).locateWho g.who .station

/-- The popped cabin with the queue full: it moves to the unlocated set, or is dropped (R77). -/
def State.exitToUnlocated (s : State) (g : GarageEntry) : State :=
  let s1 := s.stationOverflow (s.whoId g.who)
  match g.who with
  | .cabin i => (s1.joinUnlocated i).reportUnlocated i .garage (.cause .stationOverflow)
  | .anon _ _ _ => s1

/-- A DG passage that pops the stack (R77). -/
def State.popGarage (s : State) (c : ExitCommand) (g : GarageEntry) (rest : List GarageEntry) : State :=
  let s1 := s.setGarage rest
  let s2 := ((if s.queueFull then s1.exitToUnlocated g else s1.exitToS4 g).countExit).checkTop c g
  if rest.isEmpty then s2.setCtr { s2.ctr with exitPending := 0 } else s2

/-- A forward GARAGE_EXIT: the passage of DG (R77). -/
def State.takeExit (s : State) : State :=
  let s1 :=
    match s.ctr.exitCommand, s.ctr.garage with
    | some c, g :: rest => s.endExitCommand.popGarage c g rest
    | some _, [] => s.endExitCommand.phantom 9
    | none, _ => s.phantom 9
  (s1.judgeSegments).judgeGarageExit

/-- An outstanding garage exit command that ends without a DG passage (R79). -/
def State.abandonExit (s : State) (k : EventKind) (data : List Int) : State :=
  ((s.endExitCommand.setCtr { s.endExitCommand.ctr with exitPending := 0 }).report k none none data).judgeGarageExit

/-- A NACK of a GARAGE_EXIT_COMMAND: with the tag of the outstanding command it ends it, and with any other it is
discarded (R79; log entry 37). -/
def State.takeExitNack (s : State) (f : RingFrame) : State :=
  match s.ctr.exitCommand with
  | some c => if c.tag = f.tag then s.abandonExit .garageExitRefused [(f.nackReason : Nat)] else s
  | none => s

/-! ## Operator cabin actions (R81 to R84) -/

/-- What an owner answers to a request: the state after it, the status and the data words. -/
structure Answer where
  state : State
  status : Status
  data : List Word
  deriving DecidableEq, Repr

/-- An answer without data. -/
def State.answer (s : State) (x : Status) : Answer := { state := s, status := x, data := [] }

/-- GARAGE_RELEASE (R81). -/
def State.takeGarageRelease (s : State) (count : Nat) : Answer :=
  if count = 0 then s.answer .badEntry
  else if s.ctr.garage.isEmpty then s.answer .notAllowed
  else if s.ctr.exitPending + count ≤ 8 then
    (s.setCtr { s.ctr with exitPending := s.ctr.exitPending + count }).judgeGarageExit.answer .ok
  else
    { state := (s.setCtr { s.ctr with exitPending := 8 }).judgeGarageExit, status := .clamped, data := [8#32] }

/-- GARAGE_NEXT (R82). -/
def State.takeGarageNext (s : State) (w : Word) : Answer :=
  match targetOf w with
  | .serial _ => s.answer .badEntry
  | .id n =>
    match s.lookup n with
    | none => s.answer .badEntry
    | some i =>
      if (s.reg i).stat.inService then
        ((s.modReg i fun r => { r with garageNext := bitOf w 24 }).report .garageNext none (some n)
          [(n : Nat), (bit (bitOf w 24) : Nat)]).answer .ok
      else s.answer .notAllowed

/-- LOCATE_CABIN accepted: the cabin is pushed on the stack, with its door LOCKED and its grip UNTESTED (R84). It carried
no serial in the queue, and its stack entry takes the next one (log entry 62). -/
def State.parkCabin (s : State) (i : Nat) : State :=
  let s1 := s.takeOut i
  let n := s1.freshSerial
  (((s1.takeSerial n).pushGarage { serial := n, who := .cabin i }).modReg i fun r =>
    { r with location := .garage, door := .locked, verdict := .untested, force := none }).judgeGarageExit

/-- LOCATE_CABIN (R84). While the SAFETY group is invalid no Gcap is in force, and the request is NOT_ALLOWED (log entry
48). -/
def State.takeLocateCabin (s : State) (w : Word) : Answer :=
  if !bitOf w 24 then s.answer .badEntry
  else match targetOf w with
    | .serial _ => s.answer .badEntry
    | .id n =>
      match s.lookup n with
      | none => s.answer .badEntry
      | some i =>
        if (s.reg i).location = .unlocated && s.ctr.garage.length < s.tables.gcap && s.ctr.exitCommand.isNone then
          (s.parkCabin i).answer .ok
        else s.answer .notAllowed

/-- Where the target of a REMOVE_CABIN stands, as far as the request asks (R83). -/
inductive RemovalPlace where
  | launchEnd (e : StationEntry)
  | stackTop (g : GarageEntry)
  | unlocatedSet (i : Nat)
  | barred
  | unknownTarget
  deriving DecidableEq, Repr

/-- The place of a queue entry for a removal: S6 and S7 are open to it (R83). -/
def StationEntry.removalPlace (e : StationEntry) : RemovalPlace :=
  if 6 ≤ e.segment.num then .launchEnd e else .barred

/-- The place of a stack entry: the top, with no exit command outstanding, is open to a removal (R83). -/
def State.stackPlace (s : State) (who : Who → Bool) (serial : Nat → Bool) : RemovalPlace :=
  match s.ctr.garage with
  | g :: _ => if who g.who && serial g.serial && s.ctr.exitCommand.isNone then .stackTop g else .barred
  | [] => .barred

/-- Where the target of a REMOVE_CABIN stands (R83). -/
def State.removalPlace (s : State) (w : Word) : RemovalPlace :=
  match targetOf w with
  | .serial n =>
    match (s.entry n).filter fun e => e.who.isAnon with
    | some e => e.removalPlace
    | none =>
      if s.ctr.garage.any fun g => g.serial = n && g.who.isAnon then s.stackPlace Who.isAnon fun m => m = n
      else .unknownTarget
  | .id n =>
    match s.lookup n with
    | none => .unknownTarget
    | some i =>
      match (s.reg i).location with
      | .station => match s.entryOfCabin i with | some e => e.removalPlace | none => .barred
      | .garage => s.stackPlace (fun x => x = .cabin i) fun _ => true
      | .unlocated => .unlocatedSet i
      | _ => .barred

/-- A CABIN_REMOVED report: the serial, the ID, the place left and the destination, 1 for OUT_OF_SERVICE (R83). -/
def State.reportRemoved (s : State) (serial : Option Nat) (id : Option Nat) (place : Location) (outOfService : Bool) :
    State :=
  s.report .cabinRemoved none id
    [(match serial with | some n => (n : Int) | none => -1), idData id, (place.code : Nat), (bit outOfService : Nat)]

/-- A cabin taken out of service: it leaves every collection and its in-service flag is cleared (R83, R190). -/
def State.takeOutOfService (s : State) (i : Nat) : State :=
  (s.takeOut i).modReg i fun r => { r with stat := { r.stat with inService := false }, location := .outOfService }

/-- A registered cabin taken to the destination of a removal (R83). -/
def State.removeRegistered (s : State) (i : Nat) (outOfService : Bool) : State :=
  if outOfService then s.takeOutOfService i else s.unlocate i .cabinRemoved

/-- Whoever stands in an entry taken to the destination; an anonymous one is dropped (R83). -/
def State.removeWho (s : State) (w : Who) (outOfService : Bool) (drop : State → State) : State :=
  match w with
  | .cabin i => s.removeRegistered i outOfService
  | .anon _ _ _ => drop s

/-- A removal from S6 or S7 (R83). -/
def State.removeEntry (s : State) (e : StationEntry) (outOfService : Bool) : State :=
  (s.removeWho e.who outOfService fun x => x.leaveStation e).reportRemoved (some e.serial) (s.whoId e.who) .station
    outOfService

/-- A removal of the stack top (R83). -/
def State.removeTop (s : State) (g : GarageEntry) (outOfService : Bool) : State :=
  (s.removeWho g.who outOfService fun x => x.setGarage (x.ctr.garage.drop 1)).reportRemoved (some g.serial)
    (s.whoId g.who) .garage outOfService

/-- A removal from the unlocated set, which has an effect for OUT_OF_SERVICE only (R83). -/
def State.removeUnlocated (s : State) (i : Nat) (outOfService : Bool) : State :=
  if outOfService then (s.takeOutOfService i).reportRemoved none (some (s.idOf i)) .unlocated true else s

/-- The registered cabin whose removal a place stands for. -/
def RemovalPlace.cabin : RemovalPlace → Option Nat
  | .launchEnd e => e.who.index
  | .stackTop g => g.who.index
  | .unlocatedSet i => some i
  | _ => none

/-! ## Summit handovers (R45 to R47) -/

/-- SLOT_MISMATCH for a cabin, with its report (R45, R46, R47). -/
def State.slotMismatch (s : State) (i : Nat) (data : List Int) : State :=
  (s.raise .slotMismatch (some (s.idOf i))).report .slotMismatch none (some (s.idOf i)) data

/-- The number of slots of the geometry in force: none while the SAFETY group is invalid (R21). -/
def State.slotCount (s : State) : Nat := match s.tst.safety with | some t => t.N | none => 0

/-- The slot reported for an arrival compared with the one recorded (R45). -/
def State.compareSlot (s : State) (i : Nat) (recorded : Option Nat) (j : Nat) : State :=
  match recorded with
  | some k =>
    if k ≠ j || s.slotCount ≤ j then s.slotMismatch i [(s.idOf i : Nat), (k : Nat), (j : Nat)] else s
  | none => s

/-- A SUMMIT_ARRIVAL booked (R45). -/
def State.bookSummitArrival (s : State) (i j : Nat) : State :=
  ((s.matchArrival .summit i).joinSummit i).compareSlot i (s.expectedSlot .summit i) j

/-- LGT's part of a summit launch into a slot being launched (R31). -/
def State.loseSlot (s : State) (j : Nat) (x : SlotState) : State :=
  match x with
  | .releasePending _ => s.withdrawRelease false
  | .releasing c =>
    (s.setLgt { s.lgt with watch := s.lgt.watch.filter fun w => w.slot ≠ j || w.cabin ≠ c }).setSlotless c
  | _ => s

/-- The occupant of a slot named by a summit launch dealt with (R47), with SLOT_MISMATCH named (R41; log entry 81). -/
def State.resolveSlot (s : State) (i j : Nat) : State :=
  let x := s.slot j
  match x with
  | .empty => s
  | _ =>
    let s1 :=
      s.slotMismatch i
        [(j : Nat), (x.tag : Nat), idData (x.cabin.map s.idOf), (s.idOf i : Nat)]
    match x with
    | .up c | .down c => s1.unlocate c (.cause .slotMismatch)
    | _ => s1.loseSlot j x

/-- The cabin joins the downhill tail with slot `j` (R46). -/
def State.joinDownhill (s : State) (i j : Nat) : State :=
  let s1 :=
    s.setCtr { s.ctr with downhill := s.ctr.downhill ++ [{ cabin := i, slot := j, oReport := s.rpu.odo }] }
  ((s1.setSlot j (.down i)).setLocation i .downhill).clearOverdue i

/-- The cabin of a summit launch taken from where it stands: DUPLICATE_CABIN unless it is in the summit set or the
unlocated set (R46). -/
def State.takeLaunched (s : State) (i : Nat) : State :=
  let l := (s.reg i).location
  if l = .summit || l = .unlocated then s.takeBooked i else (s.duplicate i l).takeBooked i

/-- A SUMMIT_LAUNCH booked, in the order of R46 (log entry 71). The CABIN_UNLOCATED of step 3 names SLOT_MISMATCH also where
step 2 has raised DUPLICATE_CABIN (R41; log entry 81). -/
def State.bookSummitLaunch (s : State) (i j : Nat) : State :=
  if s.safetyValid && s.slotCount ≤ s.ctr.downhill.length then
    (s.unlocate i .downhillFull).report .downhillFull none (some (s.idOf i)) [(s.idOf i : Nat), (j : Nat)]
  else
    let s1 := s.takeLaunched i
    if s.slotCount ≤ j then
      ((s1.joinUnlocated i).reportUnlocated i (s.reg i).location (.cause .slotMismatch)).slotMismatch i
        [(s.idOf i : Nat), (j : Nat)]
    else (s1.resolveSlot i j).joinDownhill i j

/-- A delivered HANDOVER: its sequence is judged, and it is booked or discarded (R45, R46, R49, R50). The slot field is
read as a number of 16 bits, the absent mark of bit 15 with it (log entry 50). -/
def State.takeHandover (s : State) (payload : List Byte) (book : State → Nat → Nat → State) (known : Bool) : State :=
  let id := halfAt payload 2 % 4096
  let s1 := s.judgeHandoverSeq (byteAt payload 1)
  match ((s1.lookup id).filter fun i => (s1.reg i).stat.inService), known with
  | some i, true => book s1 i (halfAt payload 4)
  | _, _ => s1.discardHandover (byteAt payload 0) id

end Sys2Proof.Machine
end

