-- ==== Sys2Proof/Machine/TableOps.lean ====
section
/-!
DEFINITION. The entries of the table groups as management frames read and stage them, and the consistency checks of a
commit (R159, R185, R186, R188; chapter 12, geometry and SAFETY entries).
-/

namespace Sys2Proof.Machine

/-! ## Reading an entry -/

/-- The word of a Nat parameter. -/
def natWord (n : Nat) : Word := BitVec.ofNat 32 n

/-- The category word of a stop matrix entry, 255 for SUMMIT_STOP (chapter 12, entries 32..79). -/
def SafetyTables.matrixWord (t : SafetyTables) (c : Cause) : Word :=
  if c = .summitStop then 255#32 else natWord (t.matrix.getD c.num .run).code

/-- The node table word `n`: role and critical flag, allowed kinds, or allowed destinations (chapter 12, entries
96..191). -/
def SafetyTables.nodeWord (t : SafetyTables) (n : Nat) : Word :=
  let e := t.nodes.getD (n / 3) NodeEntry.unused
  match n % 3 with
  | 0 => place (bit e.critical) 8 ||| place e.role.code 0
  | 1 => e.kinds
  | _ => e.dests

/-- The words of a SAFETY entry (chapter 12, geometry and SAFETY entries). -/
def SafetyTables.entryWords (t : SafetyTables) (n : Nat) : Option (List Word) :=
  match n with
  | 0 => some [natWord t.L]
  | 1 => some [natWord t.N]
  | 2 => some [natWord t.S]
  | 3 => some [natWord t.A]
  | 4 => some [natWord t.W]
  | 5 => some [natWord t.B]
  | 6 => some [natWord t.U]
  | 7 => some [natWord t.Dn]
  | 8 => some [natWord t.tolArr]
  | 9 => some [natWord t.gAtt]
  | 10 => some [natWord t.eMax]
  | 11 => some [natWord t.pMark]
  | 12 => some [natWord t.rTol]
  | 20 => some [natWord t.gcap]
  | 21 => some [natWord t.ts]
  | 22 => some [natWord t.ka]
  | 23 => some [natWord t.kb]
  | 24 => some [natWord t.dMax]
  | 25 => some [natWord t.qLim]
  | 26 => some [natWord t.vMax]
  | 27 => some [place t.stopLo 16 ||| place t.warnLo 0, place t.warnHi 16 ||| place t.stopHi 0]
  | 28 => some [natWord t.pTol]
  | 29 => some [natWord t.tLat]
  | n =>
    if 13 ≤ n && n ≤ 19 then some [natWord (t.caps.getD (n - 13) 0)]
    else if 32 ≤ n && n ≤ 79 then (Cause.all[n - 32]?).map fun c => [t.matrixWord c]
    else if 96 ≤ n && n ≤ 191 then some [t.nodeWord (n - 96)]
    else if 192 ≤ n && n ≤ 215 then some [towerWord (t.towers.getD (n - 192) none)]
    else none

/-- Field `n` of a door profile, in the order of R90. -/
def DoorProfile.fieldAt (p : DoorProfile) (n : Nat) : Nat :=
  match n with
  | 0 => p.tOpenMax
  | 1 => p.tCloseMax
  | 2 => p.tDwell
  | 3 => p.tSettle
  | 4 => p.tRecover
  | 5 => p.tReopenWait
  | _ => p.maxReopen

/-- The words of an OPERATIONS entry (chapter 12). -/
def OperationsTables.entryWords (o : OperationsTables) (n : Nat) : Option (List Word) :=
  if n ≤ 27 then some [natWord ((o.profiles.getD (n / 7) DoorProfile.zero).fieldAt (n % 7))]
  else if n ≤ 31 then
    let c := o.classes.getD (n - 28) GripClass.widest
    some [place c.fMin 16 ||| place c.fMax 0]
  else none

/-! ## Staging an entry (R186) -/

/-- What STAGE_ENTRY makes of a staging copy: the value staged, the value replaced by a bound, or no change. -/
inductive Staged (α : Type) where
  | taken (copy : α)
  | clamped (copy : α) (bound : Word)
  | refused
  deriving DecidableEq, Repr

/-- A value staged if it lies in a range. -/
def ranged {α : Type} (v lo hi : Nat) (copy : α) : Staged α := if lo ≤ v && v ≤ hi then .taken copy else .refused

/-- The stop matrix with the category of a cause set. -/
def SafetyTables.setMatrix (t : SafetyTables) (c : Cause) (x : Category) : SafetyTables :=
  { t with matrix := t.matrix.set c.num x }

/-- A stop matrix entry judged by STC; the CLAMPED reply of SUMMIT_STOP carries 255 (R159; log entry 73). -/
def SafetyTables.stageMatrix (t : SafetyTables) (c : Cause) (v : Nat) : Staged SafetyTables :=
  match Category.ofCode v with
  | none => .refused
  | some x =>
    if c = .summitStop then .clamped t 255#32
    else if c.fixed then
      if x = c.defaultCategory then .taken (t.setMatrix c x)
      else .clamped (t.setMatrix c c.defaultCategory) (natWord c.defaultCategory.code)
    else if x.atLeast c.minCategory then .taken (t.setMatrix c x)
    else .clamped (t.setMatrix c c.minCategory) (natWord c.minCategory.code)

/-- The tension bands judged as one entry: strictly ascending (R186). -/
def SafetyTables.stageBands (t : SafetyTables) (w w2 : Word) : Staged SafetyTables :=
  let a := field w 16 16
  let b := field w 0 16
  let c := field w2 16 16
  let d := field w2 0 16
  if a < b && b < c && c < d then .taken { t with stopLo := a, warnLo := b, warnHi := c, stopHi := d } else .refused

/-- A node table entry with one of its words set; none where the word is not legal (chapter 12). -/
def NodeEntry.withWord (e : NodeEntry) (part : Nat) (w : Word) : Option NodeEntry :=
  match part with
  | 0 => (Role.ofCode (field w 0 8)).map fun r => { e with role := r, critical := bitOf w 8 }
  | 1 => if bitOf w 0 || field w 28 4 ≠ 0 then none else some { e with kinds := w }
  | _ => some { e with dests := w }

/-- A node table word staged. -/
def SafetyTables.stageNode (t : SafetyTables) (n : Nat) (w : Word) : Staged SafetyTables :=
  match (t.nodes.getD (n / 3) NodeEntry.unused).withWord (n % 3) w with
  | some e => .taken { t with nodes := t.nodes.set (n / 3) e }
  | none => .refused

/-- The tower entry of a word; the word 0 is an absent entry (log entry 17), and a word outside the ranges is none. -/
def towerOfWord (w : Word) : Option (Option TowerEntry) :=
  if w = 0 then some none
  else
    let e : TowerEntry :=
      { node := field w 24 5, number := field w 16 8, trains := field w 13 3, interval := field w 0 13 }
    if 1 ≤ e.node && 1 ≤ e.number && 1 ≤ e.trains && e.trains ≤ 4 && 100 ≤ e.interval && e.interval ≤ 5000 then
      some (some e)
    else none

/-- A tower entry staged. -/
def SafetyTables.stageTower (t : SafetyTables) (n : Nat) (w : Word) : Staged SafetyTables :=
  match towerOfWord w with
  | some e => .taken { t with towers := t.towers.set n e }
  | none => .refused

/-- A value staged into a SAFETY entry; `w2` is the second word of the tension bands (R186; log entry 18 for the ranges
that another entry bounds). -/
def SafetyTables.stage (t : SafetyTables) (n : Nat) (w w2 : Word) : Staged SafetyTables :=
  let v := w.toNat
  match n with
  | 0 => ranged v 2 8000000 { t with L := v }
  | 1 => ranged v 2 1024 { t with N := v }
  | 2 => ranged v 1 4000000 { t with S := v }
  | 3 => ranged v 0 3999999 { t with A := v }
  | 4 => ranged v 1 4000000 { t with W := v }
  | 5 => ranged v 0 7999999 { t with B := v }
  | 6 => ranged v 1000 8000000 { t with U := v }
  | 7 => ranged v 1000 8000000 { t with Dn := v }
  | 8 => ranged v 0 200000 { t with tolArr := v }
  | 9 => ranged v 1000 100000 { t with gAtt := v }
  | 10 => ranged v 0 30000 { t with eMax := v }
  | 11 => ranged v 0 7999999 { t with pMark := v }
  | 12 => ranged v 0 5000 { t with rTol := v }
  | 20 => ranged v 0 48 { t with gcap := v }
  | 21 => ranged v 5 50 { t with ts := v }
  | 22 => ranged v 500 20000 { t with ka := v }
  | 23 => ranged v 500 20000 { t with kb := v }
  | 24 => ranged v 1 4095 { t with dMax := v }
  | 25 => ranged v 1 1000000000 { t with qLim := v }
  | 26 => ranged v 1 12000 { t with vMax := v }
  | 27 => t.stageBands w w2
  | 28 => ranged v 0 10000 { t with pTol := v }
  | 29 => ranged v 0 100 { t with tLat := v }
  | n =>
    if 13 ≤ n && n ≤ 19 then ranged v 1 8 { t with caps := t.caps.set (n - 13) v }
    else if 32 ≤ n && n ≤ 79 then
      match Cause.all[n - 32]? with
      | some c => t.stageMatrix c v
      | none => .refused
    else if 96 ≤ n && n ≤ 191 then t.stageNode (n - 96) w
    else if 192 ≤ n && n ≤ 215 then t.stageTower (n - 192) w
    else .refused

/-- A door profile with field `n` set. -/
def DoorProfile.withField (p : DoorProfile) (n v : Nat) : DoorProfile :=
  match n with
  | 0 => { p with tOpenMax := v }
  | 1 => { p with tCloseMax := v }
  | 2 => { p with tDwell := v }
  | 3 => { p with tSettle := v }
  | 4 => { p with tRecover := v }
  | 5 => { p with tReopenWait := v }
  | _ => { p with maxReopen := v }

/-- A value staged into an OPERATIONS entry (R90, R186). -/
def OperationsTables.stage (o : OperationsTables) (n : Nat) (w : Word) : Staged OperationsTables :=
  let v := w.toNat
  if n ≤ 27 then
    let p := o.profiles.getD (n / 7) DoorProfile.zero
    ranged v 0 (if n % 7 = 6 then 3 else 65535) { o with profiles := o.profiles.set (n / 7) (p.withField (n % 7) v) }
  else if n ≤ 31 then
    let c : GripClass := { fMin := field w 16 16, fMax := field w 0 16 }
    if c.fMin ≤ c.fMax then .taken { o with classes := o.classes.set (n - 28) c } else .refused
  else .refused

/-! ## Consistency checks (R188) -/

/-- The number of addresses 1..31 of a role. -/
def SafetyTables.roleCount (t : SafetyTables) (r : Role) : Nat :=
  ((List.range 32).filter fun a => a ≠ 0 && (t.nodes.getD a NodeEntry.unused).role = r).length

/-- The roles of which check 5 asks exactly one node. -/
def singleRoles : List Role :=
  [.tach, .arrivalReader, .detector2, .detector3, .detector4, .gripGauge, .switch, .gate, .attach, .garageDrive,
   .doorOpenUnit, .doorCloseUnit]

/-- The tower entries present. -/
def SafetyTables.towerList (t : SafetyTables) : List TowerEntry := t.towers.filterMap id

/-- Check `n` of R188. -/
def SafetyTables.passes (t : SafetyTables) (n : Nat) : Bool :=
  match n with
  | 1 => t.L = t.N * t.S && 2 ≤ t.N && t.N ≤ 1024 && t.L ≤ 8000000
  | 2 => t.A + t.W ≤ t.S
  | 3 => t.B < t.L && t.pMark < t.L
  | 4 => t.caps.sum ≤ 32
  | 5 => singleRoles.all fun r => t.roleCount r = 1
  | 6 => 1 ≤ t.roleCount .manager
  | 7 =>
    (t.towerList.all fun e => (t.nodes.getD e.node NodeEntry.unused).role = .towerConcentrator) &&
      (t.towerList.map TowerEntry.number).Nodup
  | _ => true

/-- The number of the first check that fails (R188). -/
def SafetyTables.firstFailure (t : SafetyTables) : Option Nat := [1, 2, 3, 4, 5, 6, 7].find? fun n => !t.passes n

end Sys2Proof.Machine
end

