-- ==== Sys2Proof/Machine/StoreOps.lean ====
section
/-!
DEFINITION. The table store: replies, the judgement of TABLES_INVALID, store writes and their completion, fleet entries,
the park snapshot (R185 to R191).
-/

namespace Sys2Proof.Machine

/-! ## Replies (R185) -/

/-- The MGMT_REPLY frame to a request. -/
def mgmtReply (r : ReplyTo) (x : Status) (data : List Word) (restart : Bool) : EgressFrame :=
  { kind := .mgmtReply, mask := addressBit r.source, tag := r.tag, payload := replyWord r.kind x :: data,
    restartReply := restart }

/-- A reply offered to the REPORT class; one that finds it full is not placed (R185). -/
def State.reply (s : State) (r : ReplyTo) (x : Status) (data : List Word) : State :=
  s.placeReport (mgmtReply r x data false)

/-- The reply that a store write owes, if it owes one (R185). -/
def State.replyIf (s : State) (r : Option ReplyTo) (x : Status) : State :=
  match r with
  | some y => s.reply y x []
  | none => s

/-! ## Validity -/

/-- TABLES_INVALID: present while any table group is invalid (R170, R189). -/
def State.tablesInvalid (s : State) : Bool := !(s.safetyValid && s.operationsValid && s.tst.fleetValid)

/-- TABLES_INVALID judged (R189, R190). -/
def State.judgeTables (s : State) : State := s.judge .tablesInvalid s.tablesInvalid

/-- Whether a commit of the staging copy changes L or S; one that makes the group valid counts as such (R20). -/
def State.geometryChanges (s : State) : Bool :=
  match s.tst.safety with
  | some t => t.L ≠ s.tst.stageSafety.L || t.S ≠ s.tst.stageSafety.S
  | none => true

/-! ## Starting a write (R189) -/

/-- A store write begun from an idle store. -/
def State.beginWrite (s : State) (k : WriteKind) (r : Option ReplyTo) : State :=
  s.setTst { s.tst with write := some { kind := k, reply := r } }

/-- A group commit begun: the flag of the group is cleared first (R189). -/
def State.beginCommit (s : State) (g : TableGroup) (r : ReplyTo) : State :=
  let s1 :=
    match g with
    | .safety => s.setStore { s.store with safety := none }
    | .operations => s.setStore { s.store with operations := none }
    | .fleet => s
  s1.beginWrite (.commit g) (some r)

/-- A fleet entry write begun: the flag of the group is cleared first (R189, R190). -/
def State.beginFleet (s : State) (i : Nat) (r : ReplyTo) : State :=
  (s.setStore { s.store with fleet := none }).beginWrite (.fleet i) (some r)

/-! ## The park snapshot (R191) -/

/-- A queue entry of a snapshot. -/
def State.parkEntry (s : State) (e : StationEntry) : ParkEntry :=
  { index := e.who.index, segment := e.segment, route := e.route, slotless := e.slotless, door := s.doorOf e.who,
    verdict := s.verdictOf e.who, force := s.forceOf e.who }

/-- A garage entry of a snapshot; a stack entry has no segment or route of its own, and S5 and GARAGE stand for them. -/
def State.parkGarage (s : State) (g : GarageEntry) : ParkEntry :=
  { index := g.who.index, segment := .s5, route := .garage, slotless := false, door := s.doorOf g.who,
    verdict := s.verdictOf g.who, force := s.forceOf g.who }

/-- The snapshot of PARK (R191). -/
def State.snapshot (s : State) (t : SafetyTables) : ParkRecord where
  queue := s.ctr.queue.map s.parkEntry
  garage := s.ctr.garage.map s.parkGarage
  uphill := s.ctr.uphill
  downhill := s.ctr.downhill
  summit := s.ctr.summit
  slots := s.ctr.slots
  odo := s.rpu.odo
  res := s.rpu.res
  odoRef := s.rpu.odoRef
  referenced := s.rpu.referenced
  L := t.L
  S := t.S

/-- The park write begun: the park valid flag is cleared first (R189, R191). -/
def State.beginPark (s : State) (t : SafetyTables) (r : ReplyTo) : State :=
  (s.setStore { s.store with park := none }).beginWrite (.park (s.snapshot t) false) (some r)

/-- Whether the station queue has changed: its entries, by their serials, or what a snapshot holds of them (R62, R191). -/
def queueChanged (before after : State) : Bool :=
  before.ctr.queue.map StationEntry.serial ≠ after.ctr.queue.map StationEntry.serial ||
    before.ctr.queue.map before.parkEntry ≠ after.ctr.queue.map after.parkEntry

/-- Whether the garage stack has changed, in the same sense (R74, R191). -/
def stackChanged (before after : State) : Bool :=
  before.ctr.garage.map GarageEntry.serial ≠ after.ctr.garage.map GarageEntry.serial ||
    before.ctr.garage.map before.parkGarage ≠ after.ctr.garage.map after.parkGarage

/-- Whether what a snapshot holds has changed, or motion has left STOPPED (R191). -/
def parkChanged (before after : State) : Bool :=
  queueChanged before after || stackChanged before after ||
    before.ctr.uphill ≠ after.ctr.uphill ||
    before.ctr.downhill ≠ after.ctr.downhill || before.ctr.summit ≠ after.ctr.summit ||
    before.ctr.slots ≠ after.ctr.slots || before.rpu.odoRef ≠ after.rpu.odoRef ||
    before.rpu.referenced ≠ after.rpu.referenced ||
    (before.rpu.motion = .stopped && after.rpu.motion ≠ .stopped)

/-- A park write in flight made stale (R191). -/
def State.staleIf (s : State) (before : State) : State :=
  match before.tst.write, s.tst.write with
  | some _, some w =>
    match w.kind with
    | .park p false => if parkChanged before s then s.setTst { s.tst with write := some { w with kind := .park p true } } else s
    | _ => s
  | _, _ => s

/-! ## Completing a commit (R189) -/

/-- Every cabin of the uphill list, head first, and then of the downhill list moved to the unlocated set, with one report
(R60). -/
def State.clearLines (s : State) : State :=
  let cabins := s.ctr.uphill.map UphillEntry.cabin ++ s.ctr.downhill.map DownhillEntry.cabin
  (s.moveToUnlocated cabins).report .linesCleared none none [(cabins.length : Nat)]

/-- The slot table rebuilt, with N EMPTY entries (R39, R60). -/
def State.rebuildSlots (s : State) (n : Nat) : State := s.setCtr { s.ctr with slots := List.replicate n .empty }

/-- LGT's part of a commit that changes L or S: the attach watch is emptied and its cabins stay SLOTLESS, the pending
release with its queued frame and the last-failed record are cleared, and no slot index is recorded (R39). -/
def State.resetLaunch (s : State) : State :=
  let s1 := s.lgt.watch.foldl (fun x w => x.setSlotless w.cabin) s
  let s2 :=
    match s1.lgt.pending with
    | some p => if p.phase = ReleasePhase.queued then s1.withdrawControl .gateRelease p.tag else s1
    | none => s1
  s2.setLgt { s2.lgt with watch := [], pending := none, lastFailed := none, passage := PassageRecord.initial }

/-- The parts of a SAFETY commit that follow a change of L or S (R20, R39, R60). -/
def State.commitGeometry (s : State) (t : SafetyTables) (wasValid : Bool) : State :=
  let s1 := s.loseReference
  let s2 := if wasValid then s1 else s1.startTachLoss t
  (s2.resetLaunch.clearLines).rebuildSlots t.N

/-- RMN's tension part of a commit that makes the group valid: the loss timer is started if it was stopped (R115). -/
def State.commitTension (s : State) (wasValid : Bool) : State :=
  if wasValid || s.rmn.tensionLoss.isSome then s else s.setRmn { s.rmn with tensionLoss := some (s.after 1000) }

/-- The category of a cause in a matrix; the mirror keeps its own (R158, R172). -/
def matrixCategory (matrix : List Category) (c : Cause) (old : Category) : Category :=
  if c = .summitStop then old else matrix.getD c.num c.defaultCategory

/-- The category of one cause taken from the new matrix, with a report where the cause stands and its category has
changed (R171, R172). -/
def State.recategorise (matrix : List Category) (s : State) (c : Cause) : State :=
  let old := s.cause c
  let new := matrixCategory matrix c old.category
  if new = old.category then s
  else
    let s1 := s.setCause c { old with category := new }
    if old.state = .inactive then s1 else s1.reportCauseCategory c old.category new

/-- The standing causes whose category a matrix raises, as the causes that may have raised the output (R165); where there
are several, the rise entry names the one that `State.riser` takes of a report (log entry 82). -/
def State.matrixRisers (s : State) (matrix : List Category) : List Riser :=
  Cause.all.filterMap fun c =>
    let r := s.cause c
    if r.state ≠ .inactive && r.category.code < (matrixCategory matrix c r.category).code then
      some { cause := c, cabin := none }
    else none

/-- STC's part of a SAFETY commit, in cause order (R172; log entry 74), the CAUSE_CATEGORY reports before OUTPUT_CATEGORY
(R171; log entry 77). -/
def State.commitMatrix (s : State) (matrix : List Category) : State :=
  let rs := s.matrixRisers matrix
  (Cause.all.foldl (State.recategorise matrix) s).formOutput rs

/-- Whether a commit changes the role or the critical flag of an address (R184). -/
def nodeChanged (old new : List NodeEntry) (a : Nat) : Bool :=
  let x := old.getD a NodeEntry.unused
  let y := new.getD a NodeEntry.unused
  x.role ≠ y.role || x.critical ≠ y.critical

/-- Whether a node's absent mark is set. -/
def State.isAbsent (s : State) (a : Nat) : Bool := s.rng.absent.getD a false

/-- NODE_ABSENT: present while at least one critical node is absent (R175). -/
def State.judgeAbsence (s : State) : State :=
  match s.tst.safety with
  | some t => s.judge .nodeAbsent ((List.range 32).any fun a => s.isAbsent a && (t.node a).critical)
  | none => s.judge .nodeAbsent false

/-- The report of a change of the absent mark of a node that is not critical (R175). -/
def State.reportMark (s : State) (a : Nat) : State :=
  match s.tst.safety with
  | some t =>
    if (t.node a).critical then s
    else
      s.report (if s.isAbsent a then .nodeAbsent else .nodePresent) none none [(a : Nat), ((t.node a).role.code : Nat)]
  | none => s

/-- A change of a node's absent mark acted on by its critical flag (R175). -/
def State.absenceChanged (s : State) (a : Nat) : State :=
  match s.tst.safety with
  | some t => if (t.node a).critical then s.judgeAbsence else s.reportMark a
  | none => s

/-- The miss count of an address set, and its absent mark. -/
def State.setMisses (s : State) (a n : Nat) (absent : Bool) : State :=
  s.setRng { s.rng with misses := s.rng.misses.set a n, absent := s.rng.absent.set a absent }

/-- The miss count of an address set to 0 and its absent mark cleared (R175). -/
def State.clearMisses (s : State) (a : Nat) : State :=
  let s1 := s.setMisses a 0 false
  if s.isAbsent a then s1.absenceChanged a else s1

/-- The addresses whose role or critical flag a commit changes (R184), in ascending order (log entry 75). -/
def changedNodes (old new : List NodeEntry) : List Nat :=
  (List.range 32).filter fun a => a ≠ 0 && nodeChanged old new a

/-- RNG's part of a SAFETY commit: the counts and marks of the changed addresses are cleared, the marks so changed are
reported for nodes that are not critical, and NODE_ABSENT is judged once over the new table (R175, R184; log entry
41). -/
def State.commitNodes (s : State) (old new : List NodeEntry) : State :=
  let changed := changedNodes old new
  let s1 := changed.foldl (fun x a => x.setMisses a 0 false) s
  let s2 := (changed.filter s.isAbsent).foldl State.reportMark s1
  (s2.setRng { s2.rng with provisional := 0 }).judgeAbsence

/-- The position update of a SAFETY commit: CTR judges the new capacities with its overdue checks, so that its conditions
are one report (R20, R69, R160; log entry 27). -/
def State.commitUpdate (s : State) (t : SafetyTables) : State :=
  (((s.updateRope t).judgeSegments).trackUpdate).takeReport

/-- A SAFETY commit takes effect: the blocks act on the new tables in the order of R189, then RPU makes its position
update, with which CTR judges its capacities, and the garage exit is tested (R20, R76; log entry 27). STC forms the output
from the new matrix before it takes the conditions that RPU and RMN report at the commit (R172; log entry 83). -/
def State.applySafety (s : State) (t : SafetyTables) : State :=
  let changed := s.geometryChanges
  let wasValid := s.safetyValid
  let old := s.tst.safety.getD SafetyTables.default
  let oldTowers := match s.tst.safety with | some x => x.towers | none => List.replicate 24 none
  let s1 := s.setTst { s.tst with safety := some t, stageSafety := t, safetyChanged := false }
  let s2 := if changed then s1.commitGeometry t wasValid else s1
  let s3 := (s2.commitTension wasValid).commitTowers oldTowers t.towers
  let s4 := (s3.commitMatrix t.matrix).commitNodes old.nodes t.nodes
  (s4.commitUpdate t).judgeGarageExit

/-- The store's contents after a SAFETY commit: the group's flag is set, and the park valid flag is clear if L or S
changed (R189). -/
def State.storeSafety (s : State) (t : SafetyTables) (changed : Bool) : State :=
  s.setStore { s.store with safety := some t, park := if changed then none else s.store.park }

/-- An OPERATIONS commit takes effect (R112, R189). -/
def State.applyOperations (s : State) (o : OperationsTables) : State :=
  (s.setStore { s.store with operations := some o }).setTst
    { s.tst with operations := some o, stageOperations := o, operationsChanged := false }

/-- A group commit completes: the tables come into force, TABLES_INVALID is judged and the reply is built (R189). -/
def State.applyCommit (s : State) (g : TableGroup) (r : Option ReplyTo) : State :=
  let s1 :=
    match g with
    | .safety => ((s.storeSafety s.tst.stageSafety s.geometryChanges).applySafety s.tst.stageSafety)
    | .operations => s.applyOperations s.tst.stageOperations
    | .fleet => s
  (s1.judgeTables.takeReport).replyIf r .ok

/-! ## After any write (R189) -/

/-- The store is IDLE again. -/
def State.endWrite (s : State) : State := s.setTst { s.tst with write := none }

/-- The invalidation-queued flag dropped, and the invalidation write started if the park valid flag is still set (R189). -/
def State.followQueued (s : State) : State :=
  if s.tst.invalidationQueued then
    let s1 := s.setTst { s.tst with invalidationQueued := false }
    if s1.store.park.isSome then s1.startInvalidation else s1
  else s

/-- A fleet entry write completes: the stored group is the 128 entries in force, and the park valid flag is clear
(R189, R190). -/
def State.completeFleet (s : State) (r : Option ReplyTo) : State :=
  let s1 := s.setStore { s.store with fleet := some (s.registry.map RegEntry.stat), park := none }
  ((s1.setTst { s1.tst with fleetValid := true }).judgeTables.takeReport).replyIf r .ok

/-- A protection write completes: the stored mode takes its value (R187; log entry 31). -/
def State.completeProtection (s : State) (m : ProtectionMode) (r : Option ReplyTo) : State :=
  (s.setStore { s.store with protection := m }).replyIf r .ok

/-- A park write completes: a fresh snapshot is valid, and a stale one is not (R191). -/
def State.completePark (s : State) (p : ParkRecord) (stale : Bool) (r : Option ReplyTo) : State :=
  if stale then (s.report .parkStale none none []).replyIf r .notAllowed
  else (s.setStore { s.store with park := some p }).replyIf r .ok

/-! ## Fleet entries (R190) -/

/-- Whether another entry in service carries an ID. -/
def State.idTaken (s : State) (i id : Nat) : Bool :=
  (List.range 128).any fun j => j ≠ i && (s.reg j).stat.inService && (s.reg j).stat.id = id

/-- Whether a cabin stands where its in-service flag may be cleared (R190). -/
def State.mayRetire (s : State) (i : Nat) : Bool :=
  match (s.reg i).location with
  | .unlocated | .garage => true
  | .station => match s.entryOfCabin i with | some e => 6 ≤ e.segment.num | none => false
  | _ => false

/-- The judgement of a fleet entry write: none where it passes (R190). -/
def State.judgeFleetWrite (s : State) (index : Nat) (f : FleetStatic) : Option Status :=
  let old := (s.reg index).stat
  if 128 ≤ index || f.id = 0 || 4096 ≤ f.id || 4 ≤ f.profile || 4 ≤ f.gripClass then some .badEntry
  else if old.inService && old.id ≠ f.id then some .notAllowed
  else if f.inService && s.idTaken index f.id then some .notAllowed
  else if old.inService && !f.inService && !s.mayRetire index then some .notAllowed
  else none

/-- The registry's record of a cabin set in service (R190). -/
def RegEntry.enterService (r : RegEntry) : RegEntry :=
  { r with
    door := .unknown, verdict := .untested, force := none, garageNext := false, holdOpen := false, overdue := false
    idAssumed := false, attachErr := none }

/-- The change of place of a fleet write (R190). -/
def State.placeFleet (s : State) (i : Nat) (f : FleetStatic) : State :=
  let old := (s.reg i).stat.inService
  if old && !f.inService then s.takeOutOfService i
  else if !old && f.inService then (s.modReg i RegEntry.enterService).joinUnlocated i
  else s

/-- The static fields of a report. -/
def FleetStatic.data (f : FleetStatic) : List Int :=
  [(f.id : Nat), (f.profile : Nat), (f.gripClass : Nat), (bit f.inService : Nat)]

/-- A fleet entry write applied at the event at which it is taken (R190, R85). -/
def State.applyFleet (s : State) (i : Nat) (f : FleetStatic) : State :=
  let old := (s.reg i).stat
  (((s.placeFleet i f).modReg i fun r => { r with stat := f }).reportHead).report .fleetWrite none none
    ((i : Int) :: old.data ++ f.data)

end Sys2Proof.Machine
end

