-- ==== Sys2Proof/Machine/ResetOps.lean ====
section
/-!
DEFINITION. Power-on reset and RESTART: loading the tables, the blocks' reset values, the restore of a park record and
the stop chain's reset report (R18, R19, R37, R38, R58, R59, R86, R87, R112, R172, R192).
-/

namespace Sys2Proof.Machine

/-! ## A write cut short (R189) -/

/-- Whether a write in flight clears the park valid flag as part of its contents (R189). -/
def State.writeClearsPark (s : State) : WriteKind → Bool
  | .commit .safety => s.geometryChanges
  | .fleet _ => true
  | _ => false

/-- The park record after a write that was to clear its flag is cut short: whether the flag still stands is a free value
(log entry 8). -/
def State.parkCutShort (s : State) : State :=
  (s.setStore { s.store with park := if Config.parkFlagSurvives s.free then s.store.park else none }).setFree (s.free + 1)

/-- The store after a loss of supply or RESET_IN: a write in flight is cut short, and the flag of what was being written
stays clear; a stored mode being written reads LOCKED (R187, R189). -/
def State.cutShort (s : State) : State :=
  match s.tst.write with
  | none => s
  | some w =>
    (match w.kind with
     | .protection _ => s.setStore { s.store with protection := .locked }
     | k => if s.writeClearsPark k then s.parkCutShort else s).endWrite

/-! ## The blocks (R192) -/

/-- The registry as the FLEET group loads: an invalid group is empty of service (R190). -/
def Store.loadedRegistry (st : Store) : List RegEntry :=
  (List.range 128).map fun i => RegEntry.initial ((st.fleet.getD []).getD i FleetStatic.blank)

/-- The registry indices marked in service. -/
def inServiceIndices (reg : List RegEntry) : List Nat :=
  (List.range 128).filter fun i => (reg.getD i (RegEntry.initial FleetStatic.blank)).stat.inService

/-- The slot table as the SAFETY group loads (R37). -/
def loadedSlots (safety : Option SafetyTables) : List SlotState :=
  match safety with
  | some t => List.replicate t.N .empty
  | none => []

/-- The cause records at the end of a reset, before the reset report (R172). -/
def loadedCauses (safety : Option SafetyTables) : List CauseRecord :=
  Cause.all.map fun c =>
    CauseRecord.initial (match safety with | some t => t.matrix.getD c.num c.defaultCategory | none => c.defaultCategory)

/-- Every group loaded, the protection flag set, and every block at its reset values; the queue of commands, the levels of
the pins, the store and the free counter are kept (R192, steps 1 to 3). -/
def State.blocksReset (s : State) (locked : Bool) : State :=
  let reg := s.store.loadedRegistry
  { pending := s.pending
    pins := { s.pins with held := false }
    registry := reg
    rpu := Rpu.initial
    lgt := Lgt.initial
    ctr := Ctr.initial (loadedSlots s.store.safety) (inServiceIndices reg)
    dsq := Dsq.initial
    rmn := Rmn.initial
    slk := Slk.initial
    icm := Icm.initial
    stc := Stc.initial (loadedCauses s.store.safety)
    rng := Rng.initial
    tst := Tst.initial s.store.safety s.store.operations s.store.fleet.isSome locked
    tmb := Tmb.initial
    store := s.store
    free := s.free }

/-- The timers and scans that start where the SAFETY group loaded valid, and the position update with the reset values
(R14, R18, R115, R125). -/
def State.startWatching (s : State) : State :=
  match s.tst.safety with
  | some t =>
    let s1 := s.startTachLoss t
    ((s1.setRmn { s1.rmn with tensionLoss := some (s1.after 1000) }).startTowers).quietUpdate
  | none => s

/-! ## The park record (R192, step 4) -/

/-- The first condition of a restore that a set flag fails: 1 the SAFETY group, 2 the FLEET group, 3 L or S (R192).
With more than one failed, the first in this order is named (log entry 84). -/
def State.restoreFailure (s : State) (p : ParkRecord) : Option Nat :=
  match s.tst.safety with
  | none => some 1
  | some t =>
    if !s.tst.fleetValid then some 2 else if p.L ≠ t.L || p.S ≠ t.S then some 3 else none

/-- Whoever stands in an entry of a park record (R87, R112). -/
def ParkEntry.who (e : ParkEntry) : Who :=
  match e.index with
  | some i => .cabin i
  | none => .anon e.door.restored e.verdict e.force

/-- The restored queue: serials from 0, queue head first (R87). -/
def ParkRecord.stationQueue (p : ParkRecord) : List StationEntry :=
  (p.queue.zipIdx).map fun (e, n) =>
    { serial := n, who := e.who, segment := e.segment, route := e.route, slotless := e.slotless }

/-- The restored stack: serials that follow the queue's, top first (R87). -/
def ParkRecord.garageStack (p : ParkRecord) : List GarageEntry :=
  (p.garage.zipIdx p.queue.length).map fun (e, n) => { serial := n, who := e.who }

/-- A recorded slot state: a release in progress is settled as EMPTY (R38). -/
def SlotState.restored : SlotState → SlotState
  | .releasePending _ | .releasing _ => .empty
  | x => x

/-- The cabins whose recorded slot was being released; one found in S7 is SLOTLESS (R38). -/
def ParkRecord.releasing (p : ParkRecord) : List Nat :=
  p.slots.filterMap fun x => match x with | .releasePending c | .releasing c => some c | _ => none

/-- An entry restored to S7 whose slot was being released is flagged SLOTLESS (R38). -/
def ParkRecord.settle (p : ParkRecord) (e : StationEntry) : StationEntry :=
  match e.who with
  | .cabin i => if e.segment = .s7 && i ∈ p.releasing then { e with slotless := true } else e
  | .anon _ _ _ => e

/-- The registry's door state, verdict and force of a restored queue or stack entry (R87, R112). -/
def restoreDynamic (l : Location) (s : State) (e : ParkEntry) : State :=
  match e.index with
  | some i =>
    s.modReg i fun r => { r with location := l, door := e.door.restored, verdict := e.verdict, force := e.force }
  | none => s

/-- The registry's record of a cabin restored to the uphill list: LOCKED and PASS (R42, R87). -/
def restoreUphill (s : State) (u : UphillEntry) : State :=
  s.modReg u.cabin fun r => { r with location := .uphill, door := .locked, verdict := .pass }

/-- The cabins a record names (R59). -/
def ParkRecord.named (p : ParkRecord) : List Nat :=
  (p.queue.filterMap ParkEntry.index) ++ (p.garage.filterMap ParkEntry.index) ++ p.uphill.map UphillEntry.cabin ++
    p.downhill.map DownhillEntry.cabin ++ p.summit

/-- RPU's part of a restore (R19). -/
def State.restoreRpu (s : State) (p : ParkRecord) : State :=
  s.setRpu { s.rpu with odo := p.odo, res := p.res, odoRef := p.odoRef, referenced := p.referenced }

/-- The collections of a restore (R38, R59, R87). -/
def State.restoreCtr (s : State) (p : ParkRecord) : State :=
  s.setCtr
    { s.ctr with
      queue := p.stationQueue.map p.settle
      garage := p.garageStack
      uphill := p.uphill
      downhill := p.downhill
      summit := p.summit
      unlocated := s.ctr.unlocated.filter fun i => i ∉ p.named
      slots := p.slots.map SlotState.restored
      nextSerial := p.queue.length + p.garage.length }

/-- The registry's part of a restore (R59, R87). -/
def State.restoreRegistry (s : State) (p : ParkRecord) : State :=
  let s1 := p.garage.foldl (restoreDynamic .garage) (p.queue.foldl (restoreDynamic .station) s)
  let s2 := p.uphill.foldl restoreUphill s1
  let s3 := p.downhill.foldl (fun x d => x.setLocation d.cabin .downhill) s2
  p.summit.foldl (fun x i => x.setLocation i .summit) s3

/-- The door records of a restore, with the timers of those within reach (R112). -/
def State.restoreDoors (s : State) : State :=
  s.ctr.queue.foldl State.restoreDoorTimers (s.setDoorRecords (s.ctr.queue.map DoorRecord.restored))

/-- RESTORE_UNLOCATED where cabins of the registry are named nowhere in the record (R59). -/
def State.reportRestored (s : State) : State :=
  if s.ctr.unlocated.isEmpty then s
  else s.report .restoreUnlocated none none [(s.ctr.unlocated.length : Nat)]

/-- A park record restored: LGT takes its reset values again, and the update with the restored position begins its first
passage (R19, R38, R59, R87, R112; log entry 26). -/
def State.restorePark (s : State) (p : ParkRecord) : State :=
  let s1 := (((((s.setLgt Lgt.initial).restoreRpu p).restoreCtr p).restoreRegistry p).restoreDoors).reportRestored
  (s1.judgeSegments.judgeSwitch).quietUpdate

/-- The park record restored, or a report of the condition it fails (R192). -/
def State.tryRestore (s : State) : State :=
  match s.store.park with
  | none => s
  | some p =>
    match s.restoreFailure p with
    | none => s.restorePark p
    | some n => s.report .parkNotRestored none none [(n : Nat)]

/-! ## The stop chain's reset report (R172) -/

/-- STC takes POWER_ON, ESTOP_LOOP, ROPE_UNREFERENCED and TABLES_INVALID as one report; what the blocks gathered as they
came up follows in reports of its own (R169, R170, R172; log entry 26). -/
def State.resetReport (s : State) : State :=
  let left := s.stc.gathered
  let s1 := (s.clearGathered.raise .powerOn none).judge .estopLoop (s.pins.loop = .loopOpen)
  let s2 := (s1.judge .ropeUnreferenced (!s.rpu.referenced)).judge .tablesInvalid s.tablesInvalid
  let s3 := s2.clearGathered.takeTogether s2.stc.gathered
  (s3.setStc { s3.stc with gathered := left }).takeReport

/-- The reset of the part, in the order of R192; `locked` is LOCKED_TO_POWER_CYCLE after it. -/
def State.resetPart (s : State) (locked : Bool) : State :=
  (((s.blocksReset locked).startWatching).tryRestore).resetReport

/-- Power-on reset: the flag LOCKED_TO_POWER_CYCLE is cleared (R187, R192). -/
def State.powerOn (s : State) : State := s.cutShort.resetPart false

/-- RESTART: the flag LOCKED_TO_POWER_CYCLE keeps its value (R187, R192). -/
def State.restartPart (s : State) : State := s.resetPart s.tst.lockedToPowerCycle

end Sys2Proof.Machine
end

