-- ==== Sys2Proof/Machine/RingOps.lean ====
section
/-!
DEFINITION. The ring port: slot records, orphans, the filter, ingress, egress and insertion (R173 to R181).
-/

namespace Sys2Proof.Machine

/-- The slot record of a slot set. -/
def State.setSlotRecord (s : State) (n : Nat) (r : Option Word) : State :=
  s.setRng { s.rng with slotRecords := s.rng.slotRecords.set n r }

/-- The slot let go on. -/
def State.letGo (s : State) (x : SlotOut) : State := s.setRng { s.rng with ringOut := some x }

/-- A free slot as it is let go on: it carries the hold-inject indicator (R178). -/
def State.freeSlotOut (s : State) (n : Nat) : SlotOut :=
  { slot := n, w0 := headerWord 0 0 0 0 false s.rng.hold, w1 := 0, payload := [] }

/-! ## Signs of life and misses (R173 to R175) -/

/-- The addresses 1..31 whose bits are set in a mask, in ascending order (log entry 75). -/
def addressesIn (mask : Word) : List Nat := (List.range 32).filter fun a => a ≠ 0 && bitOf mask a

/-- Every address of a mask is seen alive (R173, R175). -/
def State.seenAlive (s : State) (mask : Word) : State := (addressesIn mask).foldl State.clearMisses s

/-- A miss of an address: its count rises to at most 3, and at 3 a node that holds a role becomes absent (R174, R175). -/
def State.missAddress (s : State) (a : Nat) : State :=
  let n := s.rng.misses.getD a 0 + 1
  let count := if n < 3 then n else 3
  let absent := s.isAbsent a || (3 ≤ n && (s.tables.node a).role ≠ .none)
  let s1 := s.setMisses a count absent
  if absent && !s.isAbsent a then s1.absenceChanged a else s1

/-- The misses of an orphan; none is counted while the SAFETY group is invalid (R174, R183). -/
def State.missAll (s : State) (mask : Word) : State :=
  if s.safetyValid then (addressesIn mask).foldl State.missAddress s else s

/-! ## The filter (R176, R183, R196) -/

/-- A filter removal counted and reported (R176). -/
def State.filterOut (s : State) (f : RingFrame) (r : FilterReason) : State :=
  (s.setRng { s.rng with filtered := s.rng.filtered.set r.num (satInc (s.rng.filtered.getD r.num 0)) }).report
    .frameFiltered none none [(f.source : Nat), (f.kind : Nat), (r.num : Nat)]

/-- Whether a frame's length agrees with its kind (R196). -/
def RingFrame.formatAgrees (f : RingFrame) : Bool :=
  match RingKind.ofCode f.kind with
  | some k => k.lengthAgrees f.length
  | none => false

/-- Whether a node table entry allows a kind. -/
def NodeEntry.allows (e : NodeEntry) (kind : Nat) : Bool := kind < 32 && bitOf e.kinds kind

/-- The first check of R176 that a frame fails, by the node table. -/
def SafetyTables.filterReason (t : SafetyTables) (f : RingFrame) : Option FilterReason :=
  let e := t.node f.source
  if f.source = 0 then some .sourceZero
  else if e.role = .none || !e.allows f.kind then some .roleKind
  else if f.mask = 0 then some .emptyMask
  else if f.mask &&& ~~~e.dests ≠ 0 then some .destination
  else if !f.formatAgrees then some .format
  else none

/-- The first check that a frame fails while the SAFETY group is invalid (R183, R196). -/
def invalidFilterReason (f : RingFrame) : Option FilterReason :=
  if f.source = 0 then some .sourceZero
  else if f.kind ≠ RingKind.mgmtRequest.code && f.kind ≠ RingKind.nack.code then some .roleKind
  else if f.mask ≠ 1#32 then some .destination
  else if !f.formatAgrees then some .format
  else none

/-- The first check that a frame on its first pass fails. -/
def State.filterReason (s : State) (f : RingFrame) : Option FilterReason :=
  match s.tst.safety with
  | some t => t.filterReason f
  | none => invalidFilterReason f

/-! ## Ingress (R177, R178) -/

/-- The hold state set, with its changes counted (R178). -/
def State.setHold (s : State) (b : Bool) : State :=
  if s.rng.hold = b then s else s.setRng { s.rng with hold := b, holdChanges := satInc s.rng.holdChanges }

/-- The role recorded with a copied frame: the node table's; while SAFETY is invalid a MGMT_REQUEST is delivered to TST
(R177, R183). -/
def State.sourceRole (s : State) (f : RingFrame) : Role :=
  match s.tst.safety with
  | some t => (t.node f.source).role
  | none => if f.kind = RingKind.mgmtRequest.code then .manager else .none

/-- The provisional manager mask with the source of a copied MGMT_REQUEST (R183). -/
def State.noteManager (s : State) (f : RingFrame) : State :=
  if !s.safetyValid && f.kind = RingKind.mgmtRequest.code then
    s.setRng { s.rng with provisional := s.rng.provisional ||| addressBit f.source }
  else s

/-- A frame copied into the ingress queue, or counted as an overrun when it holds 16; hold is asserted at a depth of 8
(R177, R178). -/
def State.copyFrame (s : State) (f : RingFrame) : State :=
  if s.rng.ingress.length < 16 then
    let s1 :=
      (s.setRng { s.rng with ingress := s.rng.ingress ++ [{ frame := f, role := s.sourceRole f }] }).noteManager f
    if 8 ≤ s1.rng.ingress.length then s1.setHold true else s1
  else
    (s.setRng { s.rng with overruns := satInc s.rng.overruns }).report .ingressOverrun none none
      [(f.source : Nat), (f.kind : Nat)]

/-! ## Egress (R181) -/

/-- The oldest frame of the first class that holds one, and the queues without it; while the SAFETY group is invalid of
the REPORT class alone (R181). -/
def State.nextEgress (s : State) : Option (EgressFrame × Rng) :=
  let r := s.rng
  match (if s.safetyValid then r.control else []), (if s.safetyValid then r.voice else []),
      (if s.safetyValid then r.poll else []), r.report with
  | f :: rest, _, _, _ => some (f, { r with control := rest })
  | [], f :: rest, _, _ => some (f, { r with voice := rest })
  | [], [], f :: rest, _ => some (f, { r with poll := rest })
  | [], [], [], f :: rest => some (f, { r with report := rest })
  | [], [], [], [] => none

/-- The slot of an inserted frame: source 0, the revolution mark set, the hold-inject indicator of the hold state. -/
def State.insertedSlot (s : State) (n : Nat) (f : EgressFrame) : SlotOut :=
  { slot := n, w0 := headerWord f.kind.code 0 f.tag f.payload.length true s.rng.hold, w1 := f.mask, payload := f.payload }

/-- RNG reports an insertion to the offering block (R28, R76, R93, R119, R181, R192, R193). -/
def State.reportInsertion (s : State) (f : EgressFrame) : State :=
  match f.kind with
  | .gateRelease => s.releaseInserted f.tag
  | .doorOpen | .doorClose | .doorLock => s.doorInserted f.kind f.tag
  | .scanRequest => s.scanInserted f.mask f.tag
  | .garageExitCommand => s.exitInserted f.tag
  | .mgmtReply => if f.restartReply then s.restartPart else s.offerEvent
  | .event => s.offerEvent
  | _ => s

/-- A free slot at the master: filled with the next egress frame, or let go on free (R181). -/
def State.fillSlot (s : State) (n : Nat) : State :=
  match s.nextEgress with
  | some (f, r) =>
    ((((s.setRng r).setSlotRecord n (some f.mask)).reportInsertion f)).letGo (s.insertedSlot n f)
  | none => (s.setSlotRecord n none).letGo (s.freeSlotOut n)

/-! ## A slot passes (R173, R174, R176) -/

/-- An orphan: the addresses that took it are seen alive and the others miss it, and STC takes RNG's report before RNG
fills the slot, so that a rise into hold withdraws a queued release first (R28, R164, R174, R175). -/
def State.countOrphan (s : State) (f : RingFrame) (r : Word) : State :=
  let s1 := (s.seenAlive (r &&& ~~~f.mask)).missAll f.mask
  (s1.setRng { s1.rng with orphans := satInc s1.rng.orphans }).takeReport

/-- A full slot whose mark is set: the frame is removed, as an orphan where the record held its mask (R174). -/
def State.removeMarked (s : State) (n : Nat) (f : RingFrame) (record : Option Word) : State :=
  (match record with
   | some r => s.countOrphan f r
   | none => s.filterOut f .badMark).fillSlot n

/-- A frame that goes on after its first pass: marked, with bit 0 of its mask cleared (R176). -/
def State.passFrame (s : State) (n : Nat) (f : RingFrame) (mask : Word) : State :=
  (s.setSlotRecord n (some mask)).letGo
    { slot := n, w0 := headerWord f.kind f.source f.tag f.length true s.rng.hold, w1 := mask, payload := f.payload }

/-- A frame that passes every check of the filter (R176). -/
def State.acceptFrame (s : State) (n : Nat) (f : RingFrame) : State :=
  let s1 := s.clearMisses f.source
  let s2 := if bitOf f.mask 0 then s1.copyFrame { f with mark := true } else s1
  let mask := f.mask &&& ~~~(1#32)
  if mask = 0 then s2.fillSlot n else s2.passFrame n f mask

/-- A full slot whose mark is clear (R173, R176). -/
def State.firstPass (s : State) (n : Nat) (f : RingFrame) : State :=
  match s.filterReason f with
  | some r => (s.filterOut f r).fillSlot n
  | none => s.acceptFrame n f

/-- Every address of a slot record took its frame (R173). -/
def State.recordTaken (s : State) (record : Option Word) : State :=
  match record with
  | some r => s.seenAlive r
  | none => s

/-- A slot of the purge revolution: it is made free, and its frame is discarded and counted (R173). -/
def State.purgeSlot (s : State) (n : Nat) (w0 : Word) : State :=
  let s1 :=
    s.setRng
      { s.rng with
        purge := s.rng.purge.set n false
        purged := if slotFull w0 then satInc s.rng.purged else s.rng.purged }
  (s1.setSlotRecord n none).letGo (s1.freeSlotOut n)

/-- A slot passes the master (R173). -/
def State.passSlot (s : State) (n : Nat) (w0 w1 : Word) (payload : List Word) : State :=
  let record := s.rng.slotRecords.getD n none
  let f := frameOfWords w0 w1 payload
  if s.rng.purge.getD n false then s.purgeSlot n w0
  else if !slotFull w0 then (s.recordTaken record).fillSlot n
  else if f.mark then s.removeMarked n f record
  else (s.recordTaken record).firstPass n f

end Sys2Proof.Machine
end

