-- ==== Sys2Proof/Machine/Deliver.lean ====
section
/-!
DEFINITION. Which command takes a delivered frame, what every command does around its own effect, and the forms that
commands share: a timer's expiry, a delivery, a management request (R178, R179, R185, R196).
-/

namespace Sys2Proof.Machine

/-! ## Rows (R179, R185) -/

/-- The commands that are deliveries from the ingress queue. -/
inductive Row where
  | tachSample | refMark | gateReport | nackGateRelease | attach | arrivalForward | arrivalBackward | passageForward
  | passageBackward | gripSampleForward | gripSampleBackward | switchPassageForward | switchPassageBackward
  | nackSwitchSet | garageExitForward | garageExitBackward | nackGarageExitCommand | doorReport | nackDoor
  | tensionSample | scanReport | nackScanRequest | towerAlarm | handsetVoice | callKeyCall | callKeyAnswer
  | callKeyHangUp | undeliverable | unknownRequest
  | readStatus | readEntry | readCollection | stageEntry | discardStage | commit | writeFleetEntry | setProtection
  | resetCauses | setDoorMode | holdOpen | releaseHold | doorRetry | removeCabin | locateCabin | garageNext
  | garageRelease | park | restart | linkRestart | call | answer | hangUp
  deriving DecidableEq, Repr

/-- The row of a direction bit. -/
def byDirection (f : RingFrame) (forward backward : Row) : Row := if f.backward then backward else forward

/-- The request of a management kind code (chapter 12, management frames). -/
def requestRow (kind : Nat) : Row :=
  match kind with
  | 1 => .readStatus
  | 2 => .readEntry
  | 3 => .readCollection
  | 4 => .stageEntry
  | 5 => .discardStage
  | 6 => .commit
  | 7 => .writeFleetEntry
  | 8 => .setProtection
  | 9 => .resetCauses
  | 10 => .setDoorMode
  | 11 => .holdOpen
  | 12 => .releaseHold
  | 13 => .doorRetry
  | 14 => .removeCabin
  | 15 => .locateCabin
  | 16 => .garageNext
  | 17 => .garageRelease
  | 18 => .park
  | 19 => .restart
  | 20 => .linkRestart
  | 21 => .call
  | 22 => .answer
  | 23 => .hangUp
  | _ => .unknownRequest

/-- Whether a request's length disagrees with the format of its kind (R185). -/
def requestMalformed (f : RingFrame) : Bool :=
  match requestWords f with
  | some n => f.length ≠ n
  | none => false

/-- The command of a MGMT_REQUEST; one of a wrong length is discarded by the row of unknown kinds (log entry 12). -/
def managementRow (f : RingFrame) : Row := if requestMalformed f then .unknownRequest else requestRow f.requestKind

/-- The command of a NACK, by the refused kind it names; one from a node without a role is not deliverable (R179, R183). -/
def nackRow (f : RingFrame) (r : Role) : Row :=
  if r = .none then .undeliverable
  else match RingKind.ofCode f.refusedKind with
    | some .gateRelease => .nackGateRelease
    | some .switchSet => .nackSwitchSet
    | some .garageExitCommand => .nackGarageExitCommand
    | some .doorOpen | some .doorClose | some .doorLock => .nackDoor
    | some .scanRequest => .nackScanRequest
    | _ => .undeliverable

/-- The command of a CALL_KEY, by its action (chapter 12, code 15); action 3 is malformed (R196). -/
def callKeyRow (f : RingFrame) : Row :=
  match field (f.word 0) 0 2 with
  | 1 => .callKeyAnswer
  | 2 => .callKeyHangUp
  | _ => .callKeyCall

/-- The command that takes an ingress entry (R179). -/
def IngressEntry.row (e : IngressEntry) : Row :=
  let f := e.frame
  match e.role, RingKind.ofCode f.kind with
  | r, some .nack => nackRow f r
  | .tach, some .tachSample => .tachSample
  | .refMark, some .refMark => .refMark
  | .arrivalReader, some .arrival => byDirection f .arrivalForward .arrivalBackward
  | .detector2, some .passage => byDirection f .passageForward .passageBackward
  | .detector3, some .passage => byDirection f .passageForward .passageBackward
  | .detector4, some .passage => byDirection f .passageForward .passageBackward
  | .gripGauge, some .gripSample => byDirection f .gripSampleForward .gripSampleBackward
  | .switch, some .switchPassage => byDirection f .switchPassageForward .switchPassageBackward
  | .garageDrive, some .garageExit => byDirection f .garageExitForward .garageExitBackward
  | .gate, some .gateReport => .gateReport
  | .attach, some .attach => .attach
  | .doorOpenUnit, some .doorReport => .doorReport
  | .doorCloseUnit, some .doorReport => .doorReport
  | .tension, some .tensionSample => .tensionSample
  | .towerConcentrator, some .scanReport => .scanReport
  | .towerConcentrator, some .towerAlarm => .towerAlarm
  | .handset, some .voice => .handsetVoice
  | .handset, some .callKey => callKeyRow f
  | .manager, some .mgmtRequest => managementRow f
  | _, _ => .undeliverable

/-! ## Malformed frames (R196) -/

/-- Whether a ring frame's coded field holds a value outside its list. -/
def RingFrame.malformed (f : RingFrame) : Bool :=
  match RingKind.ofCode f.kind with
  | some .gateReport => field (f.word 0) 28 3 ≠ 1
  | some .doorReport => (DoorResult.ofCode (field (f.word 0) 16 3)).isNone
  | some .scanReport | some .towerAlarm => 4 < f.statusCount
  | some .callKey => field (f.word 0) 0 2 = 3
  | some .nack => f.refusedKind = 0 || f.nackReason = 0 || f.nackReason = 3
  | _ => false

/-- Whether an ingress entry is discarded as malformed: its frame is judged by its owning block, and of the frames that
have none a NACK naming kind code 0 alone is malformed (R179, R196; log entry 12). -/
def IngressEntry.malformed (e : IngressEntry) : Bool :=
  if e.row = .undeliverable then RingKind.ofCode e.frame.kind = some .nack && e.frame.refusedKind = 0
  else e.frame.malformed

/-- A malformed frame discarded, counted and reported (R196). -/
def State.discardMalformed (s : State) (f : RingFrame) : State :=
  (s.setRng { s.rng with malformed := satInc s.rng.malformed }).report .frameMalformed none none
    [(f.source : Nat), (f.kind : Nat), ((f.word 0).toNat : Nat)]

/-! ## Change counts (R185) -/

/-- The fields of a slot table entry: its state and its cabin's ID (R21). -/
def State.slotFields (s : State) (x : SlotState) : List Int := [(x.tag : Nat), idData (x.cabin.map s.idOf)]

/-- An optional value as two fields. -/
def optData (x : Option Int) : List Int := match x with | some v => [1, v] | none => [0, 0]

/-- The fields of a station queue entry (R62). -/
def State.queueFields (s : State) (e : StationEntry) : List Int :=
  [(e.serial : Nat), idData (s.whoId e.who), (e.segment.num : Nat), (e.route.tag : Nat), (bit e.slotless : Nat),
   ((s.doorOf e.who).code : Nat), ((s.verdictOf e.who).code : Nat)]

/-- The fields of a garage stack entry (R74). -/
def State.garageFields (s : State) (g : GarageEntry) : List Int :=
  [(g.serial : Nat), idData (s.whoId g.who), ((s.doorOf g.who).code : Nat), ((s.verdictOf g.who).code : Nat)]

/-- The fields of an uphill list entry (R40). -/
def State.uphillFields (s : State) (u : UphillEntry) : List Int :=
  ints [s.idOf u.cabin, u.slot] ++ [u.oRelease] ++ optData u.attachErr ++ ints [bit (s.reg u.cabin).overdue]

/-- The fields of a downhill list entry (R40). -/
def State.downhillFields (s : State) (d : DownhillEntry) : List Int :=
  [(s.idOf d.cabin : Nat), (d.slot : Nat), d.oReport, (bit (s.reg d.cabin).overdue : Nat)]

/-- The fields of a set's cabin (R40, R52). -/
def State.setFields (s : State) (i : Nat) : List Int := [(s.idOf i : Nat), (bit (s.reg i).overdue : Nat)]

/-- The fields of a scan phase: its number, its class, tag and deadline where it has them. -/
def ScanPhase.data : ScanPhase → List Int
  | .idle => [0, 0, 0, 0]
  | .tagWait => [1, 0, 0, 0]
  | .queued c t => [2, (bit c : Nat), (t : Nat), 0]
  | .awaiting t d => [3, 0, (t : Nat), (d.toNat : Nat)]

/-- A timer's fields. -/
def timerData (t : Option Ms) : List Int := optData (t.map fun e => (e.toNat : Int))

/-- The fields of a tower record, with its tower number and node (R116). -/
def State.towerFields (s : State) (i : Nat) (e : TowerEntry) : List Int :=
  let r := s.tower i
  ints [i, e.number, e.node] ++ r.phase.data ++ timerData r.dueTimer ++
    ints
      [bit r.due, r.debt, r.failures, bit r.overdue, bit r.lost, r.scansSent, r.reports, r.failed, r.lateReports,
       r.alarms] ++
    (match r.statuses with
     | some y => ints ([1, y.source.code, y.time.toNat] ++ y.trains.map TrainStatus.code)
     | none => ints [0])

/-- A change kind as a number. -/
def ChangeKind.code : ChangeKind → Nat
  | .raised => 0
  | .cleared => 1
  | .momentary => 2
  | .released => 3
  | .category => 4

/-- The fields of a cause record (R160, R168). -/
def CauseRecord.fields (r : CauseRecord) : List Int :=
  ints [bit r.present, r.state.code, r.category.code, r.lastTime.toNat] ++
    optData (r.lastKind.map fun k => (k.code : Int)) ++ ints [r.cabin.getD 0, r.raises]

/-- The entries of a collection as READ_COLLECTION gives them, in their owner's order. -/
def State.page (s : State) : Collection → List (List Int)
  | .slotTable => s.ctr.slots.map s.slotFields
  | .uphillList => s.ctr.uphill.map s.uphillFields
  | .downhillList => s.ctr.downhill.map s.downhillFields
  | .summitSet => s.ctr.summit.map s.setFields
  | .unlocatedSet => s.ctr.unlocated.map s.setFields
  | .stationQueue => s.ctr.queue.map s.queueFields
  | .garageStack => s.ctr.garage.map s.garageFields
  | .towerTable => (List.range 24).filterMap fun i => (s.towerEntry i).map fun e => s.towerFields i e
  | .causeTable => s.stc.records.map CauseRecord.fields

/-- The change counts after a command: each rises by 1 where its collection has changed (R185). -/
def State.countChanges (s before : State) : State :=
  s.setTst
    { s.tst with
      changeCounts :=
        Collection.all.map fun c =>
          let n := s.tst.changeCounts.getD c.num 0
          if before.page c = s.page c then n else (n + 1) % 65536 }

/-! ## What every command ends in -/

/-- Whether a command has carried out an accepted RESTART: only a reset ends one (R192). -/
def wasReset (before after : State) : Bool := before.tst.restart.isSome && after.tst.restart.isNone

/-- The end of a command: STC takes what is gathered, a free transmitter takes the next frame, a park snapshot in flight
may have become stale, and the change counts follow, but where a reset has just set them (R131, R160, R185, R191, R193). -/
def State.settle (s before : State) : State :=
  if wasReset before s then s else (((s.takeReport).transmit).staleIf before).countChanges before

/-- A command's effect on a part that is not held in reset (log entry 2). -/
def whole (body : State → State) (s : State) : State := if s.pins.held then s else (body s).settle s

/-- The expiry of a timer: nothing where the timer does not run or has not reached its expiry (log entry 2). -/
def expiry (timer : Option Ms) (body : State → State) (s : State) : State :=
  if s.expired timer then whole body s else s

/-! ## Delivery (R178, R179) -/

/-- The head of the ingress queue taken; hold is released when the depth falls to 4 (R178). -/
def State.takeHead (s : State) (rest : List IngressEntry) : State :=
  let s1 := s.setRng { s.rng with ingress := rest }
  if rest.length = 4 then s1.setHold false else s1

/-- The head of the ingress queue handed to its owner by the command of its row; a malformed frame is discarded before
any state is changed (R179, R196). -/
def deliver (row : Row) (body : IngressEntry → State → State) (s : State) : State :=
  match s.rng.ingress with
  | e :: rest =>
    if e.row = row then
      whole
        (fun x =>
          let x1 := x.takeHead rest
          if e.malformed then x1.discardMalformed e.frame else body e x1)
        s
    else s
  | [] => s

/-- Where the reply to a request goes. -/
def RingFrame.replyTo (f : RingFrame) : ReplyTo := { source := f.source, tag := f.tag, kind := f.requestKind }

/-- A management request judged: while a store write is in flight every request but READ_STATUS is answered BUSY (R185). -/
def judgeRequest (row : Row) (body : RingFrame → State → State) (f : RingFrame) (s : State) : State :=
  if s.tst.write.isSome && row ≠ .readStatus then s.reply f.replyTo .busy [] else body f s

/-- A management request delivered to TST; after an accepted RESTART none is taken (R185, R192; log entry 25). -/
def manage (row : Row) (body : RingFrame → State → State) (s : State) : State :=
  if s.tst.restart.isSome then s else deliver row (fun e x => judgeRequest row body e.frame x) s

/-- A request answered by its owner. -/
def Answer.give (a : Answer) (f : RingFrame) : State := a.state.reply f.replyTo a.status a.data

/-! ## Buffered link frames (R129) -/

/-- The oldest UNANSWERED frame handed to its owner where it is of the kind the command takes (R129). -/
def deliverUnanswered (kind : LinkFrame → Bool) (body : LinkFrame → State → State) (s : State) : State :=
  match s.slk.rxUnanswered with
  | f :: rest =>
    if kind f then whole (fun x => body f (x.setSlk { x.slk with rxUnanswered := rest })) s else s
  | [] => s

/-- The oldest ANSWERED frame handed to CTR where it is of the kind the command takes; its buffer is freed at the placing
or dropping of the answer (R129, R142). -/
def deliverAnswered (kind : LinkFrame → Bool) (body : LinkFrame → State → State) (s : State) : State :=
  match s.slk.rxAnswered with
  | f :: rest =>
    if kind f then whole (fun x => body f (x.setSlk { x.slk with rxAnswered := rest })) s else s
  | [] => s

/-- A link frame received, of the class or with the check that the command takes (R128; log entry 10). -/
def receive (mine : List Byte → Bool) (bytes : List Byte) (body : State → State) (s : State) : State :=
  if mine bytes then whole body s else s

end Sys2Proof.Machine
end

