-- ==== Sys2Proof/Machine/ManageOps.lean ====
section
/-!
DEFINITION. The management requests that TST and STC take themselves: status, entries, pages, staging, commits, park,
restart and cause reset (R167, R168, R185 to R188, R191, R192).
-/

namespace Sys2Proof.Machine

/-! ## READ_STATUS (R185) -/

/-- An optional natural as two fields. -/
def optNat (x : Option Nat) : List Int := optData (x.map fun n => (n : Int))

/-- RPU's part of a status snapshot (R9). -/
def Rpu.statusFields (r : Rpu) : List Int :=
  [r.record.p, (r.record.k : Nat), r.record.o, r.record.v, (r.record.motion.code : Nat), (bit r.record.referenced : Nat),
   (r.record.time.toNat : Nat), r.odo, r.res, r.odoRef] ++
    ints [r.q, r.missed, r.stale, r.implausibleA, r.implausibleB, r.corrections]

/-- LGT's counters (R35, R37). -/
def Lgt.statusFields (g : Lgt) : List Int :=
  ints [g.emptySlots, g.unseenWindows, g.lateReleases, g.withdrawals, g.unmatchedNacks]

/-- CTR's counters (R55, R56, R58). -/
def Ctr.statusFields (c : Ctr) : List Int := ints [c.reconcileFailures, c.partsRepeated, c.idsIgnored]

/-- DSQ's mode and counters (R108, R112). -/
def Dsq.statusFields (d : Dsq) : List Int :=
  ints [if d.mode = .normal then 0 else 1, d.unexpected, d.unmatched, d.unmatchedNacks]

/-- RMN's part: the last position, its time, the tension conditions, the grip counters (R113, R126). -/
def State.monitorFields (s : State) : List Int :=
  (match s.rmn.carriage with
   | some c => ints [1, c.position, c.time.toNat]
   | none => ints [0, 0, 0]) ++
    ints
      [bit (s.condition .tensionWarn), bit (s.condition .tensionLimit), bit (s.condition .tensionLost),
       s.rmn.gripSamples, s.rmn.gripRejects]

/-- A link state as a number. -/
def LinkState.code : LinkState → Nat
  | .down => 0
  | .acquiring => 1
  | .up => 2

/-- The stored summit contents (R137). -/
def SummitContents.fields (c : SummitContents) : List Int :=
  ints
    [c.category.code, bit c.servicePermit, bit c.emergencyPermit, c.p, bit c.referenced, c.motion.code, c.lastHandover,
     c.call.code, bit c.emergencyOpen, c.time.toNat]

/-- SLK's part: the link state, the stored summit contents and the counters (R137, R144). -/
def Slk.statusFields (k : Slk) : List Int :=
  ints [k.link.code, bit k.stale] ++ (match k.summit with | some c => c.fields | none => []) ++
    ints
      [k.badChecks, k.frameGaps, k.malformed, k.overrunsAnswered, k.overrunsUnanswered, k.notUp, k.linkLosses,
       k.skippedCompares, k.compareFailures, k.requestTimeouts, k.unknownTags, k.droppedReplies, k.droppedHandovers,
       k.handoverGaps, k.discardedHandovers]

/-- ICM's part (chapter 8, state held). -/
def Icm.statusFields (i : Icm) : List Int :=
  ints
    [i.call.code, bit i.emergencyOpen, i.buffer.length, if i.phase = .filling then 0 else 1, i.refused, i.ignoredFrames,
     i.droppedFrames, i.droppedIndications, i.outboundDropped, i.late, i.duplicate, i.overflow, i.lost, i.underrun]

/-- A rise entry's fields (R165). -/
def RiseEntry.fields (e : RiseEntry) : List Int :=
  ints [e.category.code, e.cause.num, e.time.toNat] ++ [e.p] ++ ints [bit e.referenced] ++ optNat e.cabin

/-- A first-out record's fields (R166). -/
def FirstOut.fields (f : FirstOut) : List Int :=
  ints [f.entries.length, f.overflow] ++ f.entries.flatMap RiseEntry.fields

/-- STC's part: the output and permits, the first-out records, the loop level and the key (R166, R169). -/
def State.stopFields (s : State) : List Int :=
  ints
    [s.stc.output.code, bit s.stc.servicePermit, bit s.stc.emergencyPermit, if s.pins.loop = .loopClosed then 0 else 1,
     if s.pins.key = .run then 0 else 1] ++ s.stc.episode.fields ++ s.stc.previous.fields

/-- RNG's part (R178, R180, R184). -/
def Rng.statusFields (r : Rng) : List Int :=
  ints
    ([bit r.hold, r.ingress.length, r.holdChanges, bit r.reportDropped, r.control.length, r.voice.length, r.poll.length,
      r.report.length, r.purged, r.orphans] ++ r.filtered ++ [r.overruns, r.undeliverable, r.voiceDrops, r.malformed])

/-- TST's part: the protection mode and flag, the park flag, the store state, the event and request counters (R187, R191,
R193). -/
def State.storeFields (s : State) : List Int :=
  ints
    [if s.store.protection = .unlocked then 0 else 1, bit s.tst.lockedToPowerCycle, bit s.store.park.isSome,
     bit s.tst.write.isSome, bit s.tst.eventDropped, s.tst.eventsDropped, s.tst.malformedRequests]

/-- Whether a window's count is GOOD (R194). -/
def goodWindow (edges : Nat) : Bool := 38000 ≤ edges && edges ≤ 42000

/-- TMB's part (R195). -/
def Tmb.statusFields (t : Tmb) : List Int :=
  ints [t.counter.toNat, if t.selection = .reference then 0 else 1] ++
    (match t.lastWindow with
     | some n => ints [1, bit (goodWindow n), n]
     | none => ints [0, 0, 0]) ++ ints [t.switches]

/-- The counters of every tower record (R116). -/
def State.towerCounters (s : State) : List Int :=
  s.rmn.towers.flatMap fun r => ints [r.scansSent, r.reports, r.failed, r.lateReports, r.alarms]

/-- The raise counter of every cause (R160). -/
def State.raiseCounters (s : State) : List Int := ints (s.stc.records.map CauseRecord.raises)

/-- Every value that a chapter says READ_STATUS gives, and every counter that a chapter names (R185). -/
def State.statusValues (s : State) : List Int :=
  s.rpu.statusFields ++ s.lgt.statusFields ++ s.ctr.statusFields ++ s.dsq.statusFields ++ s.monitorFields ++
    s.slk.statusFields ++ s.icm.statusFields ++ s.stopFields ++ s.rng.statusFields ++ s.storeFields ++ s.tmb.statusFields ++
    s.towerCounters ++ s.raiseCounters

/-- The event-dropped and report-dropped flags cleared by the READ_STATUS that reports them (R180, R185). -/
def State.clearDropped (s : State) : State :=
  let s1 := s.setTst { s.tst with eventDropped := false }
  s1.setRng { s1.rng with reportDropped := false }

/-- READ_STATUS (R185). -/
def takeReadStatus (f : RingFrame) (s : State) : State :=
  s.clearDropped.reply f.replyTo .ok ((Config.statusWords s.statusValues).take 11)

/-! ## READ_ENTRY and READ_COLLECTION (R185) -/

/-- The group of an entry word. -/
def entryGroup (w : Word) : Option TableGroup := TableGroup.ofCode (field w 24 8)

/-- The entry number of an entry word. -/
def entryNumber (w : Word) : Nat := field w 0 16

/-- The words of an entry of a group that has tables: none is BAD_ENTRY. -/
def State.answerEntry (s : State) (words : Option (List Word)) : Answer :=
  match words with
  | some ws => { state := s, status := .ok, data := ws }
  | none => s.answer .badEntry

/-- The words of a FLEET entry: the static word and the dynamic record (chapter 12, registry entry). -/
def State.fleetWords (s : State) (n : Nat) : Option (List Word) :=
  (s.registry[n]?).map fun r => staticWord r.stat :: dynamicWords r

/-- READ_ENTRY of a group in force, which answers NOT_ALLOWED while the group is invalid, or of a staging copy
(R185; log entry 19). -/
def State.readEntry (s : State) (w : Word) : Answer :=
  let n := entryNumber w
  match entryGroup w, bitOf w 23 with
  | some .safety, true => s.answerEntry (s.tst.stageSafety.entryWords n)
  | some .operations, true => s.answerEntry (s.tst.stageOperations.entryWords n)
  | some .fleet, true => s.answer .badEntry
  | some .fleet, false => s.answerEntry (s.fleetWords n)
  | some .safety, false =>
    match s.tst.safety with
    | some t => s.answerEntry (t.entryWords n)
    | none => s.answer .notAllowed
  | some .operations, false =>
    match s.tst.operations with
    | some o => s.answerEntry (o.entryWords n)
    | none => s.answer .notAllowed
  | none, _ => s.answer .badEntry

/-- READ_COLLECTION: a page with the total count and the change count; a collection code that names none is BAD_ENTRY, and
a start at or past the end gives no entries (R185). -/
def State.readPage (s : State) (w : Word) : Answer :=
  match Config.collectionOfCode (field w 24 8) with
  | some c =>
    let entries := s.page c
    { state := s
      status := .ok
      data :=
        (Config.pageWords c entries.length (s.tst.changeCounts.getD c.num 0) (entries.drop (field w 0 16))).take 11 }
  | none => s.answer .badEntry

/-! ## Staging (R186) -/

/-- A SAFETY staging copy set, with its changed flag. -/
def State.setStageSafety (s : State) (t : SafetyTables) : State :=
  s.setTst { s.tst with stageSafety := t, safetyChanged := true }

/-- An OPERATIONS staging copy set, with its changed flag. -/
def State.setStageOperations (s : State) (o : OperationsTables) : State :=
  s.setTst { s.tst with stageOperations := o, operationsChanged := true }

/-- The answer to a staged value. -/
def State.answerStaged {α : Type} (s : State) (x : Staged α) (put : State → α → State) : Answer :=
  match x with
  | .taken copy => (put s copy).answer .ok
  | .clamped copy bound => { state := put s copy, status := .clamped, data := [bound] }
  | .refused => s.answer .badEntry

/-- STAGE_ENTRY (R159, R186). -/
def State.takeStage (s : State) (w value second : Word) : Answer :=
  match entryGroup w with
  | some .safety => s.answerStaged (s.tst.stageSafety.stage (entryNumber w) value second) State.setStageSafety
  | some .operations => s.answerStaged (s.tst.stageOperations.stage (entryNumber w) value) State.setStageOperations
  | _ => s.answer .badEntry

/-- DISCARD_STAGE (R186). -/
def State.takeDiscard (s : State) (g : Nat) : Answer :=
  match TableGroup.ofCode g with
  | some .safety =>
    (s.setTst
      { s.tst with stageSafety := s.tst.safety.getD SafetyTables.default, safetyChanged := false }).answer .ok
  | some .operations =>
    (s.setTst
      { s.tst with
        stageOperations := s.tst.operations.getD OperationsTables.default
        operationsChanged := false }).answer .ok
  | _ => s.answer .badEntry

/-! ## Commit (R187, R188) -/

/-- Whether commits are barred: the stored mode is LOCKED or the flag is set (R187). -/
def State.commitBarred (s : State) : Bool := s.store.protection = .locked || s.tst.lockedToPowerCycle

/-- Whether a SAFETY commit lacks the stopped rope it needs; the gate is waived while the group is invalid (R188). -/
def State.ropeBars (s : State) (g : TableGroup) : Bool := g = .safety && s.safetyValid && s.rpu.motion ≠ .stopped

/-- The check that a staging copy fails, for a SAFETY commit (R188). -/
def State.failedCheck (s : State) (g : TableGroup) : Option Nat :=
  match g with
  | .safety => s.tst.stageSafety.firstFailure
  | _ => none

/-- The gates of a commit, by the first that applies; none where it passes (R188). -/
def State.commitGate (s : State) (g : TableGroup) : Option Status :=
  if s.commitBarred then some .refusedLocked
  else if s.pins.key ≠ .maint then some .refusedKey
  else if s.ropeBars g then some .refusedMotion
  else (s.failedCheck g).map Status.inconsistent

/-- Whether a commit would change nothing: the group is valid and its changed flag is clear (R188). -/
def State.commitIdle (s : State) (g : TableGroup) : Bool :=
  match g with
  | .safety => s.safetyValid && !s.tst.safetyChanged
  | _ => s.operationsValid && !s.tst.operationsChanged

/-- COMMIT (R188). -/
def takeCommit (f : RingFrame) (s : State) : State :=
  match TableGroup.ofCode (f.word 1).toNat with
  | some .fleet | none => s.reply f.replyTo .badEntry []
  | some g =>
    match s.commitGate g with
    | some x => s.reply f.replyTo x []
    | none => if s.commitIdle g then s.reply f.replyTo .ok [] else s.beginCommit g f.replyTo

/-- WRITE_FLEET_ENTRY (R190). -/
def takeWriteFleet (f : RingFrame) (s : State) : State :=
  let i := (f.word 1).toNat
  let x := staticOfWord (f.word 2)
  match s.judgeFleetWrite i x with
  | some y => s.reply f.replyTo y []
  | none => (s.applyFleet i x).beginFleet i f.replyTo

/-- SET_PROTECTION: a write in flight leaves the stored mode as it was (R187; log entry 31). -/
def takeProtection (f : RingFrame) (s : State) : State :=
  match (f.word 1).toNat with
  | 0 =>
    if s.tst.lockedToPowerCycle then s.reply f.replyTo .refusedLocked []
    else if s.pins.key ≠ .maint then s.reply f.replyTo .refusedKey []
    else s.beginWrite (.protection .unlocked) (some f.replyTo)
  | 1 => s.beginWrite (.protection .locked) (some f.replyTo)
  | 2 => (s.setTst { s.tst with lockedToPowerCycle := true }).reply f.replyTo .ok []
  | _ => s.reply f.replyTo .badEntry []

/-- PARK (R191). -/
def takePark (f : RingFrame) (s : State) : State :=
  if s.rpu.motion ≠ .stopped then s.reply f.replyTo .refusedMotion []
  else match s.tst.safety with
    | none => s.reply f.replyTo .notAllowed []
    | some t => if s.tst.fleetValid then s.beginPark t f.replyTo else s.reply f.replyTo .notAllowed []

/-- RESTART: accepted under the gates of an EMERGENCY_STOP cause, it waits for its reply's insertion or 100 ms (R192). -/
def takeRestart (f : RingFrame) (s : State) : State :=
  if s.rpu.motion ≠ .stopped then s.reply f.replyTo .refusedMotion []
  else if s.pins.key ≠ .maint then s.reply f.replyTo .refusedKey []
  else
    (s.setTst { s.tst with restart := some (s.after 100) }).placeReport (mgmtReply f.replyTo .ok [] true)

/-- Whether an accepted RESTART has no reply on its way: the REPORT queue refused it, and the reset starts at once
(R192). -/
def State.restartRefused (s : State) : Bool := s.tst.restart.isSome && !s.rng.report.any EgressFrame.restartReply

/-- REMOVE_CABIN's effect by the place of its target (R83). -/
def State.removeAt (s : State) (p : RemovalPlace) (outOfService : Bool) : State :=
  match p with
  | .launchEnd e => s.removeEntry e outOfService
  | .stackTop g => s.removeTop g outOfService
  | .unlocatedSet i => s.removeUnlocated i outOfService
  | _ => s

/-- REMOVE_CABIN: bit 24 of its word set names OUT_OF_SERVICE, and clear UNLOCATED (log entry 52). To OUT_OF_SERVICE of a
registered cabin it begins a fleet entry write, whose completion replies (R83, R185, R190). -/
def takeRemove (f : RingFrame) (s : State) : State :=
  let w := f.word 1
  let out := bitOf w 24
  match s.removalPlace w with
  | .barred => s.reply f.replyTo .notAllowed []
  | .unknownTarget => s.reply f.replyTo .badEntry []
  | p =>
    match p.cabin, out with
    | some i, true => (s.removeAt p true).beginFleet i f.replyTo
    | _, _ => (s.removeAt p out).reply f.replyTo .ok []

/-! ## RESET_CAUSES (R167, R168) -/

/-- The gate that keeps a LATCHED cause, if any, by its category in force (R167). -/
def State.categoryGate (s : State) (c : Category) : Option Status :=
  if c.atLeast .serviceStop && s.rpu.motion ≠ .stopped then some .refusedMotion
  else if c = .emergencyStop && s.pins.key ≠ .maint then some .refusedKey
  else none

/-- Whether TMB's last window is GOOD (R194). -/
def State.referenceGood (s : State) : Bool :=
  match s.tmb.lastWindow with
  | some n => goodWindow n
  | none => false

/-- The gate that keeps a LATCHED cause, with the reference gate of TIMEBASE_DEGRADED (R167). -/
def State.resetGate (s : State) (c : Cause) : Option Status :=
  match s.categoryGate (s.cause c).category with
  | some x => some x
  | none => if c = .timebaseDegraded && !s.referenceGood then some .notAllowed else none

/-- The LATCHED causes, in cause order. -/
def State.latchedCauses (s : State) : List Cause := Cause.all.filter fun c => (s.cause c).state = .latched

/-- A cause released: it is INACTIVE, its last change records the reset, and it is reported; TMB returns to the reference
with TIMEBASE_DEGRADED (R167, R171, R194). -/
def State.releaseCause (s : State) (c : Cause) : State :=
  let r := s.cause c
  let new := { r with state := .inactive, lastTime := s.now, lastKind := some .released }
  let s1 := (s.setCause c new).reportCauseState c r.state new false
  if c = .timebaseDegraded then s1.setTmb { s1.tmb with selection := .reference } else s1

/-- The status of a RESET_CAUSES, from the gates that keep causes LATCHED (R168). -/
def resetStatus (kept : List Status) : Status :=
  if .refusedMotion ∈ kept then .refusedMotion
  else if .refusedKey ∈ kept then .refusedKey
  else if kept.isEmpty then .ok
  else .notAllowed

/-- RESET_CAUSES: the causes whose gates are met leave LATCHED, the output category is formed again, and the answer
carries the three counts (R167, R168). -/
def State.takeResetCauses (s : State) : Answer :=
  let latched := s.latchedCauses
  let freed := latched.filter fun c => (s.resetGate c).isNone
  let kept := latched.filterMap s.resetGate
  let active := (Cause.all.filter fun c => (s.cause c).state = .active).length
  { state := (freed.foldl State.releaseCause s).formOutput []
    status := resetStatus kept
    data := [natWord freed.length, natWord kept.length, natWord active] }

/-- A request of an ICM operation: OK where it is taken, NOT_ALLOWED where it is refused (R147). -/
def answerCall (r : State × Bool) : Answer := r.1.answer (if r.2 then .ok else .notAllowed)

/-- A door request with its target resolved (R105). -/
def State.atDoor (s : State) (w : Word) (act : StationEntry → Answer) : Answer :=
  match s.doorTarget w with
  | .entry e => act e
  | .refusal x => s.answer x

/-- The key position sampled at a request (log entry 5). -/
def State.setKey (s : State) (k : KeyPosition) : State := s.setPins { s.pins with key := k }

end Sys2Proof.Machine
end

