-- ==== Sys2Proof/Machine/System.lean ====
section
/-!
DEFINITION. The commands of the part as a whole: power-on, RESET_IN, the emergency-stop loop, the timebase window, a ring
slot, an undeliverable frame (R169, R172, R173, R179, R192, R194).
-/

namespace Sys2Proof.Machine

/-- What a command answers: every command has a next state. -/
abbrev Outcome : Type := Host.Outcome State Fault Refusal

/-- POWER_ON_RESET: a write in flight is cut short, the tables are loaded, every block takes its reset values, a valid
park record is restored, and STC takes its reset report (R192). -/
def execPowerOnReset (s : State) : Outcome := .next s.powerOn

/-- RESET_IN_ASSERTED: both permits are withdrawn at once, a store write in flight is cut short, and the part is held
until the reset ends (R172, R189). -/
def execResetInAsserted (s : State) : Outcome :=
  let s1 := s.cutShort
  .next
    ((s1.setPins { s1.pins with held := true }).setStc { s1.stc with servicePermit := false, emergencyPermit := false })

/-- The level of the emergency-stop loop. -/
def State.setLoop (s : State) (level : LoopLevel) : State := s.setPins { s.pins with loop := level }

/-- ESTOP_IN_CHANGE: the level is kept, and ESTOP_LOOP is present while the loop is open (R169). A part held in reset
keeps the level alone, and judges it in its reset report. -/
def execEstopInChange (level : LoopLevel) (s : State) : Outcome :=
  .next
    (if s.pins.held then s.setLoop level
     else whole (fun x => (x.setLoop level).judge .estopLoop (level = .loopOpen)) s)

/-- A BAD window while REFERENCE is selected: BACKUP is selected, and TIMEBASE_DEGRADED is raised, counted and reported
(R194). -/
def State.switchToBackup (s : State) (edges : Nat) : State :=
  ((s.setTmb { s.tmb with selection := .backup, switches := satInc s.tmb.switches }).raise .timebaseDegraded none).report
    .timebaseBackup none none [(edges : Int)]

/-- A window's count judged (R194). -/
def State.takeWindow (s : State) (edges : Nat) : State :=
  let s1 := s.setTmb { s.tmb with lastWindow := some edges }
  if s.tmb.selection = .reference && !goodWindow edges then s1.switchToBackup edges else s1

/-- TIMEBASE_WINDOW_END (R194). -/
def execTimebaseWindowEnd (edges : Nat) (s : State) : Outcome := .next (whole (fun x => x.takeWindow edges) s)

/-- A slot's passage, with the reset that the insertion of a RESTART's reply begins (R173 to R176, R192). -/
def execRingSlotPass (slot : Fin 8) (w0 w1 : Word) (payload : List Word) (s : State) : Outcome :=
  .next (whole (fun x => x.passSlot slot w0 w1 payload) s)

/-- An undeliverable frame discarded, counted and reported with its source, role and kind (R179). -/
def State.discardUndeliverable (s : State) (e : IngressEntry) : State :=
  (s.setRng { s.rng with undeliverable := satInc s.rng.undeliverable }).report .frameUndeliverable none none
    [(e.frame.source : Nat), (e.role.code : Nat), (e.frame.kind : Nat)]

/-- FRAME_UNDELIVERABLE (R179). -/
def execFrameUndeliverable (s : State) : Outcome :=
  .next (deliver .undeliverable (fun e x => x.discardUndeliverable e) s)

end Sys2Proof.Machine
end

