-- ==== Sys2Proof/Machine/Completions.lean ====
section
/-!
DEFINITION. The completions of store writes: the store is IDLE again, what was written stands, and the queued invalidation
follows (R187, R189, R190, R191).
-/

namespace Sys2Proof.Machine

/-- The completion of the write in flight: nothing where none of the kind the command completes is in flight (log entry
2); otherwise the store becomes IDLE, the write's own effect follows, and then a queued invalidation (R189). -/
def complete (act : WriteKind → Option (Option ReplyTo → State → State)) (s : State) : State :=
  match s.tst.write with
  | some w =>
    match act w.kind with
    | some effect => whole (fun x => (effect w.reply x.endWrite).followQueued) s
    | none => s
  | none => s

/-- COMMIT_WRITE_COMPLETE (R189). -/
def execCommitWriteComplete (s : State) : Outcome :=
  .next (complete (fun k => match k with | .commit g => some fun r x => x.applyCommit g r | _ => none) s)

/-- FLEET_WRITE_COMPLETE (R190). -/
def execFleetWriteComplete (s : State) : Outcome :=
  .next (complete (fun k => match k with | .fleet _ => some fun r x => x.completeFleet r | _ => none) s)

/-- PROTECTION_WRITE_COMPLETE (R187). -/
def execProtectionWriteComplete (s : State) : Outcome :=
  .next (complete (fun k => match k with | .protection m => some fun r x => x.completeProtection m r | _ => none) s)

/-- PARK_WRITE_COMPLETE (R191). -/
def execParkWriteComplete (s : State) : Outcome :=
  .next (complete (fun k => match k with | .park p stale => some fun r x => x.completePark p stale r | _ => none) s)

/-- INVALIDATION_WRITE_COMPLETE: the park valid flag is clear (R189). -/
def execInvalidationWriteComplete (s : State) : Outcome :=
  .next
    (complete
      (fun k => match k with | .invalidation => some fun _ x => x.setStore { x.store with park := none } | _ => none) s)

end Sys2Proof.Machine
end

