-- ==== Sys2Proof/Machine/Doors.lean ====
section
/-!
DEFINITION. The commands of the door sequencer: unit reports and refusals, and its timers (chapter 5).
-/

namespace Sys2Proof.Machine

/-- The door unit that a report's role names (R97). -/
def doorUnitOf (r : Role) : DoorUnitName := if r = .doorOpenUnit then .openUnit else .closeUnit

/-- A door report with its result read; a result outside the list never reaches it (R97, R196). -/
def State.takeDoorFrame (s : State) (e : IngressEntry) : State :=
  match DoorResult.ofCode (field (e.frame.word 0) 16 3) with
  | some r => s.takeDoorReport (doorUnitOf e.role) e.frame.cabinId r
  | none => s

/-- DOOR_REPORT (R97, R98). -/
def execDoorReport (s : State) : Outcome := .next (deliver .doorReport (fun e x => x.takeDoorFrame e) s)

/-- NACK_DOOR (R103). -/
def execNackDoor (s : State) : Outcome := .next (deliver .nackDoor (fun e x => x.takeDoorRefusal e.frame) s)

/-- The deadline of a unit's SENT command. -/
def UnitState.deadline : UnitState → Option Ms
  | .busy b => match b.phase with | .sent d => some d | _ => none
  | _ => none

/-- The retry timer of a unit's refused command. -/
def UnitState.retryTimer : UnitState → Option Ms
  | .busy b => match b.phase with | .retryWait e => some e | _ => none
  | _ => none

/-- The recover timer of a unit. -/
def UnitState.recoverTimer : UnitState → Option Ms
  | .recover e => some e
  | _ => none

/-- The BUSY command of a unit timed out (R102). -/
def State.timeoutUnit (s : State) (u : DoorUnitName) : State :=
  match (s.doorUnit u).state with
  | .busy b => s.doorTimeout u b
  | _ => s

/-- The BUSY command of a unit offered again, unless its record is held (R91, R103; log entry 55). -/
def State.retryUnit (s : State) (u : DoorUnitName) : State :=
  match (s.doorUnit u).state with
  | .busy b => if s.maySend b.cmd then s.offerAgain u b.cmd b.retries else s.unitToIdle u
  | _ => s

/-- DOOR_DEADLINE_EXPIRY (R102). -/
def execDoorDeadlineExpiry (u : DoorUnitName) (s : State) : Outcome :=
  .next (expiry (s.doorUnit u).state.deadline (fun x => x.timeoutUnit u) s)

/-- UNIT_RECOVER_EXPIRY (R92). -/
def execUnitRecoverExpiry (u : DoorUnitName) (s : State) : Outcome :=
  .next (expiry (s.doorUnit u).state.recoverTimer (fun x => x.unitToIdle u) s)

/-- DOOR_RETRY_TIMER_EXPIRY (R103). -/
def execDoorRetryTimerExpiry (u : DoorUnitName) (s : State) : Outcome :=
  .next (expiry (s.doorUnit u).state.retryTimer (fun x => x.retryUnit u) s)

/-- DWELL_EXPIRY (R91, R99). -/
def execDwellExpiry (serial : Nat) (s : State) : Outcome :=
  .next (expiry ((s.doorRecord serial).bind DoorRecord.dwell) (fun x => x.dwellOver serial) s)

/-- REOPEN_WAIT_EXPIRY (R99). -/
def execReopenWaitExpiry (serial : Nat) (s : State) : Outcome :=
  .next (expiry ((s.doorRecord serial).bind DoorRecord.reopenWait) (fun x => x.reopenWaitOver serial) s)

/-- SETTLE_EXPIRY (R100). -/
def execSettleExpiry (serial : Nat) (s : State) : Outcome :=
  .next (expiry ((s.doorRecord serial).bind DoorRecord.settle) (fun x => x.settleOver serial) s)

end Sys2Proof.Machine
end

