-- ==== Sys2Proof/Machine/Gate.lean ====
section
/-!
DEFINITION. The commands of the launch gate: gate reports, their deadline and refusal, and the attach passage (chapter 2).
-/

namespace Sys2Proof.Machine

/-- GATE_REPORT: a release reported, or a backward passage at D7, which moves no entry (R29, R30, R68). -/
def execGateReport (s : State) : Outcome :=
  .next
    (deliver .gateReport
      (fun e x => if e.frame.backward then x.reversePassage 7 else x.takeGateReport e.frame) s)

/-- The pending release of a SENT release, with its report deadline (R28). -/
def State.releaseDeadline (s : State) : Option Ms :=
  match s.lgt.pending with
  | some p => match p.phase with | .sent d => some d | .queued => none
  | none => none

/-- The pending release failed (R30). -/
def State.timeoutRelease (s : State) : State :=
  match s.lgt.pending with
  | some p => s.failRelease p
  | none => s

/-- GATE_REPORT_TIMEOUT (R30). -/
def execGateReportTimeout (s : State) : Outcome := .next (expiry s.releaseDeadline State.timeoutRelease s)

/-- NACK_GATE_RELEASE (R30). -/
def execNackGateRelease (s : State) : Outcome :=
  .next (deliver .nackGateRelease (fun e x => x.takeGateNack e.frame) s)

/-- ATTACH: a forward D8 passage, or a backward one, which moves no entry (R32, R33, R68). -/
def execAttach (s : State) : Outcome :=
  .next (deliver .attach (fun e x => if e.frame.backward then x.reversePassage 8 else x.takeAttach) s)

end Sys2Proof.Machine
end

