-- ==== Sys2Proof/Machine/Handover.lean ====
section
/-!
DEFINITION. The commands that hand a buffered link frame to CTR: summit handovers, reply parts, the summit's requests, and
the reconcile's retry timer (chapters 3 and 7).
-/

namespace Sys2Proof.Machine

/-- Whether a frame is a HANDOVER of one of the kind codes given (chapter 12, HANDOVER payload). -/
def LinkFrame.handoverOf (f : LinkFrame) (codes : List Nat) : Bool := f.kind = 2 && byteAt f.payload 0 ∈ codes

/-- HANDOVER_SUMMIT_ARRIVAL (R45, R49, R50). A handover of a valley kind arrives in this row too, and is discarded after
its sequence has been judged (R50; log entry 12). -/
def execHandoverSummitArrival (s : State) : Outcome :=
  .next
    (deliverUnanswered (fun f => f.handoverOf [1, 3, 4])
      (fun f x => x.takeHandover f.payload State.bookSummitArrival (byteAt f.payload 0 = 1)) s)

/-- HANDOVER_SUMMIT_LAUNCH (R46, R47, R49, R50). -/
def execHandoverSummitLaunch (s : State) : Outcome :=
  .next
    (deliverUnanswered (fun f => f.handoverOf [2]) (fun f x => x.takeHandover f.payload State.bookSummitLaunch true) s)

/-- A REPLY judged by its tag and then by its layout: an unknown tag discards it, and so does a malformed one (R141,
R197). -/
def State.takeReplyFrame (s : State) (f : LinkFrame) : State :=
  if !s.slk.tagHeld f.tag then s.setSlk { s.slk with unknownTags := satInc s.slk.unknownTags }
  else if setReplyMalformed f.payload then s.countMalformed
  else s.handReply f.tag f.payload

/-- REPLY_PART (R55, R141). -/
def execReplyPart (s : State) : Outcome :=
  .next (deliverUnanswered (fun f => f.kind = 1) (fun f x => x.takeReplyFrame f) s)

/-- The reconcile's retry timer, which runs in RETRY_WAIT (R53). -/
def Reconcile.timer : Reconcile → Option Ms
  | .retryWait e => some e
  | _ => none

/-- The retry: a query is issued if the link is UP, and otherwise the reconcile is IDLE (R55). -/
def State.retryReconcile (s : State) : State :=
  if s.slk.link = .up then s.issueQuery else s.setReconcile .idle

/-- RECONCILE_RETRY_EXPIRY (R55). -/
def execReconcileRetryExpiry (s : State) : Outcome :=
  .next (expiry s.ctr.reconcile.timer State.retryReconcile s)

/-- VALLEY_SET_QUERY (R57, R142). -/
def execValleySetQuery (s : State) : Outcome :=
  .next
    (deliverAnswered (fun f => f.kind = 2) (fun f x => x.placeAnswer f.kind f.tag (x.valleySetReply f.tag)) s)

/-- LOCATE (R57, R142). -/
def execLocate (s : State) : Outcome :=
  .next
    (deliverAnswered (fun f => f.kind = 3)
      (fun f x => x.placeAnswer f.kind f.tag [x.locateReply f.tag (halfAt f.payload 0 % 4096)]) s)

/-- SUMMIT_REQUEST_UNSUPPORTED: the summit's request of any other kind, which a valley answers UNSUPPORTED (R142). -/
def execSummitRequestUnsupported (s : State) : Outcome :=
  .next
    (deliverAnswered (fun f => f.kind ≠ 2 && f.kind ≠ 3)
      (fun f x => x.placeAnswer f.kind f.tag [unsupportedReply f.tag]) s)

end Sys2Proof.Machine
end

