-- ==== Sys2Proof/Machine/Intercom.lean ====
section
/-!
DEFINITION. The commands of the intercom: call frames, keys and requests, its timers, the handset's voice (chapter 8).
-/

namespace Sys2Proof.Machine

/-- Whether a frame is a CALL frame of a kind (chapter 12, CALL payload). -/
def LinkFrame.callOf (f : LinkFrame) (c : CallFrame) : Bool := f.kind = 3 && CallFrame.ofCode (byteAt f.payload 0) = some c

/-- CALL_SETUP (R149). -/
def execCallSetup (s : State) : Outcome :=
  .next (deliverUnanswered (fun f => f.callOf .setup) (fun _ x => x.takeCallSetup) s)

/-- CALL_ACCEPT (R149). -/
def execCallAccept (s : State) : Outcome :=
  .next (deliverUnanswered (fun f => f.callOf .accept) (fun _ x => x.takeCallAccept) s)

/-- CALL_CLEAR (R149). -/
def execCallClear (s : State) : Outcome :=
  .next (deliverUnanswered (fun f => f.callOf .clear) (fun _ x => x.takeCallClear) s)

/-- CALL_TIMER_EXPIRY (R150). -/
def execCallTimerExpiry (s : State) : Outcome := .next (expiry s.icm.callTimer State.callTimeout s)

/-- PLAYOUT_EXPIRY (R156). -/
def execPlayoutExpiry (s : State) : Outcome := .next (expiry s.icm.playout State.playout s)

/-- HANDSET_VOICE (R154). -/
def execHandsetVoice (s : State) : Outcome :=
  .next (deliver .handsetVoice (fun e x => x.takeHandsetVoice (field (e.frame.word 0) 0 16) e.frame.audio) s)

/-- CALL_KEY_CALL (R147). -/
def execCallKeyCall (s : State) : Outcome :=
  .next (deliver .callKeyCall (fun _ x => State.keyOutcome (x.callRequest .handsetRequest)) s)

/-- CALL_KEY_ANSWER (R147). -/
def execCallKeyAnswer (s : State) : Outcome :=
  .next (deliver .callKeyAnswer (fun _ x => State.keyOutcome (x.answerRequest .handsetRequest)) s)

/-- CALL_KEY_HANG_UP (R147). -/
def execCallKeyHangUp (s : State) : Outcome :=
  .next (deliver .callKeyHangUp (fun _ x => State.keyOutcome (x.hangUpRequest .handsetRequest)) s)

/-- CALL (R147, R185). -/
def execCall (s : State) : Outcome :=
  .next (manage .call (fun f x => (answerCall (x.callRequest .managerRequest)).give f) s)

/-- ANSWER (R147, R185). -/
def execAnswer (s : State) : Outcome :=
  .next (manage .answer (fun f x => (answerCall (x.answerRequest .managerRequest)).give f) s)

/-- HANG_UP (R147, R185). -/
def execHangUp (s : State) : Outcome :=
  .next (manage .hangUp (fun f x => (answerCall (x.hangUpRequest .managerRequest)).give f) s)

end Sys2Proof.Machine
end

