-- ==== Sys2Proof/Machine/Link.lean ====
section
/-!
DEFINITION. The commands of the summit link: frames received, the silence, send and request timers, the transmitter
(chapter 7).
-/

namespace Sys2Proof.Machine

/-- LINK_BAD_CHECK_FRAME: bytes that form no frame with a good check (R128). -/
def execLinkBadCheckFrame (bytes : List Byte) (s : State) : Outcome :=
  .next (receive (fun b => !checkGood b) bytes State.badCheck s)

/-- Whether bytes form a valid frame of the SAFETY class. -/
def isSafetyFrame (bytes : List Byte) : Bool := checkGood bytes && linkClassOf bytes = .safety

/-- A frame of the SAFETY class, its check good: taken, or counted as malformed (R128, R132, R137, R197). -/
def State.takeSafetyFrame (s : State) (bytes : List Byte) : State :=
  let f := linkFrameOf bytes
  let s1 := s.takeValid bytes
  if malformedOnArrival f then s1.linkOther.countMalformed else s1.takeSafety (summitContentsOf f.payload s.now)

/-- LINK_SAFETY_FRAME (R132, R137). -/
def execLinkSafetyFrame (bytes : List Byte) (s : State) : Outcome :=
  .next (receive isSafetyFrame bytes (fun x => x.takeSafetyFrame bytes) s)

/-- Whether bytes form a valid frame of the ANSWERED or the UNANSWERED class. -/
def isBufferedFrame (bytes : List Byte) : Bool :=
  checkGood bytes && (linkClassOf bytes = .answered || linkClassOf bytes = .unanswered)

/-- LINK_BUFFERED_FRAME (R128, R129). -/
def execLinkBufferedFrame (bytes : List Byte) (s : State) : Outcome :=
  .next (receive isBufferedFrame bytes (fun x => (x.takeValid bytes).takeBuffered (linkFrameOf bytes)) s)

/-- Whether bytes form a valid frame of the VOICE class. -/
def isVoiceFrame (bytes : List Byte) : Bool := checkGood bytes && linkClassOf bytes = .voice

/-- LINK_VOICE_FRAME (R128, R129, R155). -/
def execLinkVoiceFrame (bytes : List Byte) (s : State) : Outcome :=
  .next (receive isVoiceFrame bytes (fun x => (x.takeValid bytes).takeVoice (linkFrameOf bytes)) s)

/-- SILENCE_EXPIRY: the link enters DOWN (R133). -/
def execSilenceExpiry (s : State) : Outcome := .next (expiry s.slk.silence State.enterDown s)

/-- SAFETY_SEND_EXPIRY (R136). -/
def execSafetySendExpiry (s : State) : Outcome := .next (expiry s.slk.sendTimer State.sendSafety s)

/-- The transmitter freed of the frame it has sent. -/
def State.freeTransmitter (s : State) : State := s.setSlk { s.slk with sending := none }

/-- TRANSMIT_COMPLETE: the transmitter is free, and takes the next eligible frame as the command ends (R131). A free
transmitter has no frame to complete. -/
def execTransmitComplete (s : State) : Outcome :=
  .next (if s.slk.sending.isSome then whole State.freeTransmitter s else s)

/-- The request entry of a tag (R140). -/
def State.request (s : State) (tag : Nat) : Option RequestEntry := s.slk.requests.find? fun e => e.tag = tag

/-- The reply deadline of a tag's request; none where the tag is free or its request is QUEUED. -/
def State.replyDeadline (s : State) (tag : Nat) : Option Ms := (s.request tag).bind RequestEntry.deadline

/-- A SENT request failed at its deadline: its tag is freed, it is counted, and CTR is told (R140, R55). -/
def State.timeoutRequest (s : State) (tag : Nat) : State :=
  let s1 := (s.freeRequest tag)
  let s2 := s1.setSlk { s1.slk with requestTimeouts := satInc s1.slk.requestTimeouts }
  if s2.ctr.reconcile.tag = some tag then s2.failReconcile else s2

/-- REQUEST_TIMEOUT (R140). -/
def execRequestTimeout (tag : Nat) (s : State) : Outcome :=
  .next (expiry (s.replyDeadline tag) (fun x => x.timeoutRequest tag) s)

/-- LINK_RESTART: an UP or ACQUIRING link enters DOWN at once; the answer is OK (R135). -/
def State.restartLink (s : State) : State := if s.slk.link = .down then s else s.enterDown

/-- LINK_RESTART (R135, R185). -/
def execLinkRestart (s : State) : Outcome :=
  .next (manage .linkRestart (fun f x => (x.restartLink.answer .ok).give f) s)

end Sys2Proof.Machine
end

