-- ==== Sys2Proof/Machine/Manage.lean ====
section
/-!
DEFINITION. The management requests, each handed to its owner (R185).
-/

namespace Sys2Proof.Machine

/-- READ_STATUS (R185). -/
def execReadStatus (key : KeyPosition) (s : State) : Outcome :=
  .next (manage .readStatus (fun f x => takeReadStatus f (x.setKey key)) s)

/-- READ_ENTRY (R185). -/
def execReadEntry (s : State) : Outcome := .next (manage .readEntry (fun f x => (x.readEntry (f.word 1)).give f) s)

/-- READ_COLLECTION (R185). -/
def execReadCollection (s : State) : Outcome :=
  .next (manage .readCollection (fun f x => (x.readPage (f.word 1)).give f) s)

/-- STAGE_ENTRY (R159, R186). -/
def execStageEntry (s : State) : Outcome :=
  .next (manage .stageEntry (fun f x => (x.takeStage (f.word 1) (f.word 2) (f.word 3)).give f) s)

/-- DISCARD_STAGE (R186). -/
def execDiscardStage (s : State) : Outcome :=
  .next (manage .discardStage (fun f x => (x.takeDiscard (f.word 1).toNat).give f) s)

/-- COMMIT (R188). -/
def execCommit (key : KeyPosition) (s : State) : Outcome :=
  .next (manage .commit (fun f x => takeCommit f (x.setKey key)) s)

/-- WRITE_FLEET_ENTRY (R190). -/
def execWriteFleetEntry (s : State) : Outcome := .next (manage .writeFleetEntry takeWriteFleet s)

/-- SET_PROTECTION (R187). -/
def execSetProtection (key : KeyPosition) (s : State) : Outcome :=
  .next (manage .setProtection (fun f x => takeProtection f (x.setKey key)) s)

/-- PARK (R191). -/
def execPark (s : State) : Outcome := .next (manage .park takePark s)

/-- RESTART (R192). The reset begins at once where the REPORT queue refused the reply. -/
def execRestart (key : KeyPosition) (s : State) : Outcome :=
  let t := manage .restart (fun f x => takeRestart f (x.setKey key)) s
  .next (if s.tst.restart.isNone && t.restartRefused then t.restartPart else t)

/-- RESTART_OFFER_TIMEOUT: the reset begins 100 ms after the acceptance (R192). -/
def execRestartOfferTimeout (s : State) : Outcome := .next (expiry s.tst.restart State.restartPart s)

/-- RESET_CAUSES (R167, R168). -/
def execResetCauses (key : KeyPosition) (s : State) : Outcome :=
  .next (manage .resetCauses (fun f x => ((x.setKey key).takeResetCauses).give f) s)

/-- SET_DOOR_MODE's operand: 0 NORMAL, 1 CLOSED_RUN; any other value is BAD_ENTRY (R108, R185). -/
def State.takeDoorMode (s : State) (mode : Nat) : Answer :=
  match mode with
  | 0 => (s.setDoorMode .normal).answer .ok
  | 1 => (s.setDoorMode .closedRun).answer .ok
  | _ => s.answer .badEntry

/-- SET_DOOR_MODE (R108). -/
def execSetDoorMode (s : State) : Outcome :=
  .next (manage .setDoorMode (fun f x => (x.takeDoorMode (f.word 1).toNat).give f) s)

/-- A door request on an entry: taken where the entry's door allows it, and otherwise NOT_ALLOWED (R105). -/
def State.doorAnswer (s : State) (allowed : Bool) (act : State → State) : Answer :=
  if allowed then (act s).answer .ok else s.answer .notAllowed

/-- HOLD_OPEN (R105, R106). -/
def execHoldOpen (s : State) : Outcome :=
  .next
    (manage .holdOpen
      (fun f x => (x.atDoor (f.word 1) fun e => x.doorAnswer (x.mayHoldOpen e) fun y => y.takeHoldOpen e).give f) s)

/-- RELEASE_HOLD (R105, R106). -/
def execReleaseHold (s : State) : Outcome :=
  .next
    (manage .releaseHold
      (fun f x => (x.atDoor (f.word 1) fun e => x.doorAnswer true fun y => y.takeReleaseHold e).give f) s)

/-- DOOR_RETRY (R105, R107). -/
def execDoorRetry (s : State) : Outcome :=
  .next
    (manage .doorRetry
      (fun f x => (x.atDoor (f.word 1) fun e => x.doorAnswer (x.mayRetryDoor e) fun y => y.takeDoorRetry e).give f) s)

/-- GARAGE_NEXT (R82). -/
def execGarageNext (s : State) : Outcome :=
  .next (manage .garageNext (fun f x => (x.takeGarageNext (f.word 1)).give f) s)

/-- GARAGE_RELEASE (R81). -/
def execGarageRelease (s : State) : Outcome :=
  .next (manage .garageRelease (fun f x => (x.takeGarageRelease (f.word 1).toNat).give f) s)

/-- REMOVE_CABIN (R83). -/
def execRemoveCabin (s : State) : Outcome := .next (manage .removeCabin takeRemove s)

/-- LOCATE_CABIN (R84). -/
def execLocateCabin (s : State) : Outcome :=
  .next (manage .locateCabin (fun f x => (x.takeLocateCabin (f.word 1)).give f) s)

/-- A request of no known kind is answered BAD_ENTRY; one whose length disagrees with its kind is counted as malformed and
has no reply (R185; log entry 12). -/
def takeUnknownRequest (f : RingFrame) (s : State) : State :=
  if requestMalformed f then s.setTst { s.tst with malformedRequests := satInc s.tst.malformedRequests }
  else s.reply f.replyTo .badEntry []

/-- MGMT_REQUEST_UNKNOWN_KIND (R185): judged before the store's state is. -/
def execMgmtRequestUnknownKind (s : State) : Outcome :=
  .next
    (if s.tst.restart.isSome then s else deliver .unknownRequest (fun e x => takeUnknownRequest e.frame x) s)

end Sys2Proof.Machine
end

