-- ==== Sys2Proof/Machine/Rope.lean ====
section
/-!
DEFINITION. The commands of the rope position unit: tach samples and their loss, stillness, reference marks (chapter 1).
-/

namespace Sys2Proof.Machine

/-- The sequence of a TACH_SAMPLE (chapter 12, code 1). -/
def RingFrame.tachSequence (f : RingFrame) : Nat := field (f.word 0) 0 8

/-- The count of channel A (chapter 12, code 1). -/
def RingFrame.countA (f : RingFrame) : Nat := field (f.word 1) 16 16

/-- The count of channel B (chapter 12, code 1). -/
def RingFrame.countB (f : RingFrame) : Nat := field (f.word 1) 0 16

/-- An effect that reads the SAFETY tables in force: there is none while the group is invalid (chapter 1, R14). -/
def withSafety (body : SafetyTables → State → State) (s : State) : State :=
  match s.tst.safety with
  | some t => body t s
  | none => s

/-- TACH_SAMPLE (R1 to R13). -/
def execTachSample (s : State) : Outcome :=
  .next
    (deliver .tachSample
      (fun e x => withSafety (fun t y => y.takeSample t e.frame.tachSequence e.frame.countA e.frame.countB) x) s)

/-- TACH_LOST_EXPIRY (R14). -/
def execTachLostExpiry (s : State) : Outcome := .next (expiry s.rpu.tachLoss State.loseTach s)

/-- STILLNESS_EXPIRY (R11). -/
def execStillnessExpiry (s : State) : Outcome := .next (expiry s.rpu.stillness State.becomeStopped s)

/-- REF_MARK (R15, R16). -/
def execRefMark (s : State) : Outcome :=
  .next (deliver .refMark (fun _ x => withSafety (fun t y => y.takeMark t) x) s)

end Sys2Proof.Machine
end

