-- ==== Sys2Proof/Machine/Station.lean ====
section
/-!
DEFINITION. The commands of the station's detectors, the switch and the garage drive (chapter 4).
-/

namespace Sys2Proof.Machine

/-- The force of a GRIP_SAMPLE (chapter 12, code 5). -/
def RingFrame.force (f : RingFrame) : Nat := field (f.word 0) 0 16

/-- ARRIVAL_FORWARD (R64, R65). -/
def execArrivalForward (s : State) : Outcome :=
  .next (deliver .arrivalForward (fun e x => x.takeArrival e.frame.cabinId) s)

/-- ARRIVAL_BACKWARD (R68). -/
def execArrivalBackward (s : State) : Outcome := .next (deliver .arrivalBackward (fun _ x => x.reversePassage 1) s)

/-- PASSAGE_FORWARD (R66, R69). -/
def execPassageForward (s : State) : Outcome := .next (deliver .passageForward (fun e x => x.takePassage e.role) s)

/-- PASSAGE_BACKWARD (R67). -/
def execPassageBackward (s : State) : Outcome :=
  .next (deliver .passageBackward (fun e x => x.takeBackPassage e.role) s)

/-- GRIP_SAMPLE_FORWARD (R70, R71). -/
def execGripSampleForward (s : State) : Outcome :=
  .next (deliver .gripSampleForward (fun e x => x.takeGrip e.frame.force) s)

/-- GRIP_SAMPLE_BACKWARD (R67). -/
def execGripSampleBackward (s : State) : Outcome := .next (deliver .gripSampleBackward (fun _ x => x.takeBackGrip) s)

/-- SWITCH_PASSAGE_FORWARD (R73). -/
def execSwitchPassageForward (s : State) : Outcome :=
  .next (deliver .switchPassageForward (fun e x => x.takeSwitch e.frame.position) s)

/-- SWITCH_PASSAGE_BACKWARD (R67, R72). -/
def execSwitchPassageBackward (s : State) : Outcome :=
  .next (deliver .switchPassageBackward (fun _ x => x.takeBackSwitch) s)

/-- NACK_SWITCH_SET (R72). -/
def execNackSwitchSet (s : State) : Outcome := .next (deliver .nackSwitchSet (fun e x => x.takeSwitchNack e.frame) s)

/-- GARAGE_EXIT_FORWARD (R77, R78). -/
def execGarageExitForward (s : State) : Outcome := .next (deliver .garageExitForward (fun _ x => x.takeExit) s)

/-- GARAGE_EXIT_BACKWARD (R68). -/
def execGarageExitBackward (s : State) : Outcome :=
  .next (deliver .garageExitBackward (fun _ x => x.reversePassage 9) s)

/-- GARAGE_EXIT_TIMEOUT (R79). -/
def execGarageExitTimeout (s : State) : Outcome :=
  .next (expiry (s.ctr.exitCommand.map ExitCommand.deadline) (fun x => x.abandonExit .garageExitTimeout []) s)

/-- NACK_GARAGE_EXIT_COMMAND (R79). -/
def execNackGarageExitCommand (s : State) : Outcome :=
  .next (deliver .nackGarageExitCommand (fun e x => x.takeExitNack e.frame) s)

end Sys2Proof.Machine
end

