-- ==== Sys2Proof/Machine/Supervision.lean ====
section
/-!
DEFINITION. The commands of the rope monitor: the tension carriage, tower scans and alarms (chapter 6).
-/

namespace Sys2Proof.Machine

/-- TENSION_SAMPLE (R113). -/
def execTensionSample (s : State) : Outcome :=
  .next (deliver .tensionSample (fun e x => x.takeTension (field (e.frame.word 0) 0 16)) s)

/-- The tension loss timer expired: it stops, and TENSION_LOST is present (R114). -/
def State.loseTension (s : State) : State := (s.setRmn { s.rmn with tensionLoss := none }).judge .tensionLost true

/-- TENSION_LOSS_EXPIRY (R114). -/
def execTensionLossExpiry (s : State) : Outcome := .next (expiry s.rmn.tensionLoss State.loseTension s)

/-- The effect of a tower's timer on the tower that holds the index (R116). -/
def State.atTower (s : State) (i : Nat) (act : State → TowerEntry → State) : State :=
  match s.towerEntry i with
  | some e => act s e
  | none => s

/-- TOWER_DUE_EXPIRY (R118). -/
def execTowerDueExpiry (i : Nat) (s : State) : Outcome :=
  .next (expiry (s.tower i).dueTimer (fun x => x.atTower i fun y e => y.scanDue i e) s)

/-- SCAN_REPORT (R120, R122). -/
def execScanReport (s : State) : Outcome := .next (deliver .scanReport (fun e x => x.takeScanReport e.frame) s)

/-- The reply deadline of an AWAITING scan. -/
def ScanPhase.deadline : ScanPhase → Option Ms
  | .awaiting _ d => some d
  | _ => none

/-- SCAN_DEADLINE_EXPIRY (R121). -/
def execScanDeadlineExpiry (i : Nat) (s : State) : Outcome :=
  .next (expiry (s.tower i).phase.deadline (fun x => x.atTower i fun y e => y.failScan i e) s)

/-- NACK_SCAN_REQUEST (R121). -/
def execNackScanRequest (s : State) : Outcome := .next (deliver .nackScanRequest (fun e x => x.takeScanNack e.frame) s)

/-- TOWER_ALARM (R123). -/
def execTowerAlarm (s : State) : Outcome := .next (deliver .towerAlarm (fun e x => x.takeAlarm e.frame) s)

end Sys2Proof.Machine
end

