-- ==== Sys2Proof/Machine/Dispatch.lean ====
section
/-! DEFINITION. The effect of each command on everything but the queue of waiting commands. -/

namespace Sys2Proof.Machine

def exec (i : Instr) (s : State) : Host.Outcome State Fault Refusal :=
  match i with
  | .powerOnReset => Sys2Proof.Machine.execPowerOnReset s
  | .estopInChange level => Sys2Proof.Machine.execEstopInChange level s
  | .timebaseWindowEnd edges => Sys2Proof.Machine.execTimebaseWindowEnd edges s
  | .ringSlotPass slot w0 w1 payload => Sys2Proof.Machine.execRingSlotPass slot w0 w1 payload s
  | .frameUndeliverable => Sys2Proof.Machine.execFrameUndeliverable s
  | .tachSample => Sys2Proof.Machine.execTachSample s
  | .tachLostExpiry => Sys2Proof.Machine.execTachLostExpiry s
  | .stillnessExpiry => Sys2Proof.Machine.execStillnessExpiry s
  | .refMark => Sys2Proof.Machine.execRefMark s
  | .gateReport => Sys2Proof.Machine.execGateReport s
  | .gateReportTimeout => Sys2Proof.Machine.execGateReportTimeout s
  | .nackGateRelease => Sys2Proof.Machine.execNackGateRelease s
  | .attach => Sys2Proof.Machine.execAttach s
  | .arrivalForward => Sys2Proof.Machine.execArrivalForward s
  | .arrivalBackward => Sys2Proof.Machine.execArrivalBackward s
  | .passageForward => Sys2Proof.Machine.execPassageForward s
  | .passageBackward => Sys2Proof.Machine.execPassageBackward s
  | .gripSampleForward => Sys2Proof.Machine.execGripSampleForward s
  | .gripSampleBackward => Sys2Proof.Machine.execGripSampleBackward s
  | .switchPassageForward => Sys2Proof.Machine.execSwitchPassageForward s
  | .switchPassageBackward => Sys2Proof.Machine.execSwitchPassageBackward s
  | .nackSwitchSet => Sys2Proof.Machine.execNackSwitchSet s
  | .garageExitForward => Sys2Proof.Machine.execGarageExitForward s
  | .garageExitBackward => Sys2Proof.Machine.execGarageExitBackward s
  | .garageExitTimeout => Sys2Proof.Machine.execGarageExitTimeout s
  | .nackGarageExitCommand => Sys2Proof.Machine.execNackGarageExitCommand s
  | .doorReport => Sys2Proof.Machine.execDoorReport s
  | .nackDoor => Sys2Proof.Machine.execNackDoor s
  | .doorDeadlineExpiry unit => Sys2Proof.Machine.execDoorDeadlineExpiry unit s
  | .unitRecoverExpiry unit => Sys2Proof.Machine.execUnitRecoverExpiry unit s
  | .doorRetryTimerExpiry unit => Sys2Proof.Machine.execDoorRetryTimerExpiry unit s
  | .dwellExpiry serial => Sys2Proof.Machine.execDwellExpiry serial s
  | .reopenWaitExpiry serial => Sys2Proof.Machine.execReopenWaitExpiry serial s
  | .settleExpiry serial => Sys2Proof.Machine.execSettleExpiry serial s
  | .tensionSample => Sys2Proof.Machine.execTensionSample s
  | .tensionLossExpiry => Sys2Proof.Machine.execTensionLossExpiry s
  | .towerDueExpiry tower => Sys2Proof.Machine.execTowerDueExpiry tower s
  | .scanReport => Sys2Proof.Machine.execScanReport s
  | .scanDeadlineExpiry tower => Sys2Proof.Machine.execScanDeadlineExpiry tower s
  | .nackScanRequest => Sys2Proof.Machine.execNackScanRequest s
  | .towerAlarm => Sys2Proof.Machine.execTowerAlarm s
  | .linkBadCheckFrame bytes => Sys2Proof.Machine.execLinkBadCheckFrame bytes s
  | .linkSafetyFrame bytes => Sys2Proof.Machine.execLinkSafetyFrame bytes s
  | .linkBufferedFrame bytes => Sys2Proof.Machine.execLinkBufferedFrame bytes s
  | .handoverSummitArrival => Sys2Proof.Machine.execHandoverSummitArrival s
  | .handoverSummitLaunch => Sys2Proof.Machine.execHandoverSummitLaunch s
  | .replyPart => Sys2Proof.Machine.execReplyPart s
  | .reconcileRetryExpiry => Sys2Proof.Machine.execReconcileRetryExpiry s
  | .requestTimeout tag => Sys2Proof.Machine.execRequestTimeout tag s
  | .valleySetQuery => Sys2Proof.Machine.execValleySetQuery s
  | .locate => Sys2Proof.Machine.execLocate s
  | .summitRequestUnsupported => Sys2Proof.Machine.execSummitRequestUnsupported s
  | .linkVoiceFrame bytes => Sys2Proof.Machine.execLinkVoiceFrame bytes s
  | .silenceExpiry => Sys2Proof.Machine.execSilenceExpiry s
  | .safetySendExpiry => Sys2Proof.Machine.execSafetySendExpiry s
  | .transmitComplete => Sys2Proof.Machine.execTransmitComplete s
  | .callSetup => Sys2Proof.Machine.execCallSetup s
  | .callAccept => Sys2Proof.Machine.execCallAccept s
  | .callClear => Sys2Proof.Machine.execCallClear s
  | .callTimerExpiry => Sys2Proof.Machine.execCallTimerExpiry s
  | .playoutExpiry => Sys2Proof.Machine.execPlayoutExpiry s
  | .handsetVoice => Sys2Proof.Machine.execHandsetVoice s
  | .callKeyCall => Sys2Proof.Machine.execCallKeyCall s
  | .callKeyAnswer => Sys2Proof.Machine.execCallKeyAnswer s
  | .callKeyHangUp => Sys2Proof.Machine.execCallKeyHangUp s
  | .call => Sys2Proof.Machine.execCall s
  | .answer => Sys2Proof.Machine.execAnswer s
  | .hangUp => Sys2Proof.Machine.execHangUp s
  | .readStatus key => Sys2Proof.Machine.execReadStatus key s
  | .readEntry => Sys2Proof.Machine.execReadEntry s
  | .readCollection => Sys2Proof.Machine.execReadCollection s
  | .stageEntry => Sys2Proof.Machine.execStageEntry s
  | .discardStage => Sys2Proof.Machine.execDiscardStage s
  | .commit key => Sys2Proof.Machine.execCommit key s
  | .writeFleetEntry => Sys2Proof.Machine.execWriteFleetEntry s
  | .setProtection key => Sys2Proof.Machine.execSetProtection key s
  | .park => Sys2Proof.Machine.execPark s
  | .restart key => Sys2Proof.Machine.execRestart key s
  | .restartOfferTimeout => Sys2Proof.Machine.execRestartOfferTimeout s
  | .resetCauses key => Sys2Proof.Machine.execResetCauses key s
  | .setDoorMode => Sys2Proof.Machine.execSetDoorMode s
  | .holdOpen => Sys2Proof.Machine.execHoldOpen s
  | .releaseHold => Sys2Proof.Machine.execReleaseHold s
  | .doorRetry => Sys2Proof.Machine.execDoorRetry s
  | .garageNext => Sys2Proof.Machine.execGarageNext s
  | .garageRelease => Sys2Proof.Machine.execGarageRelease s
  | .removeCabin => Sys2Proof.Machine.execRemoveCabin s
  | .locateCabin => Sys2Proof.Machine.execLocateCabin s
  | .linkRestart => Sys2Proof.Machine.execLinkRestart s
  | .commitWriteComplete => Sys2Proof.Machine.execCommitWriteComplete s
  | .fleetWriteComplete => Sys2Proof.Machine.execFleetWriteComplete s
  | .protectionWriteComplete => Sys2Proof.Machine.execProtectionWriteComplete s
  | .parkWriteComplete => Sys2Proof.Machine.execParkWriteComplete s
  | .invalidationWriteComplete => Sys2Proof.Machine.execInvalidationWriteComplete s
  | .resetInAsserted => Sys2Proof.Machine.execResetInAsserted s
  | .mgmtRequestUnknownKind => Sys2Proof.Machine.execMgmtRequestUnknownKind s

end Sys2Proof.Machine
end

