-- ==== Sys2Proof/Machine/Step.lean ====
section
/-! DEFINITION. One step of the part: the command that waits first is carried out, and an idle part counts a millisecond. -/

namespace Sys2Proof.Machine

/-- The counter of TMB a millisecond later, which is all that an empty queue brings (log entry 1). -/
def State.tick (s : State) : State := s.setTmb { s.tmb with counter := s.tmb.counter + 1 }

/-- The state with the queue of waiting commands set. -/
def State.setPending (s : State) (q : List Instr) : State := { s with pending := q }

/-- A step: the command at the front of the queue is carried out with the rest of the queue waiting; with no command
waiting the counter moves on (log entry 1). -/
def step (s : State) : Host.Outcome State Fault Refusal :=
  match s.pending with
  | c :: rest => exec c (s.setPending rest)
  | [] => .next s.tick

/-- The state with the command that a word spells put at the front of the queue, where it spells one. -/
def State.withFetchWord (s : State) (nbits w : Nat) : State :=
  match decodeTableWord nbits w with
  | some c => s.setPending (c :: s.pending)
  | none => s

end Sys2Proof.Machine
end

