-- ==== Sys2Proof/Safety.lean ====
section
/-!
DEFINITION. The terms of claims about the part: the parts of a state that a command may touch, the invariant that every
step keeps, and the conditions under which a command has something to do.
-/

namespace Sys2Proof.Machine

/-! ## The parts of a state, for frames -/

/-- The parts of a state. `lines` is the uphill and the downhill list, `sets` the summit and the unlocated set, `track`
the rest of CTR; `tables` is what is in force, `staging` the staging copies with their changed flags, `write` the store
write in flight with the invalidation-queued flag, `lock` LOCKED_TO_POWER_CYCLE, `restart` an accepted RESTART, and
`events` the rest of TST. -/
inductive Part where
  | pending | pins | registry | rpu | lgt | queue | garage | lines | sets | slots | track | dsq | rmn | slk | icm | stc
  | rng | tables | staging | write | lock | restart | events | tmb | store | free
  deriving DecidableEq, Repr

/-- What is left of CTR beside its collections. -/
def Ctr.rest (c : Ctr) : Ctr :=
  { c with queue := [], garage := [], uphill := [], downhill := [], summit := [], unlocated := [], slots := [] }

/-- What is left of TST beside the tables, the staging copies, the write in flight and its two flags. -/
def Tst.rest (x : Tst) : List EventEntry × Nat × Bool × Nat × Nat × List Nat :=
  (x.events, x.eventSeq, x.eventDropped, x.eventsDropped, x.malformedRequests, x.changeCounts)

/-- Two states have a part in common. -/
def Part.same (p : Part) (s t : State) : Prop :=
  match p with
  | .pending => t.pending = s.pending
  | .pins => t.pins = s.pins
  | .registry => t.registry = s.registry
  | .rpu => t.rpu = s.rpu
  | .lgt => t.lgt = s.lgt
  | .queue => t.ctr.queue = s.ctr.queue
  | .garage => t.ctr.garage = s.ctr.garage
  | .lines => t.ctr.uphill = s.ctr.uphill ∧ t.ctr.downhill = s.ctr.downhill
  | .sets => t.ctr.summit = s.ctr.summit ∧ t.ctr.unlocated = s.ctr.unlocated
  | .slots => t.ctr.slots = s.ctr.slots
  | .track => t.ctr.rest = s.ctr.rest
  | .dsq => t.dsq = s.dsq
  | .rmn => t.rmn = s.rmn
  | .slk => t.slk = s.slk
  | .icm => t.icm = s.icm
  | .stc => t.stc = s.stc
  | .rng => t.rng = s.rng
  | .tables =>
    t.tst.safety = s.tst.safety ∧ t.tst.operations = s.tst.operations ∧ t.tst.fleetValid = s.tst.fleetValid
  | .staging =>
    t.tst.stageSafety = s.tst.stageSafety ∧ t.tst.safetyChanged = s.tst.safetyChanged ∧
      t.tst.stageOperations = s.tst.stageOperations ∧ t.tst.operationsChanged = s.tst.operationsChanged
  | .write => t.tst.write = s.tst.write ∧ t.tst.invalidationQueued = s.tst.invalidationQueued
  | .lock => t.tst.lockedToPowerCycle = s.tst.lockedToPowerCycle
  | .restart => t.tst.restart = s.tst.restart
  | .events => t.tst.rest = s.tst.rest
  | .tmb => t.tmb = s.tmb
  | .store => t.store = s.store
  | .free => t.free = s.free

/-- The parts that the end of any command may touch: STC's taking of a report with what follows it in LGT, ICM and the
event reports (R160, R164, R171), the transmitter's next frame (R131), a park snapshot made stale (R191) and the change
counts (R185). -/
def endParts : List Part := [.lgt, .slots, .slk, .icm, .stc, .rng, .write, .events]

/-- Every part that a reset may write: all but the queue of commands, the store and the free counter. -/
def resetParts : List Part :=
  endParts ++
    [.pins, .registry, .rpu, .queue, .garage, .lines, .sets, .track, .dsq, .rmn, .tables, .staging, .lock, .restart, .tmb]

/-- The parts that a command may touch: its own and those of the end of any command. -/
def touched : Instr → List Part
  | .powerOnReset =>
    resetParts ++ [.store, .free]
  | .estopInChange _ | .readStatus _ =>
    endParts ++ [.pins]
  | .timebaseWindowEnd _ =>
    endParts ++ [.tmb]
  | .ringSlotPass _ _ _ _ | .restart _ | .restartOfferTimeout =>
    resetParts
  | .frameUndeliverable | .gateReportTimeout | .nackGateRelease | .arrivalBackward | .garageExitBackward
    | .linkBadCheckFrame _ | .linkBufferedFrame _ | .valleySetQuery | .locate | .summitRequestUnsupported
    | .linkVoiceFrame _ | .safetySendExpiry | .transmitComplete | .callSetup | .callAccept | .callClear
    | .callTimerExpiry | .playoutExpiry | .handsetVoice | .callKeyCall | .callKeyAnswer | .callKeyHangUp | .call
    | .answer | .hangUp | .readEntry | .readCollection | .mgmtRequestUnknownKind =>
    endParts
  | .tachSample | .tachLostExpiry =>
    endParts ++ [.registry, .rpu, .queue, .store]
  | .stillnessExpiry =>
    endParts ++ [.rpu, .store]
  | .refMark =>
    endParts ++ [.registry, .rpu, .queue]
  | .gateReport =>
    endParts ++ [.queue]
  | .attach | .arrivalForward | .switchPassageForward | .handoverSummitArrival | .handoverSummitLaunch
    | .replyPart | .locateCabin =>
    endParts ++ [.registry, .queue, .garage, .lines, .sets, .track, .dsq]
  | .passageForward =>
    endParts ++ [.registry, .queue, .track, .dsq]
  | .passageBackward =>
    endParts ++ [.queue, .track, .dsq]
  | .gripSampleForward =>
    endParts ++ [.registry, .queue, .track, .rmn]
  | .gripSampleBackward | .switchPassageBackward =>
    endParts ++ [.queue, .track]
  | .nackSwitchSet | .garageExitTimeout | .nackGarageExitCommand | .linkSafetyFrame _ | .reconcileRetryExpiry
    | .requestTimeout _ | .silenceExpiry | .garageRelease | .linkRestart =>
    endParts ++ [.track]
  | .garageExitForward =>
    endParts ++ [.registry, .queue, .garage, .sets, .track, .dsq]
  | .doorReport | .nackDoor | .doorDeadlineExpiry _ | .settleExpiry _ =>
    endParts ++ [.registry, .queue, .dsq]
  | .unitRecoverExpiry _ | .doorRetryTimerExpiry _ | .dwellExpiry _ | .reopenWaitExpiry _ | .setDoorMode
    | .doorRetry =>
    endParts ++ [.dsq]
  | .tensionSample | .tensionLossExpiry | .towerDueExpiry _ | .scanReport | .scanDeadlineExpiry _
    | .nackScanRequest | .towerAlarm =>
    endParts ++ [.rmn]
  | .stageEntry | .discardStage =>
    endParts ++ [.staging]
  | .commit _ =>
    endParts ++ [.pins, .store]
  | .writeFleetEntry | .removeCabin =>
    endParts ++ [.registry, .queue, .garage, .lines, .sets, .track, .dsq, .store]
  | .setProtection _ =>
    endParts ++ [.pins, .lock]
  | .park | .protectionWriteComplete | .parkWriteComplete | .invalidationWriteComplete =>
    endParts ++ [.store]
  | .resetCauses _ =>
    endParts ++ [.pins, .tmb]
  | .holdOpen | .releaseHold =>
    endParts ++ [.registry, .dsq]
  | .garageNext =>
    endParts ++ [.registry]
  | .commitWriteComplete =>
    endParts ++ [.registry, .rpu, .queue, .garage, .lines, .sets, .track, .dsq, .rmn, .tables, .staging, .store]
  | .fleetWriteComplete =>
    endParts ++ [.tables, .store]
  | .resetInAsserted =>
    [.pins, .stc, .write, .store, .free]

/-! ## The invariant -/

/-- The permits are what the output category says (R163). -/
def Stc.permitsAgree (x : Stc) : Prop :=
  x.servicePermit = x.output.servicePermit ∧ x.emergencyPermit = x.output.emergencyPermit

/-- The bounds of a first-out record: 8 entries, and an overflow counter 0..255 (R165). -/
def FirstOut.bounded (f : FirstOut) : Prop := f.entries.length ≤ 8 ∧ f.overflow ≤ 255

/-- The bounds of STC: 48 cause records, and two first-out records (R158, R165, R166). -/
def Stc.bounded (x : Stc) : Prop := x.records.length = 48 ∧ x.episode.bounded ∧ x.previous.bounded

/-- The bounds of RNG's queues: 16 ingress entries, 8 CONTROL, 4 VOICE, 24 POLL and 32 REPORT frames (R177, R180). -/
def Rng.queuesBounded (r : Rng) : Prop :=
  r.ingress.length ≤ 16 ∧ r.control.length ≤ 8 ∧ r.voice.length ≤ 4 ∧ r.poll.length ≤ 24 ∧ r.report.length ≤ 32

/-- The sizes of RNG's tables: 8 slot records and purge marks, and a miss count and a mark for each of 32 addresses (R173,
R175). -/
def Rng.tablesSized (r : Rng) : Prop :=
  r.slotRecords.length = 8 ∧ r.purge.length = 8 ∧ r.misses.length = 32 ∧ r.absent.length = 32

/-- The bounds of RNG. -/
def Rng.bounded (r : Rng) : Prop := r.queuesBounded ∧ r.tablesSized

/-- The range of Gcap, 0..48 (R75). -/
def SafetyTables.bounded (t : SafetyTables) : Prop := t.gcap ≤ 48

/-- A park record holds no more than the station queue and the garage stack can (R62, R74, R191). -/
def ParkRecord.bounded (p : ParkRecord) : Prop := p.queue.length ≤ 32 ∧ p.garage.length ≤ 48

/-- What the store holds is in range (R186, R191). -/
def Store.bounded (x : Store) : Prop := (∀ t ∈ x.safety, t.bounded) ∧ ∀ p ∈ x.park, p.bounded

/-- The snapshot of a park write (R191). -/
def WriteKind.snapshot : WriteKind → Option ParkRecord
  | .park p _ => some p
  | _ => none

/-- The bounds of the event report queue and the event sequence, 32 entries and 0..65535 (R193), of the tables in force
and staged, and of a park snapshot in flight. -/
def Tst.bounded (x : Tst) : Prop :=
  (x.events.length ≤ 32 ∧ x.eventSeq < 65536) ∧ (∀ t ∈ x.safety, t.bounded) ∧ x.stageSafety.bounded ∧
    ∀ w ∈ x.write, ∀ p ∈ w.kind.snapshot, p.bounded

/-- The request table: at most 8 entries, no tag twice; and the ANSWERED transmit queue holds frames of its entries, in
their order and each at most once (R140). -/
def Slk.requestsRight (k : Slk) : Prop :=
  k.requests.length ≤ 8 ∧ (k.requests.map RequestEntry.tag).Nodup ∧
    (k.txAnswered.map LinkFrame.tag).Sublist (k.requests.map RequestEntry.tag)

/-- The bounds of SLK's buffers and queues: 4 ANSWERED and 8 UNANSWERED receive buffers, 16 UNANSWERED and 2 VOICE
transmit frames (R129, R143, R148, R154), and the request table (R140). -/
def Slk.bounded (k : Slk) : Prop :=
  (k.rxAnswered.length ≤ 4 ∧ k.rxUnanswered.length ≤ 8 ∧ k.txUnanswered.length ≤ 16 ∧ k.txVoice.length ≤ 2) ∧
    k.requestsRight

/-- The bound of the attach watch: 8 entries (R29). -/
def Lgt.bounded (g : Lgt) : Prop := g.watch.length ≤ 8

/-- The bounds of the station queue, the garage stack and the pending exit count: 32, 48 and 8 (R62, R74, R81). -/
def Ctr.bounded (c : Ctr) : Prop := c.queue.length ≤ 32 ∧ c.garage.length ≤ 48 ∧ c.exitPending ≤ 8

/-- The bound of the jitter buffer: 6 entries (R155). -/
def Icm.bounded (x : Icm) : Prop := x.buffer.length ≤ 6

/-- The bounds of RPU: 8 entries in the speed window, and Q at most 2,147,483,647 (R6, R10). -/
def Rpu.bounded (r : Rpu) : Prop := r.window.length ≤ 8 ∧ r.q ≤ 2147483647

/-- The size of RMN's table, 24 tower records, and the bound of a tower's scan debt, 8 (R116, R118). -/
def Rmn.bounded (x : Rmn) : Prop := x.towers.length = 24 ∧ ∀ r ∈ x.towers, r.debt ≤ 8

/-- The bounds of every queue, buffer and accumulator, and the sizes of the tables, the registry's 128 entries among
them (R61). -/
def State.bounded (s : State) : Prop :=
  s.rng.bounded ∧ s.tst.bounded ∧ s.slk.bounded ∧ s.icm.bounded ∧ s.rpu.bounded ∧ s.stc.bounded ∧ s.rmn.bounded ∧
    s.lgt.bounded ∧ s.ctr.bounded ∧ s.store.bounded ∧ s.registry.length = 128

/-- The permits as they must stand: withdrawn while the part is held in reset, and otherwise what the output category says
(R163, R172). -/
def State.permitsRight (s : State) : Prop :=
  if s.pins.held then s.stc.servicePermit = false ∧ s.stc.emergencyPermit = false else s.stc.permitsAgree

/-- The invariant of the part between two commands: the bounds, the permits, and no condition that waits to be reported
(R160: a condition is reported at the event at which it changes). -/
def State.Inv (s : State) : Prop := s.bounded ∧ s.permitsRight ∧ s.stc.gathered = []

/-! ## The fleet (R42) -/

/-- The registered cabins that a collection holds; out of service is no collection. -/
def State.members (s : State) : Location → List Nat
  | .station => s.ctr.queue.filterMap fun e => e.who.index
  | .garage => s.ctr.garage.filterMap fun g => g.who.index
  | .uphill => s.ctr.uphill.map UphillEntry.cabin
  | .summit => s.ctr.summit
  | .downhill => s.ctr.downhill.map DownhillEntry.cabin
  | .unlocated => s.ctr.unlocated
  | .outOfService => []

/-- Every cabin in service is in exactly one collection, once, and its location field names it; an entry out of service
is in none, and its location field says so (R42). -/
def State.cabinsPlaced (s : State) : Prop :=
  (∀ l, (s.members l).Nodup ∧
    ∀ i ∈ s.members l, i < 128 ∧ (s.reg i).stat.inService = true ∧ (s.reg i).location = l) ∧
  ∀ i < 128,
    if (s.reg i).stat.inService then i ∈ s.members (s.reg i).location else (s.reg i).location = .outOfService

/-- What the state of slot `k` rests on: the line entry, the watch entry or the pending release of its cabin. -/
def State.slotHolds (s : State) (k : Nat) : SlotState → Prop
  | .empty => True
  | .releasePending c => ∃ p ∈ s.lgt.pending, p.cabin = c ∧ p.slot = k
  | .releasing c => ∃ w ∈ s.lgt.watch, w.cabin = c ∧ w.slot = k
  | .up c => ∃ u ∈ s.ctr.uphill, u.cabin = c ∧ u.slot = k
  | .down c => ∃ d ∈ s.ctr.downhill, d.cabin = c ∧ d.slot = k

/-- The slot table and the lines agree: a slot is UP or DOWN for a cabin exactly where a line entry records it, RELEASING
exactly where the attach watch does, RELEASE_PENDING only for the pending release, and no cabin has two slots (R42). -/
def State.slotsAgree (s : State) : Prop :=
  (∀ k < s.ctr.slots.length, s.slotHolds k (s.slot k)) ∧
  (∀ u ∈ s.ctr.uphill, s.slot u.slot = .up u.cabin) ∧ (∀ d ∈ s.ctr.downhill, s.slot d.slot = .down d.cabin) ∧
  (∀ w ∈ s.lgt.watch, s.slot w.slot = .releasing w.cabin) ∧ (s.ctr.slots.filterMap SlotState.cabin).Nodup

/-- No two entries of the queue and the stack share a serial, and the watched cabins, each once, stand in S7 (R29, R62). -/
def State.entriesAgree (s : State) : Prop :=
  (s.ctr.queue.map StationEntry.serial ++ s.ctr.garage.map GarageEntry.serial).Nodup ∧
  (s.lgt.watch.map WatchEntry.cabin).Nodup ∧
  ∀ w ∈ s.lgt.watch, ∃ e ∈ s.ctr.queue, e.who = .cabin w.cabin ∧ e.segment = .s7

/-- Every cabin on the uphill list has door state LOCKED and grip verdict PASS (R42). -/
def State.uphillReady (s : State) : Prop :=
  ∀ i ∈ s.members .uphill, (s.reg i).door = .locked ∧ (s.reg i).verdict = .pass

/-- The geometry of a SAFETY group: N slots of length S make the loop (R188). -/
def SafetyTables.sized (t : SafetyTables) : Prop := t.L = t.N * t.S ∧ 0 < t.S

/-- The tables in force, in the store and about to be committed are sized, and the slot table has N entries (R21, R186,
R188). -/
def State.geometryAgrees (s : State) : Prop :=
  (∀ t ∈ s.tst.safety, t.sized ∧ s.ctr.slots.length = t.N) ∧ (∀ t ∈ s.store.safety, t.sized) ∧
  0 < s.tst.stageSafety.S ∧ ∀ w ∈ s.tst.write, w.kind = .commit .safety → s.tst.stageSafety.sized

/-- A park record places cabins in service of the fleet stored with it, each once, and its slot table and lines agree
(R59, R191). -/
def ParkRecord.agrees (p : ParkRecord) (fleet : List FleetStatic) : Prop :=
  p.named.Nodup ∧ (∀ i ∈ p.named, i < 128 ∧ (fleet.getD i FleetStatic.blank).inService = true) ∧
  p.slots.length * p.S = p.L ∧
  (∀ k < p.slots.length,
    match p.slots.getD k .empty with
    | .up c => ∃ u ∈ p.uphill, u.cabin = c ∧ u.slot = k
    | .down c => ∃ d ∈ p.downhill, d.cabin = c ∧ d.slot = k
    | _ => True) ∧
  (∀ u ∈ p.uphill, p.slots.getD u.slot .empty = .up u.cabin) ∧
  ∀ d ∈ p.downhill, p.slots.getD d.slot .empty = .down d.cabin

/-- What a reset restores agrees with the fleet it loads: a valid stored FLEET group is the registry's, and a park record
beside it, in the store or in flight to it, agrees with it (R189 to R192). -/
def State.storeAgrees (s : State) : Prop :=
  ∀ f ∈ s.store.fleet, f = s.registry.map RegEntry.stat ∧ (∀ p ∈ s.store.park, p.agrees f) ∧
    ∀ w ∈ s.tst.write, ∀ p ∈ w.kind.snapshot, p.agrees f

/-- The conservation of the fleet (R42), with what it rests on from step to step. -/
def State.fleetKept (s : State) : Prop :=
  s.cabinsPlaced ∧ s.slotsAgree ∧ s.entriesAgree ∧ s.uphillReady ∧ s.geometryAgrees ∧ s.storeAgrees

/-! ## What a reset brings up (R192) -/

/-- The store holds a park record that a reset restores: valid beside valid SAFETY and FLEET groups, with their L and S
(R192), and naming each cabin once. -/
def Store.restores (x : Store) (t : SafetyTables) (fleet : List FleetStatic) (p : ParkRecord) : Prop :=
  x.safety = some t ∧ x.fleet = some fleet ∧ x.park = some p ∧ p.L = t.L ∧ p.S = t.S ∧ p.named.Nodup ∧
    ∀ i ∈ p.named, i < 128

/-- The position and the collections of a restored record: a slot that was being launched into is EMPTY, and its cabin, if
in S7, SLOTLESS; the serials run from 0, queue head first and then stack top first; the cabins in service that the record
does not name are unlocated (R19, R38, R59, R87). -/
def State.restoredPlaces (u : State) (p : ParkRecord) (fleet : List FleetStatic) : Prop :=
  let who := fun e : ParkEntry =>
    match e.index with | some i => Who.cabin i | none => .anon e.door.restored e.verdict e.force
  let launching := fun e : ParkEntry =>
    ∃ i, e.index = some i ∧ (SlotState.releasePending i ∈ p.slots ∨ SlotState.releasing i ∈ p.slots)
  u.rpu.odo = p.odo ∧ u.rpu.res = p.res ∧ u.rpu.odoRef = p.odoRef ∧ u.rpu.referenced = p.referenced ∧
  u.ctr.uphill = p.uphill ∧ u.ctr.downhill = p.downhill ∧ u.ctr.summit = p.summit ∧
  (∀ i, i ∈ u.ctr.unlocated ↔ i < 128 ∧ (fleet.getD i FleetStatic.blank).inService = true ∧ i ∉ p.named) ∧
  u.ctr.slots = p.slots.map (fun x => match x with | .up c => .up c | .down c => .down c | _ => .empty) ∧
  u.ctr.queue.length = p.queue.length ∧ u.ctr.garage.length = p.garage.length ∧
  (∀ (n : Nat) (e : ParkEntry), p.queue[n]? = some e →
    ∃ y, u.ctr.queue[n]? = some y ∧ y.serial = n ∧ y.who = who e ∧ y.segment = e.segment ∧ y.route = e.route ∧
      (y.slotless = true ↔ e.slotless = true ∨ (e.segment = .s7 ∧ launching e))) ∧
  ∀ (n : Nat) (e : ParkEntry), p.garage[n]? = some e →
    u.ctr.garage[n]? = some { serial := p.queue.length + n, who := who e }

/-- The registry's record of each cabin that a restored record names: the door state, with no action left over, the verdict
and the force of an entry of the queue or the stack; LOCKED and PASS uphill; UNKNOWN and UNTESTED elsewhere (R59, R87,
R112). -/
def State.restoredCabins (u : State) (p : ParkRecord) : Prop :=
  let as := fun (l : Location) (e : ParkEntry) => ∀ i, e.index = some i →
    (u.reg i).location = l ∧ (u.reg i).door = e.door.restored ∧ (u.reg i).verdict = e.verdict ∧
      (u.reg i).force = e.force
  let unseen := fun (l : Location) (i : Nat) =>
    (u.reg i).location = l ∧ (u.reg i).door = .unknown ∧ (u.reg i).verdict = .untested
  (∀ e ∈ p.queue, as .station e) ∧ (∀ e ∈ p.garage, as .garage e) ∧
  (∀ x ∈ p.uphill,
    (u.reg x.cabin).location = .uphill ∧ (u.reg x.cabin).door = .locked ∧ (u.reg x.cabin).verdict = .pass) ∧
  (∀ x ∈ p.downhill, unseen .downhill x.cabin) ∧ ∀ i ∈ p.summit, unseen .summit i

/-- The door record of each restored entry of the queue: close requested from S3 on, beyond reach from S4 on, lock mode
SEPARATE and no counts; within reach an OPEN door's dwell and a CLOSED door's settle time are started by the profile of
the entry (R91, R112). -/
def State.restoredDoors (u : State) (p : ParkRecord) (fleet : List FleetStatic) : Prop :=
  u.dsq.openUnit.state = .idle ∧ u.dsq.closeUnit.state = .idle ∧
  ∀ (n : Nat) (e : ParkEntry), p.queue[n]? = some e →
    ∃ r, u.doorRecord n = some r ∧ r.closeRequested = decide (3 ≤ e.segment.num) ∧
      r.beyondReach = decide (4 ≤ e.segment.num) ∧ r.lockMode = .separate ∧ r.reopens = 0 ∧ r.reopened = false ∧
      r.held = .notHeld ∧ r.reopenWait = none ∧
      ∀ o, u.tst.operations = some o → e.segment.num < 4 →
        let number := match e.index with | some i => (fleet.getD i FleetStatic.blank).profile | none => 0
        let profile := o.profiles.getD number DoorProfile.zero
        (e.door = .opened → r.dwell = some (u.after profile.tDwell)) ∧
          (e.door = .closed → r.settle = some (u.after profile.tSettle))

/-- A part that has restored a park record, with no release pending and nothing watched (R38, R192). -/
def State.restored (u : State) (p : ParkRecord) (fleet : List FleetStatic) : Prop :=
  u.restoredPlaces p fleet ∧ u.restoredCabins p ∧ u.restoredDoors p fleet ∧ u.lgt.pending = none ∧ u.lgt.watch = []

/-- A part that has come up without a park record: every cabin in service is unlocated, with its door UNKNOWN and its
verdict UNTESTED (R18, R37, R58, R86, R112). -/
def State.unrestored (u : State) (fleet : List FleetStatic) : Prop :=
  u.rpu.odo = 0 ∧ u.rpu.referenced = false ∧ u.ctr.queue = [] ∧ u.ctr.garage = [] ∧ u.ctr.uphill = [] ∧
  u.ctr.downhill = [] ∧ u.ctr.summit = [] ∧ u.dsq.records = [] ∧ u.lgt.pending = none ∧ u.lgt.watch = [] ∧
  (∀ i, i ∈ u.ctr.unlocated ↔ i < 128 ∧ (fleet.getD i FleetStatic.blank).inService = true) ∧
  (∀ x ∈ u.ctr.slots, x = .empty) ∧ ∀ i < 128, (u.reg i).door = .unknown ∧ (u.reg i).verdict = .untested

/-- What a reset makes of the store: a restore where the park record and both groups are valid and agree in L and S, and
otherwise none (R192). -/
def State.broughtUpFrom (u : State) (x : Store) : Prop :=
  (∀ t fleet p, x.restores t fleet p → u.restored p fleet) ∧
  (x.park = none ∨ x.safety = none ∨ x.fleet = none ∨
      (∃ t p, x.safety = some t ∧ x.park = some p ∧ (p.L ≠ t.L ∨ p.S ≠ t.S)) →
    u.unrestored (x.fleet.getD []))

/-! ## What is staged (R186) -/

/-- The SAFETY entries that hold one number: the entry, its range and the copy that takes a value (chapter 12; log entry
18 for the ranges of L, N, S, A, W, B and P_mark). -/
def SafetyTables.numbers : List (Nat × Nat × Nat × (SafetyTables → Nat → SafetyTables)) :=
  [(0, 2, 8000000, fun t v => { t with L := v }), (1, 2, 1024, fun t v => { t with N := v }),
   (2, 1, 4000000, fun t v => { t with S := v }), (3, 0, 3999999, fun t v => { t with A := v }),
   (4, 1, 4000000, fun t v => { t with W := v }), (5, 0, 7999999, fun t v => { t with B := v }),
   (6, 1000, 8000000, fun t v => { t with U := v }), (7, 1000, 8000000, fun t v => { t with Dn := v }),
   (8, 0, 200000, fun t v => { t with tolArr := v }), (9, 1000, 100000, fun t v => { t with gAtt := v }),
   (10, 0, 30000, fun t v => { t with eMax := v }), (11, 0, 7999999, fun t v => { t with pMark := v }),
   (12, 0, 5000, fun t v => { t with rTol := v }), (20, 0, 48, fun t v => { t with gcap := v }),
   (21, 5, 50, fun t v => { t with ts := v }), (22, 500, 20000, fun t v => { t with ka := v }),
   (23, 500, 20000, fun t v => { t with kb := v }), (24, 1, 4095, fun t v => { t with dMax := v }),
   (25, 1, 1000000000, fun t v => { t with qLim := v }), (26, 1, 12000, fun t v => { t with vMax := v }),
   (28, 0, 10000, fun t v => { t with pTol := v }), (29, 0, 100, fun t v => { t with tLat := v })] ++
  (List.range 7).map fun n => (13 + n, 1, 8, fun t v => { t with caps := t.caps.set n v })

/-! ## When a command has something to do -/

/-- The command of a row finds its frame, well formed, at the head of the ingress queue of a part that runs. -/
def State.Delivers (s : State) (row : Row) (e : IngressEntry) (rest : List IngressEntry) : Prop :=
  s.pins.held = false ∧ s.rng.ingress = e :: rest ∧ e.row = row ∧ e.malformed = false

/-- A management request finds its frame so, with no RESTART accepted and no store write in flight. -/
def State.Requests (s : State) (row : Row) (e : IngressEntry) (rest : List IngressEntry) : Prop :=
  s.Delivers row e rest ∧ s.tst.restart = none ∧ s.tst.write = none

/-- A timer of a part that runs has reached its expiry. -/
def State.Fires (s : State) (timer : Option Ms) : Prop := s.pins.held = false ∧ s.expired timer = true

/-- A buffered UNANSWERED link frame stands first at a part that runs. -/
def State.Holds (s : State) (f : LinkFrame) (rest : List LinkFrame) : Prop :=
  s.pins.held = false ∧ s.slk.rxUnanswered = f :: rest

/-- A buffered ANSWERED link frame stands first at a part that runs. -/
def State.Asked (s : State) (f : LinkFrame) (rest : List LinkFrame) : Prop :=
  s.pins.held = false ∧ s.slk.rxAnswered = f :: rest

/-- The reply to a request stands in the REPORT queue (R185). -/
def State.Replied (t : State) (f : RingFrame) (x : Status) (data : List Word) : Prop :=
  mgmtReply f.replyTo x data false ∈ t.rng.report

/-- An event report of a kind and data stands in TST's queue, or its frame in the REPORT queue (R193). -/
def State.Reported (t : State) (k : EventKind) (data : List Int) : Prop :=
  ∃ x : EventEntry, x.kind = k ∧ x.data = data ∧
    (x ∈ t.tst.events ∨
      { kind := RingKind.event, mask := t.eventMask, tag := 0, payload := x.words, restartReply := false } ∈ t.rng.report)

end Sys2Proof.Machine
end

