-- ==== Sys2Proof/Certificates/Slice0/Obligations.lean ====
section
/-!
DEFINITION. The statements about the part that are to be proved. Where an effect belongs to the end of every command
(STC's report, the transmitter's next frame, the event reports), a hypothesis says what keeps it apart: nothing gathered,
a frame on its way, room in a queue.
-/

open Sys2Proof Sys2Proof.Machine

/-! ## The part as a whole -/

/-- A step takes the command at the front of the queue and is that command's effect with the rest of the queue waiting.
-/
def Obligations.StepTakesTheFrontCommand : Prop :=
  ∀ (c : Instr) (q : List Instr) (s : State), step (s.setPending (c :: q)) = exec c (s.setPending q)

/-- The state after reset meets the invariants: the queues within their bounds, the permits as the output category says,
no condition that waits to be reported, and the fleet conserved (R42). -/
def Obligations.ResetMeetsTheInvariant : Prop := State.reset.Inv ∧ State.reset.fleetKept

/-- Every step keeps the invariant, from every state that meets it: ingress never holds more than 16 frames, CONTROL 8,
VOICE 4, POLL 24 and REPORT 32 (R177, R180); the event queue 32 (R193); the link buffers, the speed window, the
jitter buffer and the first-out records their bounds (R10, R129, R143, R154, R155, R165); the request table 8 entries
with no tag twice, and the ANSWERED transmit queue one frame each of entries of it (R140); the station queue 32 entries,
the garage stack 48, the attach watch 8, the pending exits 8 and a tower's scan debt 8 (R29, R62, R74, R81, R116); Gcap
at most 48 in force, staged and stored (R75); and SERVICE_PERMIT and EMERGENCY_PERMIT are what the output category
says, or withdrawn while the part is held (R163). -/
def Obligations.StepKeepsTheInvariant : Prop := ∀ s t : State, s.Inv → step s = .next t → t.Inv

/-- Every command completes, and leaves every part of the state that `touched` does not list for it. -/
def Obligations.CommandsKeepTheirFrame : Prop :=
  ∀ (c : Instr) (s : State), ∃ t, exec c s = .next t ∧ ∀ p, p ∉ touched c → p.same s t

/-- LOCKED_TO_POWER_CYCLE stands through every command but a power-on reset, which clears it, and while it is set a
COMMIT of SAFETY or OPERATIONS is answered REFUSED_LOCKED, starts no write and leaves the store (R187, R188). -/
def Obligations.LockStandsUntilPowerOn : Prop :=
  (∀ (c : Instr) (s t : State), s.tst.lockedToPowerCycle = true → exec c s = .next t →
    t.tst.lockedToPowerCycle = !decide (c = .powerOnReset)) ∧
  (∀ (s : State) (e : IngressEntry) (rest : List IngressEntry) (key : KeyPosition) (g : TableGroup),
    s.Requests .commit e rest → TableGroup.ofCode (e.frame.word 1).toNat = some g → g ≠ .fleet →
    s.tst.lockedToPowerCycle = true → s.rng.report.length < 32 →
    ∃ u, exec (.commit key) s = .next u ∧ u.Replied e.frame .refusedLocked [] ∧ u.tst.write = none ∧ u.store = s.store)

/-- A power-on reset releases the part, keeps the levels of the pins and the waiting commands, loads every group the
store holds valid, clears LOCKED_TO_POWER_CYCLE, and starts the counter at 0 on the reference (R187, R192, R195);
with the SAFETY group invalid it comes up at SERVICE_STOP, or at EMERGENCY_STOP with the loop open, POWER_ON LATCHED
and TABLES_INVALID ACTIVE (R169, R170, R172). RESET_IN withdraws both permits and cuts a store write short, a stored
mode then reading LOCKED (R172, R187, R189). With no write in flight, a valid park record is restored whole beside valid
SAFETY and FLEET groups of its L and S, and otherwise the collections come up empty but for the unlocated set (R19, R38,
R58, R59, R86, R87, R112, R192: `State.restored`, `State.unrestored`). A part that is held takes no other command than
these and the level of the loop (log entry 2). -/
def Obligations.ResetsBringThePartUp : Prop :=
  (∀ s : State, ∃ u, exec .powerOnReset s = .next u ∧ u.pending = s.pending ∧ u.pins = { s.pins with held := false } ∧
    u.tst.safety = s.store.safety ∧ u.tst.operations = s.store.operations ∧ u.tst.fleetValid = s.store.fleet.isSome ∧
    u.tst.stageSafety = s.store.safety.getD SafetyTables.default ∧ u.tst.safetyChanged = false ∧
    u.tst.stageOperations = s.store.operations.getD OperationsTables.default ∧ u.tst.operationsChanged = false ∧
    u.tst.lockedToPowerCycle = false ∧ u.tst.write = none ∧ u.tst.restart = none ∧
    u.tmb = { counter := 0, selection := .reference, lastWindow := none, switches := 0 } ∧
    (s.tst.write = none → u.broughtUpFrom s.store) ∧
    (s.store.safety = none →
      (u.cause .powerOn).state = .latched ∧ (u.cause .tablesInvalid).state = .active ∧
        u.stc.output = (if s.pins.loop = .loopClosed then .serviceStop else .emergencyStop) ∧
        u.stc.servicePermit = false ∧ u.stc.emergencyPermit = decide (s.pins.loop = .loopClosed))) ∧
  (∀ s : State, ∃ u, exec .resetInAsserted s = .next u ∧ u.pins = { s.pins with held := true } ∧
    u.stc = { s.stc with servicePermit := false, emergencyPermit := false } ∧ u.tst.write = none ∧
    (∀ m r, s.tst.write = some { kind := .protection m, reply := r } → u.store.protection = .locked)) ∧
  (∀ (c : Instr) (s : State), s.pins.held = true → c ≠ .powerOnReset → c ≠ .resetInAsserted →
    (∀ level, c ≠ .estopInChange level) → exec c s = .next s)

/-! ## Rope position and speed -/

/-- An accepted sample of primed channels, in order or after a gap: the sequence and the counts are kept, the tach loss
timer restarts, and the fused travel enters the odometer, the speed window, the speed and the slip accumulator (R1,
R3 to R7, R10); TACH_IMPLAUSIBLE, TACH_SINGLE, TACH_DISAGREE and ROPE_SLIP are present as the channels say, and
TACH_LOST is left (R3, R5, R6). The channel deltas are the balanced remainders of the count differences. A priming
sample stores the counts, makes TACH_LOST absent and ends in a position update, with no travel and nothing in the
window (R2, R14). A stale sample is counted and changes nothing else of the rope, the launch, the tracking or the
stop chain (R1). -/
def Obligations.TachSampleCarriesTravel : Prop :=
  (∀ (s : State) (e : IngressEntry) (rest : List IngressEntry) (t : SafetyTables) (a b p : Nat),
    s.Delivers .tachSample e rest → s.tst.safety = some t → s.rpu.prevA = some a → s.rpu.prevB = some b →
    s.rpu.seqPrev = some p → a < 65536 → b < 65536 → p < 256 →
    1 ≤ (e.frame.tachSequence + 256 - p) % 256 → (e.frame.tachSequence + 256 - p) % 256 ≤ 127 →
    ∃ u, exec .tachSample s = .next u ∧
      let dA := Int.bmod ((e.frame.countA : Int) - a) 65536
      let dB := Int.bmod ((e.frame.countB : Int) - b) 65536
      let okA := dA.natAbs ≤ t.dMax
      let okB := dB.natAbs ≤ t.dMax
      let tA := dA * t.ka
      let tB := dB * t.kb
      let f : Int :=
        if okA then
          if okB then if tA * tB < 0 then 0 else if tB.natAbs < tA.natAbs then tB else tA
          else tA
        else if okB then tB else 0
      u.rpu.seqPrev = some e.frame.tachSequence ∧ u.rpu.tachLoss = some (s.now + BitVec.ofNat 32 (5 * t.ts)) ∧
        u.rpu.missed =
          (if (e.frame.tachSequence + 256 - p) % 256 = 1 then s.rpu.missed
           else satAdd s.rpu.missed ((e.frame.tachSequence + 256 - p) % 256 - 1)) ∧
        u.rpu.stale = s.rpu.stale ∧
        u.rpu.prevA = some e.frame.countA ∧ u.rpu.prevB = some e.frame.countB ∧
        u.rpu.implausibleA = (if okA then s.rpu.implausibleA else satInc s.rpu.implausibleA) ∧
        u.rpu.implausibleB = (if okB then s.rpu.implausibleB else satInc s.rpu.implausibleB) ∧
        u.rpu.q = (if okA ∧ okB then min 2147483647 (s.rpu.q - s.rpu.q / 16 + (tA - tB).natAbs) else s.rpu.q) ∧
        u.rpu.odo = max (-2 ^ 39) (min (2 ^ 39) (s.rpu.odo + (s.rpu.res + f) / 1000)) ∧
        u.rpu.res = (s.rpu.res + f) % 1000 ∧
        u.rpu.window = (if s.rpu.window.length < 8 then s.rpu.window else s.rpu.window.tail) ++ [f] ∧
        u.rpu.v = u.rpu.window.sum.tdiv (u.rpu.window.length * t.ts) ∧
        u.rpu.odoRef = s.rpu.odoRef ∧ u.rpu.referenced = s.rpu.referenced ∧
        u.rpu.corrections = s.rpu.corrections ∧
        (s.stc.records.length = 48 →
          (u.condition .tachImplausible = true ↔ ¬(okA ∧ okB)) ∧
            (u.condition .tachSingle = true ↔ (okA ∧ ¬okB) ∨ (okB ∧ ¬okA)) ∧
            (u.condition .tachDisagree = true ↔ okA ∧ okB ∧ tA * tB < 0) ∧
            u.condition .tachLost = s.condition .tachLost ∧
            u.condition .ropeSlip =
              (if okA ∧ okB ∧ t.qLim < u.rpu.q then true
               else if okA ∧ okB ∧ u.rpu.q ≤ t.qLim / 2 then false
               else s.condition .ropeSlip))) ∧
  (∀ (s : State) (e : IngressEntry) (rest : List IngressEntry) (t : SafetyTables),
    s.Delivers .tachSample e rest → s.tst.safety = some t → s.rpu.prevA = none → s.rpu.prevB = none →
    s.rpu.seqPrev = none → s.stc.records.length = 48 →
    ∃ u, exec .tachSample s = .next u ∧
      u.rpu =
        { s.rpu with
          seqPrev := some e.frame.tachSequence
          tachLoss := some (s.now + BitVec.ofNat 32 (5 * t.ts))
          prevA := some e.frame.countA
          prevB := some e.frame.countB
          record := u.rpu.record } ∧
      u.rpu.record.p = (s.rpu.odo - s.rpu.odoRef) % t.L ∧ u.rpu.record.v = s.rpu.v ∧ u.rpu.record.time = s.now ∧
      u.condition .tachLost = false ∧
      (∀ c ∈ [Cause.tachImplausible, Cause.tachSingle, Cause.tachDisagree, Cause.ropeSlip, Cause.overspeed],
        u.condition c = s.condition c)) ∧
  (∀ (s : State) (e : IngressEntry) (rest : List IngressEntry) (t : SafetyTables) (p : Nat),
    s.Delivers .tachSample e rest → s.tst.safety = some t → s.rpu.seqPrev = some p →
    ((e.frame.tachSequence + 256 - p) % 256 = 0 ∨ 128 ≤ (e.frame.tachSequence + 256 - p) % 256) →
    s.stc.gathered = [] →
    ∃ u, exec .tachSample s = .next u ∧ u.rpu = { s.rpu with stale := satInc s.rpu.stale } ∧ u.lgt = s.lgt ∧
      u.ctr = s.ctr ∧ u.registry = s.registry ∧ u.stc = s.stc)

/-- An accepted sample of primed channels sets the motion state from the new speed, and ends in a position update of the
new odometer (R8, R9, R11). -/
def Obligations.TachSampleMovesThePosition : Prop :=
  ∀ (s : State) (e : IngressEntry) (rest : List IngressEntry) (t : SafetyTables) (a b p : Nat),
    s.Delivers .tachSample e rest → s.tst.safety = some t → s.rpu.prevA = some a → s.rpu.prevB = some b →
    s.rpu.seqPrev = some p → 1 ≤ (e.frame.tachSequence + 256 - p) % 256 →
    (e.frame.tachSequence + 256 - p) % 256 ≤ 127 →
    ∃ u, exec .tachSample s = .next u ∧
      (u.rpu.motion, u.rpu.stillness) =
        (if u.rpu.window.length < 8 then (Motion.unknown, none)
         else if 50 ≤ u.rpu.v then (Motion.forward, none)
         else if u.rpu.v ≤ -50 then (Motion.reverse, none)
         else
           (s.rpu.motion,
             if s.rpu.motion = .stopped ∨ s.rpu.stillness.isSome then s.rpu.stillness
             else some (s.now + BitVec.ofNat 32 1000))) ∧
      u.rpu.record.p = (u.rpu.odo - u.rpu.odoRef) % t.L ∧ u.rpu.record.k = (u.rpu.record.p / t.S).toNat ∧
      u.rpu.record.o = u.rpu.record.p - u.rpu.record.p / t.S * t.S ∧ u.rpu.record.v = u.rpu.v ∧
      u.rpu.record.motion = u.rpu.motion ∧ u.rpu.record.referenced = u.rpu.referenced ∧ u.rpu.record.time = s.now

/-- The expiry of the tach loss timer: motion UNKNOWN, speed 0, the channels unprimed; O, r, O_ref, REFERENCED and Q
keep their values, TACH_LOST is present, TACH_IMPLAUSIBLE, TACH_SINGLE and TACH_DISAGREE are absent, and ROPE_SLIP is
left (R14). The expiry of the stillness timer: motion becomes STOPPED, handed on in the record (log entry 23), and
the timer stops; a release that is still queued is withdrawn (R11, R12, R27). -/
def Obligations.RopeTimersStopTheRope : Prop :=
  (∀ s : State, s.Fires s.rpu.tachLoss → s.stc.records.length = 48 →
     ∃ u, exec .tachLostExpiry s = .next u ∧
       u.rpu =
         { s.rpu with
           window := []
           v := 0
           motion := .unknown
           stillness := none
           prevA := none
           prevB := none
           seqPrev := none
           tachLoss := none
           record := u.rpu.record } ∧
       u.condition .tachLost = true ∧ u.condition .tachImplausible = false ∧ u.condition .tachSingle = false ∧
       u.condition .tachDisagree = false ∧ u.condition .ropeSlip = s.condition .ropeSlip ∧
       (∀ t, s.tst.safety = some t →
         u.rpu.record.p = (s.rpu.odo - s.rpu.odoRef) % t.L ∧ u.rpu.record.v = 0 ∧ u.rpu.record.motion = .unknown ∧
           u.rpu.record.time = s.now)) ∧
  (∀ s : State, s.Fires s.rpu.stillness → s.stc.gathered = [] →
     ∃ u, exec .stillnessExpiry s = .next u ∧
       u.rpu =
         { s.rpu with
           motion := .stopped
           stillness := none
           record := { s.rpu.record with motion := .stopped } } ∧
       (∀ p, s.lgt.pending = some p → p.phase = .queued → u.lgt.pending = none))

/-- A mark while UNREFERENCED sets O_ref to O less P_mark, whatever the motion and whether or not TACH_LOST is present:
P is P_mark, the part is REFERENCED, ROPE_UNREFERENCED is absent, ROPE_REF_DRIFT is left, and a position update
follows (R15). A mark while REFERENCED: an error within R_tol corrects O_ref, is counted and clears ROPE_REF_DRIFT;
a larger one makes ROPE_REF_DRIFT present and leaves O_ref, the position and the counter (R16). -/
def Obligations.MarksTieAndCorrectThePosition : Prop :=
  (∀ (s : State) (e : IngressEntry) (rest : List IngressEntry) (t : SafetyTables),
     s.Delivers .refMark e rest → s.tst.safety = some t → s.rpu.referenced = false → t.pMark < t.L →
     s.stc.records.length = 48 →
     ∃ u, exec .refMark s = .next u ∧
       u.rpu = { s.rpu with odoRef := s.rpu.odo - t.pMark, referenced := true, record := u.rpu.record } ∧
       u.rpu.record.p = t.pMark ∧ u.rpu.record.referenced = true ∧ u.rpu.record.motion = s.rpu.motion ∧
       u.rpu.record.time = s.now ∧ u.condition .ropeUnreferenced = false ∧
       u.condition .ropeRefDrift = s.condition .ropeRefDrift ∧ u.condition .tachLost = s.condition .tachLost) ∧
  (∀ (s : State) (e : IngressEntry) (rest : List IngressEntry) (t : SafetyTables),
     s.Delivers .refMark e rest → s.tst.safety = some t → s.rpu.referenced = true → s.stc.records.length = 48 →
     ∃ u, exec .refMark s = .next u ∧
       let err := (s.rpu.record.p - t.pMark + (t.L / 2 : Nat)) % t.L - (t.L / 2 : Nat)
       if err.natAbs ≤ t.rTol then
         u.rpu =
             { s.rpu with
               odoRef := s.rpu.odoRef + err
               corrections := satInc s.rpu.corrections
               record := u.rpu.record } ∧
           u.rpu.record.p = (s.rpu.odo - s.rpu.odoRef - err) % t.L ∧ u.rpu.record.time = s.now ∧
           u.condition .ropeRefDrift = false
       else u.rpu = s.rpu ∧ u.condition .ropeRefDrift = true)

/-- OVERSPEED is present exactly where the speed passes v_max, whenever a sample recomputes it over however few entries,
and absent after the expiry of the tach loss timer, where the speed is 0 (R13). -/
def Obligations.OverspeedFollowsTheSpeed : Prop :=
  (∀ (s : State) (e : IngressEntry) (rest : List IngressEntry) (t : SafetyTables) (a b p : Nat),
    s.Delivers .tachSample e rest → s.tst.safety = some t → s.rpu.prevA = some a → s.rpu.prevB = some b →
    s.rpu.seqPrev = some p → 1 ≤ (e.frame.tachSequence + 256 - p) % 256 →
    (e.frame.tachSequence + 256 - p) % 256 ≤ 127 → s.stc.records.length = 48 →
    ∃ u, exec .tachSample s = .next u ∧ u.rpu.window ≠ [] ∧
      (u.condition .overspeed = true ↔ (t.vMax : Int) < |u.rpu.v|)) ∧
  (∀ s : State, s.Fires s.rpu.tachLoss → s.stc.records.length = 48 →
    ∃ u, exec .tachLostExpiry s = .next u ∧ u.rpu.v = 0 ∧ u.condition .overspeed = false)

/-! ## Launch -/

/-- A position update queues a release only onto an empty slot inside its launch window, in an open window that had its
launch window start, with the release-made and barred flags clear, the rope FORWARD and REFERENCED, launch not held,
room in CONTROL, and a ready registered cabin at the head of S6, whose slot it books (R26); the release-made flag
then stands. It queues one where all of these hold. A sample and a mark leave a release queued only so. -/
def Obligations.ReleaseOnlyInsideTheWindow : Prop :=
  (∀ (s : State) (t : SafetyTables) (p : PendingRelease),
    s.tst.safety = some t → s.lgt.pending = none → s.rpu.record.k < s.ctr.slots.length →
    s.launchUpdate.lgt.pending = some p →
    let q := s.launchUpdate.lgt.passage
    q.slot = some p.slot ∧ q.phase = .opened ∧ q.launchWindow = true ∧ q.barred = false ∧ q.releaseMade = true ∧
      (s.lgt.passage.slot = some p.slot →
        s.lgt.passage.releaseMade = false ∧ s.lgt.passage.barred = false ∧ s.lgt.passage.phase ≠ .after ∧
          (s.lgt.passage.phase = .opened → s.lgt.passage.launchWindow = true)) ∧
    s.rpu.record.motion = .forward ∧ s.rpu.record.referenced = true ∧ p.slot = s.rpu.record.k ∧
      (t.A : Int) ≤ s.rpu.record.o ∧ s.rpu.record.o < (t.A + t.W : Nat) ∧ s.slot p.slot = .empty ∧
      s.launchHeld = false ∧ s.rng.control.length < 8 ∧
      (∃ x, s.headS6 = some x ∧ x.who = .cabin p.cabin ∧ s.ready x = true) ∧ p.phase = .queued ∧
      p.tag = s.lgt.tagSeq ∧ p.id = s.idOf p.cabin ∧ s.launchUpdate.slot p.slot = .releasePending p.cabin) ∧
  (∀ (s : State) (t : SafetyTables) (x : StationEntry) (i : Nat),
    s.tst.safety = some t → s.lgt.pending = none → s.lgt.passage.slot = some s.rpu.record.k →
    s.lgt.passage.phase = .opened → s.lgt.passage.launchWindow = true → s.lgt.passage.releaseMade = false →
    s.lgt.passage.barred = false → s.rpu.record.motion = .forward → s.rpu.record.referenced = true →
    (t.A : Int) ≤ s.rpu.record.o → s.rpu.record.o < (t.A + t.W : Nat) → s.slot s.rpu.record.k = .empty →
    s.launchHeld = false → s.rng.control.length < 8 → s.headS6 = some x → x.who = .cabin i → s.ready x = true →
    s.launchUpdate.lgt.pending =
      some
        { slot := s.rpu.record.k, cabin := i, id := s.idOf i, tag := s.lgt.tagSeq, phase := .queued,
          windowClosed := false }) ∧
  (∀ (c : Instr) (s : State) (e : IngressEntry) (rest : List IngressEntry) (t : SafetyTables),
    (c = .tachSample ∧ s.Delivers .tachSample e rest) ∨ (c = .refMark ∧ s.Delivers .refMark e rest) →
    s.tst.safety = some t → s.lgt.pending = none →
    ∃ u, exec c s = .next u ∧ ∀ p, u.lgt.pending = some p →
      u.rpu.record.motion = .forward ∧ u.rpu.record.referenced = true ∧ p.slot = u.rpu.record.k ∧
        (t.A : Int) ≤ u.rpu.record.o ∧ u.rpu.record.o < (t.A + t.W : Nat) ∧ s.slot p.slot = .empty ∧
        u.launchHeld = false ∧ s.rng.control.length < 8 ∧
        (∃ x, s.headS6 = some x ∧ x.who = .cabin p.cabin ∧ s.ready x = true) ∧ p.phase = .queued ∧
        p.tag = s.lgt.tagSeq ∧ p.id = s.idOf p.cabin ∧ u.lgt.passage.slot = some p.slot ∧
        u.lgt.passage.phase = .opened ∧ u.lgt.passage.launchWindow = true ∧ u.lgt.passage.barred = false ∧
        u.lgt.passage.releaseMade = true ∧
        (p.slot < s.ctr.slots.length → u.slot p.slot = .releasePending p.cabin))

/-- A GATE_REPORT with the tag of a SENT release confirms it, and the failures are no longer consecutive: the pending
cabin at the head of S6 goes to S7, its slot becomes RELEASING, and the cabin joins the attach watch. Another head goes
to S7 flagged SLOTLESS, the slot returns to EMPTY and the watch is not extended (R29). -/
def Obligations.GateReportBooksTheRelease : Prop :=
  ∀ (s : State) (e : IngressEntry) (rest : List IngressEntry) (p : PendingRelease) (d : Ms) (x : StationEntry),
    s.Delivers .gateReport e rest → e.frame.backward = false → s.lgt.pending = some p → p.phase = .sent d →
    e.frame.tag = p.tag → s.headS6 = some x → s.slot p.slot = .releasePending p.cabin →
    (x.who = .cabin p.cabin → s.lgt.watch.length < 8 →
      ∃ u, exec .gateReport s = .next u ∧ u.lgt.pending = none ∧ u.lgt.failures = 0 ∧
        u.lgt.watch = s.lgt.watch ++ [{ cabin := p.cabin, slot := p.slot, oRelease := s.rpu.odo }] ∧
        u.slot p.slot = .releasing p.cabin ∧
        u.ctr.queue =
          s.ctr.queue.map (fun y => if y.serial = x.serial then { y with segment := .s7, slotless := false } else y)) ∧
    (x.who ≠ .cabin p.cabin →
      ∃ u, exec .gateReport s = .next u ∧ u.lgt.pending = none ∧ u.lgt.failures = 0 ∧ u.lgt.watch = s.lgt.watch ∧
        u.slot p.slot = .empty ∧
        u.ctr.queue =
          s.ctr.queue.map (fun y => if y.serial = x.serial then { y with segment := .s7, slotless := true } else y))

/-- A SENT release fails at its report deadline and at a NACK of its tag: the slot returns to EMPTY, the cabin stays in
the queue, the last-failed record is kept, and the third consecutive failure starts the count again (R30). -/
def Obligations.GateReleaseFails : Prop :=
  ∀ (s : State) (p : PendingRelease) (d : Ms),
    s.pins.held = false → s.lgt.pending = some p → p.phase = .sent d →
    (s.due d = true →
      ∃ u, exec .gateReportTimeout s = .next u ∧ u.lgt.pending = none ∧
        u.lgt.lastFailed = some { tag := p.tag, slot := p.slot, cabin := p.cabin } ∧
        u.lgt.failures = (if s.lgt.failures + 1 < 3 then s.lgt.failures + 1 else 0) ∧
        (s.slot p.slot = .releasePending p.cabin → u.slot p.slot = .empty) ∧ u.ctr.queue = s.ctr.queue) ∧
    (∀ (e : IngressEntry) (rest : List IngressEntry), s.Delivers .nackGateRelease e rest → e.frame.tag = p.tag →
      ∃ u, exec .nackGateRelease s = .next u ∧ u.lgt.pending = none ∧
        u.lgt.lastFailed = some { tag := p.tag, slot := p.slot, cabin := p.cabin } ∧
        u.lgt.failures = (if s.lgt.failures + 1 < 3 then s.lgt.failures + 1 else 0) ∧
        (s.slot p.slot = .releasePending p.cabin → u.slot p.slot = .empty) ∧ u.ctr.queue = s.ctr.queue)

/-- An ATTACH takes the oldest watch entry: its cabin leaves the queue from S7 and joins the uphill tail with its slot,
its release reading and the attach error, the slot is UP, and the registry shows the location and the error (R32). As each
cabin on that list it is LOCKED and PASS (R42), by the model's choice also where it was released unready (log entry 60).
-/
def Obligations.AttachMovesTheCabinUphill : Prop :=
  ∀ (s : State) (e : IngressEntry) (rest : List IngressEntry) (t : SafetyTables) (w : WatchEntry)
    (others : List WatchEntry) (x : StationEntry),
    s.Delivers .attach e rest → e.frame.backward = false → s.tst.safety = some t → s.lgt.watch = w :: others →
    (∀ y ∈ others, y.cabin ≠ w.cabin) → s.entryOfCabin w.cabin = some x → w.cabin < s.registry.length →
    w.slot < s.ctr.slots.length →
    ∃ u, exec .attach s = .next u ∧
      let err := (s.rpu.record.p - ((w.slot * t.S + t.B) % t.L : Nat) + (t.L / 2 : Nat)) % t.L - (t.L / 2 : Nat)
      u.lgt.watch = others ∧ u.ctr.queue = s.ctr.queue.filter (fun y => y.serial ≠ x.serial) ∧
        u.ctr.uphill =
          s.ctr.uphill ++ [{ cabin := w.cabin, slot := w.slot, oRelease := w.oRelease, attachErr := some err }] ∧
        u.slot w.slot = .up w.cabin ∧ (u.reg w.cabin).location = .uphill ∧ (u.reg w.cabin).attachErr = some err ∧
        (u.reg w.cabin).door = .locked ∧ (u.reg w.cabin).verdict = .pass

/-- A backward report at D1, D7, D8 or DG raises REVERSE_PASSAGE_FAULT and moves no entry (R68). -/
def Obligations.BackwardReportsMoveNoEntry : Prop :=
  ∀ (s : State) (e : IngressEntry) (rest : List IngressEntry) (c : Instr),
    (c = .arrivalBackward ∧ s.Delivers .arrivalBackward e rest) ∨
      (c = .garageExitBackward ∧ s.Delivers .garageExitBackward e rest) ∨
      (c = .gateReport ∧ s.Delivers .gateReport e rest ∧ e.frame.backward = true) ∨
      (c = .attach ∧ s.Delivers .attach e rest ∧ e.frame.backward = true) →
    s.stc.records.length = 48 → s.stc.gathered = [] →
    ∃ u, exec c s = .next u ∧ u.ctr.queue = s.ctr.queue ∧ u.ctr.garage = s.ctr.garage ∧ u.ctr.uphill = s.ctr.uphill ∧
      u.ctr.downhill = s.ctr.downhill ∧ u.ctr.summit = s.ctr.summit ∧ u.ctr.unlocated = s.ctr.unlocated ∧
      u.ctr.unread = s.ctr.unread ∧ u.lgt.watch = s.lgt.watch ∧
      (u.cause .reversePassageFault).state = .latched ∧
      (u.cause .reversePassageFault).raises = satInc (s.cause .reversePassageFault).raises ∧
      (u.cause .reversePassageFault).lastTime = s.now

/-! ## Line lists and the summit -/

/-- A summit arrival of the cabin expected first: it leaves the uphill head and the slot it held, and joins the summit
set with its OVERDUE flag cleared (R43, R45). A summit launch of a cabin of the summit set into an empty slot: the
cabin joins the downhill tail with the odometer reading, and the slot is DOWN (R46). -/
def Obligations.HandoversMoveTheCabin : Prop :=
  (∀ (s : State) (f : LinkFrame) (rest : List LinkFrame) (i : Nat) (h : UphillEntry) (tail : List UphillEntry),
     s.Holds f rest → f.kind = 2 → byteAt f.payload 0 = 1 → s.lookup (halfAt f.payload 2 % 4096) = some i →
     (s.reg i).stat.inService = true → (s.reg i).location = .uphill → s.ctr.uphill = h :: tail → h.cabin = i →
     (∀ y ∈ tail, y.cabin ≠ i) → h.slot < s.ctr.slots.length →
     ∃ u, exec .handoverSummitArrival s = .next u ∧ u.ctr.uphill = tail ∧ u.slot h.slot = .empty ∧
       (∀ j, j ∈ u.ctr.summit ↔ j = i ∨ j ∈ s.ctr.summit) ∧ (u.reg i).location = .summit ∧
       (u.reg i).overdue = false ∧ u.slk.handoverBase = some (byteAt f.payload 1)) ∧
  (∀ (s : State) (f : LinkFrame) (rest : List LinkFrame) (t : SafetyTables) (i j : Nat),
     s.Holds f rest → f.kind = 2 → byteAt f.payload 0 = 2 → s.lookup (halfAt f.payload 2 % 4096) = some i →
     (s.reg i).stat.inService = true → (s.reg i).location = .summit → s.tst.safety = some t →
     s.ctr.downhill.length < t.N → halfAt f.payload 4 = j → j < t.N → s.ctr.slots.length = t.N → s.slot j = .empty →
     ∃ u, exec .handoverSummitLaunch s = .next u ∧
       u.ctr.downhill = s.ctr.downhill ++ [{ cabin := i, slot := j, oReport := s.rpu.odo }] ∧ u.slot j = .down i ∧
       (∀ k, k ∈ u.ctr.summit ↔ k ≠ i ∧ k ∈ s.ctr.summit) ∧ (u.reg i).location = .downhill ∧
       (u.reg i).overdue = false ∧ u.slk.handoverBase = some (byteAt f.payload 1))

/-- A reply of one part to the query in progress is applied whole: the summit set holds exactly the registered cabins in
service that the reply names, the handover base takes the reply's sequence, the reconcile is IDLE and the request's
tag is free (R55, R56). -/
def Obligations.ReplyAppliesTheSummitSet : Prop :=
  ∀ (s : State) (f : LinkFrame) (rest : List LinkFrame),
    s.Holds f rest → f.kind = 1 → s.ctr.reconcile = .querying f.tag none → s.slk.tagHeld f.tag = true →
    setReplyMalformed f.payload = false → byteAt f.payload 0 = 0 → byteAt f.payload 2 = 17 →
    (∀ j ∈ s.ctr.summit, (s.reg j).location = .summit) →
    ∃ u, exec .replyPart s = .next u ∧
      (∀ j, j ∈ u.ctr.summit ↔
        ∃ id ∈ replyIds f.payload, s.lookup id = some j ∧ (s.reg j).stat.inService = true) ∧
      u.slk.handoverBase = some (byteAt f.payload 1) ∧ u.ctr.reconcile = .idle ∧ u.slk.tagHeld f.tag = false

/-- The reconcile's retry: with the link UP and room in the request table a query is issued under a tag that no entry
holds, and with the link not UP the reconcile is IDLE (R55, R140). A SENT request that reaches its deadline leaves
the table and is counted; the reconcile that waits for it fails, and waits 2000 ms while the link is UP (R55, R140).
-/
def Obligations.ReconcileRetriesAndTimesOut : Prop :=
  (∀ (s : State) (d : Ms), s.ctr.reconcile = .retryWait d → s.Fires (some d) →
     (s.slk.link = .up → s.slk.requests.length < 8 →
       ∃ (u : State) (tag : Nat), exec .reconcileRetryExpiry s = .next u ∧ tag < 8 ∧ s.slk.tagHeld tag = false ∧
         u.ctr.reconcile = .querying tag none ∧
         ∃ r ∈ u.slk.requests, r.tag = tag ∧ r.kind = .summitSetQuery ∧ r.requester = .cabinTracker) ∧
     (s.slk.link ≠ .up → ∃ u, exec .reconcileRetryExpiry s = .next u ∧ u.ctr.reconcile = .idle)) ∧
  (∀ (s : State) (tag : Nat) (r : Option ReplyParts), s.Fires (s.replyDeadline tag) → s.slk.link = .up →
     s.ctr.reconcile = .querying tag r →
     ∃ u, exec (.requestTimeout tag) s = .next u ∧ u.slk.tagHeld tag = false ∧
       u.slk.requestTimeouts = satInc s.slk.requestTimeouts ∧ u.ctr.reconcile = .retryWait (s.after 2000) ∧
       u.ctr.reconcileFailures = satInc s.ctr.reconcileFailures)

/-- The summit's requests are answered behind what the UNANSWERED transmit queue holds. VALLEY_SET_QUERY gives the cabins
of the station queue and then of the garage stack, in parts of at most 32 IDs; LOCATE gives the location, the slot of a
cabin on a line list, the segment of one in the station queue, and the OVERDUE flag, and location 7 for an ID that is not
in the registry; a REQUEST of another kind gives UNSUPPORTED (R57). An answer with more parts than the queue has free
places is dropped whole, counted and reported (R142). -/
def Obligations.SummitRequestsAreAnswered : Prop :=
  ∀ (s : State) (f : LinkFrame) (rest : List LinkFrame) (c : Instr) (parts : List (List Byte)),
    s.Asked f rest → s.stc.gathered = [] → s.slk.sending.isSome = true →
    (c = .valleySetQuery ∧ f.kind = 2 ∧
        (let ids :=
          ((s.ctr.queue.filterMap fun e => e.who.index) ++ (s.ctr.garage.filterMap fun g => g.who.index)).map s.idOf
         let n := max 1 ((ids.length + 31) / 32)
         ids.length ≤ 96 ∧
           parts =
             (List.range n).map fun k =>
               let part := (ids.drop (32 * k)).take 32
               [0, BitVec.ofNat 8 s.slk.handoverSeq, BitVec.ofNat 8 ((k + 1) * 16 + n), BitVec.ofNat 8 part.length] ++
                 packIds part)) ∨
      (c = .locate ∧ f.kind = 3 ∧
        ∃ (i : Nat) (slot : Option Nat) (segment : Nat), s.lookup (halfAt f.payload 0 % 4096) = some i ∧
          (((s.reg i).location = .uphill ∧ segment = 0 ∧ s.entryOfCabin i = none ∧
              ∃ y, s.ctr.uphill.find? (fun x => x.cabin = i) = some y ∧ slot = some y.slot) ∨
            ((s.reg i).location = .downhill ∧ segment = 0 ∧ s.entryOfCabin i = none ∧
              s.ctr.uphill.find? (fun x => x.cabin = i) = none ∧
              ∃ y, s.ctr.downhill.find? (fun x => x.cabin = i) = some y ∧ slot = some y.slot) ∨
            ((s.reg i).location ≠ .uphill ∧ (s.reg i).location ≠ .downhill ∧ slot = none ∧
              s.ctr.uphill.find? (fun x => x.cabin = i) = none ∧ s.ctr.downhill.find? (fun x => x.cabin = i) = none ∧
              (((s.reg i).location = .station ∧ ∃ x, s.entryOfCabin i = some x ∧ segment = x.segment.num) ∨
                ((s.reg i).location ≠ .station ∧ s.entryOfCabin i = none ∧ segment = 0)))) ∧
          parts =
            [[0, BitVec.ofNat 8 (s.reg i).location.code] ++ slotBytes slot ++
              [BitVec.ofNat 8 segment, BitVec.ofNat 8 (bit (s.reg i).overdue)]]) ∨
      (c = .locate ∧ f.kind = 3 ∧ s.lookup (halfAt f.payload 0 % 4096) = none ∧
        parts = [[0, 7] ++ slotBytes none ++ [0, 0]]) ∨
      (c = .summitRequestUnsupported ∧ f.kind ≠ 2 ∧ f.kind ≠ 3 ∧ parts = [[1]]) →
    (s.slk.txUnanswered.length + parts.length ≤ 16 →
      ∃ u, exec c s = .next u ∧ u.slk.rxAnswered = rest ∧
        u.slk.txUnanswered =
          s.slk.txUnanswered ++
            parts.map fun b => { cls := .unanswered, kind := 1, tag := f.tag, payload := b }) ∧
    (16 < s.slk.txUnanswered.length + parts.length → s.tst.events.length < 32 → s.eventMask ≠ 0 →
      ∃ u, exec c s = .next u ∧ u.slk.rxAnswered = rest ∧ u.slk.txUnanswered = s.slk.txUnanswered ∧
        u.slk.droppedReplies = satInc s.slk.droppedReplies ∧
        u.Reported .replyDropped [(f.kind : Nat), (f.tag : Nat)])

/-! ## Station tracking -/

/-- A forward arrival of the cabin expected first: it leaves the downhill head and the slot it held, and joins the queue
tail in S1, UNDECIDED, under a serial that no entry holds, with its door LOCKED, its grip UNTESTED and a door
record; the count of unread arrivals is 0 (R43, R62, R64, R65, R91). -/
def Obligations.ArrivalJoinsTheStationQueue : Prop :=
  ∀ (s : State) (e : IngressEntry) (rest : List IngressEntry) (i : Nat) (d : DownhillEntry) (tail : List DownhillEntry),
    s.Delivers .arrivalForward e rest → e.frame.cabinId ≠ 0 → s.lookup e.frame.cabinId = some i →
    (s.reg i).stat.inService = true → (s.reg i).location = .downhill → s.ctr.downhill = d :: tail → d.cabin = i →
    (∀ y ∈ tail, y.cabin ≠ i) → d.slot < s.ctr.slots.length → s.ctr.queue.length < 32 → s.ctr.garage.length ≤ 48 →
    ∃ (u : State) (n : Nat), exec .arrivalForward s = .next u ∧ (∀ y ∈ s.ctr.queue, y.serial ≠ n) ∧
      (∀ g ∈ s.ctr.garage, g.serial ≠ n) ∧
      u.ctr.queue =
        s.ctr.queue ++ [{ serial := n, who := .cabin i, segment := .s1, route := .undecided, slotless := false }] ∧
      u.ctr.downhill = tail ∧ u.slot d.slot = .empty ∧ u.ctr.unread = 0 ∧ (u.reg i).location = .station ∧
      (u.reg i).door = .locked ∧ (u.reg i).verdict = .untested ∧ (u.reg i).force = none ∧
      u.dsq.records = s.dsq.records ++ [DoorRecord.fresh n]

/-- A forward passage at D2, D3 or D4 sets the segment of the oldest entry of the segment before the detector, and a
backward one that of the newest entry of the segment behind it; every other entry, and the order, stay (R66, R67). A
backward passage at D5 takes the newest entry of S5 to S4, and one at D6 the newest of S6 to S5, with route, door
state and verdict as they were (R67). -/
def Obligations.PassagesMoveOneEntry : Prop :=
  (∀ (s : State) (e : IngressEntry) (rest : List IngressEntry) (x : StationEntry) (near far : Segment),
     (e.role = .detector2 ∧ near = .s1 ∧ far = .s2) ∨ (e.role = .detector3 ∧ near = .s2 ∧ far = .s3) ∨
       (e.role = .detector4 ∧ near = .s3 ∧ far = .s4) →
     (s.Delivers .passageForward e rest → s.oldest near = some x →
       ∃ u, exec .passageForward s = .next u ∧
         u.ctr.queue = s.ctr.queue.map (fun y => if y.serial = x.serial then { y with segment := far } else y)) ∧
     (s.Delivers .passageBackward e rest → s.newest far = some x →
       ∃ u, exec .passageBackward s = .next u ∧
         u.ctr.queue = s.ctr.queue.map (fun y => if y.serial = x.serial then { y with segment := near } else y))) ∧
  (∀ (s : State) (e : IngressEntry) (rest : List IngressEntry) (x : StationEntry),
     (s.Delivers .gripSampleBackward e rest → s.newest .s5 = some x →
       ∃ u, exec .gripSampleBackward s = .next u ∧ u.registry = s.registry ∧ u.rmn = s.rmn ∧
         u.ctr.queue = s.ctr.queue.map (fun y => if y.serial = x.serial then { y with segment := .s4 } else y)) ∧
     (s.Delivers .switchPassageBackward e rest → s.newest .s6 = some x →
       ∃ u, exec .switchPassageBackward s = .next u ∧ u.registry = s.registry ∧
         u.ctr.queue = s.ctr.queue.map (fun y => if y.serial = x.serial then { y with segment := .s5 } else y)))

/-- A forward GRIP_SAMPLE of a registered cabin: the verdict by the force and the class bounds in force, with the
counters (R126), the entry in S5, and its route: GARAGE for a rejected cabin or one with GARAGE_NEXT, if the garage
has room beside the entries already routed there, and otherwise LINE with GARAGE_NEXT dropped (R70, R71). -/
def Obligations.GripSampleJudgesAndRoutes : Prop :=
  ∀ (s : State) (e : IngressEntry) (rest : List IngressEntry) (t : SafetyTables) (o : OperationsTables)
    (x : StationEntry) (i : Nat),
    s.Delivers .gripSampleForward e rest → s.tst.safety = some t → s.tst.operations = some o →
    s.oldest .s4 = some x → x.who = .cabin i → s.entry x.serial = some x → i < s.registry.length →
    (s.reg i).stat.gripClass < o.classes.length →
    ∃ u, exec .gripSampleForward s = .next u ∧
      let c := o.classes.getD (s.reg i).stat.gripClass GripClass.widest
      let pass := c.fMin ≤ e.frame.force ∧ e.frame.force ≤ c.fMax
      let claims := (s.ctr.queue.filter fun y => y.route = .garage && y.serial ≠ x.serial).length
      let granted := (¬pass ∨ (s.reg i).garageNext = true) ∧ s.ctr.garage.length + claims < t.gcap
      (pass → (u.reg i).verdict = .pass) ∧ (¬pass → (u.reg i).verdict = .reject) ∧
        (u.reg i).force = some e.frame.force ∧ u.rmn.gripSamples = satInc s.rmn.gripSamples ∧
        (pass → u.rmn.gripRejects = s.rmn.gripRejects) ∧
        (¬pass → u.rmn.gripRejects = satInc s.rmn.gripRejects) ∧
        (granted →
          (u.reg i).garageNext = (s.reg i).garageNext ∧
            u.ctr.queue =
              s.ctr.queue.map (fun y =>
                if y.serial = x.serial then { y with segment := .s5, route := .garage } else y)) ∧
        (¬granted →
          (u.reg i).garageNext = false ∧
            u.ctr.queue =
              s.ctr.queue.map (fun y => if y.serial = x.serial then { y with segment := .s5, route := .line } else y))

/-- A forward SWITCH_PASSAGE of the oldest entry of S5: to LINE it joins S6 with route LINE; to GARAGE, below Gcap, it
leaves the queue and is pushed on the stack with its location GARAGE and GARAGE_NEXT clear (R73). A NACK of CTR's
last SWITCH_SET leaves the commanded position UNKNOWN (R72). -/
def Obligations.SwitchPassageParts : Prop :=
  (∀ (s : State) (e : IngressEntry) (rest : List IngressEntry) (t : SafetyTables) (x : StationEntry) (i : Nat),
     s.Delivers .switchPassageForward e rest → s.tst.safety = some t → s.oldest .s5 = some x → x.who = .cabin i →
     i < s.registry.length →
     ∃ u, exec .switchPassageForward s = .next u ∧
       (e.frame.position = .line →
         u.ctr.garage = s.ctr.garage ∧
           u.ctr.queue =
             s.ctr.queue.map (fun y => if y.serial = x.serial then { y with segment := .s6, route := .line } else y)) ∧
       (e.frame.position = .garage → s.ctr.garage.length < t.gcap →
         u.ctr.queue = s.ctr.queue.filter (fun y => y.serial ≠ x.serial) ∧
           u.ctr.garage = { serial := x.serial, who := x.who } :: s.ctr.garage ∧ (u.reg i).location = .garage ∧
           (u.reg i).garageNext = false)) ∧
  (∀ (s : State) (e : IngressEntry) (rest : List IngressEntry),
     s.Delivers .nackSwitchSet e rest → s.ctr.lastSwitchTag = some e.frame.tag →
     ∃ u, exec .nackSwitchSet s = .next u ∧ u.ctr.rest = { s.ctr.rest with commanded := none })

/-- A forward passage of DG with a command outstanding pops the stack top: it joins the tail of S4 under its serial,
behind the entries of S4 to S7, the command ends and the pending exits fall by 1, or to 0 with the stack empty
(R77). Its door record is made beyond reach with close requested set (R91); that the record's lock mode is AUTO and the
rest of it clear is the model's choice (log entry 54). -/
def Obligations.GarageExitPopsTheStack : Prop :=
  ∀ (s : State) (e : IngressEntry) (rest : List IngressEntry) (c : ExitCommand) (g : GarageEntry)
    (below : List GarageEntry),
    s.Delivers .garageExitForward e rest → s.ctr.exitCommand = some c → s.ctr.garage = g :: below →
    s.ctr.queue.length < 32 →
    ∃ u, exec .garageExitForward s = .next u ∧ u.ctr.garage = below ∧ u.ctr.exitCommand = none ∧
      u.ctr.exitPending = (if below = [] then 0 else s.ctr.exitPending - 1) ∧
      u.ctr.queue =
        s.ctr.queue.takeWhile (fun y => 4 ≤ y.segment.num) ++
          { serial := g.serial, who := g.who, segment := .s4, route := .undecided, slotless := false } ::
            s.ctr.queue.dropWhile (fun y => 4 ≤ y.segment.num) ∧
      (∀ i, g.who = .cabin i → i < s.registry.length → (u.reg i).location = .station) ∧
      u.dsq.records = s.dsq.records ++ [DoorRecord.fromGarage g.serial]

/-- An outstanding garage exit command ends at a NACK with its tag and at the expiry of its deadline: the pending exit
count is 0, the command is ended, the stack is unchanged, and GARAGE_EXIT_REFUSED with the reason, or
GARAGE_EXIT_TIMEOUT, is queued (R79). -/
def Obligations.ExitCommandEndsWithoutPassage : Prop :=
  ∀ (s : State) (c : ExitCommand),
    s.ctr.exitCommand = some c → s.stc.gathered = [] → s.tst.events.length < 32 → s.eventMask ≠ 0 →
    (∀ (e : IngressEntry) (rest : List IngressEntry), s.Delivers .nackGarageExitCommand e rest → e.frame.tag = c.tag →
      ∃ u, exec .nackGarageExitCommand s = .next u ∧
        u.ctr = { s.ctr with exitPending := 0, exitCommand := none } ∧
        u.Reported .garageExitRefused [(e.frame.nackReason : Nat)]) ∧
    (s.Fires (some c.deadline) →
      ∃ u, exec .garageExitTimeout s = .next u ∧ u.ctr = { s.ctr with exitPending := 0, exitCommand := none } ∧
        u.Reported .garageExitTimeout [])

/-- The fleet is conserved: every step keeps each cabin in service in exactly one of the station queue, the garage stack,
the uphill and downhill lists, the summit set and the unlocated set, with its location field naming it, and every
other entry in none; it keeps every cabin on the uphill list LOCKED and PASS, the slots that are UP or DOWN the ones the
line lists record, and no cabin in two slots (R42). What this rests on is kept with it: the slots of releases and of
the attach watch, the serials, the size of the slot table, and that a park record agrees with the fleet stored beside
it. -/
def Obligations.StepKeepsTheFleet : Prop :=
  ∀ s t : State, s.Inv → s.fleetKept → step s = .next t → t.fleetKept

/-- GARAGE_RELEASE adds its count to the pending exits, at most 8 (R81); LOCATE_CABIN pushes a cabin of the unlocated
set on the stack, LOCKED and UNTESTED (R84). REMOVE_CABIN of a registered cabin in S6 or S7 to UNLOCATED, which a clear
bit 24 names by the model's choice (log entry 52): the entry leaves the queue and the cabin joins the unlocated set;
one in S1 to S5 is answered NOT_ALLOWED and stays (R83).
GARAGE_NEXT sets or clears the flag of a cabin in service, wherever it stands, and leaves its route and the switch
demand; a cabin not in service is answered NOT_ALLOWED (R82). -/
def Obligations.OperatorsMoveCabins : Prop :=
  (∀ (s : State) (e : IngressEntry) (rest : List IngressEntry), s.rng.report.length < 32 →
     (s.Requests .garageRelease e rest → (e.frame.word 1).toNat ≠ 0 → s.ctr.garage ≠ [] →
       ∃ u, exec .garageRelease s = .next u ∧
         u.ctr.exitPending = min 8 (s.ctr.exitPending + (e.frame.word 1).toNat) ∧ u.ctr.garage = s.ctr.garage ∧
         (s.ctr.exitPending + (e.frame.word 1).toNat ≤ 8 → u.Replied e.frame .ok []) ∧
         (8 < s.ctr.exitPending + (e.frame.word 1).toNat → u.Replied e.frame .clamped [8])) ∧
     (∀ (t : SafetyTables) (n i : Nat),
       s.Requests .locateCabin e rest → bitOf (e.frame.word 1) 24 = true → targetOf (e.frame.word 1) = .id n →
       s.lookup n = some i → (s.reg i).location = .unlocated → s.tst.safety = some t → s.ctr.garage.length < t.gcap →
       s.ctr.exitCommand = none →
       ∃ (u : State) (m : Nat), exec .locateCabin s = .next u ∧
         u.ctr.garage = { serial := m, who := .cabin i } :: s.ctr.garage ∧
         u.ctr.unlocated = s.ctr.unlocated.filter (fun j => j ≠ i) ∧ (u.reg i).location = .garage ∧
         (u.reg i).door = .locked ∧ (u.reg i).verdict = .untested ∧ (u.reg i).force = none ∧
         u.Replied e.frame .ok [])) ∧
  (∀ (s : State) (e : IngressEntry) (rest : List IngressEntry) (n i : Nat) (x : StationEntry),
     s.Requests .removeCabin e rest → targetOf (e.frame.word 1) = .id n → bitOf (e.frame.word 1) 24 = false →
     s.lookup n = some i → (s.reg i).location = .station → s.entryOfCabin i = some x → s.rng.report.length < 32 →
     s.stc.gathered = [] →
     (6 ≤ x.segment.num →
       ∃ u, exec .removeCabin s = .next u ∧ u.ctr.queue = s.ctr.queue.filter (fun y => y.serial ≠ x.serial) ∧
         (∀ j, j ∈ u.ctr.unlocated ↔ j = i ∨ j ∈ s.ctr.unlocated) ∧ (u.reg i).location = .unlocated ∧
         u.Replied e.frame .ok []) ∧
     (x.segment.num < 6 →
       ∃ u, exec .removeCabin s = .next u ∧ u.ctr = s.ctr ∧ u.registry = s.registry ∧
         u.Replied e.frame .notAllowed [])) ∧
  (∀ (s : State) (e : IngressEntry) (rest : List IngressEntry) (n i : Nat),
     s.Requests .garageNext e rest → targetOf (e.frame.word 1) = .id n → s.lookup n = some i →
     s.rng.report.length < 32 → s.stc.gathered = [] → s.tst.events.length < 32 → s.eventMask ≠ 0 →
     ((s.reg i).stat.inService = false →
       ∃ u, exec .garageNext s = .next u ∧ u.registry = s.registry ∧ u.Replied e.frame .notAllowed []) ∧
     ((s.reg i).stat.inService = true →
       ∃ u, exec .garageNext s = .next u ∧ u.Replied e.frame .ok [] ∧
         u.registry = s.registry.set i { s.reg i with garageNext := bitOf (e.frame.word 1) 24 } ∧ u.ctr = s.ctr ∧
         u.Reported .garageNext [(n : Nat), (bit (bitOf (e.frame.word 1) 24) : Nat)]))

/-! ## Doors -/

/-- A matched DOOR_REPORT moves the door state and the unit by the rows of the table: the unit recovers for t_recover
where the report completes its action, and otherwise runs on to a new deadline (R98). After a report that opens the door
no DOOR_CLOSE for the cabin waits to be sent, since none is sent before its dwell is over (R95): what becomes of one that
waited is the model's choice (log entry 55). A cabin between D7 and D8 after a confirmed release keeps its door state
(R42; log entry 60). -/
def Obligations.MatchedReportFollowsTheTable : Prop :=
  ∀ (s : State) (e : IngressEntry) (rest : List IngressEntry) (name : DoorUnitName) (b : BusyCommand) (sent : Ms)
    (x : StationEntry) (i : Nat) (p : DoorProfile) (r : DoorResult) (old new : DoorState) (after : UnitState),
    s.Delivers .doorReport e rest → doorUnitOf e.role = name → DoorResult.ofCode (field (e.frame.word 0) 16 3) = some r →
    (s.doorUnit name).state = .busy b → b.phase = .sent sent → e.frame.cabinId = b.cmd.field →
    s.entry b.cmd.serial = some x → x.who = .cabin i → i < s.registry.length → b.cmd.cabin = some i →
    s.profile (some i) = some p → (s.reg i).door = old →
    (old = .opening ∧ r = .opened ∧ new = .opened ∧ after = .recover (s.after p.tRecover)) ∨
      (old = .closing ∧ r = .closed ∧ b.cmd.action = .closeDoor .separate ∧ new = .closed ∧
        after = .recover (s.after p.tRecover)) ∨
      (old = .closing ∧ r = .closed ∧ b.cmd.action = .closeDoor .auto ∧ new = .closed ∧
        after = .busy { b with phase := .sent (s.after (p.tSettle + p.tCloseMax)), acted := true }) ∨
      (old = .closing ∧ r = .obstructed ∧ new = .reopening ∧
        after = .busy { b with phase := .sent (s.after p.tOpenMax), acted := true }) ∨
      (old = .reopening ∧ r = .reopened ∧ new = .opened ∧ after = .recover (s.after p.tRecover)) ∨
      ((old = .closed ∨ old = .locking) ∧ r = .locked ∧ new = .locked ∧ after = .recover (s.after p.tRecover)) ∨
      (old ∈ [.opening, .closing, .reopening, .closed, .locking] ∧ r = .fault ∧ new = .fault ∧
        after = .recover (s.after p.tRecover)) →
    ∃ u, exec .doorReport s = .next u ∧ (u.reg i).door = (if s.launched x then old else new) ∧
      (u.doorUnit name).state = after ∧ (new = .opened → u.closeIssued x.serial = false)

/-- A DOOR_REPORT that is neither matched nor late is ignored: it is counted and reported, and no door state and no unit
state changes (R104). -/
def Obligations.UnmatchedDoorReportIsIgnored : Prop :=
  ∀ (s : State) (e : IngressEntry) (rest : List IngressEntry) (r : DoorResult),
    s.Delivers .doorReport e rest → DoorResult.ofCode (field (e.frame.word 0) 16 3) = some r →
    (∀ b d, (s.doorUnit (doorUnitOf e.role)).state = .busy b → b.phase = .sent d → e.frame.cabinId ≠ b.cmd.field) →
    (∀ c, (s.doorUnit (doorUnitOf e.role)).timedOut = some c → c.field = e.frame.cabinId →
      c.action.completedBy r = true → ∃ b, (s.doorUnit (doorUnitOf e.role)).state = .busy b) →
    s.stc.gathered = [] → s.tst.events.length < 32 → s.eventMask ≠ 0 →
    ∃ u, exec .doorReport s = .next u ∧ u.dsq = { s.dsq with unmatched := satInc s.dsq.unmatched } ∧
      u.registry = s.registry ∧ u.ctr = s.ctr ∧
      u.Reported .doorReportUnmatched
        [(unitNumber (doorUnitOf e.role) : Nat), (e.frame.cabinId : Nat), (r.code : Nat)]

/-- A matched NACK puts the door state back as it was before the insertion; with reason BUSY the command waits 20 ms to
be offered again, up to three times, and with reason UNSUPPORTED it is abandoned and the unit is IDLE (R103). Of a held
record no further close or lock is sent (R91); by the model's choice one that is refused then does not wait to be offered
again, and its unit is IDLE (log entry 55). A cabin between D7 and D8 after a confirmed release keeps its door state (R42;
log entry 60). -/
def Obligations.DoorNackRetriesOrAbandons : Prop :=
  ∀ (s : State) (e : IngressEntry) (rest : List IngressEntry) (name other : DoorUnitName) (b : BusyCommand) (sent : Ms)
    (x : StationEntry) (i : Nat) (d : DoorRecord),
    s.Delivers .nackDoor e rest → other ≠ name → (s.doorUnit other).state = .idle →
    (s.doorUnit name).state = .busy b → b.phase = .sent sent → b.tag = e.frame.tag → b.acted = false →
    (s.doorUnit name).pending = none → s.entry b.cmd.serial = some x → x.who = .cabin i → i < s.registry.length →
    s.doorRecord b.cmd.serial = some d → d.beyondReach = false →
    ∃ u, exec .nackDoor s = .next u ∧ (u.reg i).door = (if s.launched x then (s.reg i).door else b.before) ∧
      (e.frame.nackReason ≠ 2 → b.retries < 3 → b.cmd.action = .openDoor ∨ d.held = .notHeld →
        (u.doorUnit name).state =
          .busy
            { cmd := b.cmd, tag := b.tag, phase := .retryWait (s.after 20), retries := b.retries + 1,
              before := .unknown, acted := false }) ∧
      (e.frame.nackReason = 2 ∨ 3 ≤ b.retries ∨ (b.cmd.action ≠ .openDoor ∧ d.held ≠ .notHeld) →
        (u.doorUnit name).state = .idle)

/-- The deadline of a SENT command: the cabin's door is FAULT, its record's timers stop, the unit recovers with the
command as its last timed-out action, and DOOR_TIMEOUT is raised: its cause is LATCHED, with its raise counted at that
event (R95, R102, R160, R161). A cabin between D7 and D8 after a confirmed release keeps its door state (R42; log
entry 60). -/
def Obligations.DoorDeadlineFaultsTheDoor : Prop :=
  ∀ (s : State) (name : DoorUnitName) (b : BusyCommand) (sent : Ms) (x : StationEntry) (i : Nat) (p : DoorProfile)
    (d : DoorRecord),
    (s.doorUnit name).state = .busy b → b.phase = .sent sent → s.Fires (some sent) → s.entry b.cmd.serial = some x →
    x.who = .cabin i → i < s.registry.length → b.cmd.cabin = some i → s.profile (some i) = some p →
    s.doorRecord x.serial = some d → x.serial = b.cmd.serial → s.stc.records.length = 48 → s.stc.gathered = [] →
    ∃ u, exec (.doorDeadlineExpiry name) s = .next u ∧
      (u.reg i).door = (if s.launched x then (s.reg i).door else .fault) ∧
      u.doorRecord x.serial = some { d with dwell := none, reopenWait := none, settle := none } ∧
      (u.doorUnit name).state = .recover (s.after p.tRecover) ∧ (u.doorUnit name).timedOut = some b.cmd ∧
      (u.cause .doorTimeout).state = .latched ∧
      (u.cause .doorTimeout).raises = satInc (s.cause .doorTimeout).raises ∧
      (u.cause .doorTimeout).lastTime = s.now

/-- The recover time over, a unit is IDLE, or takes its pending command and offers it under DSQ's tag (R92, R93); a close
or a lock whose record has been held meanwhile is not sent (R91), and by the model's choice it is dropped (log entry 55).
The retry timer over, the refused command is offered again under a new tag (R103), unless its record is held so: then, by
the model's choice too, its unit is IDLE. -/
def Obligations.DoorUnitOffersItsCommand : Prop :=
  ∀ (s : State) (name : DoorUnitName) (d : Ms), s.Fires (some d) → s.controlRoom = true →
    ((s.doorUnit name).state = .recover d → (s.doorUnit name).pending = none →
      ∃ u, exec (.unitRecoverExpiry name) s = .next u ∧ (u.doorUnit name).state = .idle) ∧
    (∀ c, (s.doorUnit name).state = .recover d → (s.doorUnit name).pending = some c →
      c.action = .openDoor ∨ (∀ r, s.doorRecord c.serial = some r → r.held = .notHeld) →
      ∃ u, exec (.unitRecoverExpiry name) s = .next u ∧ (u.doorUnit name).pending = none ∧
        (u.doorUnit name).state = busyWith c s.dsq.tagSeq 0 .queued ∧ u.dsq.tagSeq = (s.dsq.tagSeq + 1) % 8) ∧
    (∀ c r, (s.doorUnit name).state = .recover d → (s.doorUnit name).pending = some c → c.action ≠ .openDoor →
      s.doorRecord c.serial = some r → r.held ≠ .notHeld →
      ∃ u, exec (.unitRecoverExpiry name) s = .next u ∧ (u.doorUnit name).pending = none ∧
        (u.doorUnit name).state = .idle ∧ u.dsq.tagSeq = s.dsq.tagSeq) ∧
    (∀ b, (s.doorUnit name).state = .busy b → b.phase = .retryWait d →
      b.cmd.action = .openDoor ∨ (∀ r, s.doorRecord b.cmd.serial = some r → r.held = .notHeld) →
      ∃ u, exec (.doorRetryTimerExpiry name) s = .next u ∧
        (u.doorUnit name).state = busyWith b.cmd s.dsq.tagSeq b.retries .queued ∧
        u.dsq.tagSeq = (s.dsq.tagSeq + 1) % 8) ∧
    (∀ b r, (s.doorUnit name).state = .busy b → b.phase = .retryWait d → b.cmd.action ≠ .openDoor →
      s.doorRecord b.cmd.serial = some r → r.held ≠ .notHeld → (s.doorUnit name).pending = none →
      ∃ u, exec (.doorRetryTimerExpiry name) s = .next u ∧ (u.doorUnit name).state = .idle ∧
        u.dsq.tagSeq = s.dsq.tagSeq)

/-- The dwell, or the reopen wait, over, with every other close condition met, DOOR_CLOSE goes to the idle CLOSE unit,
with lock mode SEPARATE after a reopen and AUTO otherwise, and the record keeps the mode (R99). -/
def Obligations.DoorClosesWhenTheTimersAreDone : Prop :=
  ∀ (s : State) (x : StationEntry) (i : Nat) (r : DoorRecord) (d : Ms) (t : SafetyTables) (o : OperationsTables),
    s.Fires (some d) → s.entry x.serial = some x → x.who = .cabin i → s.doorRecord x.serial = some r →
    (s.reg i).door = .opened → (s.reg i).holdOpen = false → r.closeRequested = true → r.held = .notHeld →
    r.beyondReach = false → s.tst.safety = some t → s.tst.operations = some o → s.dsq.closeUnit.state = .idle →
    s.dsq.closeUnit.pending = none → s.controlRoom = true →
    let mode := if r.reopened then LockMode.separate else LockMode.auto
    let cmd : DoorCommand := { serial := x.serial, cabin := some i, field := s.idOf i, action := .closeDoor mode }
    (r.dwell = some d → r.reopenWait = none →
      ∃ u, exec (.dwellExpiry x.serial) s = .next u ∧
        u.doorRecord x.serial = some { r with dwell := none, dwellDone := true, lockMode := mode } ∧
        u.dsq.closeUnit.state = busyWith cmd s.dsq.tagSeq 0 .queued) ∧
    (r.reopenWait = some d → r.dwellDone = true →
      ∃ u, exec (.reopenWaitExpiry x.serial) s = .next u ∧
        u.doorRecord x.serial = some { r with reopenWait := none, lockMode := mode } ∧
        u.dsq.closeUnit.state = busyWith cmd s.dsq.tagSeq 0 .queued)

/-- The settle time of a CLOSED door over: with lock mode AUTO the door is LOCKING, and with SEPARATE a DOOR_LOCK goes
to the idle CLOSE unit (R100). A cabin between D7 and D8 after a confirmed release keeps its door state (R42; log entry
60). -/
def Obligations.DoorLocksAfterTheSettleTime : Prop :=
  ∀ (s : State) (x : StationEntry) (i : Nat) (r : DoorRecord) (d : Ms),
    s.Fires (some d) → s.entry x.serial = some x → x.who = .cabin i → i < s.registry.length →
    s.doorRecord x.serial = some r → r.settle = some d → (s.reg i).door = .closed →
    ∃ u, exec (.settleExpiry x.serial) s = .next u ∧ (u.doorRecord x.serial).bind DoorRecord.settle = none ∧
      (r.lockMode = .auto →
        (u.reg i).door = (if s.launched x then .closed else .locking) ∧ u.dsq.closeUnit = s.dsq.closeUnit) ∧
      (r.lockMode = .separate → r.held = .notHeld → r.beyondReach = false → s.doorsServed = true →
        s.dsq.closeUnit.state = .idle → s.dsq.closeUnit.pending = none → s.controlRoom = true →
        (u.reg i).door = .closed ∧
          u.dsq.closeUnit.state =
            busyWith { serial := x.serial, cabin := some i, field := s.idOf i, action := .lockDoor } s.dsq.tagSeq 0
              .queued)

/-- The operator's door requests: the door mode is set, and at the change into CLOSED_RUN every DOOR_OPEN not yet sent,
pending, QUEUED or in RETRY_WAIT, is withdrawn, the frame of a QUEUED one leaves CONTROL, a sent one stands, and no
door state changes (R108); HOLD_OPEN sets the flag of an open door and withdraws an
unsent close, and of a closing one is NOT_ALLOWED; RELEASE_HOLD clears the flag (R106); DOOR_RETRY of a
cabin in S2 or S3 whose record is held, for whichever reason, or whose door is FAULT or UNKNOWN sets the reopen count to
0 and clears the held reason, where the CLOSE unit has room for the command that may follow (R94, R107). Where it has
none, the close of a FAULT or UNKNOWN door is a backlog: the record is held with reason DRIVE (R94); that no close or
lock for the cabin then stays QUEUED or in RETRY_WAIT is the model's choice in keeping R91 (log entry 55). -/
def Obligations.DoorRequestsAreTaken : Prop :=
  ∀ (s : State) (e : IngressEntry) (rest : List IngressEntry) (n i : Nat) (x : StationEntry) (r : DoorRecord),
    s.rng.report.length < 32 →
    (s.Requests .setDoorMode e rest → (e.frame.word 1).toNat < 2 →
      ∃ u, exec .setDoorMode s = .next u ∧ u.Replied e.frame .ok [] ∧
        u.dsq.mode = (if (e.frame.word 1).toNat = 0 then .normal else .closedRun) ∧
        (u.dsq.mode = .closedRun → s.dsq.mode = .normal →
          (∀ c, u.dsq.openUnit.pending = some c → c.action ≠ .openDoor) ∧
          (∀ b, u.dsq.openUnit.state = .busy b → b.cmd.action = .openDoor → b.phase.unsent = false) ∧
          (∀ b, s.dsq.openUnit.state = .busy b → b.cmd.action = .openDoor →
            (b.phase.unsent = false → u.dsq.openUnit.state = .busy b) ∧
            (b.phase = .queued → s.stc.gathered = [] →
              (∀ c, s.dsq.openUnit.pending = some c → c.action = .openDoor) →
              u.dsq.openUnit.state = .idle ∧ u.rng.control = withoutFrame s.rng.control .doorOpen b.tag none)) ∧
          u.registry = s.registry)) ∧
    (targetOf (e.frame.word 1) = .id n → s.lookup n = some i → s.entryOfCabin i = some x → x.who = .cabin i →
      i < s.registry.length → s.doorRecord x.serial = some r →
      (s.Requests .holdOpen e rest → (s.reg i).door = .opened → r.beyondReach = false →
        ∃ u, exec .holdOpen s = .next u ∧ u.Replied e.frame .ok [] ∧ (u.reg i).holdOpen = true ∧
          u.closeIssued x.serial = false) ∧
      (s.Requests .holdOpen e rest → (s.reg i).door = .closing →
        ∃ u, exec .holdOpen s = .next u ∧ u.Replied e.frame .notAllowed [] ∧ u.registry = s.registry) ∧
      (s.Requests .releaseHold e rest →
        ∃ u, exec .releaseHold s = .next u ∧ u.Replied e.frame .ok [] ∧ (u.reg i).holdOpen = false) ∧
      (s.Requests .doorRetry e rest → x.segment = .s2 ∨ x.segment = .s3 →
        r.held ≠ .notHeld ∨ (s.reg i).door = .fault ∨ (s.reg i).door = .unknown → s.dsq.closeUnit.pending = none →
        ∃ u, exec .doorRetry s = .next u ∧ u.Replied e.frame .ok [] ∧
          ∃ r', u.doorRecord x.serial = some r' ∧ r'.reopens = 0 ∧ r'.held = .notHeld ∧ r'.reopened = r.reopened) ∧
      (s.Requests .doorRetry e rest → x.segment = .s2 ∨ x.segment = .s3 →
        (s.reg i).door = .fault ∨ (s.reg i).door = .unknown → s.dsq.closeUnit.pending.isSome = true →
        s.doorsServed = true →
        ∃ u, exec .doorRetry s = .next u ∧ u.Replied e.frame .ok [] ∧
          (∃ r', u.doorRecord x.serial = some r' ∧ r'.reopens = 0 ∧ r'.held = .drive) ∧
          ∀ b, u.dsq.closeUnit.state = .busy b → b.cmd.serial = x.serial → b.cmd.action ≠ .openDoor →
            b.phase.unsent = false))

/-! ## Supervision -/

/-- A TENSION_SAMPLE: the position and its time are kept, the loss timer restarts, TENSION_LOST is absent, and
TENSION_WARN and TENSION_LIMIT are set afresh by the bands in force, each edge inside its band (R113). With no
sample for 1000 ms TENSION_LOST is present (R114). -/
def Obligations.TensionFollowsTheBands : Prop :=
  (∀ (s : State) (e : IngressEntry) (rest : List IngressEntry) (t : SafetyTables),
    s.Delivers .tensionSample e rest → s.tst.safety = some t → s.stc.records.length = 48 →
    ∃ u, exec .tensionSample s = .next u ∧
      let x := field (e.frame.word 0) 0 16
      u.rmn =
          { s.rmn with
            carriage := some { position := x, time := s.now }
            tensionLoss := some (s.now + BitVec.ofNat 32 1000) } ∧
        u.condition .tensionLost = false ∧ (u.condition .tensionWarn = true ↔ x < t.warnLo ∨ t.warnHi < x) ∧
        (u.condition .tensionLimit = true ↔ x < t.stopLo ∨ t.stopHi < x)) ∧
  (∀ s : State, s.Fires s.rmn.tensionLoss → s.stc.records.length = 48 →
    ∃ u, exec .tensionLossExpiry s = .next u ∧ u.rmn = { s.rmn with tensionLoss := none } ∧
      u.condition .tensionLost = true)

/-- A due expiry restarts the due timer; an IDLE tower's scan is queued in POLL, under a tag no scan to its node
carries; a tower AWAITING is marked due; and where the scan due has not been sent the debt rises, at 8 the request
moves to CONTROL, and at a further expiry the tower is overdue (R117, R118). -/
def Obligations.TowerDueQueuesOrRaisesDebt : Prop :=
  ∀ (s : State) (i : Nat) (y : TowerEntry) (d : Ms),
    (s.tower i).dueTimer = some d → s.Fires (some d) → s.towerEntry i = some y → i < s.rmn.towers.length →
    s.stc.gathered = [] → s.stc.records.length = 48 →
    (∀ tag, (s.tower i).phase = .idle → (s.tower i).debt < 8 → s.scanTag y.node = some tag → s.rng.poll.length < 24 →
      ∃ u, exec (.towerDueExpiry i) s = .next u ∧ s.scanTagUsed y.node tag = false ∧
        u.tower i = { s.tower i with phase := .queued false tag, dueTimer := some (s.after y.interval) } ∧
        u.rng.poll =
          s.rng.poll ++
            [{ kind := .scanRequest, mask := addressBit y.node, tag := tag, payload := [place y.number 0],
               restartReply := false }]) ∧
    (∀ tag e, (s.tower i).phase = .awaiting tag e → (s.tower i).due = false →
      ∃ u, exec (.towerDueExpiry i) s = .next u ∧
        u.tower i = { s.tower i with due := true, dueTimer := some (s.after y.interval) }) ∧
    (∀ tag, (s.tower i).phase = .queued false tag → (s.tower i).debt < 7 →
      ∃ u, exec (.towerDueExpiry i) s = .next u ∧
        u.tower i = { s.tower i with debt := (s.tower i).debt + 1, dueTimer := some (s.after y.interval) }) ∧
    (∀ tag, (s.tower i).phase = .queued false tag → (s.tower i).debt = 7 → s.controlRoom = true →
      ∃ u, exec (.towerDueExpiry i) s = .next u ∧
        u.tower i =
          { s.tower i with phase := .queued true tag, debt := 8, dueTimer := some (s.after y.interval) }) ∧
    (∀ tag, (s.tower i).phase = .queued true tag → (s.tower i).debt = 8 →
      ∃ u, exec (.towerDueExpiry i) s = .next u ∧
        u.tower i = { s.tower i with overdue := true, dueTimer := some (s.after y.interval) } ∧
        u.condition .towerScanOverdue = true)

/-- A matched SCAN_REPORT: the failure count is 0, the lost and overdue flags are clear, the statuses are the report's,
and with no further scan due the tower is IDLE and its tag is free (R120). An AWAITING scan fails at its deadline
and at a NACK of its tag from its node: the failure count rises to at most 3, at 3 the tower is lost, the statuses
stand, and with no further scan due the tower is IDLE (R121). -/
def Obligations.ScansEndAtTheirReportOrFail : Prop :=
  (∀ (s : State) (e : IngressEntry) (rest : List IngressEntry) (i : Nat) (y : TowerEntry) (d : Ms),
     s.Delivers .scanReport e rest → s.towerNamed e.frame.source e.frame.towerNumber = some (i, y) →
     (s.tower i).phase = .awaiting e.frame.tag d → (s.tower i).due = false → s.rmn.towers.length = 24 →
     ∃ u, exec .scanReport s = .next u ∧
       u.tower i =
         { s.tower i with
           phase := .idle
           failures := 0
           lost := false
           overdue := false
           reports := satInc (s.tower i).reports
           statuses :=
             some
               { trains := (List.range y.trains).map fun n => e.frame.statuses.getD n .sensorFault
                 source := .report
                 time := s.now } }) ∧
  (∀ (s : State) (i : Nat) (y : TowerEntry) (tag : Nat) (d : Ms),
     s.towerEntry i = some y → (s.tower i).phase = .awaiting tag d → (s.tower i).due = false →
     s.rmn.towers.length = 24 → i < 24 → (s.tower i).failures ≤ 3 →
     let failed : TowerRecord :=
       { s.tower i with
         phase := .idle
         failures := min 3 ((s.tower i).failures + 1)
         failed := satInc (s.tower i).failed
         lost := (s.tower i).lost || decide (2 ≤ (s.tower i).failures) }
     (s.Fires (some d) → ∃ u, exec (.scanDeadlineExpiry i) s = .next u ∧ u.tower i = failed) ∧
     (∀ (e : IngressEntry) (rest : List IngressEntry), s.Delivers .nackScanRequest e rest →
       s.awaitingScan e.frame.source e.frame.tag = some (i, y) →
       ∃ u, exec .nackScanRequest s = .next u ∧ u.tower i = failed))

/-- A TOWER_ALARM for a tower of its node replaces the latest statuses, fitted to the train count with SENSOR_FAULT for
the trains the list does not reach, with source ALARM and its time; the alarms counter rises and the scan record
stands (R123). -/
def Obligations.AlarmReplacesTheStatuses : Prop :=
  ∀ (s : State) (e : IngressEntry) (rest : List IngressEntry) (i : Nat) (y : TowerEntry),
    s.Delivers .towerAlarm e rest → s.towerNamed e.frame.source e.frame.towerNumber = some (i, y) →
    s.rmn.towers.length = 24 →
    ∃ (u : State) (xs : List TrainStatus), exec .towerAlarm s = .next u ∧ xs.length = y.trains ∧
      (∀ n, n < y.trains → xs[n]? = some (e.frame.statuses.getD n .sensorFault)) ∧
      u.tower i =
        { s.tower i with
          alarms := satInc (s.tower i).alarms
          statuses := some { trains := xs, source := .alarm, time := s.now } } ∧
      ∀ j, j ≠ i → u.tower j = s.tower j

/-- A frame with a bad check is counted, and in ACQUIRING sets the acquisition count to 0; nothing else of the link
changes (R128, R132); bytes that form no whole frame are taken so too, by the model's choice (log entry 10). A
well-formed frame of a buffered class in UP joins its receive buffer of 4 or 8, and finding it full is dropped and
counted; it restarts the silence timer and brings the far end's busy bits (R128, R129, R130). -/
def Obligations.BufferedFramesJoinTheirBuffer : Prop :=
  (∀ (s : State) (bytes : List Byte), s.pins.held = false → checkGood bytes = false → s.stc.gathered = [] →
     s.slk.sending.isSome = true →
     ∃ u, exec (.linkBadCheckFrame bytes) s = .next u ∧
       u.slk =
         { s.slk with
           badChecks := satInc s.slk.badChecks
           acq := if s.slk.link = .acquiring then 0 else s.slk.acq }) ∧
  (∀ (s : State) (bytes : List Byte),
     s.pins.held = false → isBufferedFrame bytes = true → malformedOnArrival (linkFrameOf bytes) = false →
     s.slk.link = .up → s.stc.gathered = [] →
     ∃ u, exec (.linkBufferedFrame bytes) s = .next u ∧ u.slk.silence = some (s.after 200) ∧
       u.slk.farAnswered = answeredBusyOf bytes ∧ u.slk.farUnanswered = unansweredBusyOf bytes ∧
       u.slk.lastSeq = some (linkSeqOf bytes) ∧
       ((linkFrameOf bytes).cls = .answered →
         u.slk.rxUnanswered = s.slk.rxUnanswered ∧
           (s.slk.rxAnswered.length < 4 → u.slk.rxAnswered = s.slk.rxAnswered ++ [linkFrameOf bytes]) ∧
           (4 ≤ s.slk.rxAnswered.length →
             u.slk.rxAnswered = s.slk.rxAnswered ∧ u.slk.overrunsAnswered = satInc s.slk.overrunsAnswered)) ∧
       ((linkFrameOf bytes).cls = .unanswered →
         u.slk.rxAnswered = s.slk.rxAnswered ∧
           (s.slk.rxUnanswered.length < 8 → u.slk.rxUnanswered = s.slk.rxUnanswered ++ [linkFrameOf bytes]) ∧
           (8 ≤ s.slk.rxUnanswered.length →
             u.slk.rxUnanswered = s.slk.rxUnanswered ∧ u.slk.overrunsUnanswered = satInc s.slk.overrunsUnanswered)))

/-! ## Summit link -/

/-- A well-formed SAFETY frame: DOWN becomes ACQUIRING with count 1; in ACQUIRING the count rises, or starts again after
200 ms without one, and at 3 the link is UP; the contents replace those stored; and with the link UP the mirror
cause follows the summit's category: present with that category while it is not RUN, its record ACTIVE, and at RUN
absent and INACTIVE; and LINK_LOST is absent where UP has just been entered (R128, R132, R134, R137, R138, R162). -/
def Obligations.SafetyFramesBringTheLinkUp : Prop :=
  ∀ (s : State) (bytes : List Byte) (n : Nat),
    s.pins.held = false → isSafetyFrame bytes = true → malformedOnArrival (linkFrameOf bytes) = false →
    s.stc.records.length = 48 → s.stc.gathered = [] →
    n = (if s.slk.acq = 0 ∨ (∀ t, s.slk.lastSafety = some t → 200 < s.since t) then 1 else s.slk.acq + 1) →
    ∃ u, exec (.linkSafetyFrame bytes) s = .next u ∧
      u.slk.silence = some (s.after 200) ∧ u.slk.lastSafety = some s.now ∧ u.slk.stale = false ∧
      u.slk.summit = some (summitContentsOf (linkFrameOf bytes).payload s.now) ∧
      (s.slk.link = .down → u.slk.link = .acquiring ∧ u.slk.acq = 1) ∧
      (s.slk.link = .acquiring → n ≠ 3 → u.slk.link = .acquiring ∧ u.slk.acq = n) ∧
      (s.slk.link = .acquiring → n = 3 → u.slk.link = .up ∧ u.condition .linkLost = false) ∧
      (s.slk.link = .up → u.slk.link = .up) ∧
      (u.slk.link = .up →
        let category := (summitContentsOf (linkFrameOf bytes).payload s.now).category
        (u.condition .summitStop = true ↔ category ≠ .run) ∧
          (category ≠ .run → (u.cause .summitStop).category = category) ∧
          ((s.cause .summitStop).state = (if s.condition .summitStop then .active else .inactive) →
            (u.cause .summitStop).state = if category = .run then .inactive else .active))

/-- The link enters DOWN at the expiry of the silence timer, and at a LINK_RESTART in UP or ACQUIRING, which is answered
OK: the request table and the queues are empty, but that the UNANSWERED receive buffer and transmit queue keep their
handovers, the contents are stale, the mirror and the compare are absent, the call is IDLE, and LINK_LOST is present
where the link was UP (R133, R135, R153). -/
def Obligations.LinkEntersDown : Prop :=
  ∀ (s : State) (c : Instr) (e : IngressEntry) (rest : List IngressEntry),
    (c = .silenceExpiry ∧ s.Fires s.slk.silence) ∨
      (c = .linkRestart ∧ s.Requests .linkRestart e rest ∧ s.slk.link ≠ .down ∧ s.rng.report.length < 32) →
    s.stc.records.length = 48 →
    ∃ u, exec c s = .next u ∧ u.slk.link = .down ∧ u.slk.silence = none ∧ u.slk.requests = [] ∧
      u.slk.txAnswered = [] ∧ u.slk.txVoice = [] ∧ u.slk.rxAnswered = [] ∧
      u.slk.rxUnanswered = s.slk.rxUnanswered.filter LinkFrame.isHandover ∧
      u.slk.txUnanswered = s.slk.txUnanswered.filter LinkFrame.isHandover ∧ u.slk.stale = true ∧
      u.icm.call = .idle ∧ u.icm.emergencyOpen = false ∧ u.condition .summitStop = false ∧
      u.condition .positionDisagree = false ∧ (∀ t r, u.ctr.reconcile ≠ .querying t r) ∧
      (s.slk.link = .up → u.condition .linkLost = true ∧ u.slk.linkLosses = satInc s.slk.linkLosses) ∧
      (c = .linkRestart → u.Replied e.frame .ok [])

/-- The send timer builds a SAFETY frame from the state held, in place of one not yet taken, and restarts for 50 ms: the
category, the permit outputs, the position, REFERENCED and the motion of RPU's most recent record, the last handover
sequence and the call (R136). The category sent is the highest among the standing causes other than SUMMIT_STOP (R138),
at least SERVICE_STOP while TABLES_INVALID stands (R136), and so the output category where SUMMIT_STOP is INACTIVE and
the output is the highest of 48 records (R163). That R138 and not R136's output category decides while SUMMIT_STOP is
ACTIVE, and that the permits are STC's outputs then too, is the model's choice (log entry 85). The record of this model
takes the motion at the expiry of the stillness timer too (R12, log entry 23). -/
def Obligations.SafetyFrameIsBuilt : Prop :=
  ∀ s : State, s.Fires s.slk.sendTimer → s.stc.gathered = [] → s.slk.sending.isSome = true →
    ∃ (u : State) (category : Category), exec .safetySendExpiry s = .next u ∧
      u.slk.sendTimer = some (s.now + BitVec.ofNat 32 50) ∧
      (∀ c, c ≠ .summitStop → (s.cause c).state ≠ .inactive → (s.cause c).category.code ≤ category.code) ∧
      ((s.cause .tablesInvalid).state ≠ .inactive → Category.serviceStop.code ≤ category.code) ∧
      (category = .run ∨ ((s.cause .tablesInvalid).state ≠ .inactive ∧ category = .serviceStop) ∨
        ∃ c, c ≠ .summitStop ∧ (s.cause c).state ≠ .inactive ∧ (s.cause c).category = category) ∧
      (s.stc.records.length = 48 → s.stc.output = highestStanding s.stc.records →
        (s.cause .summitStop).state = .inactive →
          category =
            if (s.cause .tablesInvalid).state ≠ .inactive ∧ s.stc.output.code < Category.serviceStop.code then .serviceStop
            else s.stc.output) ∧
      u.slk.txSafety =
        some
          { cls := .safety
            kind := 1
            tag := 0
            payload :=
              [BitVec.ofNat 8 category.code,
               BitVec.ofNat 8
                 (bit s.stc.servicePermit + 2 * bit s.stc.emergencyPermit + 4 * bit s.rpu.record.referenced +
                   16 * s.rpu.record.motion.code)] ++ bytesOfWord (signedWord s.rpu.record.p) ++
                [BitVec.ofNat 8 s.slk.handoverSeq, BitVec.ofNat 8 (s.icm.call.code + 4 * bit s.icm.emergencyOpen)] }

/-- A frame sent, the transmitter takes the next one in UP by class: SAFETY first, then VOICE, then UNANSWERED unless
the far end is busy, then ANSWERED unless the far end is busy; the sequence counts on, a REQUEST taken makes its entry
SENT with a reply deadline 500 ms on, and with nothing to send the transmitter is free (R130, R131, R140). -/
def Obligations.TransmitterTakesTheNextFrame : Prop :=
  ∀ s : State, s.pins.held = false → s.slk.sending.isSome = true → s.stc.gathered = [] → s.slk.link = .up →
    (∀ f, s.slk.txSafety = some f →
      ∃ u, exec .transmitComplete s = .next u ∧ u.slk.txSafety = none ∧
        u.slk.sending = some (linkBytes f s.slk.nextSeq s.slk.answeredBusy s.slk.unansweredBusy) ∧
        u.slk.nextSeq = (s.slk.nextSeq + 1) % 256) ∧
    (∀ f q, s.slk.txSafety = none → s.slk.txVoice = f :: q → f.cls = .voice →
      ∃ u, exec .transmitComplete s = .next u ∧
        u.slk =
          { s.slk with
            txVoice := q
            sending := some (linkBytes f s.slk.nextSeq s.slk.answeredBusy s.slk.unansweredBusy)
            nextSeq := (s.slk.nextSeq + 1) % 256 }) ∧
    (∀ f q, s.slk.txSafety = none → s.slk.txVoice = [] → s.slk.farUnanswered = false → s.slk.txUnanswered = f :: q →
      ∃ u, exec .transmitComplete s = .next u ∧ u.slk.txUnanswered = q ∧
        u.slk.sending = some (linkBytes f s.slk.nextSeq s.slk.answeredBusy s.slk.unansweredBusy) ∧
        u.slk.nextSeq = (s.slk.nextSeq + 1) % 256) ∧
    (∀ f q, s.slk.txSafety = none → s.slk.txVoice = [] → (s.slk.farUnanswered = true ∨ s.slk.txUnanswered = []) →
      s.slk.farAnswered = false → s.slk.txAnswered = f :: q → f.cls = .answered →
      ∃ u, exec .transmitComplete s = .next u ∧
        u.slk =
          { s.slk with
            txAnswered := q
            sending := some (linkBytes f s.slk.nextSeq s.slk.answeredBusy s.slk.unansweredBusy)
            nextSeq := (s.slk.nextSeq + 1) % 256
            requests :=
              s.slk.requests.map fun r =>
                if r.tag = f.tag then { r with deadline := some (s.now + BitVec.ofNat 32 500) } else r }) ∧
    (s.slk.txSafety = none → s.slk.txVoice = [] → (s.slk.farUnanswered = true ∨ s.slk.txUnanswered = []) →
      (s.slk.farAnswered = true ∨ s.slk.txAnswered = []) →
      ∃ u, exec .transmitComplete s = .next u ∧ u.slk = { s.slk with sending := none })

/-! ## Intercom -/

/-- CALL, ANSWER and HANG_UP, from the station computer or as a CALL_KEY. Where the call state takes them: the new call
state with its timer and jitter buffer, and the CALL frame to the summit; a manager's request is answered OK. Where it
does not, they are refused: counted, with no state changed and no frame sent; a manager's request is answered
NOT_ALLOWED, and a CALL_KEY is followed by an indication of the present state (R147). The tag 0 of an indication is the
model's choice (log entry 13). -/
def Obligations.CallRequestsAreTaken : Prop :=
  ∀ (s : State) (e : IngressEntry) (rest : List IngressEntry) (c : Instr),
    s.stc.gathered = [] → s.slk.sending.isSome = true → s.slk.txUnanswered.length < 16 → s.rng.report.length < 32 →
    ((c = .callKeyCall ∧ s.Delivers .callKeyCall e rest) ∨ (c = .call ∧ s.Requests .call e rest) →
      s.icm.call = .idle → s.slk.link = .up →
      ∃ u, exec c s = .next u ∧
        u.icm =
          { s.icm with
            call := .calling
            callTimer := some (s.after 30000)
            droppedIndications := u.icm.droppedIndications } ∧
        u.slk.txUnanswered = s.slk.txUnanswered ++ [{ cls := .unanswered, kind := 3, tag := 0, payload := [1] }] ∧
        (c = .call → u.Replied e.frame .ok [])) ∧
    ((c = .callKeyAnswer ∧ s.Delivers .callKeyAnswer e rest) ∨ (c = .answer ∧ s.Requests .answer e rest) →
      s.icm.call = .ringing →
      ∃ u, exec c s = .next u ∧
        u.icm =
          { s.icm with
            call := .talk
            callTimer := none
            talkEntry := s.now
            buffer := []
            phase := .filling
            lastPlayed := none
            playout := none
            droppedIndications := u.icm.droppedIndications } ∧
        u.slk.txUnanswered = s.slk.txUnanswered ++ [{ cls := .unanswered, kind := 3, tag := 0, payload := [2] }] ∧
        (c = .answer → u.Replied e.frame .ok [])) ∧
    ((c = .callKeyHangUp ∧ s.Delivers .callKeyHangUp e rest) ∨ (c = .hangUp ∧ s.Requests .hangUp e rest) →
      s.icm.call ≠ .idle → s.icm.emergencyOpen = false →
      ∃ u, exec c s = .next u ∧
        u.icm =
          { s.icm with
            call := .idle
            callTimer := none
            buffer := []
            playout := none
            droppedIndications := u.icm.droppedIndications } ∧
        u.slk.txUnanswered = s.slk.txUnanswered ++ [{ cls := .unanswered, kind := 3, tag := 0, payload := [3] }] ∧
        (c = .hangUp → u.Replied e.frame .ok [])) ∧
    (((c = .callKeyCall ∧ s.Delivers .callKeyCall e rest) ∨ (c = .call ∧ s.Requests .call e rest)) ∧
          (s.icm.call ≠ .idle ∨ s.slk.link ≠ .up) ∨
        ((c = .callKeyAnswer ∧ s.Delivers .callKeyAnswer e rest) ∨ (c = .answer ∧ s.Requests .answer e rest)) ∧
          s.icm.call ≠ .ringing ∨
        ((c = .callKeyHangUp ∧ s.Delivers .callKeyHangUp e rest) ∨ (c = .hangUp ∧ s.Requests .hangUp e rest)) ∧
          (s.icm.call = .idle ∨ s.icm.emergencyOpen = true) →
      ∃ u, exec c s = .next u ∧
        u.icm =
          { s.icm with refused := satInc s.icm.refused, droppedIndications := u.icm.droppedIndications } ∧
        u.slk.txUnanswered = s.slk.txUnanswered ∧
        (c = .call ∨ c = .answer ∨ c = .hangUp → u.Replied e.frame .notAllowed []) ∧
        (c = .callKeyCall ∨ c = .callKeyAnswer ∨ c = .callKeyHangUp → s.roleMask .handset ≠ 0 → s.controlRoom = true →
          u.rng.control =
            s.rng.control ++
              [{ kind := .callIndication, mask := s.roleMask .handset, tag := 0,
                 payload := [place (bit s.icm.emergencyOpen) 8 ||| place s.icm.call.code 0], restartReply := false }]))

/-- The summit's CALL frames: a CALL_SETUP rings an idle valley, meets a CALLING one in TALK with CALL_ACCEPT sent, and in
TALK is answered by CALL_ACCEPT again; a CALL_ACCEPT joins a call that the valley is CALLING; a CALL_CLEAR ends a
ringing or calling one, and one in TALK while EMERGENCY_OPEN is clear. A frame that the call state ignores is counted
and changes nothing: a CALL_SETUP in RINGING, a CALL_ACCEPT but in CALLING, a CALL_CLEAR in IDLE, and one in TALK
while EMERGENCY_OPEN is set, which is reported too (R149). The call timer's expiry ends a call that is neither
answered nor cleared: the valley is IDLE and sends CALL_CLEAR (R150). -/
def Obligations.CallFramesAndTheTimerMoveTheCall : Prop :=
  (∀ (s : State) (f : LinkFrame) (rest : List LinkFrame), s.Holds f rest → f.kind = 3 → s.stc.gathered = [] →
     (byteAt f.payload 0 = 1 → s.icm.call = .idle →
       ∃ u, exec .callSetup s = .next u ∧ u.slk.rxUnanswered = rest ∧
         u.icm =
           { s.icm with
             call := .ringing
             callTimer := some (s.after 30000)
             droppedIndications := u.icm.droppedIndications }) ∧
     (byteAt f.payload 0 = 2 → s.icm.call = .calling →
       ∃ u, exec .callAccept s = .next u ∧ u.slk.rxUnanswered = rest ∧
         u.icm =
           { s.icm with
             call := .talk
             callTimer := none
             talkEntry := s.now
             buffer := []
             phase := .filling
             lastPlayed := none
             playout := none
             droppedIndications := u.icm.droppedIndications }) ∧
     (byteAt f.payload 0 = 3 → s.icm.call = .ringing ∨ s.icm.call = .calling →
       ∃ u, exec .callClear s = .next u ∧ u.slk.rxUnanswered = rest ∧
         u.icm = { s.icm with call := .idle, callTimer := none, droppedIndications := u.icm.droppedIndications }) ∧
     (byteAt f.payload 0 = 2 → s.icm.call ≠ .calling →
       ∃ u, exec .callAccept s = .next u ∧ u.icm = { s.icm with ignoredFrames := satInc s.icm.ignoredFrames }) ∧
     (byteAt f.payload 0 = 1 → s.icm.call = .calling → s.slk.sending.isSome = true → s.slk.txUnanswered.length < 16 →
       ∃ u, exec .callSetup s = .next u ∧ u.slk.rxUnanswered = rest ∧
         u.slk.txUnanswered = s.slk.txUnanswered ++ [{ cls := .unanswered, kind := 3, tag := 0, payload := [2] }] ∧
         u.icm =
           { s.icm with
             call := .talk
             callTimer := none
             talkEntry := s.now
             buffer := []
             phase := .filling
             lastPlayed := none
             playout := none
             droppedIndications := u.icm.droppedIndications }) ∧
     (byteAt f.payload 0 = 1 → s.icm.call = .talk → s.slk.sending.isSome = true → s.slk.txUnanswered.length < 16 →
       ∃ u, exec .callSetup s = .next u ∧ u.slk.rxUnanswered = rest ∧ u.icm = s.icm ∧
         u.slk.txUnanswered =
           s.slk.txUnanswered ++ [{ cls := .unanswered, kind := 3, tag := 0, payload := [2] }]) ∧
     (byteAt f.payload 0 = 1 → s.icm.call = .ringing →
       ∃ u, exec .callSetup s = .next u ∧ u.icm = { s.icm with ignoredFrames := satInc s.icm.ignoredFrames }) ∧
     (byteAt f.payload 0 = 3 → s.icm.call = .idle →
       ∃ u, exec .callClear s = .next u ∧ u.icm = { s.icm with ignoredFrames := satInc s.icm.ignoredFrames }) ∧
     (byteAt f.payload 0 = 3 → s.icm.call = .talk → s.icm.emergencyOpen = false →
       ∃ u, exec .callClear s = .next u ∧ u.slk.rxUnanswered = rest ∧
         u.icm =
           { s.icm with
             call := .idle
             buffer := []
             playout := none
             droppedIndications := u.icm.droppedIndications }) ∧
     (byteAt f.payload 0 = 3 → s.icm.call = .talk → s.icm.emergencyOpen = true → s.tst.events.length < 32 →
       s.eventMask ≠ 0 →
       ∃ u, exec .callClear s = .next u ∧ u.icm = { s.icm with ignoredFrames := satInc s.icm.ignoredFrames } ∧
         u.Reported .clearRefused [])) ∧
  (∀ s : State, s.Fires s.icm.callTimer → s.icm.call = .calling ∨ s.icm.call = .ringing → s.stc.gathered = [] →
     s.slk.sending.isSome = true → s.slk.txUnanswered.length < 16 →
     ∃ u, exec .callTimerExpiry s = .next u ∧
       u.icm = { s.icm with call := .idle, callTimer := none, droppedIndications := u.icm.droppedIndications } ∧
       u.slk.txUnanswered = s.slk.txUnanswered ++ [{ cls := .unanswered, kind := 3, tag := 0, payload := [3] }])

/-- Speech: a handset frame in TALK joins the tail of the VOICE transmit queue, which holds 2 and loses its oldest, and
in any other state is dropped and counted (R154). A summit frame in TALK is late, a duplicate, or placed in the jitter
buffer behind the earlier and before the later entries; a seventh entry costs the oldest, a second starts the playout
20 ms on; in any other state the frame is dropped (R155). At the playout expiry the oldest entry goes to the HANDSET
nodes and the sequences missing before it are counted lost, and an empty buffer is an underrun (R156). The tag 0 of the
VOICE frame built is the model's choice (log entry 13). -/
def Obligations.SpeechPassesThrough : Prop :=
  ∀ s : State, s.stc.gathered = [] → s.slk.sending.isSome = true →
    (∀ (e : IngressEntry) (rest : List IngressEntry), s.Delivers .handsetVoice e rest →
      (s.icm.call = .talk →
        ∃ u, exec .handsetVoice s = .next u ∧
          u.slk.txVoice =
            (if s.slk.txVoice.length < 2 then s.slk.txVoice else s.slk.txVoice.tail) ++
              [{ cls := .voice, kind := 1, tag := 0,
                 payload := twoBytes (field (e.frame.word 0) 0 16) ++ e.frame.audio }]) ∧
      (s.icm.call ≠ .talk →
        ∃ u, exec .handsetVoice s = .next u ∧ u.slk = s.slk ∧
          u.icm = { s.icm with outboundDropped := satInc s.icm.outboundDropped })) ∧
    (∀ (bytes : List Byte) (x : VoiceEntry), s.pins.held = false → isVoiceFrame bytes = true →
      malformedOnArrival (linkFrameOf bytes) = false → s.slk.link = .up →
      x = { seq := halfAt (linkFrameOf bytes).payload 0, audio := (linkFrameOf bytes).payload.drop 2 } →
      (∀ y ∈ s.icm.buffer, y.seq < 65536) →
      let later := fun a b : Nat => 1 ≤ (a + 65536 - b) % 65536 ∧ (a + 65536 - b) % 65536 ≤ 32767
      let afterPlayed := ∀ p, s.icm.lastPlayed = some p → later x.seq p
      (s.icm.call ≠ .talk → ∃ u, exec (.linkVoiceFrame bytes) s = .next u ∧ u.icm = s.icm) ∧
      (s.icm.call = .talk →
        (∃ p, s.icm.lastPlayed = some p ∧ ¬ later x.seq p) ∨
          (∃ y ∈ s.icm.buffer, (x.seq + 65536 - y.seq) % 65536 = 32768) →
        ∃ u, exec (.linkVoiceFrame bytes) s = .next u ∧ u.icm = { s.icm with late := satInc s.icm.late }) ∧
      (s.icm.call = .talk → afterPlayed → (∀ y ∈ s.icm.buffer, (x.seq + 65536 - y.seq) % 65536 ≠ 32768) →
        (∃ y ∈ s.icm.buffer, y.seq = x.seq) →
        ∃ u, exec (.linkVoiceFrame bytes) s = .next u ∧
          u.icm = { s.icm with duplicate := satInc s.icm.duplicate }) ∧
      (∀ earlier rest, s.icm.call = .talk → afterPlayed → s.icm.buffer = earlier ++ rest →
        (∀ y ∈ earlier, later x.seq y.seq) → (∀ y ∈ rest, later y.seq x.seq) →
        let all := earlier ++ x :: rest
        let kept := if all.length = 7 then all.tail else all
        let starts := s.icm.phase = .filling ∧ 2 ≤ kept.length
        ∃ u, exec (.linkVoiceFrame bytes) s = .next u ∧
          u.icm =
            { s.icm with
              buffer := kept
              overflow := if all.length = 7 then satInc s.icm.overflow else s.icm.overflow
              phase := if starts then .playing else s.icm.phase
              playout := if starts then some (s.after 20) else s.icm.playout })) ∧
    (∀ x rest, s.Fires s.icm.playout → s.icm.buffer = x :: rest → s.roleMask .handset ≠ 0 → s.rng.voice.length < 4 →
      ∃ u, exec .playoutExpiry s = .next u ∧ u.icm.buffer = rest ∧ u.icm.lastPlayed = some x.seq ∧
        u.icm.playout = some (s.after 20) ∧ u.icm.phase = s.icm.phase ∧
        (s.icm.lastPlayed = none → s.icm.lost ≤ 65535 → u.icm.lost = s.icm.lost) ∧
        (∀ p, s.icm.lastPlayed = some p → u.icm.lost = satAdd s.icm.lost ((x.seq + 65536 - p - 1) % 65536)) ∧
        u.rng.voice =
          s.rng.voice ++
            [{ kind := .voice, mask := s.roleMask .handset, tag := 0,
               payload := place x.seq 0 :: wordsOfBytes x.audio, restartReply := false }]) ∧
    (s.Fires s.icm.playout → s.icm.buffer = [] →
      ∃ u, exec .playoutExpiry s = .next u ∧
        u.icm = { s.icm with underrun := satInc s.icm.underrun, phase := .filling, playout := none })

/-! ## Stop chain and ring -/

/-- The opening of the emergency-stop loop makes ESTOP_LOOP ACTIVE, takes the output to EMERGENCY_STOP and withdraws
both permits at that event, and a queued release with them; its closing leaves the cause LATCHED (R163, R164, R169).
That a part held in reset takes the level alone is the model's choice (log entry 2). -/
def Obligations.EstopOpeningWithdrawsBothPermits : Prop :=
  ∀ s : State, s.Inv →
    (s.pins.held = false → (s.cause .estopLoop).category = .emergencyStop → s.condition .estopLoop = false →
      ∃ u, exec (.estopInChange .loopOpen) s = .next u ∧ u.pins = { s.pins with loop := .loopOpen } ∧
        (u.cause .estopLoop).state = .active ∧
        (u.cause .estopLoop).raises = satInc (s.cause .estopLoop).raises ∧ u.stc.output = .emergencyStop ∧
        u.stc.servicePermit = false ∧ u.stc.emergencyPermit = false ∧
        (∀ p, s.lgt.pending = some p → p.phase = .queued → s.stc.output ≠ .emergencyStop → u.lgt.pending = none)) ∧
    (s.pins.held = false → s.condition .estopLoop = true → (s.cause .estopLoop).state = .active →
      ∃ u, exec (.estopInChange .loopClosed) s = .next u ∧ u.pins = { s.pins with loop := .loopClosed } ∧
        (u.cause .estopLoop).state = .latched ∧ ∀ c, c ≠ .estopLoop → u.cause c = s.cause c) ∧
    (∀ level, s.pins.held = true →
      exec (.estopInChange level) s = .next (s.setPins { s.pins with loop := level }))

/-- RESET_CAUSES releases each LATCHED cause whose gates are met and leaves every other record: REPORT_ONLY and
HOLD_LAUNCH always, SERVICE_STOP with motion STOPPED, EMERGENCY_STOP with the key in MAINT as well, and
TIMEBASE_DEGRADED only with the last window GOOD, with which REFERENCE is selected. The output category is formed
again with its permits, and the answer carries the three counts and the first status that applies (R163, R167, R168,
R194). -/
def Obligations.ResetCausesReleasesByItsGates : Prop :=
  ∀ (s : State) (e : IngressEntry) (rest : List IngressEntry) (key : KeyPosition),
    s.Requests .resetCauses e rest → s.Inv → s.rng.report.length < 32 →
    ∃ u, exec (.resetCauses key) s = .next u ∧
      let latched := Cause.all.filter fun c => (s.cause c).state = .latched
      let wantsStop := fun c => (s.cause c).category.atLeast .serviceStop && s.rpu.motion ≠ .stopped
      let wantsKey := fun c => (s.cause c).category = .emergencyStop && key ≠ .maint
      let wantsReference := fun c =>
        c = Cause.timebaseDegraded && !(s.tmb.lastWindow.any fun n => 38000 ≤ n && n ≤ 42000)
      let kept := fun c => wantsStop c || wantsKey c || wantsReference c
      (∀ c, u.cause c =
        if (s.cause c).state = .latched ∧ kept c = false then
          { s.cause c with state := .inactive, lastTime := s.now, lastKind := some .released }
        else s.cause c) ∧
      u.stc.output = highestStanding u.stc.records ∧ u.stc.servicePermit = u.stc.output.servicePermit ∧
      u.stc.emergencyPermit = u.stc.output.emergencyPermit ∧ u.pins = { s.pins with key := key } ∧
      u.tmb =
        (if (s.cause .timebaseDegraded).state = .latched ∧ kept .timebaseDegraded = false then
          { s.tmb with selection := .reference }
         else s.tmb) ∧
      u.Replied e.frame
        (if latched.any wantsStop then .refusedMotion
         else if latched.any wantsKey then .refusedKey
         else if latched.any wantsReference then .notAllowed
         else .ok)
        [natWord (latched.countP fun c => !kept c), natWord (latched.countP kept),
         natWord (Cause.all.countP fun c => (s.cause c).state = .active)]

/-- A slot passing the master. In the purge revolution it goes on free and its frame is counted (R173). A free slot
takes the oldest frame of the first class that holds one, in the order CONTROL, VOICE, POLL, REPORT, and of REPORT alone
while SAFETY is invalid, with source 0, the mark set and the hold indicator, and its record takes the mask; with none it
goes on free (R181). The frame leaves its queue and its owner acts on the insertion: a release is SENT with 100 ms to
its report (R28), a door command SENT with its door state and deadline (R93), a scan AWAITING with 250 ms and debt 0
(R119), a garage exit command has its deadline set again (log entry 59), and TST offers the next event report (R193). A
frame on its first pass that fails a check is removed and counted under the reason of the first check it fails; one that
passes is copied to the ingress queue where the mask names address 0, and goes on marked to the addresses that remain
(R176, R177). A marked frame whose mask the slot's record held is an orphan: each address still in its mask counts a
miss (R174, R175). No RESTART's reply waits in the egress queues of these states. A frame whose role and kind have no
row is discarded at delivery: the ingress queue moves on, the counter rises, and FRAME_UNDELIVERABLE carries its source,
role and kind (R179). That a purged slot goes on free with nothing inserted, slot by slot, and that an address of role
NONE counts misses are the model's reading (log entries 28 and 42). -/
def Obligations.RingSlotsAreServed : Prop :=
  (∀ (s : State) (n : Fin 8) (w0 w1 : Word) (payload : List Word),
     s.pins.held = false → s.rng.tablesSized →
     (∀ g ∈ s.rng.control ++ s.rng.voice ++ s.rng.poll ++ s.rng.report, g.restartReply = false) →
     let f := frameOfWords w0 w1 payload
     let purging := s.rng.purge.getD n false
     let record := s.rng.slotRecords.getD n none
     (purging = true →
       ∃ u, exec (.ringSlotPass n w0 w1 payload) s = .next u ∧ u.rng.purge = s.rng.purge.set n false ∧
         u.rng.slotRecords = s.rng.slotRecords.set n none ∧
         u.rng.purged = (if slotFull w0 then satInc s.rng.purged else s.rng.purged) ∧ u.rng.ingress = s.rng.ingress ∧
         u.rng.ringOut = some { slot := n, w0 := headerWord 0 0 0 0 false s.rng.hold, w1 := 0, payload := [] }) ∧
     (purging = false → slotFull w0 = false →
       let waiting :=
         if s.safetyValid then s.rng.control ++ s.rng.voice ++ s.rng.poll ++ s.rng.report else s.rng.report
       ∃ u, exec (.ringSlotPass n w0 w1 payload) s = .next u ∧
         u.rng.slotRecords = s.rng.slotRecords.set n (waiting.head?.map EgressFrame.mask) ∧
         u.rng.ringOut =
           some
             (match waiting with
              | [] => { slot := n, w0 := headerWord 0 0 0 0 false s.rng.hold, w1 := 0, payload := [] }
              | g :: _ =>
                { slot := n, w0 := headerWord g.kind.code 0 g.tag g.payload.length true s.rng.hold, w1 := g.mask,
                  payload := g.payload })) ∧
     (purging = false → slotFull w0 = false → s.stc.gathered = [] → (∀ a < 32, s.isAbsent a = false) →
       ∃ u, exec (.ringSlotPass n w0 w1 payload) s = .next u ∧
         (s.safetyValid = false →
           u.rng.control = s.rng.control ∧ u.rng.voice = s.rng.voice ∧ u.rng.poll = s.rng.poll) ∧
         (∀ g q, s.safetyValid = true → s.rng.control = g :: q →
           ((g.kind ∈ [.doorOpen, .doorClose, .doorLock] → s.lgt.pending = none ∧ s.lgt.countedHead = none) →
             u.rng.control = q) ∧
           (∀ p, g.kind = .gateRelease → s.lgt.pending = some p → p.tag = g.tag → p.phase = .queued →
             u.lgt.pending = some { p with phase := .sent (s.after 100) }) ∧
           (∀ name b x i profile, (s.doorUnit name).state = .busy b → b.phase = .queued → b.tag = g.tag →
             b.cmd.action.kind = g.kind →
             (∀ other c, other ≠ name → (s.doorUnit other).state = .busy c → c.cmd.action.kind ≠ g.kind) →
             s.entry b.cmd.serial = some x → x.who = .cabin i → i < s.registry.length → s.launched x = false →
             s.profile b.cmd.cabin = some profile →
             let allowance := match b.cmd.action with | .openDoor => profile.tOpenMax | _ => profile.tCloseMax
             (u.doorUnit name).state =
               .busy { b with phase := .sent (s.after allowance), before := (s.reg i).door } ∧
               (u.reg i).door =
                 (match b.cmd.action with
                  | .openDoor => .opening
                  | .closeDoor _ => .closing
                  | .lockDoor => .locking)) ∧
           (∀ c, g.kind = .garageExitCommand → s.ctr.exitCommand = some c → c.tag = g.tag →
             u.ctr.exitCommand = some { c with deadline := s.after 30000 })) ∧
         (∀ g q, s.safetyValid = true → s.rng.control = [] → s.rng.voice = g :: q → u.rng.voice = q) ∧
         (∀ g q, s.safetyValid = true → s.rng.control = [] → s.rng.voice = [] → s.rng.poll = g :: q →
           u.rng.poll = q) ∧
         (∀ g q i, s.safetyValid = true →
           s.rng.control = g :: q ∨ (s.rng.control = [] ∧ s.rng.voice = [] ∧ s.rng.poll = g :: q) →
           g.kind = .scanRequest → s.queuedScan g.mask g.tag = some i → i < s.rmn.towers.length →
           u.tower i =
             { s.tower i with
               phase := .awaiting g.tag (s.after 250), debt := 0, scansSent := satInc (s.tower i).scansSent }) ∧
         (∀ g q, s.safetyValid = false ∨ (s.rng.control = [] ∧ s.rng.voice = [] ∧ s.rng.poll = []) →
           s.rng.report = g :: q → g.kind = .event ∨ g.kind = .mgmtReply →
           (s.tst.events = [] → u.rng.report = q) ∧
           (∀ x xs, s.tst.events = x :: xs → q.length < 16 → s.eventMask ≠ 0 →
             u.tst.events = xs ∧
               u.rng.report =
                 q ++
                   [{ kind := RingKind.event, mask := s.eventMask, tag := 0, payload := x.words
                      restartReply := false }]))) ∧
     (∀ t, purging = false → slotFull w0 = true → f.mark = false → s.tst.safety = some t →
       let x := t.node f.source
       let reason : Option FilterReason :=
         if f.source = 0 then some .sourceZero
         else if x.role = .none ∨ x.allows f.kind = false then some .roleKind
         else if f.mask = 0 then some .emptyMask
         else if f.mask &&& ~~~x.dests ≠ 0 then some .destination
         else if f.formatAgrees = false then some .format
         else none
       ∃ u, exec (.ringSlotPass n w0 w1 payload) s = .next u ∧
         (∀ r, reason = some r →
           u.rng.ingress = s.rng.ingress ∧
             u.rng.filtered = s.rng.filtered.set r.num (satInc (s.rng.filtered.getD r.num 0))) ∧
         (reason = none →
           u.rng.filtered = s.rng.filtered ∧
             u.rng.ingress =
               (if bitOf f.mask 0 ∧ s.rng.ingress.length < 16 then
                 s.rng.ingress ++ [{ frame := { f with mark := true }, role := x.role }]
                else s.rng.ingress) ∧
             (f.mask &&& ~~~(1#32) ≠ 0 →
               u.rng.slotRecords = s.rng.slotRecords.set n (some (f.mask &&& ~~~(1#32))) ∧
                 u.rng.ringOut =
                   some
                     { slot := n, w0 := headerWord f.kind f.source f.tag f.length true u.rng.hold
                       w1 := f.mask &&& ~~~(1#32), payload := f.payload }))) ∧
     (∀ r, purging = false → slotFull w0 = true → f.mark = true → record = some r → s.safetyValid = true →
       ∃ u, exec (.ringSlotPass n w0 w1 payload) s = .next u ∧ u.rng.orphans = satInc s.rng.orphans ∧
         u.rng.filtered = s.rng.filtered ∧ u.rng.ingress = s.rng.ingress ∧
         ∀ a, 1 ≤ a → a < 32 →
           u.rng.misses.getD a 0 =
             if bitOf f.mask a then min 3 (s.rng.misses.getD a 0 + 1)
             else if bitOf r a then 0
             else s.rng.misses.getD a 0)) ∧
  (∀ (s : State) (e : IngressEntry) (rest : List IngressEntry),
     s.Delivers .undeliverable e rest → s.stc.gathered = [] → s.tst.events.length < 32 → s.eventMask ≠ 0 →
     ∃ u, exec .frameUndeliverable s = .next u ∧ u.rng.ingress = rest ∧
       u.rng.undeliverable = satInc s.rng.undeliverable ∧
       u.Reported .frameUndeliverable [(e.frame.source : Nat), (e.role.code : Nat), (e.frame.kind : Nat)] ∧
       u.registry = s.registry ∧ u.ctr = s.ctr)

/-! ## Tables, store and timebase -/

/-- The end of a timebase window keeps its count. A count of 38,000 to 42,000, or one taken on BACKUP, does nothing
else; any other count on REFERENCE selects BACKUP, is counted, leaves TIMEBASE_DEGRADED LATCHED with its raise, and
is reported with the count; the counter goes on from its present value (R194). -/
def Obligations.TimebaseWindowIsJudged : Prop :=
  ∀ (s : State) (edges : Nat), s.pins.held = false → s.stc.gathered = [] →
    ((38000 ≤ edges ∧ edges ≤ 42000) ∨ s.tmb.selection = .backup →
      ∃ u, exec (.timebaseWindowEnd edges) s = .next u ∧ u.tmb = { s.tmb with lastWindow := some edges } ∧
        u.stc = s.stc) ∧
    (edges < 38000 ∨ 42000 < edges → s.tmb.selection = .reference → s.stc.records.length = 48 →
      s.tst.events.length < 32 → s.eventMask ≠ 0 →
      ∃ u, exec (.timebaseWindowEnd edges) s = .next u ∧
        u.tmb =
          { s.tmb with lastWindow := some edges, selection := .backup, switches := satInc s.tmb.switches } ∧
        (u.cause .timebaseDegraded).state = .latched ∧
        (u.cause .timebaseDegraded).raises = satInc (s.cause .timebaseDegraded).raises ∧
        u.Reported .timebaseBackup [(edges : Int)])

/-- STAGE_ENTRY of every entry, and of a group that is not staged, and DISCARD_STAGE. A value in range is written into the
copy of its group and sets that copy's changed flag; one out of range, an unknown entry, tension bands that are not
strictly ascending and a grip class with F_min above F_max are BAD_ENTRY and leave the copy (R90, R186). A stop matrix
entry is judged by its cause: a fixed one keeps its default, the mirror stays the mirror, any other a category at or
above its minimum, a category replaced is answered CLAMPED with the value kept, and what is no category is BAD_ENTRY
(R159). A discard takes the group in force, or the default contents. Nothing in force changes (R159, R186). The model's
own: the widest ranges of L, N, S, A, W, B and P_mark at staging (log entry 18), the word 0 for an absent tower (log
entry 17) and the 255 of SUMMIT_STOP's CLAMPED reply (log entry 73). -/
def Obligations.StagingIsJudged : Prop :=
  ∀ (s : State) (e : IngressEntry) (rest : List IngressEntry), s.rng.report.length < 32 →
    (∀ w v, s.Requests .stageEntry e rest → w = e.frame.word 1 → v = e.frame.word 2 →
      ∃ u, exec .stageEntry s = .next u ∧ u.tst.safety = s.tst.safety ∧ u.store = s.store ∧
        u.tst.operations = s.tst.operations ∧
        (entryGroup w ≠ some .operations →
          u.tst.stageOperations = s.tst.stageOperations ∧ u.tst.operationsChanged = s.tst.operationsChanged) ∧
        (entryGroup w = some .operations →
          u.tst.stageSafety = s.tst.stageSafety ∧ u.tst.safetyChanged = s.tst.safetyChanged ∧
          (let n := entryNumber w
           let top := if n % 7 = 6 then 3 else 65535
           let bounds : GripClass := { fMin := field v 16 16, fMax := field v 0 16 }
           let refused :=
             u.Replied e.frame .badEntry [] ∧ u.tst.operationsChanged = s.tst.operationsChanged ∧
               u.tst.stageOperations = s.tst.stageOperations
           (n ≤ 27 → v.toNat ≤ top →
             u.Replied e.frame .ok [] ∧ u.tst.operationsChanged = true ∧
               u.tst.stageOperations =
                 { s.tst.stageOperations with
                   profiles :=
                     s.tst.stageOperations.profiles.set (n / 7)
                       ((s.tst.stageOperations.profiles.getD (n / 7) DoorProfile.zero).withField (n % 7) v.toNat) }) ∧
           (n ≤ 27 → top < v.toNat → refused) ∧
           (28 ≤ n → n ≤ 31 → bounds.fMin ≤ bounds.fMax →
             u.Replied e.frame .ok [] ∧ u.tst.operationsChanged = true ∧
               u.tst.stageOperations =
                 { s.tst.stageOperations with classes := s.tst.stageOperations.classes.set (n - 28) bounds }) ∧
           (28 ≤ n → n ≤ 31 → bounds.fMax < bounds.fMin → refused) ∧
           (31 < n → refused))) ∧
        (entryGroup w = some .safety →
          let n := entryNumber w
          let old := s.tst.stageSafety
          let refused :=
            u.Replied e.frame .badEntry [] ∧ u.tst.safetyChanged = s.tst.safetyChanged ∧ u.tst.stageSafety = old
          let keeps := fun x => u.tst.safetyChanged = true ∧ u.tst.stageSafety = x
          let takes := fun x => u.Replied e.frame .ok [] ∧ keeps x
          let clamps := fun x bound => u.Replied e.frame .clamped [bound] ∧ keeps x
          (∀ lo hi put, (n, lo, hi, put) ∈ SafetyTables.numbers →
            (lo ≤ v.toNat → v.toNat ≤ hi → takes (put old v.toNat)) ∧ (v.toNat < lo ∨ hi < v.toNat → refused)) ∧
          (n = 27 →
            let a := field v 16 16
            let b := field v 0 16
            let c := field (e.frame.word 3) 16 16
            let d := field (e.frame.word 3) 0 16
            (a < b → b < c → c < d → takes { old with stopLo := a, warnLo := b, warnHi := c, stopHi := d }) ∧
            (b ≤ a ∨ c ≤ b ∨ d ≤ c → refused)) ∧
          (∀ c : Cause, n = 32 + c.num →
            let put := fun x => { old with matrix := old.matrix.set c.num x }
            (Category.ofCode v.toNat = none → refused) ∧
            (∀ x, Category.ofCode v.toNat = some x →
              (c = .summitStop → clamps old 255) ∧
              (c.fixed = true →
                (x = c.defaultCategory → takes (put x)) ∧
                (x ≠ c.defaultCategory → clamps (put c.defaultCategory) (natWord c.defaultCategory.code))) ∧
              (c.fixed = false → c ≠ .summitStop →
                (c.minCategory.code ≤ x.code → takes (put x)) ∧
                (x.code < c.minCategory.code → clamps (put c.minCategory) (natWord c.minCategory.code))))) ∧
          (96 ≤ n → n ≤ 191 →
            let a := (n - 96) / 3
            let x := old.nodes.getD a NodeEntry.unused
            let put := fun y => { old with nodes := old.nodes.set a y }
            ((n - 96) % 3 = 0 →
              (∀ r, Role.ofCode (field v 0 8) = some r → takes (put { x with role := r, critical := bitOf v 8 })) ∧
              (Role.ofCode (field v 0 8) = none → refused)) ∧
            ((n - 96) % 3 = 1 →
              (bitOf v 0 = false → field v 28 4 = 0 → takes (put { x with kinds := v })) ∧
              (bitOf v 0 = true ∨ field v 28 4 ≠ 0 → refused)) ∧
            ((n - 96) % 3 = 2 → takes (put { x with dests := v }))) ∧
          (192 ≤ n → n ≤ 215 →
            let x : TowerEntry :=
              { node := field v 24 5, number := field v 16 8, trains := field v 13 3, interval := field v 0 13 }
            let legal :=
              1 ≤ x.node ∧ 1 ≤ x.number ∧ 1 ≤ x.trains ∧ x.trains ≤ 4 ∧ 100 ≤ x.interval ∧ x.interval ≤ 5000
            let put := fun y => { old with towers := old.towers.set (n - 192) y }
            (v = 0 → takes (put none)) ∧ (legal → takes (put (some x))) ∧ (v ≠ 0 → ¬legal → refused)) ∧
          (n = 30 ∨ n = 31 ∨ (80 ≤ n ∧ n ≤ 95) ∨ 216 ≤ n → refused)) ∧
        (entryGroup w = some .fleet ∨ entryGroup w = none →
          u.Replied e.frame .badEntry [] ∧ u.tst.safetyChanged = s.tst.safetyChanged ∧
            u.tst.stageSafety = s.tst.stageSafety)) ∧
    (∀ g, s.Requests .discardStage e rest → g = (e.frame.word 1).toNat →
      ∃ u, exec .discardStage s = .next u ∧ u.tst.safety = s.tst.safety ∧ u.tst.operations = s.tst.operations ∧
        (TableGroup.ofCode g = some .safety →
          u.Replied e.frame .ok [] ∧ u.tst.safetyChanged = false ∧
            u.tst.stageSafety = s.tst.safety.getD SafetyTables.default ∧
            u.tst.stageOperations = s.tst.stageOperations) ∧
        (TableGroup.ofCode g = some .operations →
          u.Replied e.frame .ok [] ∧ u.tst.operationsChanged = false ∧
            u.tst.stageOperations = s.tst.operations.getD OperationsTables.default ∧
            u.tst.stageSafety = s.tst.stageSafety) ∧
        (TableGroup.ofCode g = some .fleet ∨ TableGroup.ofCode g = none →
          u.Replied e.frame .badEntry [] ∧ u.tst.stageSafety = s.tst.stageSafety ∧
            u.tst.stageOperations = s.tst.stageOperations))

/-- COMMIT is judged by the first that applies: a group that has no commit is BAD_ENTRY, protection REFUSED_LOCKED, the
key not in MAINT REFUSED_KEY, a valid SAFETY group with motion not STOPPED REFUSED_MOTION, and a failed check
INCONSISTENT with its number. One that passes clears the stored group's flag and starts its write, or, where the
group is valid and its copy unchanged, is answered OK with no write (R187, R188, R189). That a write which clears the
park valid flag as part of its contents leaves the flag as it stands until its completion is the model's reading of the
order of R189 (log entry 31). -/
def Obligations.CommitPassesItsGates : Prop :=
  ∀ (s : State) (e : IngressEntry) (rest : List IngressEntry) (key : KeyPosition),
    s.Requests .commit e rest → s.rng.report.length < 32 → s.stc.gathered = [] →
    let g := TableGroup.ofCode (e.frame.word 1).toNat
    let refusal : Option Status :=
      if g = none ∨ g = some .fleet then some .badEntry
      else if s.store.protection = .locked ∨ s.tst.lockedToPowerCycle = true then some .refusedLocked
      else if key ≠ .maint then some .refusedKey
      else if g = some .safety ∧ s.tst.safety.isSome ∧ s.rpu.motion ≠ .stopped then some .refusedMotion
      else if g = some .safety then
        ([1, 2, 3, 4, 5, 6, 7].find? fun n => !s.tst.stageSafety.passes n).map Status.inconsistent
      else none
    let idle :=
      (g = some .safety ∧ s.tst.safety.isSome ∧ s.tst.safetyChanged = false) ∨
        (g = some .operations ∧ s.tst.operations.isSome ∧ s.tst.operationsChanged = false)
    ∃ u, exec (.commit key) s = .next u ∧ u.pins = { s.pins with key := key } ∧ u.tst.stageSafety = s.tst.stageSafety ∧
      u.tst.stageOperations = s.tst.stageOperations ∧
      (∀ x, refusal = some x → u.Replied e.frame x [] ∧ u.tst.write = none ∧ u.store = s.store) ∧
      (refusal = none → idle → u.Replied e.frame .ok [] ∧ u.tst.write = none ∧ u.store = s.store) ∧
      (refusal = none → ¬idle → ∀ group, g = some group →
        u.tst.write = some { kind := .commit group, reply := some e.frame.replyTo } ∧
          (group = .safety → u.store = { s.store with safety := none }) ∧
          (group = .operations → u.store = { s.store with operations := none }))

/-- A group commit completes: the staging copy is in force and in the store with its flag set, the changed flag is
clear, the store is IDLE, and the reply is OK. A SAFETY commit that changes L or S leaves the part UNREFERENCED,
empties the line lists into the unlocated set, rebuilds the slot table and clears the park record (R20, R39, R60,
R186, R189). -/
def Obligations.CommitComesIntoForce : Prop :=
  ∀ (s : State) (r : ReplyTo) (g : TableGroup),
    s.pins.held = false → s.tst.write = some { kind := .commit g, reply := some r } → s.tst.invalidationQueued = false →
    s.rng.report.length < 16 →
    (g = .operations →
      ∃ u, exec .commitWriteComplete s = .next u ∧ u.tst.operations = some s.tst.stageOperations ∧
        u.store.operations = some s.tst.stageOperations ∧ u.tst.stageOperations = s.tst.stageOperations ∧
        u.tst.operationsChanged = false ∧ u.tst.write = none ∧ mgmtReply r .ok [] false ∈ u.rng.report ∧
        u.tst.safety = s.tst.safety) ∧
    (g = .safety →
      ∃ u, exec .commitWriteComplete s = .next u ∧ u.tst.safety = some s.tst.stageSafety ∧
        u.store.safety = some s.tst.stageSafety ∧ u.tst.stageSafety = s.tst.stageSafety ∧
        u.tst.safetyChanged = false ∧ u.tst.write = none ∧ u.tst.operations = s.tst.operations ∧
        mgmtReply r .ok [] false ∈ u.rng.report ∧
        (∀ t, s.tst.safety = some t → (t.L ≠ s.tst.stageSafety.L ∨ t.S ≠ s.tst.stageSafety.S) →
          (∀ y ∈ s.ctr.uphill, (s.reg y.cabin).location = .uphill) →
          (∀ y ∈ s.ctr.downhill, (s.reg y.cabin).location = .downhill) →
          u.rpu.referenced = false ∧ u.ctr.uphill = [] ∧ u.ctr.downhill = [] ∧
            (∀ y ∈ s.ctr.uphill, y.cabin ∈ u.ctr.unlocated) ∧ (∀ y ∈ s.ctr.downhill, y.cabin ∈ u.ctr.unlocated) ∧
            u.ctr.slots = List.replicate s.tst.stageSafety.N .empty ∧ u.store.park = none) ∧
        (∀ t, s.tst.safety = some t → t.L = s.tst.stageSafety.L → t.S = s.tst.stageSafety.S →
          u.rpu.referenced = s.rpu.referenced ∧ u.store.park = s.store.park))

/-- WRITE_FLEET_ENTRY is judged against the entry as it stands and applied where it passes: a wrong field is BAD_ENTRY,
a new ID for a cabin in service, an ID in service elsewhere, and the retirement of a cabin that stands where none
may leave are NOT_ALLOWED; a cabin set in service joins the unlocated set with its flags clear, and one that is
retired there leaves it. The write clears the group's flag, and its completion stores the 128 entries in force,
clears the park record and is answered OK (R189, R190). That the park record stands until the completion is the model's
reading of the order of R189 (log entry 31). -/
def Obligations.FleetEntryIsWritten : Prop :=
  (∀ (s : State) (e : IngressEntry) (rest : List IngressEntry) (i : Nat) (x old : FleetStatic),
    s.Requests .writeFleetEntry e rest → i = (e.frame.word 1).toNat → x = staticOfWord (e.frame.word 2) →
    old = (s.reg i).stat → s.rng.report.length < 32 → s.stc.gathered = [] → s.registry.length = 128 →
    (128 ≤ i ∨ x.id = 0 →
      ∃ u, exec .writeFleetEntry s = .next u ∧ u.Replied e.frame .badEntry [] ∧ u.registry = s.registry ∧
        u.tst.write = none ∧ u.store = s.store) ∧
    (i < 128 → x.id ≠ 0 →
      (old.inService = true ∧ old.id ≠ x.id) ∨
        (x.inService = true ∧ ∃ j, j < 128 ∧ j ≠ i ∧ (s.reg j).stat.inService = true ∧ (s.reg j).stat.id = x.id) ∨
        (old.inService = true ∧ x.inService = false ∧ (s.reg i).location ∈ [.uphill, .downhill, .summit]) →
      ∃ u, exec .writeFleetEntry s = .next u ∧ u.Replied e.frame .notAllowed [] ∧ u.registry = s.registry ∧
        u.tst.write = none ∧ u.store = s.store) ∧
    (i < 128 → x.id ≠ 0 → old.inService = true ∨ x.inService = true → (old.inService = true → old.id = x.id) →
      (∀ j, j < 128 → j ≠ i → (s.reg j).stat.inService = true → (s.reg j).stat.id ≠ x.id) →
      (x.inService = false → (s.reg i).location = .unlocated) →
      ∃ u, exec .writeFleetEntry s = .next u ∧ (u.reg i).stat = x ∧
        u.tst.write = some { kind := .fleet i, reply := some e.frame.replyTo } ∧
        u.store = { s.store with fleet := none } ∧ (∀ j, j ≠ i → u.reg j = s.reg j) ∧
        (old.inService = true → x.inService = true → (u.reg i) = { s.reg i with stat := x }) ∧
        (old.inService = false →
          (u.reg i).location = .unlocated ∧ (u.reg i).door = .unknown ∧ (u.reg i).verdict = .untested ∧
            (u.reg i).force = none ∧ (u.reg i).garageNext = false ∧ (u.reg i).holdOpen = false ∧
            (u.reg i).overdue = false ∧ (u.reg i).idAssumed = false ∧ (u.reg i).attachErr = none ∧
            i ∈ u.ctr.unlocated) ∧
        (x.inService = false → (u.reg i).location = .outOfService ∧ i ∉ u.ctr.unlocated))) ∧
  (∀ (s : State) (r : ReplyTo) (i : Nat),
    s.pins.held = false → s.tst.write = some { kind := .fleet i, reply := some r } → s.tst.invalidationQueued = false →
    s.rng.report.length < 16 →
    ∃ u, exec .fleetWriteComplete s = .next u ∧
      u.store = { s.store with fleet := some (s.registry.map RegEntry.stat), park := none } ∧
      u.tst.fleetValid = true ∧ u.tst.write = none ∧ mgmtReply r .ok [] false ∈ u.rng.report)

/-- SET_PROTECTION follows its table: LOCKED begins its write; UNLOCKED is REFUSED_LOCKED with LOCKED_TO_POWER_CYCLE
set, REFUSED_KEY with the key not in MAINT, and otherwise begins its write; LOCKED_TO_POWER_CYCLE sets the flag at
once with no write. The completion stores the mode and answers OK (R187, R189). That the stored mode reads its old value
while its write is in flight is the model's reading of "written in place" (log entry 31). -/
def Obligations.ProtectionIsWritten : Prop :=
  (∀ (s : State) (e : IngressEntry) (rest : List IngressEntry) (key : KeyPosition),
    s.Requests .setProtection e rest → s.rng.report.length < 32 → s.stc.gathered = [] →
    ∃ u, exec (.setProtection key) s = .next u ∧ u.store = s.store ∧
      ((e.frame.word 1).toNat = 1 →
        u.tst.write = some { kind := .protection .locked, reply := some e.frame.replyTo } ∧
          u.tst.lockedToPowerCycle = s.tst.lockedToPowerCycle) ∧
      ((e.frame.word 1).toNat = 0 →
        u.tst.lockedToPowerCycle = s.tst.lockedToPowerCycle ∧
          (s.tst.lockedToPowerCycle = true → u.Replied e.frame .refusedLocked [] ∧ u.tst.write = none) ∧
          (s.tst.lockedToPowerCycle = false → key ≠ .maint → u.Replied e.frame .refusedKey [] ∧ u.tst.write = none) ∧
          (s.tst.lockedToPowerCycle = false → key = .maint →
            u.tst.write = some { kind := .protection .unlocked, reply := some e.frame.replyTo })) ∧
      ((e.frame.word 1).toNat = 2 →
        u.Replied e.frame .ok [] ∧ u.tst.lockedToPowerCycle = true ∧ u.tst.write = none)) ∧
  (∀ (s : State) (m : ProtectionMode) (r : ReplyTo),
    s.pins.held = false → s.tst.write = some { kind := .protection m, reply := some r } →
    s.tst.invalidationQueued = false → s.rng.report.length < 32 →
    ∃ u, exec .protectionWriteComplete s = .next u ∧ u.store = { s.store with protection := m } ∧ u.tst.write = none ∧
      mgmtReply r .ok [] false ∈ u.rng.report)

/-- PARK with motion not STOPPED is REFUSED_MOTION, with the SAFETY or the FLEET group invalid NOT_ALLOWED, and
otherwise takes its snapshot, clears the park flag and begins its write (R191). The completion of a fresh snapshot
makes it the park record and is answered OK, that of a stale one leaves the flag clear, is NOT_ALLOWED and is
reported (R191); a queued invalidation begins at once where the flag then stands, and clears it before anything else
(R189). -/
def Obligations.ParkIsWritten : Prop :=
  (∀ (s : State) (e : IngressEntry) (rest : List IngressEntry),
    s.Requests .park e rest → s.rng.report.length < 32 → s.stc.gathered = [] →
    ∃ u, exec .park s = .next u ∧
      (s.rpu.motion ≠ .stopped → u.Replied e.frame .refusedMotion [] ∧ u.tst.write = none ∧ u.store = s.store) ∧
      (s.rpu.motion = .stopped → s.tst.safety = none ∨ s.tst.fleetValid = false →
        u.Replied e.frame .notAllowed [] ∧ u.tst.write = none ∧ u.store = s.store) ∧
      (∀ t, s.rpu.motion = .stopped → s.tst.safety = some t → s.tst.fleetValid = true →
        u.tst.write = some { kind := .park (s.snapshot t) false, reply := some e.frame.replyTo } ∧
          u.store = { s.store with park := none })) ∧
  (∀ (s : State) (p : ParkRecord) (r : ReplyTo) (stale : Bool),
    s.pins.held = false → s.tst.write = some { kind := .park p stale, reply := some r } → s.rng.report.length < 15 →
    (stale = false →
      ∃ u, exec .parkWriteComplete s = .next u ∧
        u.store = { s.store with park := if s.tst.invalidationQueued then none else some p } ∧
        mgmtReply r .ok [] false ∈ u.rng.report ∧ u.tst.invalidationQueued = false ∧
        u.tst.write =
          (if s.tst.invalidationQueued then some { kind := .invalidation, reply := none } else none)) ∧
    (stale = true → s.store.park = none → s.tst.events = [] → s.eventMask ≠ 0 → s.stc.gathered = [] →
      ∃ u, exec .parkWriteComplete s = .next u ∧ u.store = s.store ∧ mgmtReply r .notAllowed [] false ∈ u.rng.report ∧
        u.Reported .parkStale [] ∧ u.tst.write = none)) ∧
  (∀ (s : State) (r : Option ReplyTo),
    s.pins.held = false → s.tst.write = some { kind := .invalidation, reply := r } →
    ∃ u, exec .invalidationWriteComplete s = .next u ∧ u.store = { s.store with park := none } ∧ u.tst.write = none)

/-- RESTART is REFUSED_MOTION while motion is not STOPPED, REFUSED_KEY while the key is not in MAINT, and otherwise
offers its reply and waits 100 ms; the reset begins at the expiry of that time, or where a free slot takes the
reply: the counter starts again, every group is loaded, a valid park record is restored as at a power-on reset, and
LOCKED_TO_POWER_CYCLE keeps its value (R19, R38, R59, R87, R112, R187, R192). -/
def Obligations.RestartWaitsForItsReply : Prop :=
  (∀ (s : State) (e : IngressEntry) (rest : List IngressEntry) (key : KeyPosition),
    s.Requests .restart e rest → s.rng.report.length < 32 →
    ∃ u, exec (.restart key) s = .next u ∧ u.tmb = s.tmb ∧
      (s.rpu.motion ≠ .stopped → u.Replied e.frame .refusedMotion [] ∧ u.tst.restart = none) ∧
      (s.rpu.motion = .stopped → key ≠ .maint → u.Replied e.frame .refusedKey [] ∧ u.tst.restart = none) ∧
      (s.rpu.motion = .stopped → key = .maint →
        u.tst.restart = some (s.after 100) ∧ mgmtReply e.frame.replyTo .ok [] true ∈ u.rng.report)) ∧
  (∀ (s : State) (c : Instr) (n : Fin 8) (f : EgressFrame) (q : List EgressFrame),
    s.pins.held = false → s.tst.restart.isSome = true →
    (c = .restartOfferTimeout ∧ s.expired s.tst.restart = true) ∨
      (c = .ringSlotPass n 0 0 [] ∧ s.rng.purge.getD n false = false ∧ s.rng.slotRecords.getD n none = none ∧
        s.rng.control = [] ∧ s.rng.voice = [] ∧ s.rng.poll = [] ∧ s.rng.report = f :: q ∧ f.kind = .mgmtReply ∧
        f.restartReply = true) →
    ∃ u, exec c s = .next u ∧ u.tst.restart = none ∧ u.tst.lockedToPowerCycle = s.tst.lockedToPowerCycle ∧
      u.tst.safety = s.store.safety ∧ u.tst.operations = s.store.operations ∧
      u.tst.fleetValid = s.store.fleet.isSome ∧ u.rng.ingress = [] ∧ u.pins = s.pins ∧ u.broughtUpFrom s.store ∧
      u.tmb = { counter := 0, selection := .reference, lastWindow := none, switches := 0 })

/-- READ_STATUS is answered during a store write too, and clears the two dropped flags that it reports; READ_ENTRY gives
an entry of a staging copy or of the group in force; READ_COLLECTION gives a page of the collection its code names,
with its total and its change count; and a request of no known kind is BAD_ENTRY, one of a wrong length counted with
no reply (R180, R185). While a store write is in flight every request but READ_STATUS is answered BUSY, reaches no
block and changes nothing of the cabins, the tables or the store (R185). BAD_ENTRY for an entry number that names
none, FLEET entries read whether or not FLEET is valid, and the row that takes a request of a wrong length are the
model's choices (log entries 19 and 12). -/
def Obligations.RequestsAreReadOrBusy : Prop :=
  (∀ (s : State) (e : IngressEntry) (rest : List IngressEntry),
     s.tst.restart = none → s.rng.report.length < 32 → s.stc.gathered = [] →
     (∀ key, s.Delivers .readStatus e rest →
       ∃ (u : State) (data : List Word), exec (.readStatus key) s = .next u ∧ data.length ≤ 11 ∧
         u.Replied e.frame .ok data ∧ u.tst.eventDropped = false ∧ u.rng.reportDropped = false ∧
         u.tst.write = s.tst.write ∧ u.pins = { s.pins with key := key }) ∧
     (∀ n, s.Delivers .readEntry e rest → s.tst.write = none → n = entryNumber (e.frame.word 1) →
       ∃ u, exec .readEntry s = .next u ∧
         (entryGroup (e.frame.word 1) = some .safety → bitOf (e.frame.word 1) 23 = true →
           (∀ ws, s.tst.stageSafety.entryWords n = some ws → u.Replied e.frame .ok ws) ∧
             (s.tst.stageSafety.entryWords n = none → u.Replied e.frame .badEntry [])) ∧
         (∀ t ws, entryGroup (e.frame.word 1) = some .safety → bitOf (e.frame.word 1) 23 = false →
           s.tst.safety = some t → t.entryWords n = some ws → u.Replied e.frame .ok ws) ∧
         (entryGroup (e.frame.word 1) = some .fleet → bitOf (e.frame.word 1) 23 = false → n < s.registry.length →
           u.Replied e.frame .ok (staticWord (s.reg n).stat :: dynamicWords (s.reg n)))) ∧
     (s.Delivers .readCollection e rest → s.tst.write = none →
       ∃ u, exec .readCollection s = .next u ∧
         match Config.collectionOfCode (field (e.frame.word 1) 24 8) with
         | none => u.Replied e.frame .badEntry []
         | some c =>
           u.Replied e.frame .ok
             ((Config.pageWords c (s.page c).length (s.tst.changeCounts.getD c.num 0)
               ((s.page c).drop (field (e.frame.word 1) 0 16))).take 11)) ∧
     (s.Delivers .unknownRequest e rest →
       ∃ u, exec .mgmtRequestUnknownKind s = .next u ∧
         (requestMalformed e.frame = true →
           u.tst.malformedRequests = satInc s.tst.malformedRequests ∧ u.rng.report = s.rng.report) ∧
         (requestMalformed e.frame = false → u.Replied e.frame .badEntry []))) ∧
  (∀ (s : State) (e : IngressEntry) (rest : List IngressEntry) (key : KeyPosition) (c : Instr) (row : Row),
     s.Delivers row e rest → s.tst.restart = none → s.tst.write.isSome = true → s.rng.report.length < 32 →
     s.stc.gathered = [] →
     (c, row) ∈
       [(Instr.readEntry, Row.readEntry), (.readCollection, .readCollection), (.stageEntry, .stageEntry),
         (.discardStage, .discardStage), (.commit key, .commit), (.writeFleetEntry, .writeFleetEntry),
         (.setProtection key, .setProtection), (.park, .park), (.restart key, .restart),
         (.resetCauses key, .resetCauses), (.setDoorMode, .setDoorMode), (.holdOpen, .holdOpen),
         (.releaseHold, .releaseHold), (.doorRetry, .doorRetry), (.garageNext, .garageNext),
         (.garageRelease, .garageRelease), (.removeCabin, .removeCabin), (.locateCabin, .locateCabin),
         (.linkRestart, .linkRestart), (.call, .call), (.answer, .answer), (.hangUp, .hangUp)] →
     ∃ u, exec c s = .next u ∧ u.Replied e.frame .busy [] ∧ u.registry = s.registry ∧ u.ctr = s.ctr ∧ u.dsq = s.dsq ∧
       u.icm = s.icm ∧ u.stc = s.stc ∧ u.store = s.store ∧ u.tst.write = s.tst.write ∧
       u.tst.stageSafety = s.tst.stageSafety ∧ u.tst.safety = s.tst.safety ∧ u.tst.restart = none)
end

