-- ==== Sys2Proof/Laws/State.lean ====
section
/-!
SUPPORT. What each block update leaves in each field of the state: one lemma per field per update.
-/

namespace Sys2Proof.Machine

variable (s : State)

/-! ## `setPending` -/

@[simp] theorem State.setPending_pending (x : List Instr) : (s.setPending x).pending = x := rfl
@[simp] theorem State.setPending_pins (x : List Instr) : (s.setPending x).pins = s.pins := rfl
@[simp] theorem State.setPending_registry (x : List Instr) : (s.setPending x).registry = s.registry := rfl
@[simp] theorem State.setPending_rpu (x : List Instr) : (s.setPending x).rpu = s.rpu := rfl
@[simp] theorem State.setPending_lgt (x : List Instr) : (s.setPending x).lgt = s.lgt := rfl
@[simp] theorem State.setPending_ctr (x : List Instr) : (s.setPending x).ctr = s.ctr := rfl
@[simp] theorem State.setPending_dsq (x : List Instr) : (s.setPending x).dsq = s.dsq := rfl
@[simp] theorem State.setPending_rmn (x : List Instr) : (s.setPending x).rmn = s.rmn := rfl
@[simp] theorem State.setPending_slk (x : List Instr) : (s.setPending x).slk = s.slk := rfl
@[simp] theorem State.setPending_icm (x : List Instr) : (s.setPending x).icm = s.icm := rfl
@[simp] theorem State.setPending_stc (x : List Instr) : (s.setPending x).stc = s.stc := rfl
@[simp] theorem State.setPending_rng (x : List Instr) : (s.setPending x).rng = s.rng := rfl
@[simp] theorem State.setPending_tst (x : List Instr) : (s.setPending x).tst = s.tst := rfl
@[simp] theorem State.setPending_tmb (x : List Instr) : (s.setPending x).tmb = s.tmb := rfl
@[simp] theorem State.setPending_store (x : List Instr) : (s.setPending x).store = s.store := rfl
@[simp] theorem State.setPending_free (x : List Instr) : (s.setPending x).free = s.free := rfl

/-! ## `setPins` -/

@[simp] theorem State.setPins_pending (x : Pins) : (s.setPins x).pending = s.pending := rfl
@[simp] theorem State.setPins_pins (x : Pins) : (s.setPins x).pins = x := rfl
@[simp] theorem State.setPins_registry (x : Pins) : (s.setPins x).registry = s.registry := rfl
@[simp] theorem State.setPins_rpu (x : Pins) : (s.setPins x).rpu = s.rpu := rfl
@[simp] theorem State.setPins_lgt (x : Pins) : (s.setPins x).lgt = s.lgt := rfl
@[simp] theorem State.setPins_ctr (x : Pins) : (s.setPins x).ctr = s.ctr := rfl
@[simp] theorem State.setPins_dsq (x : Pins) : (s.setPins x).dsq = s.dsq := rfl
@[simp] theorem State.setPins_rmn (x : Pins) : (s.setPins x).rmn = s.rmn := rfl
@[simp] theorem State.setPins_slk (x : Pins) : (s.setPins x).slk = s.slk := rfl
@[simp] theorem State.setPins_icm (x : Pins) : (s.setPins x).icm = s.icm := rfl
@[simp] theorem State.setPins_stc (x : Pins) : (s.setPins x).stc = s.stc := rfl
@[simp] theorem State.setPins_rng (x : Pins) : (s.setPins x).rng = s.rng := rfl
@[simp] theorem State.setPins_tst (x : Pins) : (s.setPins x).tst = s.tst := rfl
@[simp] theorem State.setPins_tmb (x : Pins) : (s.setPins x).tmb = s.tmb := rfl
@[simp] theorem State.setPins_store (x : Pins) : (s.setPins x).store = s.store := rfl
@[simp] theorem State.setPins_free (x : Pins) : (s.setPins x).free = s.free := rfl

/-! ## `setRegistry` -/

@[simp] theorem State.setRegistry_pending (x : List RegEntry) : (s.setRegistry x).pending = s.pending := rfl
@[simp] theorem State.setRegistry_pins (x : List RegEntry) : (s.setRegistry x).pins = s.pins := rfl
@[simp] theorem State.setRegistry_registry (x : List RegEntry) : (s.setRegistry x).registry = x := rfl
@[simp] theorem State.setRegistry_rpu (x : List RegEntry) : (s.setRegistry x).rpu = s.rpu := rfl
@[simp] theorem State.setRegistry_lgt (x : List RegEntry) : (s.setRegistry x).lgt = s.lgt := rfl
@[simp] theorem State.setRegistry_ctr (x : List RegEntry) : (s.setRegistry x).ctr = s.ctr := rfl
@[simp] theorem State.setRegistry_dsq (x : List RegEntry) : (s.setRegistry x).dsq = s.dsq := rfl
@[simp] theorem State.setRegistry_rmn (x : List RegEntry) : (s.setRegistry x).rmn = s.rmn := rfl
@[simp] theorem State.setRegistry_slk (x : List RegEntry) : (s.setRegistry x).slk = s.slk := rfl
@[simp] theorem State.setRegistry_icm (x : List RegEntry) : (s.setRegistry x).icm = s.icm := rfl
@[simp] theorem State.setRegistry_stc (x : List RegEntry) : (s.setRegistry x).stc = s.stc := rfl
@[simp] theorem State.setRegistry_rng (x : List RegEntry) : (s.setRegistry x).rng = s.rng := rfl
@[simp] theorem State.setRegistry_tst (x : List RegEntry) : (s.setRegistry x).tst = s.tst := rfl
@[simp] theorem State.setRegistry_tmb (x : List RegEntry) : (s.setRegistry x).tmb = s.tmb := rfl
@[simp] theorem State.setRegistry_store (x : List RegEntry) : (s.setRegistry x).store = s.store := rfl
@[simp] theorem State.setRegistry_free (x : List RegEntry) : (s.setRegistry x).free = s.free := rfl

/-! ## `setRpu` -/

@[simp] theorem State.setRpu_pending (x : Rpu) : (s.setRpu x).pending = s.pending := rfl
@[simp] theorem State.setRpu_pins (x : Rpu) : (s.setRpu x).pins = s.pins := rfl
@[simp] theorem State.setRpu_registry (x : Rpu) : (s.setRpu x).registry = s.registry := rfl
@[simp] theorem State.setRpu_rpu (x : Rpu) : (s.setRpu x).rpu = x := rfl
@[simp] theorem State.setRpu_lgt (x : Rpu) : (s.setRpu x).lgt = s.lgt := rfl
@[simp] theorem State.setRpu_ctr (x : Rpu) : (s.setRpu x).ctr = s.ctr := rfl
@[simp] theorem State.setRpu_dsq (x : Rpu) : (s.setRpu x).dsq = s.dsq := rfl
@[simp] theorem State.setRpu_rmn (x : Rpu) : (s.setRpu x).rmn = s.rmn := rfl
@[simp] theorem State.setRpu_slk (x : Rpu) : (s.setRpu x).slk = s.slk := rfl
@[simp] theorem State.setRpu_icm (x : Rpu) : (s.setRpu x).icm = s.icm := rfl
@[simp] theorem State.setRpu_stc (x : Rpu) : (s.setRpu x).stc = s.stc := rfl
@[simp] theorem State.setRpu_rng (x : Rpu) : (s.setRpu x).rng = s.rng := rfl
@[simp] theorem State.setRpu_tst (x : Rpu) : (s.setRpu x).tst = s.tst := rfl
@[simp] theorem State.setRpu_tmb (x : Rpu) : (s.setRpu x).tmb = s.tmb := rfl
@[simp] theorem State.setRpu_store (x : Rpu) : (s.setRpu x).store = s.store := rfl
@[simp] theorem State.setRpu_free (x : Rpu) : (s.setRpu x).free = s.free := rfl

/-! ## `setLgt` -/

@[simp] theorem State.setLgt_pending (x : Lgt) : (s.setLgt x).pending = s.pending := rfl
@[simp] theorem State.setLgt_pins (x : Lgt) : (s.setLgt x).pins = s.pins := rfl
@[simp] theorem State.setLgt_registry (x : Lgt) : (s.setLgt x).registry = s.registry := rfl
@[simp] theorem State.setLgt_rpu (x : Lgt) : (s.setLgt x).rpu = s.rpu := rfl
@[simp] theorem State.setLgt_lgt (x : Lgt) : (s.setLgt x).lgt = x := rfl
@[simp] theorem State.setLgt_ctr (x : Lgt) : (s.setLgt x).ctr = s.ctr := rfl
@[simp] theorem State.setLgt_dsq (x : Lgt) : (s.setLgt x).dsq = s.dsq := rfl
@[simp] theorem State.setLgt_rmn (x : Lgt) : (s.setLgt x).rmn = s.rmn := rfl
@[simp] theorem State.setLgt_slk (x : Lgt) : (s.setLgt x).slk = s.slk := rfl
@[simp] theorem State.setLgt_icm (x : Lgt) : (s.setLgt x).icm = s.icm := rfl
@[simp] theorem State.setLgt_stc (x : Lgt) : (s.setLgt x).stc = s.stc := rfl
@[simp] theorem State.setLgt_rng (x : Lgt) : (s.setLgt x).rng = s.rng := rfl
@[simp] theorem State.setLgt_tst (x : Lgt) : (s.setLgt x).tst = s.tst := rfl
@[simp] theorem State.setLgt_tmb (x : Lgt) : (s.setLgt x).tmb = s.tmb := rfl
@[simp] theorem State.setLgt_store (x : Lgt) : (s.setLgt x).store = s.store := rfl
@[simp] theorem State.setLgt_free (x : Lgt) : (s.setLgt x).free = s.free := rfl

/-! ## `setCtr` -/

@[simp] theorem State.setCtr_pending (x : Ctr) : (s.setCtr x).pending = s.pending := rfl
@[simp] theorem State.setCtr_pins (x : Ctr) : (s.setCtr x).pins = s.pins := rfl
@[simp] theorem State.setCtr_registry (x : Ctr) : (s.setCtr x).registry = s.registry := rfl
@[simp] theorem State.setCtr_rpu (x : Ctr) : (s.setCtr x).rpu = s.rpu := rfl
@[simp] theorem State.setCtr_lgt (x : Ctr) : (s.setCtr x).lgt = s.lgt := rfl
@[simp] theorem State.setCtr_ctr (x : Ctr) : (s.setCtr x).ctr = x := rfl
@[simp] theorem State.setCtr_dsq (x : Ctr) : (s.setCtr x).dsq = s.dsq := rfl
@[simp] theorem State.setCtr_rmn (x : Ctr) : (s.setCtr x).rmn = s.rmn := rfl
@[simp] theorem State.setCtr_slk (x : Ctr) : (s.setCtr x).slk = s.slk := rfl
@[simp] theorem State.setCtr_icm (x : Ctr) : (s.setCtr x).icm = s.icm := rfl
@[simp] theorem State.setCtr_stc (x : Ctr) : (s.setCtr x).stc = s.stc := rfl
@[simp] theorem State.setCtr_rng (x : Ctr) : (s.setCtr x).rng = s.rng := rfl
@[simp] theorem State.setCtr_tst (x : Ctr) : (s.setCtr x).tst = s.tst := rfl
@[simp] theorem State.setCtr_tmb (x : Ctr) : (s.setCtr x).tmb = s.tmb := rfl
@[simp] theorem State.setCtr_store (x : Ctr) : (s.setCtr x).store = s.store := rfl
@[simp] theorem State.setCtr_free (x : Ctr) : (s.setCtr x).free = s.free := rfl

/-! ## `setDsq` -/

@[simp] theorem State.setDsq_pending (x : Dsq) : (s.setDsq x).pending = s.pending := rfl
@[simp] theorem State.setDsq_pins (x : Dsq) : (s.setDsq x).pins = s.pins := rfl
@[simp] theorem State.setDsq_registry (x : Dsq) : (s.setDsq x).registry = s.registry := rfl
@[simp] theorem State.setDsq_rpu (x : Dsq) : (s.setDsq x).rpu = s.rpu := rfl
@[simp] theorem State.setDsq_lgt (x : Dsq) : (s.setDsq x).lgt = s.lgt := rfl
@[simp] theorem State.setDsq_ctr (x : Dsq) : (s.setDsq x).ctr = s.ctr := rfl
@[simp] theorem State.setDsq_dsq (x : Dsq) : (s.setDsq x).dsq = x := rfl
@[simp] theorem State.setDsq_rmn (x : Dsq) : (s.setDsq x).rmn = s.rmn := rfl
@[simp] theorem State.setDsq_slk (x : Dsq) : (s.setDsq x).slk = s.slk := rfl
@[simp] theorem State.setDsq_icm (x : Dsq) : (s.setDsq x).icm = s.icm := rfl
@[simp] theorem State.setDsq_stc (x : Dsq) : (s.setDsq x).stc = s.stc := rfl
@[simp] theorem State.setDsq_rng (x : Dsq) : (s.setDsq x).rng = s.rng := rfl
@[simp] theorem State.setDsq_tst (x : Dsq) : (s.setDsq x).tst = s.tst := rfl
@[simp] theorem State.setDsq_tmb (x : Dsq) : (s.setDsq x).tmb = s.tmb := rfl
@[simp] theorem State.setDsq_store (x : Dsq) : (s.setDsq x).store = s.store := rfl
@[simp] theorem State.setDsq_free (x : Dsq) : (s.setDsq x).free = s.free := rfl

/-! ## `setRmn` -/

@[simp] theorem State.setRmn_pending (x : Rmn) : (s.setRmn x).pending = s.pending := rfl
@[simp] theorem State.setRmn_pins (x : Rmn) : (s.setRmn x).pins = s.pins := rfl
@[simp] theorem State.setRmn_registry (x : Rmn) : (s.setRmn x).registry = s.registry := rfl
@[simp] theorem State.setRmn_rpu (x : Rmn) : (s.setRmn x).rpu = s.rpu := rfl
@[simp] theorem State.setRmn_lgt (x : Rmn) : (s.setRmn x).lgt = s.lgt := rfl
@[simp] theorem State.setRmn_ctr (x : Rmn) : (s.setRmn x).ctr = s.ctr := rfl
@[simp] theorem State.setRmn_dsq (x : Rmn) : (s.setRmn x).dsq = s.dsq := rfl
@[simp] theorem State.setRmn_rmn (x : Rmn) : (s.setRmn x).rmn = x := rfl
@[simp] theorem State.setRmn_slk (x : Rmn) : (s.setRmn x).slk = s.slk := rfl
@[simp] theorem State.setRmn_icm (x : Rmn) : (s.setRmn x).icm = s.icm := rfl
@[simp] theorem State.setRmn_stc (x : Rmn) : (s.setRmn x).stc = s.stc := rfl
@[simp] theorem State.setRmn_rng (x : Rmn) : (s.setRmn x).rng = s.rng := rfl
@[simp] theorem State.setRmn_tst (x : Rmn) : (s.setRmn x).tst = s.tst := rfl
@[simp] theorem State.setRmn_tmb (x : Rmn) : (s.setRmn x).tmb = s.tmb := rfl
@[simp] theorem State.setRmn_store (x : Rmn) : (s.setRmn x).store = s.store := rfl
@[simp] theorem State.setRmn_free (x : Rmn) : (s.setRmn x).free = s.free := rfl

/-! ## `setSlk` -/

@[simp] theorem State.setSlk_pending (x : Slk) : (s.setSlk x).pending = s.pending := rfl
@[simp] theorem State.setSlk_pins (x : Slk) : (s.setSlk x).pins = s.pins := rfl
@[simp] theorem State.setSlk_registry (x : Slk) : (s.setSlk x).registry = s.registry := rfl
@[simp] theorem State.setSlk_rpu (x : Slk) : (s.setSlk x).rpu = s.rpu := rfl
@[simp] theorem State.setSlk_lgt (x : Slk) : (s.setSlk x).lgt = s.lgt := rfl
@[simp] theorem State.setSlk_ctr (x : Slk) : (s.setSlk x).ctr = s.ctr := rfl
@[simp] theorem State.setSlk_dsq (x : Slk) : (s.setSlk x).dsq = s.dsq := rfl
@[simp] theorem State.setSlk_rmn (x : Slk) : (s.setSlk x).rmn = s.rmn := rfl
@[simp] theorem State.setSlk_slk (x : Slk) : (s.setSlk x).slk = x := rfl
@[simp] theorem State.setSlk_icm (x : Slk) : (s.setSlk x).icm = s.icm := rfl
@[simp] theorem State.setSlk_stc (x : Slk) : (s.setSlk x).stc = s.stc := rfl
@[simp] theorem State.setSlk_rng (x : Slk) : (s.setSlk x).rng = s.rng := rfl
@[simp] theorem State.setSlk_tst (x : Slk) : (s.setSlk x).tst = s.tst := rfl
@[simp] theorem State.setSlk_tmb (x : Slk) : (s.setSlk x).tmb = s.tmb := rfl
@[simp] theorem State.setSlk_store (x : Slk) : (s.setSlk x).store = s.store := rfl
@[simp] theorem State.setSlk_free (x : Slk) : (s.setSlk x).free = s.free := rfl

/-! ## `setIcm` -/

@[simp] theorem State.setIcm_pending (x : Icm) : (s.setIcm x).pending = s.pending := rfl
@[simp] theorem State.setIcm_pins (x : Icm) : (s.setIcm x).pins = s.pins := rfl
@[simp] theorem State.setIcm_registry (x : Icm) : (s.setIcm x).registry = s.registry := rfl
@[simp] theorem State.setIcm_rpu (x : Icm) : (s.setIcm x).rpu = s.rpu := rfl
@[simp] theorem State.setIcm_lgt (x : Icm) : (s.setIcm x).lgt = s.lgt := rfl
@[simp] theorem State.setIcm_ctr (x : Icm) : (s.setIcm x).ctr = s.ctr := rfl
@[simp] theorem State.setIcm_dsq (x : Icm) : (s.setIcm x).dsq = s.dsq := rfl
@[simp] theorem State.setIcm_rmn (x : Icm) : (s.setIcm x).rmn = s.rmn := rfl
@[simp] theorem State.setIcm_slk (x : Icm) : (s.setIcm x).slk = s.slk := rfl
@[simp] theorem State.setIcm_icm (x : Icm) : (s.setIcm x).icm = x := rfl
@[simp] theorem State.setIcm_stc (x : Icm) : (s.setIcm x).stc = s.stc := rfl
@[simp] theorem State.setIcm_rng (x : Icm) : (s.setIcm x).rng = s.rng := rfl
@[simp] theorem State.setIcm_tst (x : Icm) : (s.setIcm x).tst = s.tst := rfl
@[simp] theorem State.setIcm_tmb (x : Icm) : (s.setIcm x).tmb = s.tmb := rfl
@[simp] theorem State.setIcm_store (x : Icm) : (s.setIcm x).store = s.store := rfl
@[simp] theorem State.setIcm_free (x : Icm) : (s.setIcm x).free = s.free := rfl

/-! ## `setStc` -/

@[simp] theorem State.setStc_pending (x : Stc) : (s.setStc x).pending = s.pending := rfl
@[simp] theorem State.setStc_pins (x : Stc) : (s.setStc x).pins = s.pins := rfl
@[simp] theorem State.setStc_registry (x : Stc) : (s.setStc x).registry = s.registry := rfl
@[simp] theorem State.setStc_rpu (x : Stc) : (s.setStc x).rpu = s.rpu := rfl
@[simp] theorem State.setStc_lgt (x : Stc) : (s.setStc x).lgt = s.lgt := rfl
@[simp] theorem State.setStc_ctr (x : Stc) : (s.setStc x).ctr = s.ctr := rfl
@[simp] theorem State.setStc_dsq (x : Stc) : (s.setStc x).dsq = s.dsq := rfl
@[simp] theorem State.setStc_rmn (x : Stc) : (s.setStc x).rmn = s.rmn := rfl
@[simp] theorem State.setStc_slk (x : Stc) : (s.setStc x).slk = s.slk := rfl
@[simp] theorem State.setStc_icm (x : Stc) : (s.setStc x).icm = s.icm := rfl
@[simp] theorem State.setStc_stc (x : Stc) : (s.setStc x).stc = x := rfl
@[simp] theorem State.setStc_rng (x : Stc) : (s.setStc x).rng = s.rng := rfl
@[simp] theorem State.setStc_tst (x : Stc) : (s.setStc x).tst = s.tst := rfl
@[simp] theorem State.setStc_tmb (x : Stc) : (s.setStc x).tmb = s.tmb := rfl
@[simp] theorem State.setStc_store (x : Stc) : (s.setStc x).store = s.store := rfl
@[simp] theorem State.setStc_free (x : Stc) : (s.setStc x).free = s.free := rfl

/-! ## `setRng` -/

@[simp] theorem State.setRng_pending (x : Rng) : (s.setRng x).pending = s.pending := rfl
@[simp] theorem State.setRng_pins (x : Rng) : (s.setRng x).pins = s.pins := rfl
@[simp] theorem State.setRng_registry (x : Rng) : (s.setRng x).registry = s.registry := rfl
@[simp] theorem State.setRng_rpu (x : Rng) : (s.setRng x).rpu = s.rpu := rfl
@[simp] theorem State.setRng_lgt (x : Rng) : (s.setRng x).lgt = s.lgt := rfl
@[simp] theorem State.setRng_ctr (x : Rng) : (s.setRng x).ctr = s.ctr := rfl
@[simp] theorem State.setRng_dsq (x : Rng) : (s.setRng x).dsq = s.dsq := rfl
@[simp] theorem State.setRng_rmn (x : Rng) : (s.setRng x).rmn = s.rmn := rfl
@[simp] theorem State.setRng_slk (x : Rng) : (s.setRng x).slk = s.slk := rfl
@[simp] theorem State.setRng_icm (x : Rng) : (s.setRng x).icm = s.icm := rfl
@[simp] theorem State.setRng_stc (x : Rng) : (s.setRng x).stc = s.stc := rfl
@[simp] theorem State.setRng_rng (x : Rng) : (s.setRng x).rng = x := rfl
@[simp] theorem State.setRng_tst (x : Rng) : (s.setRng x).tst = s.tst := rfl
@[simp] theorem State.setRng_tmb (x : Rng) : (s.setRng x).tmb = s.tmb := rfl
@[simp] theorem State.setRng_store (x : Rng) : (s.setRng x).store = s.store := rfl
@[simp] theorem State.setRng_free (x : Rng) : (s.setRng x).free = s.free := rfl

/-! ## `setTst` -/

@[simp] theorem State.setTst_pending (x : Tst) : (s.setTst x).pending = s.pending := rfl
@[simp] theorem State.setTst_pins (x : Tst) : (s.setTst x).pins = s.pins := rfl
@[simp] theorem State.setTst_registry (x : Tst) : (s.setTst x).registry = s.registry := rfl
@[simp] theorem State.setTst_rpu (x : Tst) : (s.setTst x).rpu = s.rpu := rfl
@[simp] theorem State.setTst_lgt (x : Tst) : (s.setTst x).lgt = s.lgt := rfl
@[simp] theorem State.setTst_ctr (x : Tst) : (s.setTst x).ctr = s.ctr := rfl
@[simp] theorem State.setTst_dsq (x : Tst) : (s.setTst x).dsq = s.dsq := rfl
@[simp] theorem State.setTst_rmn (x : Tst) : (s.setTst x).rmn = s.rmn := rfl
@[simp] theorem State.setTst_slk (x : Tst) : (s.setTst x).slk = s.slk := rfl
@[simp] theorem State.setTst_icm (x : Tst) : (s.setTst x).icm = s.icm := rfl
@[simp] theorem State.setTst_stc (x : Tst) : (s.setTst x).stc = s.stc := rfl
@[simp] theorem State.setTst_rng (x : Tst) : (s.setTst x).rng = s.rng := rfl
@[simp] theorem State.setTst_tst (x : Tst) : (s.setTst x).tst = x := rfl
@[simp] theorem State.setTst_tmb (x : Tst) : (s.setTst x).tmb = s.tmb := rfl
@[simp] theorem State.setTst_store (x : Tst) : (s.setTst x).store = s.store := rfl
@[simp] theorem State.setTst_free (x : Tst) : (s.setTst x).free = s.free := rfl

/-! ## `setTmb` -/

@[simp] theorem State.setTmb_pending (x : Tmb) : (s.setTmb x).pending = s.pending := rfl
@[simp] theorem State.setTmb_pins (x : Tmb) : (s.setTmb x).pins = s.pins := rfl
@[simp] theorem State.setTmb_registry (x : Tmb) : (s.setTmb x).registry = s.registry := rfl
@[simp] theorem State.setTmb_rpu (x : Tmb) : (s.setTmb x).rpu = s.rpu := rfl
@[simp] theorem State.setTmb_lgt (x : Tmb) : (s.setTmb x).lgt = s.lgt := rfl
@[simp] theorem State.setTmb_ctr (x : Tmb) : (s.setTmb x).ctr = s.ctr := rfl
@[simp] theorem State.setTmb_dsq (x : Tmb) : (s.setTmb x).dsq = s.dsq := rfl
@[simp] theorem State.setTmb_rmn (x : Tmb) : (s.setTmb x).rmn = s.rmn := rfl
@[simp] theorem State.setTmb_slk (x : Tmb) : (s.setTmb x).slk = s.slk := rfl
@[simp] theorem State.setTmb_icm (x : Tmb) : (s.setTmb x).icm = s.icm := rfl
@[simp] theorem State.setTmb_stc (x : Tmb) : (s.setTmb x).stc = s.stc := rfl
@[simp] theorem State.setTmb_rng (x : Tmb) : (s.setTmb x).rng = s.rng := rfl
@[simp] theorem State.setTmb_tst (x : Tmb) : (s.setTmb x).tst = s.tst := rfl
@[simp] theorem State.setTmb_tmb (x : Tmb) : (s.setTmb x).tmb = x := rfl
@[simp] theorem State.setTmb_store (x : Tmb) : (s.setTmb x).store = s.store := rfl
@[simp] theorem State.setTmb_free (x : Tmb) : (s.setTmb x).free = s.free := rfl

/-! ## `setStore` -/

@[simp] theorem State.setStore_pending (x : Store) : (s.setStore x).pending = s.pending := rfl
@[simp] theorem State.setStore_pins (x : Store) : (s.setStore x).pins = s.pins := rfl
@[simp] theorem State.setStore_registry (x : Store) : (s.setStore x).registry = s.registry := rfl
@[simp] theorem State.setStore_rpu (x : Store) : (s.setStore x).rpu = s.rpu := rfl
@[simp] theorem State.setStore_lgt (x : Store) : (s.setStore x).lgt = s.lgt := rfl
@[simp] theorem State.setStore_ctr (x : Store) : (s.setStore x).ctr = s.ctr := rfl
@[simp] theorem State.setStore_dsq (x : Store) : (s.setStore x).dsq = s.dsq := rfl
@[simp] theorem State.setStore_rmn (x : Store) : (s.setStore x).rmn = s.rmn := rfl
@[simp] theorem State.setStore_slk (x : Store) : (s.setStore x).slk = s.slk := rfl
@[simp] theorem State.setStore_icm (x : Store) : (s.setStore x).icm = s.icm := rfl
@[simp] theorem State.setStore_stc (x : Store) : (s.setStore x).stc = s.stc := rfl
@[simp] theorem State.setStore_rng (x : Store) : (s.setStore x).rng = s.rng := rfl
@[simp] theorem State.setStore_tst (x : Store) : (s.setStore x).tst = s.tst := rfl
@[simp] theorem State.setStore_tmb (x : Store) : (s.setStore x).tmb = s.tmb := rfl
@[simp] theorem State.setStore_store (x : Store) : (s.setStore x).store = x := rfl
@[simp] theorem State.setStore_free (x : Store) : (s.setStore x).free = s.free := rfl

/-! ## `setFree` -/

@[simp] theorem State.setFree_pending (x : Nat) : (s.setFree x).pending = s.pending := rfl
@[simp] theorem State.setFree_pins (x : Nat) : (s.setFree x).pins = s.pins := rfl
@[simp] theorem State.setFree_registry (x : Nat) : (s.setFree x).registry = s.registry := rfl
@[simp] theorem State.setFree_rpu (x : Nat) : (s.setFree x).rpu = s.rpu := rfl
@[simp] theorem State.setFree_lgt (x : Nat) : (s.setFree x).lgt = s.lgt := rfl
@[simp] theorem State.setFree_ctr (x : Nat) : (s.setFree x).ctr = s.ctr := rfl
@[simp] theorem State.setFree_dsq (x : Nat) : (s.setFree x).dsq = s.dsq := rfl
@[simp] theorem State.setFree_rmn (x : Nat) : (s.setFree x).rmn = s.rmn := rfl
@[simp] theorem State.setFree_slk (x : Nat) : (s.setFree x).slk = s.slk := rfl
@[simp] theorem State.setFree_icm (x : Nat) : (s.setFree x).icm = s.icm := rfl
@[simp] theorem State.setFree_stc (x : Nat) : (s.setFree x).stc = s.stc := rfl
@[simp] theorem State.setFree_rng (x : Nat) : (s.setFree x).rng = s.rng := rfl
@[simp] theorem State.setFree_tst (x : Nat) : (s.setFree x).tst = s.tst := rfl
@[simp] theorem State.setFree_tmb (x : Nat) : (s.setFree x).tmb = s.tmb := rfl
@[simp] theorem State.setFree_store (x : Nat) : (s.setFree x).store = s.store := rfl
@[simp] theorem State.setFree_free (x : Nat) : (s.setFree x).free = x := rfl

end Sys2Proof.Machine
end

