-- ==== Sys2Proof/Laws/Frame.lean ====
section
/-!
SUPPORT. What an operation may touch, and what it keeps: one relation, one law per setter, for the laws of every
operation above them.
-/

namespace Sys2Proof.Machine

set_option linter.unusedTactic false

/-- The number of a part: its bit in a mask. -/
def Part.num : Part → Nat
  | .pending => 0
  | .pins => 1
  | .registry => 2
  | .rpu => 3
  | .lgt => 4
  | .queue => 5
  | .garage => 6
  | .lines => 7
  | .sets => 8
  | .slots => 9
  | .track => 10
  | .dsq => 11
  | .rmn => 12
  | .slk => 13
  | .icm => 14
  | .stc => 15
  | .rng => 16
  | .tables => 17
  | .staging => 18
  | .write => 19
  | .lock => 20
  | .restart => 21
  | .events => 22
  | .tmb => 23
  | .store => 24
  | .free => 25

/-- A running state that keeps the bounds and whose permits are right. -/
def State.Live (s : State) : Prop := s.pins.held = false ∧ s.bounded ∧ s.stc.permitsAgree

theorem State.Live.tst {s : State} (h : s.Live) : s.tst.bounded := h.2.1.2.1
theorem State.Live.slk {s : State} (h : s.Live) : s.slk.bounded := h.2.1.2.2.1
theorem State.Live.rmn {s : State} (h : s.Live) : s.rmn.bounded := h.2.1.2.2.2.2.2.2.1
theorem State.Live.lgt {s : State} (h : s.Live) : s.lgt.bounded := h.2.1.2.2.2.2.2.2.2.1
theorem State.Live.ctr {s : State} (h : s.Live) : s.ctr.bounded := h.2.1.2.2.2.2.2.2.2.2.1
theorem State.Live.store {s : State} (h : s.Live) : s.store.bounded := h.2.1.2.2.2.2.2.2.2.2.2.1

theorem WriteKind.park_of_snapshot {k : WriteKind} {p : ParkRecord} (h : p ∈ k.snapshot) : ∃ stale, k = .park p stale := by
  cases k <;> first | (cases h; exact ⟨_, rfl⟩) | cases h

/-- The snapshot of a park write in flight is in range. -/
theorem State.Live.snapshot {s : State} {w : StoreWrite} {p : ParkRecord} {stale : Bool} (h : s.Live)
    (hw : s.tst.write = some w) (hk : w.kind = .park p stale) : p.bounded :=
  h.tst.2.2.2 w hw p (by rw [hk]; rfl)

/-- Gcap as the rules read it is at most 48 in a live state. -/
theorem State.Live.gcap {s : State} (h : s.Live) : s.tables.gcap ≤ 48 := by
  unfold State.tables
  cases hs : s.tst.safety with
  | none => decide
  | some t => exact h.tst.2.1 t hs

/-- The bounds of TST through a change of its event queue. -/
theorem Tst.bounded.events {x y : Tst} (h : x.bounded) (he : y.events.length ≤ 32 ∧ y.eventSeq < 65536)
    (hs : y.safety = x.safety ∧ y.stageSafety = x.stageSafety ∧ y.write = x.write) : y.bounded :=
  ⟨he, by simpa [hs] using h.2.1, by simpa [hs] using h.2.2.1, by simpa [hs] using h.2.2.2⟩

/-- From `s` to `t` only the parts of the mask `m` may have changed; outside bit 26 the REPORT queue has only grown; and a
live state has stayed live. Outside bit 27 a REPORT queue with room still has room. -/
def Does (m : Nat) (s t : State) : Prop :=
  (∀ p : Part, m.testBit p.num = false → p.same s t) ∧
    (m.testBit 26 = false → s.rng.report <+: t.rng.report) ∧
    (m.testBit 27 = false → s.rng.report.length < 32 → t.rng.report.length < 32) ∧ (s.Live → t.Live)

theorem Part.same_refl (p : Part) (s : State) : p.same s s := by cases p <;> simp [Part.same]

theorem Part.same_trans {p : Part} {s t u : State} (h1 : p.same s t) (h2 : p.same t u) : p.same s u := by
  cases p <;> simp_all [Part.same]

@[simp] theorem Does.refl (m : Nat) (s : State) : Does m s s :=
  ⟨fun p _ => p.same_refl s, fun _ => List.prefix_rfl, fun _ => id, id⟩

theorem Does.trans {m : Nat} {s t u : State} (h1 : Does m s t) (h2 : Does m t u) : Does m s u :=
  ⟨fun p hp => Part.same_trans (h1.1 p hp) (h2.1 p hp), fun h => (h1.2.1 h).trans (h2.2.1 h),
    fun h hl => h2.2.2.1 h (h1.2.2.1 h hl), fun h => h2.2.2.2 (h1.2.2.2 h)⟩

theorem testBit_of_land {a m n : Nat} (h : a &&& m = a) (hn : m.testBit n = false) : a.testBit n = false := by
  rw [← h, Nat.testBit_and, hn, Bool.and_false]

/-- A mask within a mask within a mask. -/
theorem land_trans {a b m : Nat} (h1 : a &&& b = a) (h2 : b &&& m = b) : a &&& m = a := by
  rw [← h1, Nat.land_assoc, h2]

theorem Does.mono {a m : Nat} {s t : State} (h : Does a s t) (hm : a &&& m = a) : Does m s t :=
  ⟨fun p hp => h.1 p (testBit_of_land hm hp), fun hp => h.2.1 (testBit_of_land hm hp),
    fun hp => h.2.2.1 (testBit_of_land hm hp), h.2.2.2⟩

/-- An operation of mask `a` after what has been done so far. -/
theorem Does.comp {a m : Nat} {s0 s t : State} (h : Does m s0 s) (h2 : Does a s t) (hm : a &&& m = a) : Does m s0 t :=
  h.trans (h2.mono hm)

@[simp] theorem does_ite {m : Nat} {s0 a b : State} {c : Prop} [Decidable c] :
    Does m s0 (if c then a else b) ↔ if c then Does m s0 a else Does m s0 b := by split <;> rfl

theorem Does.foldl {α : Type} {m : Nat} {s0 s : State} (f : State → α → State) (xs : List α) (h : Does m s0 s)
    (hf : ∀ x a, Does m s0 x → Does m s0 (f x a)) : Does m s0 (xs.foldl f s) := by
  induction xs generalizing s with
  | nil => exact h
  | cons a xs ih => exact ih (hf s a h)

/-- A setter's own step. -/
theorem Does.set {m : Nat} {s0 s t : State} (h : Does m s0 s) (h1 : ∀ p : Part, m.testBit p.num = false → p.same s t)
    (h2 : m.testBit 26 = false → s.rng.report <+: t.rng.report)
    (h3 : m.testBit 27 = false → s.rng.report.length < 32 → t.rng.report.length < 32) (h4 : s.Live → t.Live) :
    Does m s0 t :=
  h.trans ⟨h1, h2, h3, h4⟩

/-- A part outside the mask is not the part of bit `a`. -/
theorem not_bit {a m n : Nat} (ha : a.testBit n = true) (hn : m.testBit n = false) : ¬ a &&& m = a := fun h => by
  simp [testBit_of_land h hn] at ha

section
variable {m : Nat} {s0 s : State}

@[simp] theorem does_setPins {x : Pins} (h : Does m s0 s) (h1 : 2 &&& m = 2 ∨ x = s.pins)
    (h2 : x.held = s.pins.held) : Does m s0 (s.setPins x) := by
  refine h.set (fun p hp => ?_) (fun _ => List.prefix_rfl) (fun _ => id) (fun hl => ⟨by simpa [h2, State.setPins] using hl.1, hl.2⟩)
  cases p <;> first
    | (simp_all [Part.same, State.setPins]; done)
    | (have := h1.resolve_left (not_bit (by decide) hp); simp_all [Part.same, State.setPins]; done)

@[simp] theorem does_setRegistry {x : List RegEntry} (h : Does m s0 s) (h1 : 4 &&& m = 4 ∨ x = s.registry)
    (h2 : x.length = s.registry.length) : Does m s0 (s.setRegistry x) := by
  refine h.set (fun p hp => ?_) (fun _ => List.prefix_rfl) (fun _ => id) (fun hl => ?_)
  · cases p <;> first
    | (simp_all [Part.same, State.setRegistry]; done)
    | (have := h1.resolve_left (not_bit (by decide) hp); simp_all [Part.same, State.setRegistry]; done)
  · obtain ⟨a, ⟨b, c, d, e, f, g, k, n, o, q, l⟩, i⟩ := hl
    exact ⟨a, ⟨b, c, d, e, f, g, k, n, o, q, h2.trans l⟩, i⟩

theorem Does.setRpu {x : Rpu} (h : Does m s0 s) (h1 : 8 &&& m = 8 ∨ x = s.rpu)
    (h2 : s.rpu.bounded → x.bounded) : Does m s0 (s.setRpu x) := by
  refine h.set (fun p hp => ?_) (fun _ => List.prefix_rfl) (fun _ => id) (fun hl => ?_)
  · cases p <;> first
    | (simp_all [Part.same, State.setRpu]; done)
    | (have := h1.resolve_left (not_bit (by decide) hp); simp_all [Part.same, State.setRpu]; done)
  · obtain ⟨a, ⟨b, c, d, e, f, g, k, n, o, q, l⟩, i⟩ := hl
    exact ⟨a, ⟨b, c, d, e, h2 f, g, k, n, o, q, l⟩, i⟩

theorem Does.setLgt {x : Lgt} (h : Does m s0 s) (h1 : 16 &&& m = 16 ∨ x = s.lgt)
    (h2 : s.lgt.bounded → x.bounded) : Does m s0 (s.setLgt x) := by
  refine h.set (fun p hp => ?_) (fun _ => List.prefix_rfl) (fun _ => id) (fun hl => ?_)
  · cases p <;> first
    | (simp_all [Part.same, State.setLgt]; done)
    | (have := h1.resolve_left (not_bit (by decide) hp); simp_all [Part.same, State.setLgt]; done)
  · obtain ⟨a, ⟨b, c, d, e, f, g, k, n, o, q, l⟩, i⟩ := hl
    exact ⟨a, ⟨b, c, d, e, f, g, k, h2 n, o, q, l⟩, i⟩

/-- LGT set to what is bounded where the first state is live. -/
theorem Does.setLgtFrom {x : Lgt} (h : Does m s0 s) (h1 : 16 &&& m = 16) (h2 : s0.Live → x.bounded) :
    Does m s0 (s.setLgt x) := by
  refine ⟨fun p hp => Part.same_trans (h.1 p hp) ?_, h.2.1, h.2.2.1, fun hl => ?_⟩
  · cases p <;> first
    | (simp [Part.same, State.setLgt]; done)
    | exact absurd h1 (not_bit (by decide) hp)
  · exact ((Does.refl 16 s).setLgt (.inl rfl) fun _ => h2 hl).2.2.2 (h.2.2.2 hl)

theorem Does.setCtr {x : Ctr} (h : Does m s0 s) (h1 : 32 &&& m = 32 ∨ x.queue = s.ctr.queue)
    (h2 : 64 &&& m = 64 ∨ x.garage = s.ctr.garage)
    (h3 : 128 &&& m = 128 ∨ x.uphill = s.ctr.uphill ∧ x.downhill = s.ctr.downhill)
    (h4 : 256 &&& m = 256 ∨ x.summit = s.ctr.summit ∧ x.unlocated = s.ctr.unlocated)
    (h5 : 512 &&& m = 512 ∨ x.slots = s.ctr.slots) (h6 : 1024 &&& m = 1024 ∨ x.rest = s.ctr.rest)
    (h7 : s.Live → x.bounded) : Does m s0 (s.setCtr x) := by
  refine h.set (fun p hp => ?_) (fun _ => List.prefix_rfl) (fun _ => id) (fun hl => ?_)
  rotate_left
  · have h7 := h7 hl
    obtain ⟨a, ⟨b, c, d, e, f, g, k, n, o, q, l⟩, i⟩ := hl
    exact ⟨a, ⟨b, c, d, e, f, g, k, n, h7, q, l⟩, i⟩
  cases p <;> first
    | (simp_all [Part.same, State.setCtr]; done)
    | (have := h1.resolve_left (not_bit (by decide) hp); simp_all [Part.same, State.setCtr]; done)
    | (have := h2.resolve_left (not_bit (by decide) hp); simp_all [Part.same, State.setCtr]; done)
    | (have := h3.resolve_left (not_bit (by decide) hp); simp_all [Part.same, State.setCtr]; done)
    | (have := h4.resolve_left (not_bit (by decide) hp); simp_all [Part.same, State.setCtr]; done)
    | (have := h5.resolve_left (not_bit (by decide) hp); simp_all [Part.same, State.setCtr]; done)
    | (have := h6.resolve_left (not_bit (by decide) hp); simp_all [Part.same, State.setCtr]; done)

@[simp] theorem does_setDsq {x : Dsq} (h : Does m s0 s) (h1 : 2048 &&& m = 2048 ∨ x = s.dsq) :
    Does m s0 (s.setDsq x) := by
  refine h.set (fun p hp => ?_) (fun _ => List.prefix_rfl) (fun _ => id) id
  cases p <;> first
    | (simp_all [Part.same, State.setDsq]; done)
    | (have := h1.resolve_left (not_bit (by decide) hp); simp_all [Part.same, State.setDsq]; done)

theorem Does.setRmn {x : Rmn} (h : Does m s0 s) (h1 : 4096 &&& m = 4096 ∨ x = s.rmn)
    (h2 : s.rmn.bounded → x.bounded) : Does m s0 (s.setRmn x) := by
  refine h.set (fun p hp => ?_) (fun _ => List.prefix_rfl) (fun _ => id) (fun hl => ?_)
  · cases p <;> first
    | (simp_all [Part.same, State.setRmn]; done)
    | (have := h1.resolve_left (not_bit (by decide) hp); simp_all [Part.same, State.setRmn]; done)
  · obtain ⟨a, ⟨b, c, d, e, f, g, k, n, o, q, l⟩, i⟩ := hl
    exact ⟨a, ⟨b, c, d, e, f, g, h2 k, n, o, q, l⟩, i⟩

theorem Does.setSlk {x : Slk} (h : Does m s0 s) (h1 : 8192 &&& m = 8192 ∨ x = s.slk)
    (h2 : s.slk.bounded → x.bounded) : Does m s0 (s.setSlk x) := by
  refine h.set (fun p hp => ?_) (fun _ => List.prefix_rfl) (fun _ => id) (fun hl => ?_)
  · cases p <;> first
    | (simp_all [Part.same, State.setSlk]; done)
    | (have := h1.resolve_left (not_bit (by decide) hp); simp_all [Part.same, State.setSlk]; done)
  · obtain ⟨a, ⟨b, c, d, e, f, g, k, n, o, q, l⟩, i⟩ := hl
    exact ⟨a, ⟨b, c, h2 d, e, f, g, k, n, o, q, l⟩, i⟩

theorem Does.setIcm {x : Icm} (h : Does m s0 s) (h1 : 16384 &&& m = 16384 ∨ x = s.icm)
    (h2 : s.icm.bounded → x.bounded) : Does m s0 (s.setIcm x) := by
  refine h.set (fun p hp => ?_) (fun _ => List.prefix_rfl) (fun _ => id) (fun hl => ?_)
  · cases p <;> first
    | (simp_all [Part.same, State.setIcm]; done)
    | (have := h1.resolve_left (not_bit (by decide) hp); simp_all [Part.same, State.setIcm]; done)
  · obtain ⟨a, ⟨b, c, d, e, f, g, k, n, o, q, l⟩, i⟩ := hl
    exact ⟨a, ⟨b, c, d, h2 e, f, g, k, n, o, q, l⟩, i⟩

theorem Does.setStc {x : Stc} (h : Does m s0 s) (h1 : 32768 &&& m = 32768 ∨ x = s.stc)
    (h2 : s.stc.bounded → x.bounded) (h3 : s.stc.permitsAgree → x.permitsAgree) : Does m s0 (s.setStc x) := by
  refine h.set (fun p hp => ?_) (fun _ => List.prefix_rfl) (fun _ => id) (fun hl => ?_)
  · cases p <;> first
    | (simp_all [Part.same, State.setStc]; done)
    | (have := h1.resolve_left (not_bit (by decide) hp); simp_all [Part.same, State.setStc]; done)
  · obtain ⟨a, ⟨b, c, d, e, f, g, k, n, o, q, l⟩, i⟩ := hl
    exact ⟨a, ⟨b, c, d, e, f, h2 g, k, n, o, q, l⟩, h3 i⟩

theorem Does.setRng {x : Rng} (h : Does m s0 s) (h1 : 65536 &&& m = 65536 ∨ x = s.rng)
    (h2 : s.rng.bounded → x.bounded) (h3 : 67108864 &&& m = 67108864 ∨ s.rng.report <+: x.report)
    (h4 : 134217728 &&& m = 134217728 ∨ (s.rng.report.length < 32 → x.report.length < 32)) :
    Does m s0 (s.setRng x) := by
  refine h.set (fun p hp => ?_) (fun hp => ?_) (fun hp => ?_) (fun hl => ?_)
  · cases p <;> first
    | (simp_all [Part.same, State.setRng]; done)
    | (have := h1.resolve_left (not_bit (by decide) hp); simp_all [Part.same, State.setRng]; done)
  · exact h3.resolve_left (not_bit (by decide) hp)
  · exact h4.resolve_left (not_bit (by decide) hp)
  · obtain ⟨a, ⟨b, c, d, e, f, g, k, n, o, q, l⟩, i⟩ := hl
    exact ⟨a, ⟨h2 b, c, d, e, f, g, k, n, o, q, l⟩, i⟩

theorem Does.setTst {x : Tst} (h : Does m s0 s)
    (h1 : 131072 &&& m = 131072 ∨
      x.safety = s.tst.safety ∧ x.operations = s.tst.operations ∧ x.fleetValid = s.tst.fleetValid)
    (h2 : 262144 &&& m = 262144 ∨
      x.stageSafety = s.tst.stageSafety ∧ x.safetyChanged = s.tst.safetyChanged ∧
        x.stageOperations = s.tst.stageOperations ∧ x.operationsChanged = s.tst.operationsChanged)
    (h3 : 524288 &&& m = 524288 ∨ x.write = s.tst.write ∧ x.invalidationQueued = s.tst.invalidationQueued)
    (h4 : 1048576 &&& m = 1048576 ∨ x.lockedToPowerCycle = s.tst.lockedToPowerCycle)
    (h5 : 2097152 &&& m = 2097152 ∨ x.restart = s.tst.restart) (h6 : 4194304 &&& m = 4194304 ∨ x.rest = s.tst.rest)
    (h7 : s.Live → x.bounded) : Does m s0 (s.setTst x) := by
  refine h.set (fun p hp => ?_) (fun _ => List.prefix_rfl) (fun _ => id) (fun hl => ?_)
  · cases p <;> first
    | (simp_all [Part.same, State.setTst]; done)
    | (have := h1.resolve_left (not_bit (by decide) hp); simp_all [Part.same, State.setTst]; done)
    | (have := h2.resolve_left (not_bit (by decide) hp); simp_all [Part.same, State.setTst]; done)
    | (have := h3.resolve_left (not_bit (by decide) hp); simp_all [Part.same, State.setTst]; done)
    | (have := h4.resolve_left (not_bit (by decide) hp); simp_all [Part.same, State.setTst]; done)
    | (have := h5.resolve_left (not_bit (by decide) hp); simp_all [Part.same, State.setTst]; done)
    | (have := h6.resolve_left (not_bit (by decide) hp); simp_all [Part.same, State.setTst]; done)
  · have h7 := h7 hl
    obtain ⟨a, ⟨b, c, d, e, f, g, k, n, o, q, l⟩, i⟩ := hl
    exact ⟨a, ⟨b, h7, d, e, f, g, k, n, o, q, l⟩, i⟩

@[simp] theorem does_setTmb {x : Tmb} (h : Does m s0 s) (h1 : 8388608 &&& m = 8388608 ∨ x = s.tmb) :
    Does m s0 (s.setTmb x) := by
  refine h.set (fun p hp => ?_) (fun _ => List.prefix_rfl) (fun _ => id) id
  cases p <;> first
    | (simp_all [Part.same, State.setTmb]; done)
    | (have := h1.resolve_left (not_bit (by decide) hp); simp_all [Part.same, State.setTmb]; done)

theorem Does.setStore {x : Store} (h : Does m s0 s) (h1 : 16777216 &&& m = 16777216 ∨ x = s.store)
    (h2 : s.Live → x.bounded) : Does m s0 (s.setStore x) := by
  refine h.set (fun p hp => ?_) (fun _ => List.prefix_rfl) (fun _ => id) (fun hl => ?_)
  · cases p <;> first
    | (simp_all [Part.same, State.setStore]; done)
    | (have := h1.resolve_left (not_bit (by decide) hp); simp_all [Part.same, State.setStore]; done)
  · have h2 := h2 hl
    obtain ⟨a, ⟨b, c, d, e, f, g, k, n, o, q, l⟩, i⟩ := hl
    exact ⟨a, ⟨b, c, d, e, f, g, k, n, o, h2, l⟩, i⟩

/-- The store set to what is bounded where the first state is live. -/
theorem Does.setStoreFrom {x : Store} (h : Does m s0 s) (h1 : 16777216 &&& m = 16777216)
    (h2 : s0.Live → s.Live → x.bounded) : Does m s0 (s.setStore x) := by
  refine ⟨fun p hp => Part.same_trans (h.1 p hp) ?_, h.2.1, h.2.2.1, fun hl => ?_⟩
  · cases p <;> first
    | (simp [Part.same, State.setStore]; done)
    | exact absurd h1 (not_bit (by decide) hp)
  · have hs := h.2.2.2 hl
    exact ((Does.refl 16777216 s).setStore (.inl rfl) fun _ => h2 hl hs).2.2.2 hs

@[simp] theorem does_setFree {x : Nat} (h : Does m s0 s) (h1 : 33554432 &&& m = 33554432 ∨ x = s.free) :
    Does m s0 (s.setFree x) := by
  refine h.set (fun p hp => ?_) (fun _ => List.prefix_rfl) (fun _ => id) id
  cases p <;> first
    | (simp_all [Part.same, State.setFree]; done)
    | (have := h1.resolve_left (not_bit (by decide) hp); simp_all [Part.same, State.setFree]; done)

/-! ## Updates that leave the bounded parts as they are -/

@[simp] theorem does_setRpu {x : Rpu} (h : Does m s0 s) (h1 : 8 &&& m = 8 ∨ x = s.rpu)
    (h2 : x.window = s.rpu.window ∧ x.q = s.rpu.q) : Does m s0 (s.setRpu x) :=
  h.setRpu h1 (by simp [Rpu.bounded, h2])

@[simp] theorem does_setSlk {x : Slk} (h : Does m s0 s) (h1 : 8192 &&& m = 8192 ∨ x = s.slk)
    (h2 : x.rxAnswered = s.slk.rxAnswered ∧ x.rxUnanswered = s.slk.rxUnanswered ∧
      x.txUnanswered = s.slk.txUnanswered ∧ x.txVoice = s.slk.txVoice ∧ x.requests = s.slk.requests ∧
      x.txAnswered = s.slk.txAnswered) : Does m s0 (s.setSlk x) :=
  h.setSlk h1 (by simp [Slk.bounded, Slk.requestsRight, h2])

@[simp] theorem does_setLgt {x : Lgt} (h : Does m s0 s) (h1 : 16 &&& m = 16 ∨ x = s.lgt)
    (h2 : x.watch.length ≤ s.lgt.watch.length) : Does m s0 (s.setLgt x) :=
  h.setLgt h1 fun hb => h2.trans hb

@[simp] theorem does_setCtr {x : Ctr} (h : Does m s0 s) (h1 : 32 &&& m = 32 ∨ x.queue = s.ctr.queue)
    (h2 : 64 &&& m = 64 ∨ x.garage = s.ctr.garage)
    (h3 : 128 &&& m = 128 ∨ x.uphill = s.ctr.uphill ∧ x.downhill = s.ctr.downhill)
    (h4 : 256 &&& m = 256 ∨ x.summit = s.ctr.summit ∧ x.unlocated = s.ctr.unlocated)
    (h5 : 512 &&& m = 512 ∨ x.slots = s.ctr.slots) (h6 : 1024 &&& m = 1024 ∨ x.rest = s.ctr.rest)
    (h7 : x.queue.length ≤ s.ctr.queue.length ∧ x.garage.length ≤ s.ctr.garage.length ∧
      x.exitPending ≤ s.ctr.exitPending) : Does m s0 (s.setCtr x) :=
  h.setCtr h1 h2 h3 h4 h5 h6 fun hl =>
    have hb : s.ctr.bounded := hl.ctr
    ⟨h7.1.trans hb.1, h7.2.1.trans hb.2.1, h7.2.2.trans hb.2.2⟩

@[simp] theorem does_setRmn {x : Rmn} (h : Does m s0 s) (h1 : 4096 &&& m = 4096 ∨ x = s.rmn)
    (h2 : x.towers = s.rmn.towers) : Does m s0 (s.setRmn x) :=
  h.setRmn h1 (by simp [Rmn.bounded, h2])

@[simp] theorem does_setStore {x : Store} (h : Does m s0 s) (h1 : 16777216 &&& m = 16777216 ∨ x = s.store)
    (h2 : (x.safety = none ∨ x.safety = s.store.safety) ∧ (x.park = none ∨ x.park = s.store.park)) :
    Does m s0 (s.setStore x) :=
  h.setStore h1 fun hl => by
    have hb : s.store.bounded := hl.store
    refine ⟨fun t ht => ?_, fun p hp => ?_⟩
    · rcases h2.1 with h | h <;> rw [h] at ht
      · simp at ht
      · exact hb.1 t ht
    · rcases h2.2 with h | h <;> rw [h] at hp
      · simp at hp
      · exact hb.2 p hp

/-- A store write set in flight whose snapshot, if it has one, is in range. -/
theorem Does.setWrite {w : StoreWrite} (h : Does m s0 s) (hm : 524288 &&& m = 524288)
    (hw : s.Live → ∀ p stale, w.kind = .park p stale → p.bounded) :
    Does m s0 (s.setTst { s.tst with write := some w }) :=
  h.setTst (.inr ⟨rfl, rfl, rfl⟩) (.inr ⟨rfl, rfl, rfl, rfl⟩) (.inl hm) (.inr rfl) (.inr rfl) (.inr rfl) fun hl =>
    have hb : s.tst.bounded := hl.tst
    ⟨hb.1, hb.2.1, hb.2.2.1, by
      rintro _ ⟨⟩ p hp
      obtain ⟨stale, hk⟩ := WriteKind.park_of_snapshot hp
      exact hw hl p stale hk⟩

@[simp] theorem does_setIcm {x : Icm} (h : Does m s0 s) (h1 : 16384 &&& m = 16384 ∨ x = s.icm)
    (h2 : x.buffer = s.icm.buffer) : Does m s0 (s.setIcm x) :=
  h.setIcm h1 (by simp [Icm.bounded, h2])

@[simp] theorem does_setStc {x : Stc} (h : Does m s0 s) (h1 : 32768 &&& m = 32768 ∨ x = s.stc)
    (h2 : x.records.length = s.stc.records.length ∧ x.episode = s.stc.episode ∧ x.previous = s.stc.previous) (h3 : x.output = s.stc.output ∧
      x.servicePermit = s.stc.servicePermit ∧ x.emergencyPermit = s.stc.emergencyPermit) : Does m s0 (s.setStc x) :=
  h.setStc h1 (by simp [Stc.bounded, h2]) (by simp [Stc.permitsAgree, h3])

@[simp] theorem does_setRng {x : Rng} (h : Does m s0 s) (h1 : 65536 &&& m = 65536 ∨ x = s.rng)
    (h2 : x.ingress = s.rng.ingress ∧ x.control = s.rng.control ∧ x.voice = s.rng.voice ∧ x.poll = s.rng.poll ∧
      x.report = s.rng.report)
    (h3 : x.slotRecords.length = s.rng.slotRecords.length ∧ x.purge.length = s.rng.purge.length ∧
      x.misses.length = s.rng.misses.length ∧ x.absent.length = s.rng.absent.length) : Does m s0 (s.setRng x) :=
  h.setRng h1 (by simp [Rng.bounded, Rng.queuesBounded, Rng.tablesSized, h2, h3]) (.inr (by simp [h2])) (.inr (by simp [h2]))

@[simp] theorem does_setTst {x : Tst} (h : Does m s0 s)
    (h1 : 131072 &&& m = 131072 ∨
      x.safety = s.tst.safety ∧ x.operations = s.tst.operations ∧ x.fleetValid = s.tst.fleetValid)
    (h2 : 262144 &&& m = 262144 ∨
      x.stageSafety = s.tst.stageSafety ∧ x.safetyChanged = s.tst.safetyChanged ∧
        x.stageOperations = s.tst.stageOperations ∧ x.operationsChanged = s.tst.operationsChanged)
    (h3 : 524288 &&& m = 524288 ∨ x.write = s.tst.write ∧ x.invalidationQueued = s.tst.invalidationQueued)
    (h4 : 1048576 &&& m = 1048576 ∨ x.lockedToPowerCycle = s.tst.lockedToPowerCycle)
    (h5 : 2097152 &&& m = 2097152 ∨ x.restart = s.tst.restart) (h6 : 4194304 &&& m = 4194304 ∨ x.rest = s.tst.rest)
    (h7 : x.events = s.tst.events ∧ x.eventSeq = s.tst.eventSeq)
    (h8 : x.safety = s.tst.safety ∧ x.stageSafety = s.tst.stageSafety)
    (h9 : x.write = s.tst.write ∨ x.write = none) :
    Does m s0 (s.setTst x) :=
  h.setTst h1 h2 h3 h4 h5 h6 fun hl => by
    have hb : s.tst.bounded := hl.tst
    refine ⟨by simpa [h7] using hb.1, by simpa [h8] using hb.2.1, by simpa [h8] using hb.2.2.1, fun w hw => ?_⟩
    rcases h9 with h9 | h9 <;> rw [h9] at hw
    · exact hb.2.2.2 w hw
    · cases hw

end

end Sys2Proof.Machine
end

