-- ==== Sys2Proof/Laws/Ops.lean ====
section
/-! SUPPORT. What the operations of Machine/Ops.lean touch and keep. -/

namespace Sys2Proof.Machine

set_option linter.unusedSimpArgs false
set_option linter.unusedTactic false
set_option linter.unnecessarySeqFocus false

@[simp] theorem State.modReg_does {m : Nat} {s0 s : State} (i : Nat) (f : RegEntry → RegEntry) (h : Does m s0 s)
    (hm : 4 &&& m = 4) : Does m s0 (State.modReg s i f) := by
  refine h.comp ?_ hm
  unfold State.modReg
  try dsimp only
  (repeat' split) <;> simp (maxDischargeDepth := 60) [Ctr.rest, Tst.rest]

@[simp] theorem State.setSlot_does {m : Nat} {s0 s : State} (k : Nat) (x : SlotState) (h : Does m s0 s)
    (hm : 512 &&& m = 512) : Does m s0 (State.setSlot s k x) := by
  refine h.comp ?_ hm
  unfold State.setSlot
  try dsimp only
  (repeat' split) <;> simp (maxDischargeDepth := 60) [Ctr.rest, Tst.rest]

@[simp] theorem State.freeSlotIf_does {m : Nat} {s0 s : State} (k : Nat) (x : SlotState) (h : Does m s0 s)
    (hm : 512 &&& m = 512) : Does m s0 (State.freeSlotIf s k x) := by
  refine h.comp ?_ hm
  unfold State.freeSlotIf
  try dsimp only
  (repeat' split) <;> simp (maxDischargeDepth := 60) [Ctr.rest, Tst.rest]

theorem withoutFrame_length (q : List EgressFrame) (kind : RingKind) (tag : Nat) (mask : Option Word) :
    (withoutFrame q kind tag mask).length ≤ q.length := by
  unfold withoutFrame
  exact (List.eraseP_sublist).length_le


@[simp] theorem State.placeControl_does {m : Nat} {s0 s : State} (f : EgressFrame) (h : Does m s0 s)
    (hm : 65536 &&& m = 65536) : Does m s0 (State.placeControl s f) := by
  refine h.comp ?_ hm
  unfold State.placeControl State.controlRoom State.setControl
  split
  · refine (Does.refl _ _).setRng (.inl rfl) ?_ (.inr (by simp)) (.inr id)
    simp_all [Rng.bounded, Rng.queuesBounded, Rng.tablesSized, Nat.succ_le_iff]
    try omega
  · simp

@[simp] theorem State.placePoll_does {m : Nat} {s0 s : State} (f : EgressFrame) (h : Does m s0 s)
    (hm : 65536 &&& m = 65536) : Does m s0 (State.placePoll s f) := by
  refine h.comp ?_ hm
  unfold State.placePoll State.setPoll
  split
  · refine (Does.refl _ _).setRng (.inl rfl) ?_ (.inr (by simp)) (.inr id)
    simp_all [Rng.bounded, Rng.queuesBounded, Rng.tablesSized, Nat.succ_le_iff]
    try omega
  · simp

@[simp] theorem State.placeVoice_does {m : Nat} {s0 s : State} (f : EgressFrame) (h : Does m s0 s)
    (hm : 65536 &&& m = 65536) : Does m s0 (State.placeVoice s f) := by
  refine h.comp ?_ hm
  unfold State.placeVoice
  split
  · refine (Does.refl _ _).setRng (.inl rfl) ?_ (.inr (by simp)) (.inr id)
    simp_all [Rng.bounded, Rng.queuesBounded, Rng.tablesSized, Nat.succ_le_iff]
    try omega
  · refine (Does.refl _ _).setRng (.inl rfl) ?_ (.inr (by simp)) (.inr id)
    simp_all [Rng.bounded, Rng.queuesBounded, Rng.tablesSized, Nat.succ_le_iff]
    try omega

@[simp] theorem State.dropReport_does {m : Nat} {s0 s : State}  (h : Does m s0 s)
    (hm : 65536 &&& m = 65536) : Does m s0 (State.dropReport s) := by
  refine h.comp ?_ hm
  unfold State.dropReport
  try dsimp only
  (repeat' split) <;> simp (maxDischargeDepth := 60) [Ctr.rest, Tst.rest]

/-- An event's frame is placed with fewer than 16 frames in REPORT, and so leaves room. -/
theorem State.placeEvent_does {m : Nat} {s0 s : State} (f : EgressFrame) (h : Does m s0 s) (hm : 65536 &&& m = 65536)
    (hl : s.rng.report.length < 16) : Does m s0 (s.placeReport f) := by
  refine h.comp ?_ hm
  unfold State.placeReport State.setReport
  split
  · refine (Does.refl _ _).setRng (.inl rfl) ?_ (.inr (by simp)) (.inr (by simp; omega))
    simp_all [Rng.bounded, Rng.queuesBounded, Rng.tablesSized, Nat.succ_le_iff]
  · simp

@[simp] theorem State.placeReport_does {m : Nat} {s0 s : State} (f : EgressFrame) (h : Does m s0 s)
    (hm : 134283264 &&& m = 134283264) : Does m s0 (State.placeReport s f) := by
  refine h.comp ?_ hm
  unfold State.placeReport State.setReport
  split
  · refine (Does.refl _ _).setRng (.inl rfl) ?_ (.inr (by simp)) (.inl rfl)
    simp_all [Rng.bounded, Rng.queuesBounded, Rng.tablesSized, Nat.succ_le_iff]
  · simp


@[simp] theorem State.withdrawControl_does {m : Nat} {s0 s : State} (kind : RingKind) (tag : Nat) (mask : Option Word) (h : Does m s0 s)
    (hm : 65536 &&& m = 65536) : Does m s0 (State.withdrawControl s kind tag mask) := by
  refine h.comp ?_ hm
  unfold State.withdrawControl State.setControl
  refine (Does.refl _ _).setRng (.inl rfl) ?_ (.inr (by simp)) (.inr id)
  have := withoutFrame_length s.rng.control kind tag mask
  simp_all [Rng.bounded, Rng.queuesBounded, Rng.tablesSized]
  omega

@[simp] theorem State.withdrawPoll_does {m : Nat} {s0 s : State} (kind : RingKind) (tag : Nat) (mask : Option Word) (h : Does m s0 s)
    (hm : 65536 &&& m = 65536) : Does m s0 (State.withdrawPoll s kind tag mask) := by
  refine h.comp ?_ hm
  unfold State.withdrawPoll State.setPoll
  refine (Does.refl _ _).setRng (.inl rfl) ?_ (.inr (by simp)) (.inr id)
  have := withoutFrame_length s.rng.poll kind tag mask
  simp_all [Rng.bounded, Rng.queuesBounded, Rng.tablesSized]
  omega

@[simp] theorem State.offerEvent_does {m : Nat} {s0 s : State}  (h : Does m s0 s)
    (hm : 4259840 &&& m = 4259840) : Does m s0 (State.offerEvent s) := by
  refine h.comp ?_ hm
  unfold State.offerEvent
  split
  · simp
  · rename_i e rest he
    split
    · have h1 : Does 4259840 s (s.setTst { s.tst with events := rest }) := by
        refine (Does.refl _ _).setTst (by simp) (by simp) (by simp) (by simp) (by simp) (by simp) fun hl => ?_
        have hb := hl.tst.1
        exact hl.tst.events ⟨by simp [he] at hb; dsimp only; omega, hb.2⟩ ⟨rfl, rfl, rfl⟩
      dsimp only
      split
      · simp [h1]
      · exact State.placeEvent_does _ h1 rfl ‹_›
    · simp

@[simp] theorem State.report_does {m : Nat} {s0 s : State} (kind : EventKind) (cause : Option Cause) (cabin : Option Nat) (data : List Int) (h : Does m s0 s)
    (hm : 4259840 &&& m = 4259840) : Does m s0 (State.report s kind cause cabin data) := by
  refine h.comp ?_ hm
  unfold State.report
  dsimp only
  split
  · rename_i hl
    have h1 : Does 4259840 s (s.setTst
        { s.tst with
          eventSeq := (s.tst.eventSeq + 1) % 65536
          events := s.tst.events ++ [s.eventEntry kind cause cabin data] }) := by
      refine (Does.refl _ _).setTst (by simp) (by simp) (by simp) (by simp) (by simp) (by simp) fun hb => ?_
      exact hb.tst.events ⟨by simp; omega, Nat.mod_lt _ (by decide)⟩ ⟨rfl, rfl, rfl⟩
    simp [h1]
  · refine (Does.refl _ _).setTst (by simp) (by simp) (by simp) (by simp) (by simp) (by simp) fun hb => ?_
    exact hb.tst.events ⟨hb.tst.1.1, Nat.mod_lt _ (by decide)⟩ ⟨rfl, rfl, rfl⟩

@[simp] theorem State.gather_does {m : Nat} {s0 s : State} (r : CauseReport) (h : Does m s0 s)
    (hm : 32768 &&& m = 32768) : Does m s0 (State.gather s r) := by
  refine h.comp ?_ hm
  unfold State.gather
  try dsimp only
  (repeat' split) <;> simp (maxDischargeDepth := 60) [Ctr.rest, Tst.rest]

@[simp] theorem State.raise_does {m : Nat} {s0 s : State} (c : Cause) (cabin : Option Nat) (h : Does m s0 s)
    (hm : 32768 &&& m = 32768) : Does m s0 (State.raise s c cabin) := by
  refine h.comp ?_ hm
  unfold State.raise
  try dsimp only
  (repeat' split) <;> simp (maxDischargeDepth := 60) [Ctr.rest, Tst.rest]

@[simp] theorem State.holdCondition_does {m : Nat} {s0 s : State} (c : Cause) (b : Bool) (h : Does m s0 s)
    (hm : 32768 &&& m = 32768) : Does m s0 (State.holdCondition s c b) := by
  refine h.comp ?_ hm
  unfold State.holdCondition
  try dsimp only
  (repeat' split) <;> simp (maxDischargeDepth := 60) [Ctr.rest, Tst.rest]

@[simp] theorem State.judge_does {m : Nat} {s0 s : State} (c : Cause) (b : Bool) (cabin : Option Nat) (h : Does m s0 s)
    (hm : 32768 &&& m = 32768) : Does m s0 (State.judge s c b cabin) := by
  refine h.comp ?_ hm
  unfold State.judge
  try dsimp only
  (repeat' split) <;> simp (maxDischargeDepth := 60) [Ctr.rest, Tst.rest]

@[simp] theorem modSerial_length (q : List StationEntry) (serial : Nat) (f : StationEntry → StationEntry) :
    (modSerial q serial f).length = q.length := List.length_map _

@[simp] theorem State.setQueue_does {m : Nat} {s0 s : State} (q : List StationEntry) (h : Does m s0 s)
    (hm : 32 &&& m = 32) (hq : q.length ≤ s.ctr.queue.length) : Does m s0 (State.setQueue s q) := by
  refine h.comp ?_ hm
  unfold State.setQueue
  simp [hq, Ctr.rest]

/-- A queue that has grown within its 32 entries (R62). -/
theorem State.growQueue_does {m : Nat} {s0 s : State} {q : List StationEntry} (h : Does m s0 s) (hm : 32 &&& m = 32)
    (hq : q.length ≤ 32) : Does m s0 (State.setQueue s q) :=
  h.setCtr (.inl hm) (.inr rfl) (.inr ⟨rfl, rfl⟩) (.inr ⟨rfl, rfl⟩) (.inr rfl) (.inr rfl) fun hl =>
    have hb : s.ctr.bounded := hl.ctr
    ⟨hq, hb.2.1, hb.2.2⟩

@[simp] theorem State.modEntry_does {m : Nat} {s0 s : State} (serial : Nat) (f : StationEntry → StationEntry) (h : Does m s0 s)
    (hm : 32 &&& m = 32) : Does m s0 (State.modEntry s serial f) := by
  refine h.comp ?_ hm
  unfold State.modEntry
  try dsimp only
  (repeat' split) <;> simp (maxDischargeDepth := 60) [Ctr.rest, Tst.rest]

@[simp] theorem State.setSlotless_does {m : Nat} {s0 s : State} (cabin : Nat) (h : Does m s0 s)
    (hm : 32 &&& m = 32) : Does m s0 (State.setSlotless s cabin) := by
  refine h.comp ?_ hm
  unfold State.setSlotless
  try dsimp only
  (repeat' split) <;> simp (maxDischargeDepth := 60) [Ctr.rest, Tst.rest]

@[simp] theorem State.setDoor_does {m : Nat} {s0 s : State} (e : StationEntry) (d : DoorState) (h : Does m s0 s)
    (hm : 36 &&& m = 36) : Does m s0 (State.setDoor s e d) := by
  refine h.comp ?_ hm
  unfold State.setDoor
  try dsimp only
  (repeat' split) <;> simp (maxDischargeDepth := 60) [Ctr.rest, Tst.rest]

@[simp] theorem State.setGrip_does {m : Nat} {s0 s : State} (e : StationEntry) (v : GripVerdict) (f : Option Nat) (h : Does m s0 s)
    (hm : 36 &&& m = 36) : Does m s0 (State.setGrip s e v f) := by
  refine h.comp ?_ hm
  unfold State.setGrip
  try dsimp only
  (repeat' split) <;> simp (maxDischargeDepth := 60) [Ctr.rest, Tst.rest]

end Sys2Proof.Machine
end

