-- ==== Sys2Proof/Laws/Transmit.lean ====
section
/-! SUPPORT. What the operations of Machine/Transmit.lean touch and keep. -/

namespace Sys2Proof.Machine

set_option linter.unusedSimpArgs false
set_option linter.unusedTactic false
set_option linter.unnecessarySeqFocus false

@[simp] theorem State.sendCallFrame_does {m : Nat} {s0 s : State} (f : CallFrame) (h : Does m s0 s)
    (hm : 4284416 &&& m = 4284416) : Does m s0 (State.sendCallFrame s f) := by
  refine h.comp ?_ hm
  unfold State.sendCallFrame State.setTxUnanswered
  split
  · refine (Does.refl _ _).setSlk (.inl rfl) ?_
    simp_all [Slk.bounded, Slk.requestsRight, Nat.succ_le_iff]
  · simp (maxDischargeDepth := 60)

@[simp] theorem State.dropHandover_does {m : Nat} {s0 s : State} (f : LinkFrame) (h : Does m s0 s)
    (hm : 4268032 &&& m = 4268032) : Does m s0 (State.dropHandover s f) := by
  refine h.comp ?_ hm
  unfold State.dropHandover
  try dsimp only
  (repeat' split) <;> simp (maxDischargeDepth := 60) [Ctr.rest, Tst.rest]

/-- The UNANSWERED transmit queue set to one that keeps its bound. -/
theorem State.setTxUnanswered_does {m : Nat} {s0 s : State} {q : List LinkFrame} (h : Does m s0 s) (hm : 8192 &&& m = 8192)
    (hq : q.length ≤ 16 ∨ q.length ≤ s.slk.txUnanswered.length) : Does m s0 (s.setTxUnanswered q) := by
  refine h.setSlk (.inl hm) fun hb => ?_
  obtain ⟨⟨h1, h2, h3, h4⟩, h5⟩ := hb
  exact ⟨⟨h1, h2, by simp only; omega, h4⟩, h5⟩

theorem length_eraseP_concat (q : List LinkFrame) (p : LinkFrame → Bool) (f old : LinkFrame)
    (h : q.find? p = some old) : (q.eraseP p ++ [f]).length = q.length := by
  have hm := List.mem_of_find?_eq_some h
  rw [List.length_append, List.length_eraseP_of_mem hm (List.find?_some h)]
  have := List.length_pos_of_mem hm
  simp
  omega

@[simp] theorem State.offerHandover_does {m : Nat} {s0 s : State} (f : LinkFrame) (h : Does m s0 s)
    (hm : 4268032 &&& m = 4268032) : Does m s0 (State.offerHandover s f) := by
  refine h.comp ?_ hm
  unfold State.offerHandover
  dsimp only
  split
  · exact State.setTxUnanswered_does (Does.refl _ _) rfl (.inl (by simp; omega))
  · split
    · rename_i old ho
      have h1 : Does 4268032 s (s.setTxUnanswered (s.slk.txUnanswered.eraseP LinkFrame.isHandover ++ [f])) :=
        State.setTxUnanswered_does (Does.refl _ _) rfl (.inr (Nat.le_of_eq (length_eraseP_concat _ _ f old ho)))
      simp [h1]
    · simp


@[simp] theorem State.sendHandover_does {m : Nat} {s0 s : State} (kind : HandoverKind) (id : Nat) (assumed : Bool) (slot : Option Nat) (h : Does m s0 s)
    (hm : 4268032 &&& m = 4268032) : Does m s0 (State.sendHandover s kind id assumed slot) := by
  refine h.comp ?_ hm
  unfold State.sendHandover
  try dsimp only
  (repeat' split) <;> simp (maxDischargeDepth := 60) [Ctr.rest, Tst.rest]

theorem Slk.nextFrame_bounded {k k' : Slk} {f : LinkFrame} (h : k.nextFrame = some (f, k')) (hb : k.bounded) :
    k'.bounded := by
  obtain ⟨⟨h1, h2, h3, h4⟩, h5, h6, h7⟩ := hb
  unfold Slk.nextFrame at h
  split at h
  · cases h
    exact ⟨⟨h1, h2, h3, h4⟩, h5, h6, h7⟩
  · split at h
    · split at h
      · rename_i hv
        cases h
        exact ⟨⟨h1, h2, h3, by rw [hv] at h4; simp at h4 ⊢; omega⟩, h5, h6, h7⟩
      · split at h
        · rename_i hu
          cases h
          refine ⟨⟨h1, h2, ?_, h4⟩, h5, h6, h7⟩
          split at hu
          · simp at hu
          · rw [hu] at h3; simp at h3 ⊢; omega
        · rename_i ha
          cases h
          refine ⟨⟨h1, h2, h3, h4⟩, h5, h6, ?_⟩
          split at ha
          · simp at ha
          · rw [ha] at h7; exact (List.sublist_cons_self _ _).trans h7
        · simp at h
    · simp at h

/-- A request entry marked SENT keeps its tag. -/
@[simp] theorem markSent_tags (rs : List RequestEntry) (tag : Nat) (d : Ms) :
    (markSent rs tag d).map RequestEntry.tag = rs.map RequestEntry.tag := by
  simp only [markSent, List.map_map]
  exact List.map_congr_left fun e _ => by simp only [Function.comp]; split <;> rfl

@[simp] theorem markSent_length (rs : List RequestEntry) (tag : Nat) (d : Ms) :
    (markSent rs tag d).length = rs.length := by simp [markSent]

/-- A frame taken keeps the bounds. -/
theorem State.takeFrame_does {m : Nat} {s0 s : State} {f : LinkFrame} {k : Slk} (h : Does m s0 s) (hm : 8192 &&& m = 8192)
    (hk : s.slk.bounded → k.bounded) : Does m s0 (s.takeFrame f k) := by
  refine h.setSlk (.inl hm) fun hb => ?_
  obtain ⟨h1, h5, h6, h7⟩ := hk hb
  refine ⟨h1, ?_⟩
  dsimp only [Slk.requestsRight]
  split
  · exact ⟨by simpa using h5, by simpa using h6, by simpa using h7⟩
  · exact ⟨h5, h6, h7⟩

@[simp] theorem State.transmit_does {m : Nat} {s0 s : State} (h : Does m s0 s) (hm : 8192 &&& m = 8192) :
    Does m s0 s.transmit := by
  refine h.comp ?_ hm
  unfold State.transmit
  repeat' split
  · simp
  · rename_i f k hk
    exact State.takeFrame_does (Does.refl _ _) rfl (Slk.nextFrame_bounded hk)
  · simp


end Sys2Proof.Machine
end

