-- ==== Sys2Proof/Laws/Release.lean ====
section
/-! SUPPORT. What the operations of Machine/Release.lean touch and keep. -/

namespace Sys2Proof.Machine

set_option linter.unusedSimpArgs false
set_option linter.unusedTactic false
set_option linter.unnecessarySeqFocus false

@[simp] theorem State.setPendingRelease_does {m : Nat} {s0 s : State} (p : Option PendingRelease) (h : Does m s0 s)
    (hm : 16 &&& m = 16) : Does m s0 (State.setPendingRelease s p) := by
  refine h.comp ?_ hm
  unfold State.setPendingRelease
  try dsimp only
  (repeat' split) <;> simp (maxDischargeDepth := 60) [Ctr.rest, Tst.rest]

@[simp] theorem State.countWithdrawal_does {m : Nat} {s0 s : State} (p : PendingRelease) (late : Bool) (h : Does m s0 s)
    (hm : 4259856 &&& m = 4259856) : Does m s0 (State.countWithdrawal s p late) := by
  refine h.comp ?_ hm
  unfold State.countWithdrawal
  try dsimp only
  (repeat' split) <;> simp (maxDischargeDepth := 60) [Ctr.rest, Tst.rest]

@[simp] theorem State.withdrawRelease_does {m : Nat} {s0 s : State} (late : Bool) (h : Does m s0 s)
    (hm : 4260368 &&& m = 4260368) : Does m s0 (State.withdrawRelease s late) := by
  refine h.comp ?_ hm
  unfold State.withdrawRelease
  try dsimp only
  (repeat' split) <;> simp (maxDischargeDepth := 60) [Ctr.rest, Tst.rest]

@[simp] theorem State.withdrawUnlessHead_does {m : Nat} {s0 s : State}  (h : Does m s0 s)
    (hm : 4260368 &&& m = 4260368) : Does m s0 (State.withdrawUnlessHead s) := by
  refine h.comp ?_ hm
  unfold State.withdrawUnlessHead
  try dsimp only
  (repeat' split) <;> simp (maxDischargeDepth := 60) [Ctr.rest, Tst.rest]

@[simp] theorem State.releaseCountedHead_does {m : Nat} {s0 s : State}  (h : Does m s0 s)
    (hm : 32784 &&& m = 32784) : Does m s0 (State.releaseCountedHead s) := by
  refine h.comp ?_ hm
  unfold State.releaseCountedHead
  try dsimp only
  (repeat' split) <;> simp (maxDischargeDepth := 60) [Ctr.rest, Tst.rest]

@[simp] theorem State.reportHead_does {m : Nat} {s0 s : State}  (h : Does m s0 s)
    (hm : 4293136 &&& m = 4293136) : Does m s0 (State.reportHead s) := by
  refine h.comp ?_ hm
  unfold State.reportHead
  try dsimp only
  (repeat' split) <;> simp (maxDischargeDepth := 60) [Ctr.rest, Tst.rest]

end Sys2Proof.Machine
end

