-- ==== Sys2Proof/Laws/Calls.lean ====
section
/-! SUPPORT. What the operations of Machine/Calls.lean touch and keep. -/

namespace Sys2Proof.Machine

set_option linter.unusedSimpArgs false
set_option linter.unusedTactic false
set_option linter.unnecessarySeqFocus false

@[simp] theorem State.indicate_does {m : Nat} {s0 s : State}  (h : Does m s0 s)
    (hm : 81920 &&& m = 81920) : Does m s0 (State.indicate s) := by
  refine h.comp ?_ hm
  unfold State.indicate
  try dsimp only
  (repeat' split) <;> simp (maxDischargeDepth := 60) [Ctr.rest, Tst.rest]

@[simp] theorem State.setCall_does {m : Nat} {s0 s : State} (call : CallState) (emergency : Bool) (reason : CallReason) (detail : Nat) (h : Does m s0 s)
    (hm : 4276224 &&& m = 4276224) : Does m s0 (State.setCall s call emergency reason detail) := by
  refine h.comp ?_ hm
  unfold State.setCall
  try dsimp only
  (repeat' split) <;> simp (maxDischargeDepth := 60) [Ctr.rest, Tst.rest]

@[simp] theorem State.setCallTimer_does {m : Nat} {s0 s : State} (t : Option Ms) (h : Does m s0 s)
    (hm : 16384 &&& m = 16384) : Does m s0 (State.setCallTimer s t) := by
  refine h.comp ?_ hm
  unfold State.setCallTimer
  try dsimp only
  (repeat' split) <;> simp (maxDischargeDepth := 60) [Ctr.rest, Tst.rest]

@[simp] theorem State.startJitter_does {m : Nat} {s0 s : State}  (h : Does m s0 s)
    (hm : 16384 &&& m = 16384) : Does m s0 (State.startJitter s) := by
  refine h.comp ?_ hm
  exact (Does.refl _ _).setIcm (.inl rfl) (by simp [Icm.bounded])

@[simp] theorem State.emptyJitter_does {m : Nat} {s0 s : State}  (h : Does m s0 s)
    (hm : 16384 &&& m = 16384) : Does m s0 (State.emptyJitter s) := by
  refine h.comp ?_ hm
  exact (Does.refl _ _).setIcm (.inl rfl) (by simp [Icm.bounded])

@[simp] theorem State.enterTalk_does {m : Nat} {s0 s : State} (emergency : Bool) (reason : CallReason) (detail : Nat) (h : Does m s0 s)
    (hm : 4276224 &&& m = 4276224) : Does m s0 (State.enterTalk s emergency reason detail) := by
  refine h.comp ?_ hm
  unfold State.enterTalk
  try dsimp only
  (repeat' split) <;> simp (maxDischargeDepth := 60) [Ctr.rest, Tst.rest]

@[simp] theorem State.judgeEmergency_does {m : Nat} {s0 s : State}  (h : Does m s0 s)
    (hm : 4284416 &&& m = 4284416) : Does m s0 (State.judgeEmergency s) := by
  refine h.comp ?_ hm
  unfold State.judgeEmergency
  try dsimp only
  (repeat' split) <;> simp (maxDischargeDepth := 60) [Ctr.rest, Tst.rest]

@[simp] theorem State.callLinkDown_does {m : Nat} {s0 s : State}  (h : Does m s0 s)
    (hm : 4276224 &&& m = 4276224) : Does m s0 (State.callLinkDown s) := by
  refine h.comp ?_ hm
  unfold State.callLinkDown
  try dsimp only
  (repeat' split) <;> simp (maxDischargeDepth := 60) [Ctr.rest, Tst.rest]

@[simp] theorem State.refuseCall_does {m : Nat} {s0 s : State}  (h : Does m s0 s)
    (hm : 16384 &&& m = 16384) : Does m s0 (State.refuseCall s) := by
  refine h.comp ?_ hm
  unfold State.refuseCall
  try dsimp only
  (repeat' split) <;> simp (maxDischargeDepth := 60) [Ctr.rest, Tst.rest]

@[simp] theorem State.callRequest_does {m : Nat} {s0 s : State} (reason : CallReason) (h : Does m s0 s)
    (hm : 4284416 &&& m = 4284416) : Does m s0 (State.callRequest s reason).1 := by
  refine h.comp ?_ hm
  unfold State.callRequest
  try dsimp only
  (repeat' split) <;> simp (maxDischargeDepth := 60) [Ctr.rest, Tst.rest]

@[simp] theorem State.answerRequest_does {m : Nat} {s0 s : State} (reason : CallReason) (h : Does m s0 s)
    (hm : 4284416 &&& m = 4284416) : Does m s0 (State.answerRequest s reason).1 := by
  refine h.comp ?_ hm
  unfold State.answerRequest
  try dsimp only
  (repeat' split) <;> simp (maxDischargeDepth := 60) [Ctr.rest, Tst.rest]

@[simp] theorem State.hangUpRequest_does {m : Nat} {s0 s : State} (reason : CallReason) (h : Does m s0 s)
    (hm : 4284416 &&& m = 4284416) : Does m s0 (State.hangUpRequest s reason).1 := by
  refine h.comp ?_ hm
  unfold State.hangUpRequest
  try dsimp only
  (repeat' split) <;> simp (maxDischargeDepth := 60) [Ctr.rest, Tst.rest]

@[simp] theorem State.keyOutcome_does {m : Nat} {s0 : State} (r : State × Bool) (h : Does m s0 r.1)
    (hm : 81920 &&& m = 81920) : Does m s0 (State.keyOutcome r) := by
  refine h.comp ?_ hm
  unfold State.keyOutcome
  split <;> simp


@[simp] theorem State.ignoreCallFrame_does {m : Nat} {s0 s : State}  (h : Does m s0 s)
    (hm : 16384 &&& m = 16384) : Does m s0 (State.ignoreCallFrame s) := by
  refine h.comp ?_ hm
  unfold State.ignoreCallFrame
  try dsimp only
  (repeat' split) <;> simp (maxDischargeDepth := 60) [Ctr.rest, Tst.rest]

@[simp] theorem State.takeCallSetup_does {m : Nat} {s0 s : State}  (h : Does m s0 s)
    (hm : 4284416 &&& m = 4284416) : Does m s0 (State.takeCallSetup s) := by
  refine h.comp ?_ hm
  unfold State.takeCallSetup
  try dsimp only
  (repeat' split) <;> simp (maxDischargeDepth := 60) [Ctr.rest, Tst.rest]

@[simp] theorem State.takeCallAccept_does {m : Nat} {s0 s : State}  (h : Does m s0 s)
    (hm : 4276224 &&& m = 4276224) : Does m s0 (State.takeCallAccept s) := by
  refine h.comp ?_ hm
  unfold State.takeCallAccept
  try dsimp only
  (repeat' split) <;> simp (maxDischargeDepth := 60) [Ctr.rest, Tst.rest]

@[simp] theorem State.takeCallClear_does {m : Nat} {s0 s : State}  (h : Does m s0 s)
    (hm : 4276224 &&& m = 4276224) : Does m s0 (State.takeCallClear s) := by
  refine h.comp ?_ hm
  unfold State.takeCallClear
  try dsimp only
  (repeat' split) <;> simp (maxDischargeDepth := 60) [Ctr.rest, Tst.rest]

@[simp] theorem State.superviseSummit_does {m : Nat} {s0 s : State} (summit : CallState) (h : Does m s0 s)
    (hm : 4276224 &&& m = 4276224) : Does m s0 (State.superviseSummit s summit) := by
  refine h.comp ?_ hm
  unfold State.superviseSummit
  try dsimp only
  (repeat' split) <;> simp (maxDischargeDepth := 60) [Ctr.rest, Tst.rest]

@[simp] theorem State.callTimeout_does {m : Nat} {s0 s : State}  (h : Does m s0 s)
    (hm : 4284416 &&& m = 4284416) : Does m s0 (State.callTimeout s) := by
  refine h.comp ?_ hm
  unfold State.callTimeout
  try dsimp only
  (repeat' split) <;> simp (maxDischargeDepth := 60) [Ctr.rest, Tst.rest]

@[simp] theorem State.takeHandsetVoice_does {m : Nat} {s0 s : State} (seq : Nat) (audio : List Byte) (h : Does m s0 s)
    (hm : 24576 &&& m = 24576) : Does m s0 (State.takeHandsetVoice s seq audio) := by
  refine h.comp ?_ hm
  unfold State.takeHandsetVoice
  dsimp only
  repeat' split
  · refine (Does.refl _ _).setSlk (.inl rfl) fun hb => ⟨?_, hb.2⟩
    have := hb.1
    simp
    omega
  · have h1 : Does 24576 s (s.setSlk { s.slk with
        txVoice := s.slk.txVoice.drop 1 ++ [{ cls := .voice, kind := 1, tag := 0, payload := twoBytes seq ++ audio }] }) := by
      refine (Does.refl _ _).setSlk (.inl rfl) fun hb => ⟨?_, hb.2⟩
      have := hb.1
      simp
      omega
    exact does_setIcm h1 (.inl rfl) rfl
  · simp

theorem insertVoice_length (x : VoiceEntry) (b : List VoiceEntry) : (insertVoice x b).length = b.length + 1 := by
  induction b with
  | nil => rfl
  | cons y rest ih => unfold insertVoice; split <;> simp [ih]

@[simp] theorem State.placeVoiceEntry_does {m : Nat} {s0 s : State} (x : VoiceEntry) (h : Does m s0 s)
    (hm : 16384 &&& m = 16384) : Does m s0 (s.placeVoiceEntry x) := by
  refine h.comp ?_ hm
  refine (Does.refl _ _).setIcm (.inl rfl) ?_
  have := insertVoice_length x s.icm.buffer
  simp only [Icm.bounded]
  intro hb
  split <;> (try rw [List.length_drop]) <;> simp_all <;> omega


@[simp] theorem State.takeSummitVoice_does {m : Nat} {s0 s : State} (x : VoiceEntry) (h : Does m s0 s)
    (hm : 16384 &&& m = 16384) : Does m s0 (State.takeSummitVoice s x) := by
  refine h.comp ?_ hm
  unfold State.takeSummitVoice
  try dsimp only
  (repeat' split) <;> simp (maxDischargeDepth := 60) [Ctr.rest, Tst.rest]

@[simp] theorem State.playEntry_does {m : Nat} {s0 s : State} (x : VoiceEntry) (h : Does m s0 s)
    (hm : 65536 &&& m = 65536) : Does m s0 (State.playEntry s x) := by
  refine h.comp ?_ hm
  unfold State.playEntry
  try dsimp only
  (repeat' split) <;> simp (maxDischargeDepth := 60) [Ctr.rest, Tst.rest]

@[simp] theorem State.playout_does {m : Nat} {s0 s : State}  (h : Does m s0 s)
    (hm : 81920 &&& m = 81920) : Does m s0 (State.playout s) := by
  refine h.comp ?_ hm
  unfold State.playout
  split
  · rename_i x rest hb
    have h1 : Does 81920 s (s.playEntry x) := by simp
    refine h1.setIcm (.inl rfl) ?_
    have : (s.playEntry x).icm = s.icm := by
      unfold State.playEntry State.placeVoice
      dsimp only
      repeat' split
      all_goals rfl
    simp [Icm.bounded, this, hb]
    omega
  · simp (maxDischargeDepth := 60)

end Sys2Proof.Machine
end

