-- ==== Sys2Proof/Laws/Flags.lean ====
section
/-! SUPPORT. What the operations of Machine/Flags.lean touch and keep, and what the highest standing category is. -/

namespace Sys2Proof.Machine

set_option linter.unusedSimpArgs false
set_option linter.unusedTactic false
set_option linter.unnecessarySeqFocus false

@[simp] theorem State.setCause_does {m : Nat} {s0 s : State} (c : Cause) (r : CauseRecord) (h : Does m s0 s)
    (hm : 32768 &&& m = 32768) : Does m s0 (State.setCause s c r) := by
  refine h.comp ?_ hm
  unfold State.setCause
  try dsimp only
  (repeat' split) <;> simp (maxDischargeDepth := 60) [Ctr.rest, Tst.rest]

@[simp] theorem State.reportCauseState_does {m : Nat} {s0 s : State} (c : Cause) (old : CauseState) (r : CauseRecord) (momentary : Bool) (h : Does m s0 s)
    (hm : 4259840 &&& m = 4259840) : Does m s0 (State.reportCauseState s c old r momentary) := by
  refine h.comp ?_ hm
  unfold State.reportCauseState
  try dsimp only
  (repeat' split) <;> simp (maxDischargeDepth := 60) [Ctr.rest, Tst.rest]

@[simp] theorem State.reportCauseCategory_does {m : Nat} {s0 s : State} (c : Cause) (old new : Category) (h : Does m s0 s)
    (hm : 4259840 &&& m = 4259840) : Does m s0 (State.reportCauseCategory s c old new) := by
  refine h.comp ?_ hm
  unfold State.reportCauseCategory
  try dsimp only
  (repeat' split) <;> simp (maxDischargeDepth := 60) [Ctr.rest, Tst.rest]

@[simp] theorem State.takeCondition_does {m : Nat} {s0 s : State} (x : CauseReport) (h : Does m s0 s)
    (hm : 4292608 &&& m = 4292608) : Does m s0 (State.takeCondition s x) := by
  refine h.comp ?_ hm
  unfold State.takeCondition
  try dsimp only
  (repeat' split) <;> simp (maxDischargeDepth := 60) [Ctr.rest, Tst.rest]

/-! ## The highest standing category -/

theorem category_max_code (a b : Category) : (a.max b).code = max a.code b.code := by cases a <;> cases b <;> rfl

theorem Category.eq_of_code {a b : Category} (h : a.code = b.code) : a = b := by
  revert h; cases a <;> cases b <;> decide

/-- What the fold of `highestStanding` can answer from a start `m`: no less than `m` and than every standing record, and
`m` or the category of a standing record. -/
theorem standing_foldl (rs : List CauseRecord) (m : Category) :
    let h := rs.foldl (fun m r => if r.state = .inactive then m else m.max r.category) m
    m.code ≤ h.code ∧ (∀ r ∈ rs, r.state ≠ .inactive → r.category.code ≤ h.code) ∧
      (h = m ∨ ∃ r ∈ rs, r.state ≠ .inactive ∧ r.category = h) := by
  induction rs generalizing m with
  | nil => exact ⟨Nat.le_refl _, by simp, .inl rfl⟩
  | cons r rs ih =>
    simp only [List.foldl_cons]
    by_cases hr : r.state = .inactive
    · obtain ⟨h1, h2, h3⟩ := ih m
      simp only [hr, if_true]
      refine ⟨h1, ?_, h3.imp id fun ⟨x, hx, y⟩ => ⟨x, .tail _ hx, y⟩⟩
      intro x hx hs
      cases hx with
      | head => exact absurd hr hs
      | tail _ hx => exact h2 x hx hs
    · obtain ⟨h1, h2, h3⟩ := ih (m.max r.category)
      simp only [hr, if_false]
      rw [category_max_code] at h1
      refine ⟨by omega, ?_, ?_⟩
      · intro x hx hs
        cases hx with
        | head => omega
        | tail _ hx => exact h2 x hx hs
      · rcases h3 with h3 | ⟨x, hx, y⟩
        · rw [h3]
          unfold Category.max
          split
          · exact .inl rfl
          · exact .inr ⟨r, .head _, hr, rfl⟩
        · exact .inr ⟨x, .tail _ hx, y⟩

/-- Every standing record lies at or below the highest standing category (R163). -/
theorem le_highestStanding {rs : List CauseRecord} {r : CauseRecord} (hr : r ∈ rs) (hs : r.state ≠ .inactive) :
    r.category.code ≤ (highestStanding rs).code :=
  (standing_foldl rs .run).2.1 r hr hs

/-- The highest standing category is RUN or that of a standing record (R163). -/
theorem highestStanding_attained (rs : List CauseRecord) :
    highestStanding rs = .run ∨ ∃ r ∈ rs, r.state ≠ .inactive ∧ r.category = highestStanding rs :=
  (standing_foldl rs .run).2.2

/-- Every standing cause but SUMMIT_STOP lies at or below the own category (R138). -/
theorem le_ownCategory (s : State) {c : Cause} (hc : c ≠ .summitStop) (hs : (s.cause c).state ≠ .inactive) :
    (s.cause c).category.code ≤ s.ownCategory.code := by
  refine le_highestStanding (List.mem_map.2 ⟨c, List.mem_filter.2 ⟨?_, by simpa using hc⟩, rfl⟩) hs
  cases c <;> decide

/-- The own category is RUN or that of a standing cause other than SUMMIT_STOP (R138). -/
theorem ownCategory_attained (s : State) :
    s.ownCategory = .run ∨
      ∃ c, c ≠ .summitStop ∧ (s.cause c).state ≠ .inactive ∧ (s.cause c).category = s.ownCategory := by
  rcases highestStanding_attained ((Cause.all.filter fun c => c ≠ .summitStop).map s.cause) with h | ⟨r, hr, h⟩
  · exact .inl h
  · obtain ⟨c, hc, rfl⟩ := List.mem_map.1 hr
    exact .inr ⟨c, by simpa using (List.mem_filter.1 hc).2, h⟩

/-- The records of a whole chain, cause by cause. -/
theorem map_cause_all {s : State} (h : s.stc.records.length = 48) : Cause.all.map s.cause = s.stc.records := by
  have hn : ∀ (i : Nat) (hi : i < Cause.all.length), Cause.all[i].num = i := by decide
  refine List.ext_getElem (by rw [h]; rfl) fun i hi hr => ?_
  rw [List.getElem_map]
  unfold State.cause
  rw [hn, List.getD_eq_getElem _ _ hr]

/-- With SUMMIT_STOP INACTIVE the own category is the highest of the whole chain (R163). -/
theorem ownCategory_of_no_mirror {s : State} (h : s.stc.records.length = 48)
    (hm : (s.cause .summitStop).state = .inactive) : s.ownCategory = highestStanding s.stc.records := by
  rw [← map_cause_all h]
  refine Category.eq_of_code (Nat.le_antisymm ?_ ?_)
  · rcases ownCategory_attained s with h | ⟨c, -, hs, h⟩
    · rw [h]; exact Nat.zero_le _
    · rw [← h]; exact le_highestStanding (List.mem_map.2 ⟨c, by cases c <;> decide, rfl⟩) hs
  · rcases highestStanding_attained (Cause.all.map s.cause) with h | ⟨r, hr, hs, h⟩
    · rw [h]; exact Nat.zero_le _
    · obtain ⟨c, -, rfl⟩ := List.mem_map.1 hr
      rw [← h]
      exact le_ownCategory s (fun e => hs (e ▸ hm)) hs

theorem FirstOut.rise_bounded (f : FirstOut) (b : Bool) (e : RiseEntry) (h : f.bounded) : (f.rise b e).bounded := by
  simp only [FirstOut.bounded, FirstOut.rise] at *
  repeat' split
  all_goals simp
  all_goals omega

@[simp] theorem State.setOutput_does {m : Nat} {s0 s : State} (c : Category) (rise : Option Riser) (h : Does m s0 s)
    (hm : 32768 &&& m = 32768) : Does m s0 (s.setOutput c rise) := by
  refine h.comp ?_ hm
  refine (Does.refl _ _).setStc (.inl rfl) (fun hb => ?_) (fun _ => ⟨rfl, rfl⟩)
  obtain ⟨h0, h1, h2⟩ := hb
  refine ⟨h0, ?_, ?_⟩
  · dsimp only
    repeat' split
    · exact ⟨Nat.zero_le _, Nat.zero_le _⟩
    · exact FirstOut.rise_bounded _ _ _ h1
    · exact h1
    · exact h1
  · dsimp only
    split
    · exact h1
    · exact h2


@[simp] theorem State.reportOutput_does {m : Nat} {s0 s : State} (old : Category) (rise : Option Riser) (h : Does m s0 s)
    (hm : 4259840 &&& m = 4259840) : Does m s0 (State.reportOutput s old rise) := by
  refine h.comp ?_ hm
  unfold State.reportOutput
  try dsimp only
  (repeat' split) <;> simp (maxDischargeDepth := 60) [Ctr.rest, Tst.rest]

@[simp] theorem State.tellOutput_does {m : Nat} {s0 s : State}  (h : Does m s0 s)
    (hm : 4284944 &&& m = 4284944) : Does m s0 (State.tellOutput s) := by
  refine h.comp ?_ hm
  unfold State.tellOutput
  try dsimp only
  (repeat' split) <;> simp (maxDischargeDepth := 60) [Ctr.rest, Tst.rest]

@[simp] theorem State.formOutput_does {m : Nat} {s0 s : State} (rs : List Riser) (h : Does m s0 s)
    (hm : 4317712 &&& m = 4317712) : Does m s0 (State.formOutput s rs) := by
  refine h.comp ?_ hm
  unfold State.formOutput
  try dsimp only
  (repeat' split) <;> simp (maxDischargeDepth := 60) [Ctr.rest, Tst.rest]

@[simp] theorem State.clearGathered_does {m : Nat} {s0 s : State}  (h : Does m s0 s)
    (hm : 32768 &&& m = 32768) : Does m s0 (State.clearGathered s) := by
  refine h.comp ?_ hm
  unfold State.clearGathered
  try dsimp only
  (repeat' split) <;> simp (maxDischargeDepth := 60) [Ctr.rest, Tst.rest]

@[simp] theorem State.takeTogether_does {m : Nat} {s0 s : State} (xs : List CauseReport) (h : Does m s0 s)
    (hm : 4317712 &&& m = 4317712) : Does m s0 (s.takeTogether xs) := by
  refine h.comp ?_ hm
  refine State.formOutput_does _ (Does.foldl _ _ (Does.refl _ _) fun x a hx => ?_) rfl
  exact State.takeCondition_does _ hx rfl

@[simp] theorem State.takeReport_does {m : Nat} {s0 s : State}  (h : Does m s0 s)
    (hm : 4317712 &&& m = 4317712) : Does m s0 (State.takeReport s) := by
  refine h.comp ?_ hm
  unfold State.takeReport
  split
  · simp
  · exact Does.foldl _ _ (by simp) fun x a hx => State.takeTogether_does _ hx rfl

@[simp] theorem State.setMirror_does {m : Nat} {s0 s : State} (c : Category) (h : Does m s0 s)
    (hm : 32768 &&& m = 32768) : Does m s0 (State.setMirror s c) := by
  refine h.comp ?_ hm
  unfold State.setMirror
  try dsimp only
  (repeat' split) <;> simp (maxDischargeDepth := 60) [Ctr.rest, Tst.rest]

end Sys2Proof.Machine
end

