-- ==== Sys2Proof/Laws/DoorOps.lean ====
section
/-! SUPPORT. What the operations of Machine/DoorOps.lean touch and keep. -/

namespace Sys2Proof.Machine

set_option linter.unusedSimpArgs false
set_option linter.unusedTactic false
set_option linter.unnecessarySeqFocus false

@[simp] theorem State.setDoorRecords_does {m : Nat} {s0 s : State} (rs : List DoorRecord) (h : Does m s0 s)
    (hm : 2048 &&& m = 2048) : Does m s0 (State.setDoorRecords s rs) := by
  refine h.comp ?_ hm
  unfold State.setDoorRecords
  try dsimp only
  (repeat' split) <;> simp (maxDischargeDepth := 60) [Ctr.rest, Tst.rest]

@[simp] theorem State.modRecord_does {m : Nat} {s0 s : State} (serial : Nat) (f : DoorRecord → DoorRecord) (h : Does m s0 s)
    (hm : 2048 &&& m = 2048) : Does m s0 (State.modRecord s serial f) := by
  refine h.comp ?_ hm
  unfold State.modRecord
  try dsimp only
  (repeat' split) <;> simp (maxDischargeDepth := 60) [Ctr.rest, Tst.rest]

@[simp] theorem State.setHoldOpen_does {m : Nat} {s0 s : State} (e : StationEntry) (b : Bool) (h : Does m s0 s)
    (hm : 2052 &&& m = 2052) : Does m s0 (State.setHoldOpen s e b) := by
  refine h.comp ?_ hm
  unfold State.setHoldOpen
  try dsimp only
  (repeat' split) <;> simp (maxDischargeDepth := 60) [Ctr.rest, Tst.rest]

@[simp] theorem State.changeDoor_does {m : Nat} {s0 s : State} (e : StationEntry) (d : DoorState) (h : Does m s0 s)
    (hm : 4293172 &&& m = 4293172) : Does m s0 (State.changeDoor s e d) := by
  refine h.comp ?_ hm
  unfold State.changeDoor
  try dsimp only
  (repeat' split) <;> simp (maxDischargeDepth := 60) [Ctr.rest, Tst.rest]

@[simp] theorem State.judgeObstruction_does {m : Nat} {s0 s : State} (cabin : Option Nat) (h : Does m s0 s)
    (hm : 32768 &&& m = 32768) : Does m s0 (State.judgeObstruction s cabin) := by
  refine h.comp ?_ hm
  unfold State.judgeObstruction
  try dsimp only
  (repeat' split) <;> simp (maxDischargeDepth := 60) [Ctr.rest, Tst.rest]

@[simp] theorem State.setDoorUnit_does {m : Nat} {s0 s : State} (u : DoorUnitName) (x : DoorUnit) (h : Does m s0 s)
    (hm : 2048 &&& m = 2048) : Does m s0 (State.setDoorUnit s u x) := by
  refine h.comp ?_ hm
  unfold State.setDoorUnit
  try dsimp only
  (repeat' split) <;> simp (maxDischargeDepth := 60) [Ctr.rest, Tst.rest]

@[simp] theorem State.advanceDoorTag_does {m : Nat} {s0 s : State}  (h : Does m s0 s)
    (hm : 2048 &&& m = 2048) : Does m s0 (State.advanceDoorTag s) := by
  refine h.comp ?_ hm
  unfold State.advanceDoorTag
  try dsimp only
  (repeat' split) <;> simp (maxDischargeDepth := 60) [Ctr.rest, Tst.rest]

@[simp] theorem State.setUnitState_does {m : Nat} {s0 s : State} (u : DoorUnitName) (x : UnitState) (h : Does m s0 s)
    (hm : 2048 &&& m = 2048) : Does m s0 (State.setUnitState s u x) := by
  refine h.comp ?_ hm
  unfold State.setUnitState
  try dsimp only
  (repeat' split) <;> simp (maxDischargeDepth := 60) [Ctr.rest, Tst.rest]

@[simp] theorem State.offerFirst_does {m : Nat} {s0 s : State} (u : DoorUnitName) (c : DoorCommand) (h : Does m s0 s)
    (hm : 67584 &&& m = 67584) : Does m s0 (State.offerFirst s u c) := by
  refine h.comp ?_ hm
  unfold State.offerFirst
  try dsimp only
  (repeat' split) <;> simp (maxDischargeDepth := 60) [Ctr.rest, Tst.rest]

@[simp] theorem State.unitToIdle_does {m : Nat} {s0 s : State} (u : DoorUnitName) (h : Does m s0 s)
    (hm : 67584 &&& m = 67584) : Does m s0 (State.unitToIdle s u) := by
  refine h.comp ?_ hm
  unfold State.unitToIdle
  try dsimp only
  (repeat' split) <;> simp (maxDischargeDepth := 60) [Ctr.rest, Tst.rest]

@[simp] theorem State.driveFault_does {m : Nat} {s0 s : State} (u : DoorUnitName) (c : DoorCommand) (r : DriveReason) (h : Does m s0 s)
    (hm : 4292608 &&& m = 4292608) : Does m s0 (State.driveFault s u c r) := by
  refine h.comp ?_ hm
  unfold State.driveFault
  try dsimp only
  (repeat' split) <;> simp (maxDischargeDepth := 60) [Ctr.rest, Tst.rest]

@[simp] theorem State.markDropped_does {m : Nat} {s0 s : State} (c : DoorCommand) (h : Does m s0 s)
    (hm : 2048 &&& m = 2048) : Does m s0 (State.markDropped s c) := by
  refine h.comp ?_ hm
  unfold State.markDropped
  try dsimp only
  (repeat' split) <;> simp (maxDischargeDepth := 60) [Ctr.rest, Tst.rest]

@[simp] theorem State.withdrawBusy_does {m : Nat} {s0 s : State} (u : DoorUnitName) (p : DoorCommand → Bool) (h : Does m s0 s)
    (hm : 67584 &&& m = 67584) : Does m s0 (State.withdrawBusy s u p) := by
  refine h.comp ?_ hm
  unfold State.withdrawBusy
  try dsimp only
  (repeat' split) <;> simp (maxDischargeDepth := 60) [Ctr.rest, Tst.rest]

@[simp] theorem State.withdrawHeld_does {m : Nat} {s0 s : State} (u : DoorUnitName) (h : Does m s0 s)
    (hm : 67584 &&& m = 67584) : Does m s0 (State.withdrawHeld s u) := by
  unfold State.withdrawHeld
  simp [h, hm]

@[simp] theorem State.issueDoor_does {m : Nat} {s0 s : State} (u : DoorUnitName) (c : DoorCommand) (h : Does m s0 s)
    (hm : 4294656 &&& m = 4294656) : Does m s0 (State.issueDoor s u c) := by
  refine h.comp ?_ hm
  unfold State.issueDoor
  try dsimp only
  (repeat' split) <;> simp (maxDischargeDepth := 60) [Ctr.rest, Tst.rest]

@[simp] theorem State.abandonDoor_does {m : Nat} {s0 s : State} (u : DoorUnitName) (c : DoorCommand) (r : DriveReason) (h : Does m s0 s)
    (hm : 4294656 &&& m = 4294656) : Does m s0 (State.abandonDoor s u c r) := by
  refine h.comp ?_ hm
  unfold State.abandonDoor
  try dsimp only
  (repeat' split) <;> simp (maxDischargeDepth := 60) [Ctr.rest, Tst.rest]

@[simp] theorem State.refuseDoor_does {m : Nat} {s0 s : State} (u : DoorUnitName) (c : DoorCommand) (tag retries : Nat) (h : Does m s0 s)
    (hm : 4294656 &&& m = 4294656) : Does m s0 (State.refuseDoor s u c tag retries) := by
  refine h.comp ?_ hm
  unfold State.refuseDoor
  try dsimp only
  (repeat' split) <;> simp (maxDischargeDepth := 60) [Ctr.rest, Tst.rest]

@[simp] theorem State.offerAgain_does {m : Nat} {s0 s : State} (u : DoorUnitName) (c : DoorCommand) (retries : Nat) (h : Does m s0 s)
    (hm : 4294656 &&& m = 4294656) : Does m s0 (State.offerAgain s u c retries) := by
  refine h.comp ?_ hm
  unfold State.offerAgain
  try dsimp only
  (repeat' split) <;> simp (maxDischargeDepth := 60) [Ctr.rest, Tst.rest]

@[simp] theorem State.completeUnit_does {m : Nat} {s0 s : State} (u : DoorUnitName) (cabin : Option Nat) (h : Does m s0 s)
    (hm : 67584 &&& m = 67584) : Does m s0 (State.completeUnit s u cabin) := by
  refine h.comp ?_ hm
  unfold State.completeUnit
  try dsimp only
  (repeat' split) <;> simp (maxDischargeDepth := 60) [Ctr.rest, Tst.rest]

@[simp] theorem State.withdrawPending_does {m : Nat} {s0 s : State} (u : DoorUnitName) (p : DoorCommand → Bool) (h : Does m s0 s)
    (hm : 2048 &&& m = 2048) : Does m s0 (State.withdrawPending s u p) := by
  refine h.comp ?_ hm
  unfold State.withdrawPending
  try dsimp only
  (repeat' split) <;> simp (maxDischargeDepth := 60) [Ctr.rest, Tst.rest]

@[simp] theorem State.withdrawUnsent_does {m : Nat} {s0 s : State} (u : DoorUnitName) (p : DoorCommand → Bool) (h : Does m s0 s)
    (hm : 67584 &&& m = 67584) : Does m s0 (State.withdrawUnsent s u p) := by
  refine h.comp ?_ hm
  unfold State.withdrawUnsent
  try dsimp only
  (repeat' split) <;> simp (maxDischargeDepth := 60) [Ctr.rest, Tst.rest]

@[simp] theorem State.withdrawAllFor_does {m : Nat} {s0 s : State} (serial : Nat) (h : Does m s0 s)
    (hm : 67584 &&& m = 67584) : Does m s0 (State.withdrawAllFor s serial) := by
  refine h.comp ?_ hm
  unfold State.withdrawAllFor
  try dsimp only
  (repeat' split) <;> simp (maxDischargeDepth := 60) [Ctr.rest, Tst.rest]

@[simp] theorem State.startDwell_does {m : Nat} {s0 s : State} (e : StationEntry) (h : Does m s0 s)
    (hm : 2048 &&& m = 2048) : Does m s0 (State.startDwell s e) := by
  refine h.comp ?_ hm
  unfold State.startDwell
  try dsimp only
  (repeat' split) <;> simp (maxDischargeDepth := 60) [Ctr.rest, Tst.rest]

@[simp] theorem State.withdrawClose_does {m : Nat} {s0 s : State} (serial : Nat) (h : Does m s0 s)
    (hm : 67584 &&& m = 67584) : Does m s0 (State.withdrawClose s serial) := by
  refine h.comp ?_ hm
  simp (maxDischargeDepth := 60) [State.withdrawClose]

@[simp] theorem State.enterOpen_does {m : Nat} {s0 s : State} (e : StationEntry) (h : Does m s0 s)
    (hm : 67584 &&& m = 67584) : Does m s0 (State.enterOpen s e) := by
  refine h.comp ?_ hm
  simp (maxDischargeDepth := 60) [State.enterOpen]

@[simp] theorem State.startSettle_does {m : Nat} {s0 s : State} (e : StationEntry) (h : Does m s0 s)
    (hm : 2048 &&& m = 2048) : Does m s0 (State.startSettle s e) := by
  refine h.comp ?_ hm
  unfold State.startSettle
  try dsimp only
  (repeat' split) <;> simp (maxDischargeDepth := 60) [Ctr.rest, Tst.rest]

@[simp] theorem State.startReopenWait_does {m : Nat} {s0 s : State} (e : StationEntry) (h : Does m s0 s)
    (hm : 2048 &&& m = 2048) : Does m s0 (State.startReopenWait s e) := by
  refine h.comp ?_ hm
  unfold State.startReopenWait
  try dsimp only
  (repeat' split) <;> simp (maxDischargeDepth := 60) [Ctr.rest, Tst.rest]

@[simp] theorem State.closeTest_does {m : Nat} {s0 s : State} (serial : Nat) (h : Does m s0 s)
    (hm : 4294656 &&& m = 4294656) : Does m s0 (State.closeTest s serial) := by
  refine h.comp ?_ hm
  unfold State.closeTest
  try dsimp only
  (repeat' split) <;> simp (maxDischargeDepth := 60) [Ctr.rest, Tst.rest]

@[simp] theorem State.openAtD2_does {m : Nat} {s0 s : State} (e : StationEntry) (h : Does m s0 s)
    (hm : 4294656 &&& m = 4294656) : Does m s0 (State.openAtD2 s e) := by
  refine h.comp ?_ hm
  unfold State.openAtD2
  try dsimp only
  (repeat' split) <;> simp (maxDischargeDepth := 60) [Ctr.rest, Tst.rest]

@[simp] theorem State.insertDoor_does {m : Nat} {s0 s : State} (u : DoorUnitName) (b : BusyCommand) (h : Does m s0 s)
    (hm : 4295220 &&& m = 4295220) : Does m s0 (State.insertDoor s u b) := by
  refine h.comp ?_ hm
  unfold State.insertDoor
  try dsimp only
  (repeat' split) <;> simp (maxDischargeDepth := 60) [Ctr.rest, Tst.rest]

@[simp] theorem State.doorInserted_does {m : Nat} {s0 s : State} (kind : RingKind) (tag : Nat) (h : Does m s0 s)
    (hm : 4295220 &&& m = 4295220) : Does m s0 (State.doorInserted s kind tag) := by
  refine h.comp ?_ hm
  unfold State.doorInserted
  try dsimp only
  (repeat' split) <;> simp (maxDischargeDepth := 60) [Ctr.rest, Tst.rest]

@[simp] theorem State.doorDeparted_does {m : Nat} {s0 s : State} (e : StationEntry) (h : Does m s0 s)
    (hm : 100356 &&& m = 100356) : Does m s0 (State.doorDeparted s e) := by
  refine h.comp ?_ hm
  unfold State.doorDeparted
  try dsimp only
  (repeat' split) <;> simp (maxDischargeDepth := 60) [Ctr.rest, Tst.rest]

end Sys2Proof.Machine
end

