-- ==== Sys2Proof/Laws/TrackOps.lean ====
section
/-! SUPPORT. What the operations of Machine/TrackOps.lean touch and keep. -/

namespace Sys2Proof.Machine

set_option linter.unusedSimpArgs false
set_option linter.unusedTactic false
set_option linter.unnecessarySeqFocus false

@[simp] theorem State.takeSerial_does {m : Nat} {s0 s : State} (n : Nat) (h : Does m s0 s)
    (hm : 1024 &&& m = 1024) : Does m s0 (State.takeSerial s n) := by
  refine h.comp ?_ hm
  unfold State.takeSerial
  try dsimp only
  (repeat' split) <;> simp (maxDischargeDepth := 60) [Ctr.rest, Tst.rest]

@[simp] theorem State.phantom_does {m : Nat} {s0 s : State} (detector : Nat) (h : Does m s0 s)
    (hm : 4292608 &&& m = 4292608) : Does m s0 (State.phantom s detector) := by
  refine h.comp ?_ hm
  unfold State.phantom
  try dsimp only
  (repeat' split) <;> simp (maxDischargeDepth := 60) [Ctr.rest, Tst.rest]

@[simp] theorem State.reversePassage_does {m : Nat} {s0 s : State} (detector : Nat) (h : Does m s0 s)
    (hm : 4292608 &&& m = 4292608) : Does m s0 (State.reversePassage s detector) := by
  refine h.comp ?_ hm
  unfold State.reversePassage
  try dsimp only
  (repeat' split) <;> simp (maxDischargeDepth := 60) [Ctr.rest, Tst.rest]

@[simp] theorem State.judgeSegments_does {m : Nat} {s0 s : State}  (h : Does m s0 s)
    (hm : 4292608 &&& m = 4292608) : Does m s0 (State.judgeSegments s) := by
  refine h.comp ?_ hm
  unfold State.judgeSegments
  try dsimp only
  (repeat' split) <;> simp (maxDischargeDepth := 60) [Ctr.rest, Tst.rest]

@[simp] theorem State.advanceTrackTag_does {m : Nat} {s0 s : State}  (h : Does m s0 s)
    (hm : 1024 &&& m = 1024) : Does m s0 (State.advanceTrackTag s) := by
  refine h.comp ?_ hm
  unfold State.advanceTrackTag
  try dsimp only
  (repeat' split) <;> simp (maxDischargeDepth := 60) [Ctr.rest, Tst.rest]

@[simp] theorem State.commandSwitch_does {m : Nat} {s0 s : State} (p : SwitchPosition) (h : Does m s0 s)
    (hm : 4260864 &&& m = 4260864) : Does m s0 (State.commandSwitch s p) := by
  refine h.comp ?_ hm
  unfold State.commandSwitch
  try dsimp only
  (repeat' split) <;> simp (maxDischargeDepth := 60) [Ctr.rest, Tst.rest]

@[simp] theorem State.judgeSwitch_does {m : Nat} {s0 s : State}  (h : Does m s0 s)
    (hm : 4260864 &&& m = 4260864) : Does m s0 (State.judgeSwitch s) := by
  refine h.comp ?_ hm
  unfold State.judgeSwitch
  try dsimp only
  (repeat' split) <;> simp (maxDischargeDepth := 60) [Ctr.rest, Tst.rest]

@[simp] theorem State.judgeGarageExit_does {m : Nat} {s0 s : State}  (h : Does m s0 s)
    (hm : 66560 &&& m = 66560) : Does m s0 (State.judgeGarageExit s) := by
  refine h.comp ?_ hm
  unfold State.judgeGarageExit
  try dsimp only
  (repeat' split) <;> simp (maxDischargeDepth := 60) [Ctr.rest, Tst.rest]

@[simp] theorem State.exitInserted_does {m : Nat} {s0 s : State} (tag : Nat) (h : Does m s0 s)
    (hm : 1024 &&& m = 1024) : Does m s0 (State.exitInserted s tag) := by
  refine h.comp ?_ hm
  unfold State.exitInserted
  simp [Ctr.rest]

@[simp] theorem State.endExitCommand_does {m : Nat} {s0 s : State}  (h : Does m s0 s)
    (hm : 1024 &&& m = 1024) : Does m s0 (State.endExitCommand s) := by
  refine h.comp ?_ hm
  unfold State.endExitCommand
  try dsimp only
  (repeat' split) <;> simp (maxDischargeDepth := 60) [Ctr.rest, Tst.rest]

@[simp] theorem State.unwatch_does {m : Nat} {s0 s : State} (who : Who) (h : Does m s0 s)
    (hm : 528 &&& m = 528) : Does m s0 (State.unwatch s who) := by
  refine h.comp ?_ hm
  unfold State.unwatch
  try dsimp only
  (repeat' split) <;> simp (maxDischargeDepth := 60) [Ctr.rest, Tst.rest, List.length_filter_le]

@[simp] theorem State.leaveStation_does {m : Nat} {s0 s : State} (e : StationEntry) (h : Does m s0 s)
    (hm : 4296244 &&& m = 4296244) : Does m s0 (State.leaveStation s e) := by
  refine h.comp ?_ hm
  unfold State.leaveStation
  try dsimp only
  (repeat' split) <;> simp (maxDischargeDepth := 60) [Ctr.rest, Tst.rest, List.length_filter_le]

@[simp] theorem State.setLocation_does {m : Nat} {s0 s : State} (i : Nat) (l : Location) (h : Does m s0 s)
    (hm : 4 &&& m = 4) : Does m s0 (State.setLocation s i l) := by
  refine h.comp ?_ hm
  unfold State.setLocation
  try dsimp only
  (repeat' split) <;> simp (maxDischargeDepth := 60) [Ctr.rest, Tst.rest]

@[simp] theorem State.clearOverdue_does {m : Nat} {s0 s : State} (i : Nat) (h : Does m s0 s)
    (hm : 4 &&& m = 4) : Does m s0 (State.clearOverdue s i) := by
  refine h.comp ?_ hm
  unfold State.clearOverdue
  try dsimp only
  (repeat' split) <;> simp (maxDischargeDepth := 60) [Ctr.rest, Tst.rest]

@[simp] theorem State.leaveUphill_does {m : Nat} {s0 s : State} (i : Nat) (h : Does m s0 s)
    (hm : 640 &&& m = 640) : Does m s0 (State.leaveUphill s i) := by
  refine h.comp ?_ hm
  unfold State.leaveUphill
  try dsimp only
  (repeat' split) <;> simp (maxDischargeDepth := 60) [Ctr.rest, Tst.rest]

@[simp] theorem State.leaveDownhill_does {m : Nat} {s0 s : State} (i : Nat) (h : Does m s0 s)
    (hm : 640 &&& m = 640) : Does m s0 (State.leaveDownhill s i) := by
  refine h.comp ?_ hm
  unfold State.leaveDownhill
  try dsimp only
  (repeat' split) <;> simp (maxDischargeDepth := 60) [Ctr.rest, Tst.rest]

@[simp] theorem State.takeOut_does {m : Nat} {s0 s : State} (i : Nat) (h : Does m s0 s)
    (hm : 4296692 &&& m = 4296692) : Does m s0 (State.takeOut s i) := by
  refine h.comp ?_ hm
  unfold State.takeOut
  try dsimp only
  (repeat' split) <;> simp (maxDischargeDepth := 60) [Ctr.rest, Tst.rest, List.length_filter_le]

@[simp] theorem State.freeReleaseSlot_does {m : Nat} {s0 s : State} (i : Nat) (h : Does m s0 s)
    (hm : 512 &&& m = 512) : Does m s0 (State.freeReleaseSlot s i) := by
  refine h.comp ?_ hm
  unfold State.freeReleaseSlot
  (repeat' split) <;> simp

@[simp] theorem State.takeBooked_does {m : Nat} {s0 s : State} (i : Nat) (h : Does m s0 s)
    (hm : 4296692 &&& m = 4296692) : Does m s0 (State.takeBooked s i) := by
  refine h.comp ?_ hm
  unfold State.takeBooked
  simp

@[simp] theorem State.joinSummit_does {m : Nat} {s0 s : State} (i : Nat) (h : Does m s0 s)
    (hm : 260 &&& m = 260) : Does m s0 (State.joinSummit s i) := by
  refine h.comp ?_ hm
  unfold State.joinSummit
  try dsimp only
  (repeat' split) <;> simp (maxDischargeDepth := 60) [Ctr.rest, Tst.rest]

@[simp] theorem State.joinUnlocated_does {m : Nat} {s0 s : State} (i : Nat) (h : Does m s0 s)
    (hm : 260 &&& m = 260) : Does m s0 (State.joinUnlocated s i) := by
  refine h.comp ?_ hm
  unfold State.joinUnlocated
  try dsimp only
  (repeat' split) <;> simp (maxDischargeDepth := 60) [Ctr.rest, Tst.rest]

@[simp] theorem State.reportUnlocated_does {m : Nat} {s0 s : State} (i : Nat) (left : Location) (b : UnlocatedBy) (h : Does m s0 s)
    (hm : 4259840 &&& m = 4259840) : Does m s0 (State.reportUnlocated s i left b) := by
  refine h.comp ?_ hm
  unfold State.reportUnlocated
  try dsimp only
  (repeat' split) <;> simp (maxDischargeDepth := 60) [Ctr.rest, Tst.rest]

@[simp] theorem State.unlocate_does {m : Nat} {s0 s : State} (i : Nat) (b : UnlocatedBy) (h : Does m s0 s)
    (hm : 4296692 &&& m = 4296692) : Does m s0 (State.unlocate s i b) := by
  refine h.comp ?_ hm
  unfold State.unlocate
  try dsimp only
  (repeat' split) <;> simp (maxDischargeDepth := 60) [Ctr.rest, Tst.rest]

@[simp] theorem State.skipCabins_does {m : Nat} {s0 s : State} (xs : List Nat) (h : Does m s0 s) (hm : 4296692 &&& m = 4296692) :
    Does m s0 (s.skipCabins xs) := by
  induction xs generalizing s with
  | nil => exact h
  | cons x rest ih =>
    unfold State.skipCabins
    exact ih (h.comp (by simp) hm)


@[simp] theorem State.duplicate_does {m : Nat} {s0 s : State} (i : Nat) (left : Location) (h : Does m s0 s)
    (hm : 4292608 &&& m = 4292608) : Does m s0 (State.duplicate s i left) := by
  refine h.comp ?_ hm
  unfold State.duplicate
  try dsimp only
  (repeat' split) <;> simp (maxDischargeDepth := 60) [Ctr.rest, Tst.rest]

@[simp] theorem State.matchArrival_does {m : Nat} {s0 s : State} (x : Terminal) (i : Nat) (h : Does m s0 s)
    (hm : 4296692 &&& m = 4296692) : Does m s0 (State.matchArrival s x i) := by
  refine h.comp ?_ hm
  unfold State.matchArrival
  try dsimp only
  (repeat' split) <;> simp (maxDischargeDepth := 60) [Ctr.rest, Tst.rest]

/-! ## The queue only shrinks where cabins are taken from it -/

theorem State.leaveStation_queue (s : State) (e : StationEntry) :
    (s.leaveStation e).ctr.queue = s.ctr.queue.filter fun x => x.serial ≠ e.serial := by
  have h : Does 4296212 (s.setQueue (s.ctr.queue.filter fun x => x.serial ≠ e.serial)) (s.leaveStation e) := by
    unfold State.leaveStation
    dsimp only
    split <;> simp (maxDischargeDepth := 60)
  exact h.1 .queue rfl

theorem State.takeOut_queue (s : State) (i : Nat) : (s.takeOut i).ctr.queue.length ≤ s.ctr.queue.length := by
  unfold State.takeOut
  split
  · split
    · rw [State.leaveStation_queue]; exact List.length_filter_le _ _
    · exact Nat.le_refl _
  · exact Nat.le_refl _
  · exact Nat.le_of_eq (congrArg List.length ((State.leaveUphill_does i (Does.refl 640 s) rfl).1 .queue rfl))
  · exact Nat.le_of_eq (congrArg List.length ((State.leaveDownhill_does i (Does.refl 640 s) rfl).1 .queue rfl))
  · exact Nat.le_refl _
  · exact Nat.le_refl _
  · exact Nat.le_refl _

theorem State.takeBooked_queue (s : State) (i : Nat) : (s.takeBooked i).ctr.queue.length ≤ s.ctr.queue.length :=
  (congrArg List.length ((State.freeReleaseSlot_does i (Does.refl 512 (s.takeOut i)) rfl).1 .queue rfl)).le.trans
    (s.takeOut_queue i)

theorem State.unlocate_queue (s : State) (i : Nat) (b : UnlocatedBy) :
    (s.unlocate i b).ctr.queue.length ≤ s.ctr.queue.length := by
  have h : Does 4260100 (s.takeOut i) (s.unlocate i b) := by unfold State.unlocate; simp
  exact (congrArg List.length (h.1 .queue rfl)).le.trans (s.takeOut_queue i)

theorem State.skipCabins_queue (s : State) (xs : List Nat) : (s.skipCabins xs).ctr.queue.length ≤ s.ctr.queue.length := by
  induction xs generalizing s with
  | nil => exact Nat.le_refl _
  | cons x rest ih => exact (ih _).trans (s.unlocate_queue x _)

theorem State.matchArrival_queue (s : State) (x : Terminal) (i : Nat) :
    (s.matchArrival x i).ctr.queue.length ≤ s.ctr.queue.length := by
  unfold State.matchArrival
  dsimp only
  repeat' split
  · exact s.takeBooked_queue i
  · refine (State.takeBooked_queue _ i).trans ((State.skipCabins_queue _ _).trans (Nat.le_of_eq ?_))
    exact congrArg List.length ((State.raise_does _ _ (Does.refl 32768 s) rfl).1 .queue rfl)
  · exact s.takeBooked_queue i
  · refine (State.takeBooked_queue _ i).trans (Nat.le_of_eq ?_)
    exact congrArg List.length ((State.duplicate_does _ _ (Does.refl 4292608 s) rfl).1 .queue rfl)

/-- An entry appended where the queue has room (R62). -/
theorem State.appendEntry_does {m : Nat} {s0 s : State} (e : StationEntry) (h : Does m s0 s)
    (hm : 32 &&& m = 32) (hq : s.ctr.queue.length < 32) : Does m s0 (State.appendEntry s e) := by
  refine h.comp ?_ hm
  unfold State.appendEntry
  refine State.growQueue_does (Does.refl _ _) rfl ?_
  simpa using hq

@[simp] theorem State.moveEntry_does {m : Nat} {s0 s : State} (e : StationEntry) (g : Segment) (h : Does m s0 s)
    (hm : 4292640 &&& m = 4292640) : Does m s0 (State.moveEntry s e g) := by
  refine h.comp ?_ hm
  unfold State.moveEntry
  try dsimp only
  (repeat' split) <;> simp (maxDischargeDepth := 60) [Ctr.rest, Tst.rest]

/-- An entry pushed on a garage stack with room (R74). -/
theorem State.pushGarage_does {m : Nat} {s0 s : State} (g : GarageEntry) (h : Does m s0 s)
    (hm : 64 &&& m = 64) (hg : s.Live → s.ctr.garage.length < 48) : Does m s0 (State.pushGarage s g) := by
  refine h.setCtr (.inr rfl) (.inl hm) (.inr ⟨rfl, rfl⟩) (.inr ⟨rfl, rfl⟩) (.inr rfl) (.inr rfl) fun hl => ?_
  have hb : s.ctr.bounded := hl.ctr
  exact ⟨hb.1, Nat.succ_le_of_lt (hg hl), hb.2.2⟩

@[simp] theorem State.headToS7_does {m : Nat} {s0 s : State} (e : StationEntry) (slotless : Bool) (h : Does m s0 s)
    (hm : 4293168 &&& m = 4293168) : Does m s0 (State.headToS7 s e slotless) := by
  refine h.comp ?_ hm
  unfold State.headToS7
  try dsimp only
  (repeat' split) <;> simp (maxDischargeDepth := 60) [Ctr.rest, Tst.rest]

@[simp] theorem State.markOverdue_does {m : Nat} {s0 s : State} (c : Cause) (k : EventKind) (i slot : Nat) (travel : Int) (h : Does m s0 s)
    (hm : 4292612 &&& m = 4292612) : Does m s0 (State.markOverdue s c k i slot travel) := by
  refine h.comp ?_ hm
  unfold State.markOverdue
  try dsimp only
  (repeat' split) <;> simp (maxDischargeDepth := 60) [Ctr.rest, Tst.rest]

@[simp] theorem State.checkUphill_does {m : Nat} {s0 s : State}  (h : Does m s0 s)
    (hm : 4292612 &&& m = 4292612) : Does m s0 (State.checkUphill s) := by
  refine h.comp ?_ hm
  unfold State.checkUphill
  try dsimp only
  (repeat' split) <;> simp (maxDischargeDepth := 60) [Ctr.rest, Tst.rest]

@[simp] theorem State.checkDownhill_does {m : Nat} {s0 s : State}  (h : Does m s0 s)
    (hm : 4292612 &&& m = 4292612) : Does m s0 (State.checkDownhill s) := by
  refine h.comp ?_ hm
  unfold State.checkDownhill
  try dsimp only
  (repeat' split) <;> simp (maxDischargeDepth := 60) [Ctr.rest, Tst.rest]

@[simp] theorem State.trackUpdate_does {m : Nat} {s0 s : State}  (h : Does m s0 s)
    (hm : 4292612 &&& m = 4292612) : Does m s0 (State.trackUpdate s) := by
  refine h.comp ?_ hm
  unfold State.trackUpdate
  try dsimp only
  (repeat' split) <;> simp (maxDischargeDepth := 60) [Ctr.rest, Tst.rest]

end Sys2Proof.Machine
end

