-- ==== Sys2Proof/Laws/Reconcile.lean ====
section
/-! SUPPORT. What the operations of Machine/Reconcile.lean touch and keep. -/

namespace Sys2Proof.Machine

set_option linter.unusedSimpArgs false
set_option linter.unusedTactic false
set_option linter.unnecessarySeqFocus false

@[simp] theorem State.setReconcile_does {m : Nat} {s0 s : State} (r : Reconcile) (h : Does m s0 s)
    (hm : 1024 &&& m = 1024) : Does m s0 (State.setReconcile s r) := by
  refine h.comp ?_ hm
  unfold State.setReconcile
  try dsimp only
  (repeat' split) <;> simp (maxDischargeDepth := 60) [Ctr.rest, Tst.rest]

/-- A request table from which a tag has been freed is right (R140). -/
theorem State.freeRequest_right {k : Slk} (tag : Nat) (h : k.requestsRight) :
    ({ k with
        requests := k.requests.filter fun e => e.tag ≠ tag
        txAnswered := k.txAnswered.filter fun f => f.tag ≠ tag } : Slk).requestsRight := by
  obtain ⟨h1, h2, h3⟩ := h
  have hr : (k.requests.filter fun e => e.tag ≠ tag).map RequestEntry.tag =
      (k.requests.map RequestEntry.tag).filter fun t => t ≠ tag := by
    simp [List.filter_map, Function.comp_def]
  have hf : (k.txAnswered.filter fun f => f.tag ≠ tag).map LinkFrame.tag =
      (k.txAnswered.map LinkFrame.tag).filter fun t => t ≠ tag := by
    simp [List.filter_map, Function.comp_def]
  refine ⟨(List.length_filter_le _ _).trans h1, ?_, ?_⟩
  · rw [hr]; exact h2.filter _
  · rw [hr, hf]; exact h3.filter _

@[simp] theorem State.freeRequest_does {m : Nat} {s0 s : State} (tag : Nat) (h : Does m s0 s)
    (hm : 8192 &&& m = 8192) : Does m s0 (State.freeRequest s tag) :=
  h.setSlk (.inl hm) fun hb => ⟨hb.1, State.freeRequest_right tag hb.2⟩

/-- A request accepted with a tag that is free, by a table with room (R140). -/
theorem State.acceptRequest_does {m : Nat} {s0 s : State} {tag : Nat} (h : Does m s0 s) (hm : 8192 &&& m = 8192)
    (hl : s.slk.requests.length < 8) (ht : s.slk.tagHeld tag = false) : Does m s0 (State.acceptRequest s tag) := by
  refine h.setSlk (.inl hm) fun hb => ⟨hb.1, ?_⟩
  obtain ⟨h1, h2, h3⟩ := hb.2
  have hn : tag ∉ s.slk.requests.map RequestEntry.tag := by
    simpa [Slk.tagHeld] using ht
  refine ⟨by simpa using hl, ?_, ?_⟩
  · simp only [List.map_append, List.map_cons, List.map_nil]
    exact List.nodup_append.2 ⟨h2, by simp, fun a ha b hb hab => hn (by simp at hb; simpa [hb ▸ hab] using ha)⟩
  · simp only [List.map_append, List.map_cons, List.map_nil]
    exact h3.append (List.Sublist.refl _)

theorem Slk.freeTag_free {k : Slk} {t : Nat} (h : k.freeTag = some t) : k.tagHeld t = false := by
  simpa using List.find?_some h

@[simp] theorem State.failReconcile_does {m : Nat} {s0 s : State}  (h : Does m s0 s)
    (hm : 9216 &&& m = 9216) : Does m s0 (State.failReconcile s) := by
  refine h.comp ?_ hm
  unfold State.failReconcile
  try dsimp only
  (repeat' split) <;> simp (maxDischargeDepth := 60) [Ctr.rest, Tst.rest]

@[simp] theorem State.issueQuery_does {m : Nat} {s0 s : State}  (h : Does m s0 s)
    (hm : 9216 &&& m = 9216) : Does m s0 (State.issueQuery s) := by
  refine h.comp ?_ hm
  unfold State.issueQuery
  dsimp only
  split
  · rename_i hc
    split
    · rename_i t ht
      refine State.setReconcile_does _ (State.acceptRequest_does (by simp) rfl ?_ (Slk.freeTag_free ht)) rfl
      simp_all
    · simp
  · simp

@[simp] theorem State.startReconcile_does {m : Nat} {s0 s : State}  (h : Does m s0 s)
    (hm : 9216 &&& m = 9216) : Does m s0 (State.startReconcile s) := by
  refine h.comp ?_ hm
  unfold State.startReconcile
  try dsimp only
  (repeat' split) <;> simp (maxDischargeDepth := 60) [Ctr.rest, Tst.rest]

@[simp] theorem State.moveToSummit_does {m : Nat} {s0 s : State} (xs : List Nat) (h : Does m s0 s) (hm : 4296692 &&& m = 4296692) :
    Does m s0 (s.moveToSummit xs) := by
  induction xs generalizing s with
  | nil => exact h
  | cons x rest ih =>
    unfold State.moveToSummit
    exact ih (h.comp (by simp) hm)


@[simp] theorem State.moveToUnlocated_does {m : Nat} {s0 s : State} (xs : List Nat) (h : Does m s0 s) (hm : 4296692 &&& m = 4296692) :
    Does m s0 (s.moveToUnlocated xs) := by
  induction xs generalizing s with
  | nil => exact h
  | cons x rest ih =>
    unfold State.moveToUnlocated
    exact ih (h.comp (by simp) hm)


@[simp] theorem State.setHandoverBase_does {m : Nat} {s0 s : State} (seq : Nat) (h : Does m s0 s)
    (hm : 8192 &&& m = 8192) : Does m s0 (State.setHandoverBase s seq) := by
  refine h.comp ?_ hm
  unfold State.setHandoverBase
  try dsimp only
  (repeat' split) <;> simp (maxDischargeDepth := 60) [Ctr.rest, Tst.rest]

@[simp] theorem State.applyReply_does {m : Nat} {s0 s : State} (seq : Nat) (ids : List Nat) (h : Does m s0 s)
    (hm : 4304884 &&& m = 4304884) : Does m s0 (State.applyReply s seq ids) := by
  refine h.comp ?_ hm
  unfold State.applyReply
  try dsimp only
  (repeat' split) <;> simp (maxDischargeDepth := 60) [Ctr.rest, Tst.rest]

@[simp] theorem State.takePart_does {m : Nat} {s0 s : State} (tag : Nat) (first : Option ReplyParts) (p : ReplyPart) (h : Does m s0 s)
    (hm : 4304884 &&& m = 4304884) : Does m s0 (State.takePart s tag first p) := by
  refine h.comp ?_ hm
  unfold State.takePart
  try dsimp only
  (repeat' split) <;> simp (maxDischargeDepth := 60) [Ctr.rest, Tst.rest]

@[simp] theorem State.handReply_does {m : Nat} {s0 s : State} (tag : Nat) (payload : List Byte) (h : Does m s0 s)
    (hm : 4304884 &&& m = 4304884) : Does m s0 (State.handReply s tag payload) := by
  refine h.comp ?_ hm
  unfold State.handReply
  try dsimp only
  (repeat' split) <;> simp (maxDischargeDepth := 60) [Ctr.rest, Tst.rest]

@[simp] theorem State.judgeHandoverSeq_does {m : Nat} {s0 s : State} (seq : Nat) (h : Does m s0 s)
    (hm : 41984 &&& m = 41984) : Does m s0 (State.judgeHandoverSeq s seq) := by
  refine h.comp ?_ hm
  unfold State.judgeHandoverSeq
  try dsimp only
  (repeat' split) <;> simp (maxDischargeDepth := 60) [Ctr.rest, Tst.rest]

@[simp] theorem State.discardHandover_does {m : Nat} {s0 s : State} (kind id : Nat) (h : Does m s0 s)
    (hm : 4268032 &&& m = 4268032) : Does m s0 (State.discardHandover s kind id) := by
  refine h.comp ?_ hm
  unfold State.discardHandover
  try dsimp only
  (repeat' split) <;> simp (maxDischargeDepth := 60) [Ctr.rest, Tst.rest]

@[simp] theorem State.placeAnswer_does {m : Nat} {s0 s : State} (kind tag : Nat) (parts : List LinkFrame) (h : Does m s0 s)
    (hm : 4268032 &&& m = 4268032) : Does m s0 (State.placeAnswer s kind tag parts) := by
  refine h.comp ?_ hm
  unfold State.placeAnswer
  split
  · exact State.setTxUnanswered_does (Does.refl _ _) rfl (.inl (by simpa using ‹_›))
  · simp (maxDischargeDepth := 60)

end Sys2Proof.Machine
end

