-- ==== Sys2Proof/Laws/LinkOps.lean ====
section
/-! SUPPORT. What the operations of Machine/LinkOps.lean touch and keep, and what the category sent is. -/

namespace Sys2Proof.Machine

set_option linter.unusedSimpArgs false
set_option linter.unusedTactic false
set_option linter.unnecessarySeqFocus false

@[simp] theorem State.setAcq_does {m : Nat} {s0 s : State} (n : Nat) (h : Does m s0 s)
    (hm : 8192 &&& m = 8192) : Does m s0 (State.setAcq s n) := by
  refine h.comp ?_ hm
  unfold State.setAcq
  try dsimp only
  (repeat' split) <;> simp (maxDischargeDepth := 60) [Ctr.rest, Tst.rest]

@[simp] theorem State.badCheck_does {m : Nat} {s0 s : State}  (h : Does m s0 s)
    (hm : 8192 &&& m = 8192) : Does m s0 (State.badCheck s) := by
  refine h.comp ?_ hm
  unfold State.badCheck
  try dsimp only
  (repeat' split) <;> simp (maxDischargeDepth := 60) [Ctr.rest, Tst.rest]

@[simp] theorem State.takeValid_does {m : Nat} {s0 s : State} (bytes : List Byte) (h : Does m s0 s)
    (hm : 8192 &&& m = 8192) : Does m s0 (State.takeValid s bytes) := by
  refine h.comp ?_ hm
  unfold State.takeValid
  try dsimp only
  (repeat' split) <;> simp (maxDischargeDepth := 60) [Ctr.rest, Tst.rest]

@[simp] theorem State.linkOther_does {m : Nat} {s0 s : State}  (h : Does m s0 s)
    (hm : 8192 &&& m = 8192) : Does m s0 (State.linkOther s) := by
  refine h.comp ?_ hm
  unfold State.linkOther
  try dsimp only
  (repeat' split) <;> simp (maxDischargeDepth := 60) [Ctr.rest, Tst.rest]

@[simp] theorem State.linkSafety_does {m : Nat} {s0 s : State}  (h : Does m s0 s)
    (hm : 8192 &&& m = 8192) : Does m s0 (State.linkSafety s) := by
  refine h.comp ?_ hm
  unfold State.linkSafety
  try dsimp only
  (repeat' split) <;> simp (maxDischargeDepth := 60) [Ctr.rest, Tst.rest]

@[simp] theorem State.countMalformed_does {m : Nat} {s0 s : State}  (h : Does m s0 s)
    (hm : 8192 &&& m = 8192) : Does m s0 (State.countMalformed s) := by
  refine h.comp ?_ hm
  unfold State.countMalformed
  try dsimp only
  (repeat' split) <;> simp (maxDischargeDepth := 60) [Ctr.rest, Tst.rest]

@[simp] theorem State.failRequests_does {m : Nat} {s0 s : State}  (h : Does m s0 s)
    (hm : 9216 &&& m = 9216) : Does m s0 (State.failRequests s) := by
  refine h.comp ?_ hm
  unfold State.failRequests
  try dsimp only
  (repeat' split) <;> simp (maxDischargeDepth := 60) [Ctr.rest, Tst.rest]

@[simp] theorem State.linkLost_does {m : Nat} {s0 s : State}  (h : Does m s0 s)
    (hm : 4300800 &&& m = 4300800) : Does m s0 (State.linkLost s) := by
  refine h.comp ?_ hm
  unfold State.linkLost
  try dsimp only
  (repeat' split) <;> simp (maxDischargeDepth := 60) [Ctr.rest, Tst.rest]

@[simp] theorem State.setDown_does {m : Nat} {s0 s : State} (h : Does m s0 s) (hm : 8192 &&& m = 8192) :
    Does m s0 (s.setSlk s.slk.down) := by
  refine h.setSlk (.inl hm) fun hb => ?_
  have h1 : ∀ q : List LinkFrame, (handoversOf q).length ≤ q.length := fun q => List.length_filter_le _ _
  have h2 := h1 s.slk.txUnanswered
  have h3 := h1 s.slk.rxUnanswered
  obtain ⟨h4, h5, h6, h7⟩ := hb
  refine ⟨?_, ?_⟩
  · simp only [Slk.down, List.length_nil]
    omega
  · exact ⟨Nat.zero_le _, List.nodup_nil, List.nil_sublist _⟩

@[simp] theorem State.enterDown_does {m : Nat} {s0 s : State}  (h : Does m s0 s)
    (hm : 4318736 &&& m = 4318736) : Does m s0 (State.enterDown s) := by
  refine h.comp ?_ hm
  unfold State.enterDown
  try dsimp only
  (repeat' split) <;> simp (maxDischargeDepth := 60) [Ctr.rest, Tst.rest]


@[simp] theorem State.enterUp_does {m : Nat} {s0 s : State}  (h : Does m s0 s)
    (hm : 32768 &&& m = 32768) : Does m s0 (State.enterUp s) := by
  refine h.comp ?_ hm
  unfold State.enterUp
  try dsimp only
  (repeat' split) <;> simp (maxDischargeDepth := 60) [Ctr.rest, Tst.rest]

@[simp] theorem State.makeCompare_does {m : Nat} {s0 s : State} (t : SafetyTables) (c : SummitContents) (h : Does m s0 s)
    (hm : 4300800 &&& m = 4300800) : Does m s0 (State.makeCompare s t c) := by
  refine h.comp ?_ hm
  unfold State.makeCompare
  try dsimp only
  (repeat' split) <;> simp (maxDischargeDepth := 60) [Ctr.rest, Tst.rest]

@[simp] theorem State.comparePosition_does {m : Nat} {s0 s : State} (c : SummitContents) (h : Does m s0 s)
    (hm : 4300800 &&& m = 4300800) : Does m s0 (State.comparePosition s c) := by
  refine h.comp ?_ hm
  unfold State.comparePosition
  try dsimp only
  (repeat' split) <;> simp (maxDischargeDepth := 60) [Ctr.rest, Tst.rest]

@[simp] theorem State.storeSummit_does {m : Nat} {s0 s : State} (c : SummitContents) (h : Does m s0 s)
    (hm : 8192 &&& m = 8192) : Does m s0 (State.storeSummit s c) := by
  refine h.comp ?_ hm
  unfold State.storeSummit
  try dsimp only
  (repeat' split) <;> simp (maxDischargeDepth := 60) [Ctr.rest, Tst.rest]

@[simp] theorem State.actOnSafety_does {m : Nat} {s0 s : State} (c : SummitContents) (h : Does m s0 s)
    (hm : 4317712 &&& m = 4317712) : Does m s0 (State.actOnSafety s c) := by
  refine h.comp ?_ hm
  unfold State.actOnSafety
  try dsimp only
  (repeat' split) <;> simp (maxDischargeDepth := 60) [Ctr.rest, Tst.rest]

@[simp] theorem State.takeSafety_does {m : Nat} {s0 s : State} (c : SummitContents) (h : Does m s0 s)
    (hm : 4318736 &&& m = 4318736) : Does m s0 (State.takeSafety s c) := by
  refine h.comp ?_ hm
  unfold State.takeSafety
  try dsimp only
  (repeat' split) <;> simp (maxDischargeDepth := 60) [Ctr.rest, Tst.rest]

@[simp] theorem State.linkOverrun_does {m : Nat} {s0 s : State} (f : LinkFrame) (h : Does m s0 s)
    (hm : 4268032 &&& m = 4268032) : Does m s0 (State.linkOverrun s f) := by
  refine h.comp ?_ hm
  unfold State.linkOverrun
  try dsimp only
  (repeat' split) <;> simp (maxDischargeDepth := 60) [Ctr.rest, Tst.rest]

@[simp] theorem State.bufferFrame_does {m : Nat} {s0 s : State} (f : LinkFrame) (h : Does m s0 s)
    (hm : 4268032 &&& m = 4268032) : Does m s0 (State.bufferFrame s f) := by
  refine h.comp ?_ hm
  unfold State.bufferFrame
  repeat' split
  · refine (Does.refl _ _).setSlk (.inl rfl) fun hb => ⟨?_, hb.2⟩
    have := hb.1
    simp
    omega
  · simp
  · refine (Does.refl _ _).setSlk (.inl rfl) fun hb => ⟨?_, hb.2⟩
    have := hb.1
    simp
    omega
  · simp

@[simp] theorem State.takeBuffered_does {m : Nat} {s0 s : State} (f : LinkFrame) (h : Does m s0 s)
    (hm : 4268032 &&& m = 4268032) : Does m s0 (State.takeBuffered s f) := by
  refine h.comp ?_ hm
  unfold State.takeBuffered
  try dsimp only
  (repeat' split) <;> simp (maxDischargeDepth := 60) [Ctr.rest, Tst.rest]

@[simp] theorem State.takeVoice_does {m : Nat} {s0 s : State} (f : LinkFrame) (h : Does m s0 s)
    (hm : 24576 &&& m = 24576) : Does m s0 (State.takeVoice s f) := by
  refine h.comp ?_ hm
  unfold State.takeVoice
  try dsimp only
  (repeat' split) <;> simp (maxDischargeDepth := 60) [Ctr.rest, Tst.rest]

/-- The category sent, as the statement of R138 and R136 has it: no less than any standing cause but SUMMIT_STOP, no less
than SERVICE_STOP while TABLES_INVALID stands, and no more than these ask for (log entry 85). -/
theorem sentCategory_spec (s : State) :
    (∀ c, c ≠ .summitStop → (s.cause c).state ≠ .inactive → (s.cause c).category.code ≤ s.sentCategory.code) ∧
      ((s.cause .tablesInvalid).state ≠ .inactive → Category.serviceStop.code ≤ s.sentCategory.code) ∧
      (s.sentCategory = .run ∨ ((s.cause .tablesInvalid).state ≠ .inactive ∧ s.sentCategory = .serviceStop) ∨
        ∃ c, c ≠ .summitStop ∧ (s.cause c).state ≠ .inactive ∧ (s.cause c).category = s.sentCategory) := by
  have hle := fun c hc hs => le_ownCategory s (c := c) hc hs
  have hat := ownCategory_attained s
  unfold State.sentCategory
  split
  · rename_i h
    exact ⟨hle, fun x => absurd h x, hat.imp id .inr⟩
  · rename_i h
    refine ⟨fun c hc hs => ?_, fun _ => ?_, ?_⟩
    · rw [category_max_code]; exact Nat.le_trans (hle c hc hs) (Nat.le_max_left _ _)
    · rw [category_max_code]; exact Nat.le_max_right _ _
    · unfold Category.max
      split
      · exact hat.imp id .inr
      · exact .inr (.inl ⟨h, rfl⟩)

/-- With SUMMIT_STOP INACTIVE and the output formed, the category sent is the output category, at least SERVICE_STOP while
TABLES_INVALID stands: there R136's table and R138 agree. -/
theorem sentCategory_of_no_mirror {s : State} (h : s.stc.records.length = 48)
    (hm : (s.cause .summitStop).state = .inactive) (ho : s.stc.output = highestStanding s.stc.records) :
    s.sentCategory =
      if (s.cause .tablesInvalid).state = .inactive then s.stc.output else s.stc.output.max .serviceStop := by
  rw [State.sentCategory, ownCategory_of_no_mirror h hm, ho]

@[simp] theorem State.sendSafety_does {m : Nat} {s0 s : State}  (h : Does m s0 s)
    (hm : 8192 &&& m = 8192) : Does m s0 (State.sendSafety s) := by
  refine h.comp ?_ hm
  unfold State.sendSafety
  try dsimp only
  (repeat' split) <;> simp (maxDischargeDepth := 60) [Ctr.rest, Tst.rest]

end Sys2Proof.Machine
end

