-- ==== Sys2Proof/Laws/LaunchOps.lean ====
section
/-! SUPPORT. What the operations of Machine/LaunchOps.lean touch and keep. -/

namespace Sys2Proof.Machine

set_option linter.unusedSimpArgs false
set_option linter.unusedTactic false
set_option linter.unnecessarySeqFocus false

@[simp] theorem State.setPassage_does {m : Nat} {s0 s : State} (p : PassageRecord) (h : Does m s0 s)
    (hm : 16 &&& m = 16) : Does m s0 (State.setPassage s p) := by
  refine h.comp ?_ hm
  unfold State.setPassage
  try dsimp only
  (repeat' split) <;> simp (maxDischargeDepth := 60) [Ctr.rest, Tst.rest]

@[simp] theorem State.countEmptySlot_does {m : Nat} {s0 s : State}  (h : Does m s0 s)
    (hm : 16 &&& m = 16) : Does m s0 (State.countEmptySlot s) := by
  refine h.comp ?_ hm
  unfold State.countEmptySlot
  try dsimp only
  (repeat' split) <;> simp (maxDischargeDepth := 60) [Ctr.rest, Tst.rest]

@[simp] theorem State.markWindowClosed_does {m : Nat} {s0 s : State}  (h : Does m s0 s)
    (hm : 16 &&& m = 16) : Does m s0 (State.markWindowClosed s) := by
  refine h.comp ?_ hm
  unfold State.markWindowClosed
  try dsimp only
  (repeat' split) <;> simp (maxDischargeDepth := 60) [Ctr.rest, Tst.rest]

@[simp] theorem State.countWindow_does {m : Nat} {s0 s : State}  (h : Does m s0 s)
    (hm : 16 &&& m = 16) : Does m s0 (State.countWindow s) := by
  refine h.comp ?_ hm
  unfold State.countWindow
  try dsimp only
  (repeat' split) <;> simp (maxDischargeDepth := 60) [Ctr.rest, Tst.rest]

@[simp] theorem State.setBlocked_does {m : Nat} {s0 s : State} (n : Nat) (head : Option Nat) (h : Does m s0 s)
    (hm : 16 &&& m = 16) : Does m s0 (State.setBlocked s n head) := by
  refine h.comp ?_ hm
  unfold State.setBlocked
  try dsimp only
  (repeat' split) <;> simp (maxDischargeDepth := 60) [Ctr.rest, Tst.rest]

@[simp] theorem State.countHead_does {m : Nat} {s0 s : State}  (h : Does m s0 s)
    (hm : 32784 &&& m = 32784) : Does m s0 (State.countHead s) := by
  refine h.comp ?_ hm
  unfold State.countHead
  try dsimp only
  (repeat' split) <;> simp (maxDischargeDepth := 60) [Ctr.rest, Tst.rest]

@[simp] theorem State.closeWindow_does {m : Nat} {s0 s : State}  (h : Does m s0 s)
    (hm : 32784 &&& m = 32784) : Does m s0 (State.closeWindow s) := by
  refine h.comp ?_ hm
  unfold State.closeWindow
  try dsimp only
  (repeat' split) <;> simp (maxDischargeDepth := 60) [Ctr.rest, Tst.rest]

@[simp] theorem State.countUnseen_does {m : Nat} {s0 s : State}  (h : Does m s0 s)
    (hm : 16 &&& m = 16) : Does m s0 (State.countUnseen s) := by
  refine h.comp ?_ hm
  unfold State.countUnseen
  try dsimp only
  (repeat' split) <;> simp (maxDischargeDepth := 60) [Ctr.rest, Tst.rest]

@[simp] theorem State.endPassage_does {m : Nat} {s0 s : State}  (h : Does m s0 s)
    (hm : 32784 &&& m = 32784) : Does m s0 (State.endPassage s) := by
  refine h.comp ?_ hm
  unfold State.endPassage
  try dsimp only
  (repeat' split) <;> simp (maxDischargeDepth := 60) [Ctr.rest, Tst.rest]

@[simp] theorem State.beginPassage_does {m : Nat} {s0 s : State}  (h : Does m s0 s)
    (hm : 32784 &&& m = 32784) : Does m s0 (State.beginPassage s) := by
  refine h.comp ?_ hm
  unfold State.beginPassage
  try dsimp only
  (repeat' split) <;> simp (maxDischargeDepth := 60) [Ctr.rest, Tst.rest]

@[simp] theorem State.checkOccupied_does {m : Nat} {s0 s : State} (k : Nat) (h : Does m s0 s)
    (hm : 4292624 &&& m = 4292624) : Does m s0 (State.checkOccupied s k) := by
  refine h.comp ?_ hm
  unfold State.checkOccupied
  try dsimp only
  (repeat' split) <;> simp (maxDischargeDepth := 60) [Ctr.rest, Tst.rest]

@[simp] theorem State.openWindow_does {m : Nat} {s0 s : State}  (h : Does m s0 s)
    (hm : 4292624 &&& m = 4292624) : Does m s0 (State.openWindow s) := by
  refine h.comp ?_ hm
  unfold State.openWindow
  try dsimp only
  (repeat' split) <;> simp (maxDischargeDepth := 60) [Ctr.rest, Tst.rest]

@[simp] theorem State.movePhase_does {m : Nat} {s0 s : State} (t : SafetyTables) (h : Does m s0 s)
    (hm : 4292624 &&& m = 4292624) : Does m s0 (State.movePhase s t) := by
  refine h.comp ?_ hm
  unfold State.movePhase
  try dsimp only
  (repeat' split) <;> simp (maxDischargeDepth := 60) [Ctr.rest, Tst.rest]

@[simp] theorem State.noteRope_does {m : Nat} {s0 s : State}  (h : Does m s0 s)
    (hm : 16 &&& m = 16) : Does m s0 (State.noteRope s) := by
  refine h.comp ?_ hm
  unfold State.noteRope
  try dsimp only
  (repeat' split) <;> simp (maxDischargeDepth := 60) [Ctr.rest, Tst.rest]

@[simp] theorem State.withdrawAtUpdate_does {m : Nat} {s0 s : State} (t : SafetyTables) (h : Does m s0 s)
    (hm : 4260368 &&& m = 4260368) : Does m s0 (State.withdrawAtUpdate s t) := by
  refine h.comp ?_ hm
  unfold State.withdrawAtUpdate
  try dsimp only
  (repeat' split) <;> simp (maxDischargeDepth := 60) [Ctr.rest, Tst.rest]

@[simp] theorem State.countFailure_does {m : Nat} {s0 s : State} (id : Nat) (h : Does m s0 s)
    (hm : 32784 &&& m = 32784) : Does m s0 (State.countFailure s id) := by
  refine h.comp ?_ hm
  unfold State.countFailure
  try dsimp only
  (repeat' split) <;> simp (maxDischargeDepth := 60) [Ctr.rest, Tst.rest]

@[simp] theorem State.refuseRelease_does {m : Nat} {s0 s : State} (slot cabin : Nat) (h : Does m s0 s)
    (hm : 32784 &&& m = 32784) : Does m s0 (State.refuseRelease s slot cabin) := by
  refine h.comp ?_ hm
  unfold State.refuseRelease
  try dsimp only
  (repeat' split) <;> simp (maxDischargeDepth := 60) [Ctr.rest, Tst.rest]

@[simp] theorem State.failRelease_does {m : Nat} {s0 s : State} (p : PendingRelease) (h : Does m s0 s)
    (hm : 33296 &&& m = 33296) : Does m s0 (State.failRelease s p) := by
  refine h.comp ?_ hm
  unfold State.failRelease
  try dsimp only
  (repeat' split) <;> simp (maxDischargeDepth := 60) [Ctr.rest, Tst.rest]

@[simp] theorem State.queueRelease_does {m : Nat} {s0 s : State} (slot cabin : Nat) (h : Does m s0 s)
    (hm : 66064 &&& m = 66064) : Does m s0 (State.queueRelease s slot cabin) := by
  refine h.comp ?_ hm
  unfold State.queueRelease
  try dsimp only
  (repeat' split) <;> simp (maxDischargeDepth := 60) [Ctr.rest, Tst.rest]

@[simp] theorem State.makeRelease_does {m : Nat} {s0 s : State} (slot cabin : Nat) (h : Does m s0 s)
    (hm : 98832 &&& m = 98832) : Does m s0 (State.makeRelease s slot cabin) := by
  refine h.comp ?_ hm
  unfold State.makeRelease
  try dsimp only
  (repeat' split) <;> simp (maxDischargeDepth := 60) [Ctr.rest, Tst.rest]

@[simp] theorem State.testRelease_does {m : Nat} {s0 s : State}  (h : Does m s0 s)
    (hm : 98832 &&& m = 98832) : Does m s0 (State.testRelease s) := by
  refine h.comp ?_ hm
  unfold State.testRelease
  try dsimp only
  (repeat' split) <;> simp (maxDischargeDepth := 60) [Ctr.rest, Tst.rest]

@[simp] theorem State.slotlessWatch_does {m : Nat} {s0 s : State} (w : WatchEntry) (h : Does m s0 s)
    (hm : 544 &&& m = 544) : Does m s0 (State.slotlessWatch s w) := by
  refine h.comp ?_ hm
  unfold State.slotlessWatch
  try dsimp only
  (repeat' split) <;> simp (maxDischargeDepth := 60) [Ctr.rest, Tst.rest]

@[simp] theorem State.missAttach_does {m : Nat} {s0 s : State} (w : WatchEntry) (h : Does m s0 s)
    (hm : 4293168 &&& m = 4293168) : Does m s0 (State.missAttach s w) := by
  refine h.comp ?_ hm
  unfold State.missAttach
  try dsimp only
  (repeat' split) <;> simp (maxDischargeDepth := 60) [Ctr.rest, Tst.rest, List.length_filter_le]

@[simp] theorem State.checkWatch_does {m : Nat} {s0 s : State} (t : SafetyTables) (xs : List WatchEntry) (h : Does m s0 s)
    (hm : 4293168 &&& m = 4293168) : Does m s0 (s.checkWatch t xs) := by
  induction xs generalizing s with
  | nil => exact h
  | cons w rest ih =>
    unfold State.checkWatch
    exact ih (h.comp (by split <;> simp) hm)


@[simp] theorem State.launchUpdate_does {m : Nat} {s0 s : State}  (h : Does m s0 s)
    (hm : 4293168 &&& m = 4293168) : Does m s0 (State.launchUpdate s) := by
  refine h.comp ?_ hm
  unfold State.launchUpdate
  try dsimp only
  (repeat' split) <;> simp (maxDischargeDepth := 60) [Ctr.rest, Tst.rest]

/-- A missed attach takes its entry out of the watch. -/
theorem State.missAttach_watch (s : State) (w : WatchEntry) :
    (s.missAttach w).lgt.watch = s.lgt.watch.filter fun x => x.cabin ≠ w.cabin := by
  have h : Does 4293152 (s.setLgt { s.lgt with watch := s.lgt.watch.filter fun x => x.cabin ≠ w.cabin })
      (s.missAttach w) := by
    unfold State.missAttach
    simp (maxDischargeDepth := 60)
  exact congrArg Lgt.watch (h.1 .lgt rfl)

@[simp] theorem State.watchRelease_does {m : Nat} {s0 s : State} (p : PendingRelease) (h : Does m s0 s)
    (hm : 4293168 &&& m = 4293168) : Does m s0 (State.watchRelease s p) := by
  refine h.comp ?_ hm
  unfold State.watchRelease
  refine Does.setLgtFrom (by (repeat' split) <;> simp) rfl fun hl => ?_
  have hb : s.lgt.watch.length ≤ 8 := hl.lgt
  simp only [Lgt.bounded, List.length_append, List.length_cons, List.length_nil]
  split
  · omega
  · split
    · rename_i w rest hw
      have h1 := List.length_filter_le (fun x : WatchEntry => decide (x.cabin ≠ w.cabin)) rest
      have h2 : rest.length + 1 ≤ 8 := by simpa [hw] using hb
      simp only [State.missAttach_watch, hw]
      rw [List.filter_cons_of_neg (by simp)]
      omega
    · simp_all

@[simp] theorem State.reportMismatch_does {m : Nat} {s0 s : State} (p : PendingRelease) (h : Does m s0 s)
    (hm : 4259840 &&& m = 4259840) : Does m s0 (State.reportMismatch s p) := by
  refine h.comp ?_ hm
  unfold State.reportMismatch
  try dsimp only
  (repeat' split) <;> simp (maxDischargeDepth := 60) [Ctr.rest, Tst.rest]

@[simp] theorem State.bookRelease_does {m : Nat} {s0 s : State} (p : PendingRelease) (h : Does m s0 s)
    (hm : 4293168 &&& m = 4293168) : Does m s0 (State.bookRelease s p) := by
  refine h.comp ?_ hm
  unfold State.bookRelease
  try dsimp only
  (repeat' split) <;> simp (maxDischargeDepth := 60) [Ctr.rest, Tst.rest]

@[simp] theorem State.settleRelease_does {m : Nat} {s0 s : State} (p : PendingRelease) (h : Does m s0 s)
    (hm : 16 &&& m = 16) : Does m s0 (State.settleRelease s p) := by
  refine h.comp ?_ hm
  unfold State.settleRelease
  try dsimp only
  (repeat' split) <;> simp (maxDischargeDepth := 60) [Ctr.rest, Tst.rest]

@[simp] theorem State.confirmRelease_does {m : Nat} {s0 s : State} (p : PendingRelease) (f : RingFrame) (h : Does m s0 s)
    (hm : 4293168 &&& m = 4293168) : Does m s0 (State.confirmRelease s p f) := by
  refine h.comp ?_ hm
  unfold State.confirmRelease
  try dsimp only
  (repeat' split) <;> simp (maxDischargeDepth := 60) [Ctr.rest, Tst.rest]

@[simp] theorem State.lateGateReport_does {m : Nat} {s0 s : State} (x : FailedRelease) (h : Does m s0 s)
    (hm : 4293168 &&& m = 4293168) : Does m s0 (State.lateGateReport s x) := by
  refine h.comp ?_ hm
  unfold State.lateGateReport
  try dsimp only
  (repeat' split) <;> simp (maxDischargeDepth := 60) [Ctr.rest, Tst.rest]

@[simp] theorem State.takeGateReport_does {m : Nat} {s0 s : State} (f : RingFrame) (h : Does m s0 s)
    (hm : 4293168 &&& m = 4293168) : Does m s0 (State.takeGateReport s f) := by
  refine h.comp ?_ hm
  unfold State.takeGateReport
  try dsimp only
  (repeat' split) <;> simp (maxDischargeDepth := 60) [Ctr.rest, Tst.rest]

@[simp] theorem State.takeGateNack_does {m : Nat} {s0 s : State} (f : RingFrame) (h : Does m s0 s)
    (hm : 4293136 &&& m = 4293136) : Does m s0 (State.takeGateNack s f) := by
  refine h.comp ?_ hm
  unfold State.takeGateNack
  try dsimp only
  (repeat' split) <;> simp (maxDischargeDepth := 60) [Ctr.rest, Tst.rest]

@[simp] theorem State.releaseInserted_does {m : Nat} {s0 s : State} (tag : Nat) (h : Does m s0 s)
    (hm : 16 &&& m = 16) : Does m s0 (State.releaseInserted s tag) := by
  refine h.comp ?_ hm
  unfold State.releaseInserted
  try dsimp only
  (repeat' split) <;> simp (maxDischargeDepth := 60) [Ctr.rest, Tst.rest]

@[simp] theorem State.joinUphill_does {m : Nat} {s0 s : State} (w : WatchEntry) (e : Int) (h : Does m s0 s)
    (hm : 4296372 &&& m = 4296372) : Does m s0 (State.joinUphill s w e) := by
  refine h.comp ?_ hm
  unfold State.joinUphill
  try dsimp only
  (repeat' split) <;> simp (maxDischargeDepth := 60) [Ctr.rest, Tst.rest]

@[simp] theorem State.checkSpacing_does {m : Nat} {s0 s : State} (w : WatchEntry) (e : Int) (h : Does m s0 s)
    (hm : 4292608 &&& m = 4292608) : Does m s0 (State.checkSpacing s w e) := by
  refine h.comp ?_ hm
  unfold State.checkSpacing
  try dsimp only
  (repeat' split) <;> simp (maxDischargeDepth := 60) [Ctr.rest, Tst.rest]

@[simp] theorem State.bookAttach_does {m : Nat} {s0 s : State} (w : WatchEntry) (h : Does m s0 s)
    (hm : 4304564 &&& m = 4304564) : Does m s0 (State.bookAttach s w) := by
  refine h.comp ?_ hm
  unfold State.bookAttach
  simp (maxDischargeDepth := 60)

@[simp] theorem State.attachUnslotted_does {m : Nat} {s0 s : State} (x : StationEntry) (h : Does m s0 s)
    (hm : 4296692 &&& m = 4296692) : Does m s0 (State.attachUnslotted s x) := by
  refine h.comp ?_ hm
  unfold State.attachUnslotted
  try dsimp only
  (repeat' split) <;> simp (maxDischargeDepth := 60) [Ctr.rest, Tst.rest]

theorem State.attachWatched_does {m : Nat} {s0 s : State} (w : WatchEntry) (rest : List WatchEntry) (h : Does m s0 s)
    (hm : 4304884 &&& m = 4304884) (hr : rest.length ≤ s.lgt.watch.length) : Does m s0 (State.attachWatched s w rest) := by
  refine h.comp ?_ hm
  unfold State.attachWatched
  simp (maxDischargeDepth := 60) [hr]

@[simp] theorem State.attachWithoutWatch_does {m : Nat} {s0 s : State}  (h : Does m s0 s)
    (hm : 4296692 &&& m = 4296692) : Does m s0 (State.attachWithoutWatch s) := by
  refine h.comp ?_ hm
  unfold State.attachWithoutWatch
  try dsimp only
  (repeat' split) <;> simp (maxDischargeDepth := 60) [Ctr.rest, Tst.rest]

@[simp] theorem State.takeAttach_does {m : Nat} {s0 s : State}  (h : Does m s0 s)
    (hm : 4304884 &&& m = 4304884) : Does m s0 (State.takeAttach s) := by
  refine h.comp ?_ hm
  unfold State.takeAttach
  split
  · rename_i w rest hw
    exact State.attachWatched_does _ _ (Does.refl _ _) rfl (by simp [hw])
  · simp

end Sys2Proof.Machine
end

