-- ==== Sys2Proof/Laws/ScanOps.lean ====
section
/-! SUPPORT. What the operations of Machine/ScanOps.lean touch and keep. -/

namespace Sys2Proof.Machine

set_option linter.unusedSimpArgs false
set_option linter.unusedTactic false
set_option linter.unnecessarySeqFocus false

@[simp] theorem State.judgeBand_does {m : Nat} {s0 s : State} (c : Cause) (present : Bool) (x band : Nat) (h : Does m s0 s)
    (hm : 4292608 &&& m = 4292608) : Does m s0 (State.judgeBand s c present x band) := by
  refine h.comp ?_ hm
  unfold State.judgeBand
  try dsimp only
  (repeat' split) <;> simp (maxDischargeDepth := 60) [Ctr.rest, Tst.rest]

@[simp] theorem State.judgeTension_does {m : Nat} {s0 s : State} (t : SafetyTables) (x : Nat) (h : Does m s0 s)
    (hm : 4292608 &&& m = 4292608) : Does m s0 (State.judgeTension s t x) := by
  refine h.comp ?_ hm
  unfold State.judgeTension
  try dsimp only
  (repeat' split) <;> simp (maxDischargeDepth := 60) [Ctr.rest, Tst.rest]

@[simp] theorem State.takeTension_does {m : Nat} {s0 s : State} (x : Nat) (h : Does m s0 s)
    (hm : 4296704 &&& m = 4296704) : Does m s0 (State.takeTension s x) := by
  refine h.comp ?_ hm
  unfold State.takeTension
  try dsimp only
  (repeat' split) <;> simp (maxDischargeDepth := 60) [Ctr.rest, Tst.rest]

/-- The scan debt of any tower is at most 8 (R116). -/
theorem Rmn.bounded.debt {s : State} (h : s.rmn.bounded) (i : Nat) : (s.tower i).debt ≤ 8 := by
  unfold State.tower
  rw [List.getD_eq_getElem?_getD]
  by_cases hi : i < s.rmn.towers.length
  · simpa [hi] using h.2 _ (List.getElem_mem hi)
  · simp [hi, TowerRecord.initial]

@[simp] theorem State.modTower_does {m : Nat} {s0 s : State} (i : Nat) (f : TowerRecord → TowerRecord) (h : Does m s0 s)
    (hm : 4096 &&& m = 4096) (hf : (s.tower i).debt ≤ 8 → (f (s.tower i)).debt ≤ 8) :
    Does m s0 (State.modTower s i f) := by
  refine h.setRmn (.inl hm) fun hb => ⟨by simpa using hb.1, fun r hr => ?_⟩
  rcases List.mem_or_eq_of_mem_set hr with h | h
  · exact hb.2 r h
  · exact h ▸ hf (hb.debt i)

@[simp] theorem State.setScan_does {m : Nat} {s0 s : State} (i : Nat) (p : ScanPhase) (h : Does m s0 s)
    (hm : 4096 &&& m = 4096) : Does m s0 (State.setScan s i p) := by
  refine h.comp ?_ hm
  unfold State.setScan
  try dsimp only
  (repeat' split) <;> simp (maxDischargeDepth := 60) [Ctr.rest, Tst.rest]

@[simp] theorem State.offerScan_does {m : Nat} {s0 s : State} (i : Nat) (e : TowerEntry) (tag : Nat) (h : Does m s0 s)
    (hm : 69632 &&& m = 69632) : Does m s0 (State.offerScan s i e tag) := by
  refine h.comp ?_ hm
  unfold State.offerScan
  try dsimp only
  (repeat' split) <;> simp (maxDischargeDepth := 60) [Ctr.rest, Tst.rest]

@[simp] theorem State.queueScan_does {m : Nat} {s0 s : State} (i : Nat) (h : Does m s0 s)
    (hm : 69632 &&& m = 69632) : Does m s0 (State.queueScan s i) := by
  refine h.comp ?_ hm
  unfold State.queueScan
  try dsimp only
  (repeat' split) <;> simp (maxDischargeDepth := 60) [Ctr.rest, Tst.rest]

@[simp] theorem State.serveTagWait_does {m : Nat} {s0 s : State} (node : Nat) (h : Does m s0 s)
    (hm : 69632 &&& m = 69632) : Does m s0 (State.serveTagWait s node) := by
  refine h.comp ?_ hm
  unfold State.serveTagWait
  refine Does.foldl _ _ (Does.refl _ _) fun x i hx => ?_
  repeat' split
  all_goals simp [hx]

@[simp] theorem State.judgeScanFlags_does {m : Nat} {s0 s : State}  (h : Does m s0 s)
    (hm : 32768 &&& m = 32768) : Does m s0 (State.judgeScanFlags s) := by
  refine h.comp ?_ hm
  unfold State.judgeScanFlags
  try dsimp only
  (repeat' split) <;> simp (maxDischargeDepth := 60) [Ctr.rest, Tst.rest]

@[simp] theorem State.endScan_does {m : Nat} {s0 s : State} (i : Nat) (e : TowerEntry) (h : Does m s0 s)
    (hm : 69632 &&& m = 69632) : Does m s0 (State.endScan s i e) := by
  refine h.comp ?_ hm
  unfold State.endScan
  try dsimp only
  (repeat' split) <;> simp (maxDischargeDepth := 60) [Ctr.rest, Tst.rest]

@[simp] theorem State.promoteScan_does {m : Nat} {s0 s : State} (i : Nat) (e : TowerEntry) (h : Does m s0 s)
    (hm : 69632 &&& m = 69632) : Does m s0 (State.promoteScan s i e) := by
  refine h.comp ?_ hm
  unfold State.promoteScan
  try dsimp only
  (repeat' split) <;> simp (maxDischargeDepth := 60) [Ctr.rest, Tst.rest]

@[simp] theorem State.raiseDebt_does {m : Nat} {s0 s : State} (i : Nat) (e : TowerEntry) (h : Does m s0 s)
    (hm : 102400 &&& m = 102400) : Does m s0 (State.raiseDebt s i e) := by
  refine h.comp ?_ hm
  unfold State.raiseDebt
  dsimp only
  have h1 : Does 102400 s
      (if (s.tower i).debt < 8 then s.modTower i fun r => { r with debt := r.debt + 1 }
        else (s.modTower i fun r => { r with overdue := true }).judgeScanFlags) := by
    split
    · rename_i hd
      exact State.modTower_does i _ (Does.refl _ _) rfl fun _ => hd
    · simp
  exact State.promoteScan_does i e h1 rfl

@[simp] theorem State.scanDue_does {m : Nat} {s0 s : State} (i : Nat) (e : TowerEntry) (h : Does m s0 s)
    (hm : 102400 &&& m = 102400) : Does m s0 (State.scanDue s i e) := by
  refine h.comp ?_ hm
  unfold State.scanDue
  try dsimp only
  (repeat' split) <;> simp (maxDischargeDepth := 60) [Ctr.rest, Tst.rest]

@[simp] theorem State.scanInserted_does {m : Nat} {s0 s : State} (mask : Word) (tag : Nat) (h : Does m s0 s)
    (hm : 4096 &&& m = 4096) : Does m s0 (State.scanInserted s mask tag) := by
  refine h.comp ?_ hm
  unfold State.scanInserted
  try dsimp only
  (repeat' split) <;> simp (maxDischargeDepth := 60) [Ctr.rest, Tst.rest]

@[simp] theorem State.judgeTrains_does {m : Nat} {s0 s : State}  (h : Does m s0 s)
    (hm : 32768 &&& m = 32768) : Does m s0 (State.judgeTrains s) := by
  refine h.comp ?_ hm
  unfold State.judgeTrains
  try dsimp only
  (repeat' split) <;> simp (maxDischargeDepth := 60) [Ctr.rest, Tst.rest]

@[simp] theorem State.reportStatuses_does {m : Nat} {s0 s : State} (e : TowerEntry) (src : StatusSource) (old new : List TrainStatus) (h : Does m s0 s)
    (hm : 4259840 &&& m = 4259840) : Does m s0 (State.reportStatuses s e src old new) := by
  refine h.comp ?_ hm
  unfold State.reportStatuses
  try dsimp only
  (repeat' split) <;> simp (maxDischargeDepth := 60) [Ctr.rest, Tst.rest]

@[simp] theorem State.replaceStatuses_does {m : Nat} {s0 s : State} (i : Nat) (e : TowerEntry) (xs : List TrainStatus) (src : StatusSource) (h : Does m s0 s)
    (hm : 4296704 &&& m = 4296704) : Does m s0 (State.replaceStatuses s i e xs src) := by
  refine h.comp ?_ hm
  unfold State.replaceStatuses
  try dsimp only
  (repeat' split) <;> simp (maxDischargeDepth := 60) [Ctr.rest, Tst.rest]

@[simp] theorem State.unknownTower_does {m : Nat} {s0 s : State} (f : RingFrame) (h : Does m s0 s)
    (hm : 4259840 &&& m = 4259840) : Does m s0 (State.unknownTower s f) := by
  refine h.comp ?_ hm
  unfold State.unknownTower
  try dsimp only
  (repeat' split) <;> simp (maxDischargeDepth := 60) [Ctr.rest, Tst.rest]

@[simp] theorem State.matchedReport_does {m : Nat} {s0 s : State} (i : Nat) (e : TowerEntry) (f : RingFrame) (h : Does m s0 s)
    (hm : 4296704 &&& m = 4296704) : Does m s0 (State.matchedReport s i e f) := by
  refine h.comp ?_ hm
  unfold State.matchedReport
  try dsimp only
  (repeat' split) <;> simp (maxDischargeDepth := 60) [Ctr.rest, Tst.rest]

@[simp] theorem State.lateScanReport_does {m : Nat} {s0 s : State} (i : Nat) (e : TowerEntry) (f : RingFrame) (h : Does m s0 s)
    (hm : 4296704 &&& m = 4296704) : Does m s0 (State.lateScanReport s i e f) := by
  refine h.comp ?_ hm
  unfold State.lateScanReport
  try dsimp only
  (repeat' split) <;> simp (maxDischargeDepth := 60) [Ctr.rest, Tst.rest]

@[simp] theorem State.takeScanReport_does {m : Nat} {s0 s : State} (f : RingFrame) (h : Does m s0 s)
    (hm : 4296704 &&& m = 4296704) : Does m s0 (State.takeScanReport s f) := by
  refine h.comp ?_ hm
  unfold State.takeScanReport
  try dsimp only
  (repeat' split) <;> simp (maxDischargeDepth := 60) [Ctr.rest, Tst.rest]

@[simp] theorem State.takeAlarm_does {m : Nat} {s0 s : State} (f : RingFrame) (h : Does m s0 s)
    (hm : 4296704 &&& m = 4296704) : Does m s0 (State.takeAlarm s f) := by
  refine h.comp ?_ hm
  unfold State.takeAlarm
  try dsimp only
  (repeat' split) <;> simp (maxDischargeDepth := 60) [Ctr.rest, Tst.rest]

@[simp] theorem State.markLost_does {m : Nat} {s0 s : State} (i : Nat) (e : TowerEntry) (h : Does m s0 s)
    (hm : 4296704 &&& m = 4296704) : Does m s0 (State.markLost s i e) := by
  refine h.comp ?_ hm
  unfold State.markLost
  try dsimp only
  (repeat' split) <;> simp (maxDischargeDepth := 60) [Ctr.rest, Tst.rest]

@[simp] theorem State.failScan_does {m : Nat} {s0 s : State} (i : Nat) (e : TowerEntry) (h : Does m s0 s)
    (hm : 4296704 &&& m = 4296704) : Does m s0 (State.failScan s i e) := by
  refine h.comp ?_ hm
  unfold State.failScan
  try dsimp only
  (repeat' split) <;> simp (maxDischargeDepth := 60) [Ctr.rest, Tst.rest]

@[simp] theorem State.takeScanNack_does {m : Nat} {s0 s : State} (f : RingFrame) (h : Does m s0 s)
    (hm : 4296704 &&& m = 4296704) : Does m s0 (State.takeScanNack s f) := by
  refine h.comp ?_ hm
  unfold State.takeScanNack
  try dsimp only
  (repeat' split) <;> simp (maxDischargeDepth := 60) [Ctr.rest, Tst.rest]

@[simp] theorem State.startTower_does {m : Nat} {s0 s : State} (i : Nat) (h : Does m s0 s)
    (hm : 69632 &&& m = 69632) : Does m s0 (State.startTower s i) := by
  refine h.comp ?_ hm
  unfold State.startTower
  try dsimp only
  (repeat' split) <;> simp (maxDischargeDepth := 60) [Ctr.rest, Tst.rest]

@[simp] theorem State.startTowers_does {m : Nat} {s0 s : State}  (h : Does m s0 s)
    (hm : 69632 &&& m = 69632) : Does m s0 (State.startTowers s) := by
  refine h.comp ?_ hm
  exact Does.foldl _ _ (Does.refl _ _) fun x i hx => State.startTower_does i hx rfl

@[simp] theorem State.withdrawScan_does {m : Nat} {s0 s : State} (i : Nat) (old : Option TowerEntry) (h : Does m s0 s)
    (hm : 65536 &&& m = 65536) : Does m s0 (State.withdrawScan s i old) := by
  refine h.comp ?_ hm
  unfold State.withdrawScan
  try dsimp only
  (repeat' split) <;> simp (maxDischargeDepth := 60) [Ctr.rest, Tst.rest]

@[simp] theorem State.commitTowers_does {m : Nat} {s0 s : State} (old new : List (Option TowerEntry)) (h : Does m s0 s)
    (hm : 102400 &&& m = 102400) : Does m s0 (State.commitTowers s old new) := by
  refine h.comp ?_ hm
  unfold State.commitTowers
  have h1 : ∀ (xs : List Nat) {x : State}, Does 102400 s x →
      Does 102400 s (xs.foldl (fun x i => (x.withdrawScan i (old.getD i none)).modTower i fun _ => TowerRecord.initial) x) :=
    fun xs _ hx => Does.foldl _ _ hx fun x i hx =>
      State.modTower_does i _ (State.withdrawScan_does i _ hx rfl) rfl fun _ => Nat.zero_le _
  have h2 : ∀ (xs : List Nat) {x : State}, Does 102400 s x → Does 102400 s (xs.foldl State.startTower x) :=
    fun xs _ hx => Does.foldl _ _ hx fun x i hx => State.startTower_does i hx rfl
  have h3 : ∀ (xs : List Nat) {x : State}, Does 102400 s x → Does 102400 s (xs.foldl State.serveTagWait x) :=
    fun xs _ hx => Does.foldl _ _ hx fun x i hx => State.serveTagWait_does i hx rfl
  exact State.judgeScanFlags_does (State.judgeTrains_does (h2 _ (h3 _ (h1 _ (Does.refl _ _)))) rfl) rfl

@[simp] theorem State.rejectGrip_does {m : Nat} {s0 s : State} (e : StationEntry) (g : Nat) (c : GripClass) (force : Nat) (h : Does m s0 s)
    (hm : 4292608 &&& m = 4292608) : Does m s0 (State.rejectGrip s e g c force) := by
  refine h.comp ?_ hm
  unfold State.rejectGrip
  try dsimp only
  (repeat' split) <;> simp (maxDischargeDepth := 60) [Ctr.rest, Tst.rest]

@[simp] theorem State.judgeForce_does {m : Nat} {s0 s : State} (e : StationEntry) (o : OperationsTables) (force : Nat) (h : Does m s0 s)
    (hm : 4296740 &&& m = 4296740) : Does m s0 (State.judgeForce s e o force) := by
  refine h.comp ?_ hm
  unfold State.judgeForce
  try dsimp only
  (repeat' split) <;> simp (maxDischargeDepth := 60) [Ctr.rest, Tst.rest]

@[simp] theorem State.judgeGrip_does {m : Nat} {s0 s : State} (e : StationEntry) (force : Nat) (h : Does m s0 s)
    (hm : 4296740 &&& m = 4296740) : Does m s0 (State.judgeGrip s e force) := by
  refine h.comp ?_ hm
  unfold State.judgeGrip
  try dsimp only
  (repeat' split) <;> simp (maxDischargeDepth := 60) [Ctr.rest, Tst.rest]

end Sys2Proof.Machine
end

