-- ==== Sys2Proof/Laws/RopeOps.lean ====
section
/-! SUPPORT. What the operations of Machine/RopeOps.lean touch and keep. -/

namespace Sys2Proof.Machine

set_option linter.unusedSimpArgs false
set_option linter.unusedTactic false
set_option linter.unnecessarySeqFocus false

@[simp] theorem State.startInvalidation_does {m : Nat} {s0 s : State}  (h : Does m s0 s)
    (hm : 17301504 &&& m = 17301504) : Does m s0 (State.startInvalidation s) := by
  refine h.comp ?_ hm
  exact Does.setWrite (s := s.setStore { s.store with park := none }) (by simp) rfl fun _ p stale hk => by cases hk

@[simp] theorem State.ropeStarted_does {m : Nat} {s0 s : State}  (h : Does m s0 s)
    (hm : 17301504 &&& m = 17301504) : Does m s0 (State.ropeStarted s) := by
  refine h.comp ?_ hm
  unfold State.ropeStarted
  try dsimp only
  (repeat' split) <;> simp (maxDischargeDepth := 60) [Ctr.rest, Tst.rest]

@[simp] theorem State.setMotion_does {m : Nat} {s0 s : State} (m1 : Motion) (h : Does m s0 s)
    (hm : 17301512 &&& m = 17301512) : Does m s0 (State.setMotion s m1) := by
  refine h.comp ?_ hm
  unfold State.setMotion
  try dsimp only
  (repeat' split) <;> simp (maxDischargeDepth := 60) [Ctr.rest, Tst.rest]

@[simp] theorem State.setStillness_does {m : Nat} {s0 s : State} (t : Option Ms) (h : Does m s0 s)
    (hm : 8 &&& m = 8) : Does m s0 (State.setStillness s t) := by
  refine h.comp ?_ hm
  unfold State.setStillness
  try dsimp only
  (repeat' split) <;> simp (maxDischargeDepth := 60) [Ctr.rest, Tst.rest]

@[simp] theorem State.setRecord_does {m : Nat} {s0 s : State} (t : SafetyTables) (h : Does m s0 s)
    (hm : 8 &&& m = 8) : Does m s0 (State.setRecord s t) := by
  refine h.comp ?_ hm
  unfold State.setRecord
  try dsimp only
  (repeat' split) <;> simp (maxDischargeDepth := 60) [Ctr.rest, Tst.rest]

@[simp] theorem State.updateRope_does {m : Nat} {s0 s : State} (t : SafetyTables) (h : Does m s0 s)
    (hm : 4317752 &&& m = 4317752) : Does m s0 (State.updateRope s t) := by
  refine h.comp ?_ hm
  unfold State.updateRope
  simp (maxDischargeDepth := 60)

@[simp] theorem State.positionUpdate_does {m : Nat} {s0 s : State}  (h : Does m s0 s)
    (hm : 4317756 &&& m = 4317756) : Does m s0 (State.positionUpdate s) := by
  refine h.comp ?_ hm
  unfold State.positionUpdate
  try dsimp only
  (repeat' split) <;> simp (maxDischargeDepth := 60) [Ctr.rest, Tst.rest]

@[simp] theorem State.quietUpdate_does {m : Nat} {s0 s : State}  (h : Does m s0 s)
    (hm : 4293180 &&& m = 4293180) : Does m s0 (State.quietUpdate s) := by
  refine h.comp ?_ hm
  unfold State.quietUpdate
  try dsimp only
  (repeat' split) <;> simp (maxDischargeDepth := 60) [Ctr.rest, Tst.rest]

@[simp] theorem State.storeCounts_does {m : Nat} {s0 s : State} (f : Fusion) (cA cB : Nat) (h : Does m s0 s)
    (hm : 8 &&& m = 8) : Does m s0 (State.storeCounts s f cA cB) := by
  refine h.comp ?_ hm
  unfold State.storeCounts
  try dsimp only
  (repeat' split) <;> simp (maxDischargeDepth := 60) [Ctr.rest, Tst.rest]

@[simp] theorem State.judgeChannels_does {m : Nat} {s0 s : State} (f : Fusion) (h : Does m s0 s)
    (hm : 32768 &&& m = 32768) : Does m s0 (State.judgeChannels s f) := by
  refine h.comp ?_ hm
  unfold State.judgeChannels
  try dsimp only
  (repeat' split) <;> simp (maxDischargeDepth := 60) [Ctr.rest, Tst.rest]

@[simp] theorem State.judgeSlip_does {m : Nat} {s0 s : State} (t : SafetyTables) (f : Fusion) (h : Does m s0 s)
    (hm : 32776 &&& m = 32776) : Does m s0 (State.judgeSlip s t f) := by
  refine h.comp ?_ hm
  unfold State.judgeSlip
  dsimp only
  have h1 : Does 32776 s (s.setRpu { s.rpu with q := slipAfter s.rpu.q (f.travelA - f.travelB).natAbs }) := by
    refine (Does.refl _ _).setRpu (.inl rfl) fun hb => ⟨hb.1, ?_⟩
    simp only [slipAfter]
    split <;> omega
  (repeat' split) <;> simp (maxDischargeDepth := 60) [h1]

@[simp] theorem State.addTravel_does {m : Nat} {s0 s : State} (t : Int) (h : Does m s0 s)
    (hm : 8 &&& m = 8) : Does m s0 (State.addTravel s t) := by
  refine h.comp ?_ hm
  unfold State.addTravel
  try dsimp only
  (repeat' split) <;> simp (maxDischargeDepth := 60) [Ctr.rest, Tst.rest]

@[simp] theorem State.updateSpeed_does {m : Nat} {s0 s : State} (t : SafetyTables) (travel : Int) (h : Does m s0 s)
    (hm : 32776 &&& m = 32776) : Does m s0 (State.updateSpeed s t travel) := by
  refine h.comp ?_ hm
  have h1 : Does 32776 s (s.setRpu { s.rpu with
      window := pushWindow s.rpu.window travel, v := speedOf (pushWindow s.rpu.window travel) t.ts }) := by
    refine (Does.refl _ _).setRpu (.inl rfl) fun hb => ⟨?_, hb.2⟩
    have := hb.1
    simp only [pushWindow]
    split <;> simp <;> omega
  exact State.judge_does _ _ _ h1 rfl

@[simp] theorem State.moving_does {m : Nat} {s0 s : State} (m1 : Motion) (h : Does m s0 s)
    (hm : 17301512 &&& m = 17301512) : Does m s0 (State.moving s m1) := by
  refine h.comp ?_ hm
  unfold State.moving
  try dsimp only
  (repeat' split) <;> simp (maxDischargeDepth := 60) [Ctr.rest, Tst.rest]

@[simp] theorem State.slow_does {m : Nat} {s0 s : State}  (h : Does m s0 s)
    (hm : 8 &&& m = 8) : Does m s0 (State.slow s) := by
  refine h.comp ?_ hm
  unfold State.slow
  try dsimp only
  (repeat' split) <;> simp (maxDischargeDepth := 60) [Ctr.rest, Tst.rest]

@[simp] theorem State.judgeMotion_does {m : Nat} {s0 s : State}  (h : Does m s0 s)
    (hm : 17301512 &&& m = 17301512) : Does m s0 (State.judgeMotion s) := by
  refine h.comp ?_ hm
  unfold State.judgeMotion
  try dsimp only
  (repeat' split) <;> simp (maxDischargeDepth := 60) [Ctr.rest, Tst.rest]

@[simp] theorem State.takeCounts_does {m : Nat} {s0 s : State} (t : SafetyTables) (prevA prevB cA cB : Nat) (h : Does m s0 s)
    (hm : 17334280 &&& m = 17334280) : Does m s0 (State.takeCounts s t prevA prevB cA cB) := by
  refine h.comp ?_ hm
  unfold State.takeCounts
  try dsimp only
  (repeat' split) <;> simp (maxDischargeDepth := 60) [Ctr.rest, Tst.rest]

@[simp] theorem State.primeChannels_does {m : Nat} {s0 s : State} (cA cB : Nat) (h : Does m s0 s)
    (hm : 32776 &&& m = 32776) : Does m s0 (State.primeChannels s cA cB) := by
  refine h.comp ?_ hm
  unfold State.primeChannels
  try dsimp only
  (repeat' split) <;> simp (maxDischargeDepth := 60) [Ctr.rest, Tst.rest]

@[simp] theorem State.acceptSample_does {m : Nat} {s0 s : State} (t : SafetyTables) (seq cA cB : Nat) (h : Does m s0 s)
    (hm : 21619260 &&& m = 21619260) : Does m s0 (State.acceptSample s t seq cA cB) := by
  refine h.comp ?_ hm
  unfold State.acceptSample
  try dsimp only
  (repeat' split) <;> simp (maxDischargeDepth := 60) [Ctr.rest, Tst.rest]

@[simp] theorem State.tachGap_does {m : Nat} {s0 s : State} (n : Nat) (h : Does m s0 s)
    (hm : 4259848 &&& m = 4259848) : Does m s0 (State.tachGap s n) := by
  refine h.comp ?_ hm
  unfold State.tachGap
  try dsimp only
  (repeat' split) <;> simp (maxDischargeDepth := 60) [Ctr.rest, Tst.rest]

@[simp] theorem State.takeSample_does {m : Nat} {s0 s : State} (t : SafetyTables) (seq cA cB : Nat) (h : Does m s0 s)
    (hm : 21619260 &&& m = 21619260) : Does m s0 (State.takeSample s t seq cA cB) := by
  refine h.comp ?_ hm
  unfold State.takeSample
  try dsimp only
  (repeat' split) <;> simp (maxDischargeDepth := 60) [Ctr.rest, Tst.rest]

@[simp] theorem State.loseTach_does {m : Nat} {s0 s : State}  (h : Does m s0 s)
    (hm : 21619260 &&& m = 21619260) : Does m s0 (State.loseTach s) := by
  refine h.comp ?_ hm
  unfold State.loseTach
  dsimp only
  have h1 : Does 21619260 s ((s.judge .tachLost true).setRpu
      { (s.judge .tachLost true).rpu with
        window := [], v := 0, stillness := none, prevA := none, prevB := none, seqPrev := none, tachLoss := none }) := by
    refine (State.judge_does _ _ _ (Does.refl _ _) rfl).setRpu (.inl rfl) fun hb => ⟨Nat.zero_le _, hb.2⟩
  simp (maxDischargeDepth := 60) [h1]

@[simp] theorem State.handMotion_does {m : Nat} {s0 s : State} (h : Does m s0 s) (hm : 8 &&& m = 8) :
    Does m s0 (State.handMotion s) :=
  does_setRpu h (.inl hm) ⟨rfl, rfl⟩

@[simp] theorem State.becomeStopped_does {m : Nat} {s0 s : State}  (h : Does m s0 s)
    (hm : 21561880 &&& m = 21561880) : Does m s0 (State.becomeStopped s) := by
  refine h.comp ?_ hm
  unfold State.becomeStopped
  try dsimp only
  (repeat' split) <;> simp (maxDischargeDepth := 60) [Ctr.rest, Tst.rest]

@[simp] theorem State.firstMark_does {m : Nat} {s0 s : State} (t : SafetyTables) (h : Does m s0 s)
    (hm : 4317756 &&& m = 4317756) : Does m s0 (State.firstMark s t) := by
  refine h.comp ?_ hm
  unfold State.firstMark
  try dsimp only
  (repeat' split) <;> simp (maxDischargeDepth := 60) [Ctr.rest, Tst.rest]

@[simp] theorem State.correctReference_does {m : Nat} {s0 s : State} (e : Int) (h : Does m s0 s)
    (hm : 4317756 &&& m = 4317756) : Does m s0 (State.correctReference s e) := by
  refine h.comp ?_ hm
  unfold State.correctReference
  try dsimp only
  (repeat' split) <;> simp (maxDischargeDepth := 60) [Ctr.rest, Tst.rest]

@[simp] theorem State.laterMark_does {m : Nat} {s0 s : State} (t : SafetyTables) (h : Does m s0 s)
    (hm : 4317756 &&& m = 4317756) : Does m s0 (State.laterMark s t) := by
  refine h.comp ?_ hm
  unfold State.laterMark
  try dsimp only
  (repeat' split) <;> simp (maxDischargeDepth := 60) [Ctr.rest, Tst.rest]

@[simp] theorem State.takeMark_does {m : Nat} {s0 s : State} (t : SafetyTables) (h : Does m s0 s)
    (hm : 4317756 &&& m = 4317756) : Does m s0 (State.takeMark s t) := by
  refine h.comp ?_ hm
  unfold State.takeMark
  try dsimp only
  (repeat' split) <;> simp (maxDischargeDepth := 60) [Ctr.rest, Tst.rest]

@[simp] theorem State.loseReference_does {m : Nat} {s0 s : State}  (h : Does m s0 s)
    (hm : 32776 &&& m = 32776) : Does m s0 (State.loseReference s) := by
  refine h.comp ?_ hm
  unfold State.loseReference
  try dsimp only
  (repeat' split) <;> simp (maxDischargeDepth := 60) [Ctr.rest, Tst.rest]

@[simp] theorem State.startTachLoss_does {m : Nat} {s0 s : State} (t : SafetyTables) (h : Does m s0 s)
    (hm : 8 &&& m = 8) : Does m s0 (State.startTachLoss s t) := by
  refine h.comp ?_ hm
  unfold State.startTachLoss
  try dsimp only
  (repeat' split) <;> simp (maxDischargeDepth := 60) [Ctr.rest, Tst.rest]

end Sys2Proof.Machine
end

