-- ==== Sys2Proof/Laws/DoorActs.lean ====
section
/-! SUPPORT. What the operations of Machine/DoorActs.lean touch and keep. -/

namespace Sys2Proof.Machine

set_option linter.unusedSimpArgs false
set_option linter.unusedTactic false
set_option linter.unnecessarySeqFocus false

@[simp] theorem State.requestClose_does {m : Nat} {s0 s : State} (e : StationEntry) (h : Does m s0 s)
    (hm : 4294656 &&& m = 4294656) : Does m s0 (State.requestClose s e) := by
  refine h.comp ?_ hm
  unfold State.requestClose
  try dsimp only
  (repeat' split) <;> simp (maxDischargeDepth := 60) [Ctr.rest, Tst.rest]

@[simp] theorem State.checkLocked_does {m : Nat} {s0 s : State} (e : StationEntry) (h : Does m s0 s)
    (hm : 4292608 &&& m = 4292608) : Does m s0 (State.checkLocked s e) := by
  refine h.comp ?_ hm
  unfold State.checkLocked
  try dsimp only
  (repeat' split) <;> simp (maxDischargeDepth := 60) [Ctr.rest, Tst.rest]

@[simp] theorem State.leaveReach_does {m : Nat} {s0 s : State} (e : StationEntry) (h : Does m s0 s)
    (hm : 4294660 &&& m = 4294660) : Does m s0 (State.leaveReach s e) := by
  refine h.comp ?_ hm
  unfold State.leaveReach
  try dsimp only
  (repeat' split) <;> simp (maxDischargeDepth := 60) [Ctr.rest, Tst.rest]

@[simp] theorem State.backD2_does {m : Nat} {s0 s : State} (e : StationEntry) (h : Does m s0 s)
    (hm : 67584 &&& m = 67584) : Does m s0 (State.backD2 s e) := by
  refine h.comp ?_ hm
  unfold State.backD2
  try dsimp only
  (repeat' split) <;> simp (maxDischargeDepth := 60) [Ctr.rest, Tst.rest]

@[simp] theorem State.backD3_does {m : Nat} {s0 s : State} (e : StationEntry) (h : Does m s0 s)
    (hm : 67584 &&& m = 67584) : Does m s0 (State.backD3 s e) := by
  refine h.comp ?_ hm
  unfold State.backD3
  try dsimp only
  (repeat' split) <;> simp (maxDischargeDepth := 60) [Ctr.rest, Tst.rest]

@[simp] theorem State.settleSeparate_does {m : Nat} {s0 s : State} (e : StationEntry) (h : Does m s0 s)
    (hm : 2048 &&& m = 2048) : Does m s0 (State.settleSeparate s e) := by
  refine h.comp ?_ hm
  unfold State.settleSeparate
  try dsimp only
  (repeat' split) <;> simp (maxDischargeDepth := 60) [Ctr.rest, Tst.rest]

@[simp] theorem State.backD4_does {m : Nat} {s0 s : State} (e : StationEntry) (h : Does m s0 s)
    (hm : 4294656 &&& m = 4294656) : Does m s0 (State.backD4 s e) := by
  refine h.comp ?_ hm
  unfold State.backD4
  try dsimp only
  (repeat' split) <;> simp (maxDischargeDepth := 60) [Ctr.rest, Tst.rest]

@[simp] theorem State.extendDeadline_does {m : Nat} {s0 s : State} (u : DoorUnitName) (b : BusyCommand) (d : Nat) (h : Does m s0 s)
    (hm : 2048 &&& m = 2048) : Does m s0 (State.extendDeadline s u b d) := by
  refine h.comp ?_ hm
  unfold State.extendDeadline
  try dsimp only
  (repeat' split) <;> simp (maxDischargeDepth := 60) [Ctr.rest, Tst.rest]

@[simp] theorem State.unexpectedReport_does {m : Nat} {s0 s : State} (u : DoorUnitName) (b : BusyCommand) (r : DoorResult) (h : Does m s0 s)
    (hm : 4261888 &&& m = 4261888) : Does m s0 (State.unexpectedReport s u b r) := by
  refine h.comp ?_ hm
  unfold State.unexpectedReport
  try dsimp only
  (repeat' split) <;> simp (maxDischargeDepth := 60) [Ctr.rest, Tst.rest]

@[simp] theorem State.holdObstructed_does {m : Nat} {s0 s : State} (e : StationEntry) (p : DoorProfile) (h : Does m s0 s)
    (hm : 4294656 &&& m = 4294656) : Does m s0 (State.holdObstructed s e p) := by
  refine h.comp ?_ hm
  unfold State.holdObstructed
  try dsimp only
  (repeat' split) <;> simp (maxDischargeDepth := 60) [Ctr.rest, Tst.rest]

@[simp] theorem State.reopenDoor_does {m : Nat} {s0 s : State} (e : StationEntry) (p : DoorProfile) (h : Does m s0 s)
    (hm : 4294656 &&& m = 4294656) : Does m s0 (State.reopenDoor s e p) := by
  refine h.comp ?_ hm
  unfold State.reopenDoor
  try dsimp only
  (repeat' split) <;> simp (maxDischargeDepth := 60) [Ctr.rest, Tst.rest]

@[simp] theorem State.faultReport_does {m : Nat} {s0 s : State} (u : DoorUnitName) (b : BusyCommand) (e : StationEntry) (h : Does m s0 s)
    (hm : 4295220 &&& m = 4295220) : Does m s0 (State.faultReport s u b e) := by
  refine h.comp ?_ hm
  unfold State.faultReport
  try dsimp only
  (repeat' split) <;> simp (maxDischargeDepth := 60) [Ctr.rest, Tst.rest]

@[simp] theorem State.takeMatched_does {m : Nat} {s0 s : State} (u : DoorUnitName) (b : BusyCommand) (e : StationEntry) (p : DoorProfile) (r : DoorResult) (h : Does m s0 s)
    (hm : 4295220 &&& m = 4295220) : Does m s0 (State.takeMatched s u b e p r) := by
  refine h.comp ?_ hm
  unfold State.takeMatched
  try dsimp only
  (repeat' split) <;> simp (maxDischargeDepth := 60) [Ctr.rest, Tst.rest]

@[simp] theorem State.departedReport_does {m : Nat} {s0 s : State} (u : DoorUnitName) (b : BusyCommand) (r : DoorResult) (h : Does m s0 s)
    (hm : 4261888 &&& m = 4261888) : Does m s0 (State.departedReport s u b r) := by
  refine h.comp ?_ hm
  unfold State.departedReport
  try dsimp only
  (repeat' split) <;> simp (maxDischargeDepth := 60) [Ctr.rest, Tst.rest]

@[simp] theorem State.lateDoorReport_does {m : Nat} {s0 s : State} (u : DoorUnitName) (c : DoorCommand) (h : Does m s0 s)
    (hm : 4261888 &&& m = 4261888) : Does m s0 (State.lateDoorReport s u c) := by
  refine h.comp ?_ hm
  unfold State.lateDoorReport
  try dsimp only
  (repeat' split) <;> simp (maxDischargeDepth := 60) [Ctr.rest, Tst.rest]

@[simp] theorem State.unmatchedReport_does {m : Nat} {s0 s : State} (u : DoorUnitName) (field code : Nat) (h : Does m s0 s)
    (hm : 4261888 &&& m = 4261888) : Does m s0 (State.unmatchedReport s u field code) := by
  refine h.comp ?_ hm
  unfold State.unmatchedReport
  try dsimp only
  (repeat' split) <;> simp (maxDischargeDepth := 60) [Ctr.rest, Tst.rest]

@[simp] theorem State.reportWhileBusy_does {m : Nat} {s0 s : State} (u : DoorUnitName) (b : BusyCommand) (field : Nat) (r : DoorResult) (h : Does m s0 s)
    (hm : 4295220 &&& m = 4295220) : Does m s0 (State.reportWhileBusy s u b field r) := by
  refine h.comp ?_ hm
  unfold State.reportWhileBusy
  try dsimp only
  (repeat' split) <;> simp (maxDischargeDepth := 60) [Ctr.rest, Tst.rest]

@[simp] theorem State.takeDoorReport_does {m : Nat} {s0 s : State} (u : DoorUnitName) (field : Nat) (r : DoorResult) (h : Does m s0 s)
    (hm : 4295220 &&& m = 4295220) : Does m s0 (State.takeDoorReport s u field r) := by
  refine h.comp ?_ hm
  unfold State.takeDoorReport
  try dsimp only
  (repeat' split) <;> simp (maxDischargeDepth := 60) [Ctr.rest, Tst.rest]

@[simp] theorem State.revertDoor_does {m : Nat} {s0 s : State} (b : BusyCommand) (h : Does m s0 s)
    (hm : 4293172 &&& m = 4293172) : Does m s0 (State.revertDoor s b) := by
  refine h.comp ?_ hm
  unfold State.revertDoor
  try dsimp only
  (repeat' split) <;> simp (maxDischargeDepth := 60) [Ctr.rest, Tst.rest]

@[simp] theorem State.takeDoorNack_does {m : Nat} {s0 s : State} (u : DoorUnitName) (b : BusyCommand) (unsupported : Bool) (h : Does m s0 s)
    (hm : 4295220 &&& m = 4295220) : Does m s0 (State.takeDoorNack s u b unsupported) := by
  refine h.comp ?_ hm
  unfold State.takeDoorNack
  try dsimp only
  (repeat' split) <;> simp (maxDischargeDepth := 60) [Ctr.rest, Tst.rest]

@[simp] theorem State.takeDoorRefusal_does {m : Nat} {s0 s : State} (f : RingFrame) (h : Does m s0 s)
    (hm : 4295220 &&& m = 4295220) : Does m s0 (State.takeDoorRefusal s f) := by
  refine h.comp ?_ hm
  unfold State.takeDoorRefusal
  try dsimp only
  (repeat' split) <;> simp (maxDischargeDepth := 60) [Ctr.rest, Tst.rest]

@[simp] theorem State.timeoutDoor_does {m : Nat} {s0 s : State} (c : DoorCommand) (h : Does m s0 s)
    (hm : 4295220 &&& m = 4295220) : Does m s0 (State.timeoutDoor s c) := by
  refine h.comp ?_ hm
  unfold State.timeoutDoor
  try dsimp only
  (repeat' split) <;> simp (maxDischargeDepth := 60) [Ctr.rest, Tst.rest]

@[simp] theorem State.doorTimeout_does {m : Nat} {s0 s : State} (u : DoorUnitName) (b : BusyCommand) (h : Does m s0 s)
    (hm : 4295220 &&& m = 4295220) : Does m s0 (State.doorTimeout s u b) := by
  refine h.comp ?_ hm
  unfold State.doorTimeout
  try dsimp only
  (repeat' split) <;> simp (maxDischargeDepth := 60) [Ctr.rest, Tst.rest]

@[simp] theorem State.dwellOver_does {m : Nat} {s0 s : State} (serial : Nat) (h : Does m s0 s)
    (hm : 4294656 &&& m = 4294656) : Does m s0 (State.dwellOver s serial) := by
  refine h.comp ?_ hm
  unfold State.dwellOver
  try dsimp only
  (repeat' split) <;> simp (maxDischargeDepth := 60) [Ctr.rest, Tst.rest]

@[simp] theorem State.reopenWaitOver_does {m : Nat} {s0 s : State} (serial : Nat) (h : Does m s0 s)
    (hm : 4294656 &&& m = 4294656) : Does m s0 (State.reopenWaitOver s serial) := by
  refine h.comp ?_ hm
  unfold State.reopenWaitOver
  try dsimp only
  (repeat' split) <;> simp (maxDischargeDepth := 60) [Ctr.rest, Tst.rest]

@[simp] theorem State.lockAfterSettle_does {m : Nat} {s0 s : State} (e : StationEntry) (r : DoorRecord) (h : Does m s0 s)
    (hm : 4295220 &&& m = 4295220) : Does m s0 (State.lockAfterSettle s e r) := by
  refine h.comp ?_ hm
  unfold State.lockAfterSettle
  try dsimp only
  (repeat' split) <;> simp (maxDischargeDepth := 60) [Ctr.rest, Tst.rest]

@[simp] theorem State.settleOver_does {m : Nat} {s0 s : State} (serial : Nat) (h : Does m s0 s)
    (hm : 4295220 &&& m = 4295220) : Does m s0 (State.settleOver s serial) := by
  refine h.comp ?_ hm
  unfold State.settleOver
  try dsimp only
  (repeat' split) <;> simp (maxDischargeDepth := 60) [Ctr.rest, Tst.rest]

@[simp] theorem State.takeHoldOpen_does {m : Nat} {s0 s : State} (e : StationEntry) (h : Does m s0 s)
    (hm : 67588 &&& m = 67588) : Does m s0 (State.takeHoldOpen s e) := by
  refine h.comp ?_ hm
  unfold State.takeHoldOpen
  try dsimp only
  (repeat' split) <;> simp (maxDischargeDepth := 60) [Ctr.rest, Tst.rest]

@[simp] theorem State.takeReleaseHold_does {m : Nat} {s0 s : State} (e : StationEntry) (h : Does m s0 s)
    (hm : 4294660 &&& m = 4294660) : Does m s0 (State.takeReleaseHold s e) := by
  refine h.comp ?_ hm
  unfold State.takeReleaseHold
  try dsimp only
  (repeat' split) <;> simp (maxDischargeDepth := 60) [Ctr.rest, Tst.rest]

@[simp] theorem State.closeSeparate_does {m : Nat} {s0 s : State} (e : StationEntry) (h : Does m s0 s)
    (hm : 4294656 &&& m = 4294656) : Does m s0 (State.closeSeparate s e) := by
  refine h.comp ?_ hm
  unfold State.closeSeparate
  try dsimp only
  (repeat' split) <;> simp (maxDischargeDepth := 60) [Ctr.rest, Tst.rest]

@[simp] theorem State.takeDoorRetry_does {m : Nat} {s0 s : State} (e : StationEntry) (h : Does m s0 s)
    (hm : 4294656 &&& m = 4294656) : Does m s0 (State.takeDoorRetry s e) := by
  refine h.comp ?_ hm
  unfold State.takeDoorRetry
  try dsimp only
  (repeat' split) <;> simp (maxDischargeDepth := 60) [Ctr.rest, Tst.rest]

@[simp] theorem State.setDoorMode_does {m : Nat} {s0 s : State} (m1 : DoorMode) (h : Does m s0 s)
    (hm : 67584 &&& m = 67584) : Does m s0 (State.setDoorMode s m1) := by
  refine h.comp ?_ hm
  unfold State.setDoorMode
  try dsimp only
  (repeat' split) <;> simp (maxDischargeDepth := 60) [Ctr.rest, Tst.rest]

@[simp] theorem State.restoreDoorTimers_does {m : Nat} {s0 s : State} (e : StationEntry) (h : Does m s0 s)
    (hm : 2048 &&& m = 2048) : Does m s0 (State.restoreDoorTimers s e) := by
  refine h.comp ?_ hm
  unfold State.restoreDoorTimers
  try dsimp only
  (repeat' split) <;> simp (maxDischargeDepth := 60) [Ctr.rest, Tst.rest]

end Sys2Proof.Machine
end

