-- ==== Sys2Proof/Laws/StationActs.lean ====
section
/-! SUPPORT. What the operations of Machine/StationActs.lean touch and keep. -/

namespace Sys2Proof.Machine

set_option linter.unusedSimpArgs false
set_option linter.unusedTactic false
set_option linter.unnecessarySeqFocus false

@[simp] theorem State.countUnread_does {m : Nat} {s0 s : State} (id : Nat) (h : Does m s0 s)
    (hm : 33792 &&& m = 33792) : Does m s0 (State.countUnread s id) := by
  refine h.comp ?_ hm
  unfold State.countUnread
  try dsimp only
  (repeat' split) <;> simp (maxDischargeDepth := 60) [Ctr.rest, Tst.rest]

@[simp] theorem State.reportUnknownCabin_does {m : Nat} {s0 s : State} (id : Nat) (h : Does m s0 s)
    (hm : 4292608 &&& m = 4292608) : Does m s0 (State.reportUnknownCabin s id) := by
  refine h.comp ?_ hm
  unfold State.reportUnknownCabin
  try dsimp only
  (repeat' split) <;> simp (maxDischargeDepth := 60) [Ctr.rest, Tst.rest]

theorem State.joinAtD1_does {m : Nat} {s0 s : State} (who : Who) (h : Does m s0 s)
    (hm : 4295712 &&& m = 4295712) (hq : s.ctr.queue.length < 32) : Does m s0 (State.joinAtD1 s who) := by
  refine h.comp ?_ hm
  unfold State.joinAtD1
  dsimp only
  exact State.judgeSegments_does
    (State.setDoorRecords_does _ (State.appendEntry_does _ (State.takeSerial_does _ (Does.refl _ _) rfl) rfl hq) rfl) rfl

@[simp] theorem State.stationOverflow_does {m : Nat} {s0 s : State} (id : Option Nat) (h : Does m s0 s)
    (hm : 32768 &&& m = 32768) : Does m s0 (State.stationOverflow s id) := by
  refine h.comp ?_ hm
  unfold State.stationOverflow
  try dsimp only
  (repeat' split) <;> simp (maxDischargeDepth := 60) [Ctr.rest, Tst.rest]

@[simp] theorem State.arriveRegistered_does {m : Nat} {s0 s : State} (i : Nat) (assumed : Bool) (h : Does m s0 s)
    (hm : 4304884 &&& m = 4304884) : Does m s0 (State.arriveRegistered s i assumed) := by
  refine h.comp ?_ hm
  unfold State.arriveRegistered
  dsimp only
  split
  · simp (maxDischargeDepth := 60)
  · rename_i hq
    have hl : (s.matchArrival .valley i).ctr.queue.length < 32 :=
      Nat.lt_of_le_of_lt (s.matchArrival_queue .valley i) (by simpa [State.queueFull] using hq)
    exact State.sendHandover_does _ _ _ _ (State.joinAtD1_does _ (by simp) rfl hl) rfl

@[simp] theorem State.arriveAnonymous_does {m : Nat} {s0 s : State}  (h : Does m s0 s)
    (hm : 4295712 &&& m = 4295712) : Does m s0 (State.arriveAnonymous s) := by
  refine h.comp ?_ hm
  unfold State.arriveAnonymous
  split
  · simp
  · rename_i hq
    exact State.joinAtD1_does _ (Does.refl _ _) rfl (by simpa [State.queueFull] using hq)

@[simp] theorem State.takeArrival_does {m : Nat} {s0 s : State} (id : Nat) (h : Does m s0 s)
    (hm : 4304884 &&& m = 4304884) : Does m s0 (State.takeArrival s id) := by
  refine h.comp ?_ hm
  unfold State.takeArrival
  try dsimp only
  (repeat' split) <;> simp (maxDischargeDepth := 60) [Ctr.rest, Tst.rest]

@[simp] theorem State.exitIfEmptied_does {m : Nat} {s0 s : State} (before : State) (h : Does m s0 s)
    (hm : 66560 &&& m = 66560) : Does m s0 (State.exitIfEmptied s before) := by
  refine h.comp ?_ hm
  unfold State.exitIfEmptied
  try dsimp only
  (repeat' split) <;> simp (maxDischargeDepth := 60) [Ctr.rest, Tst.rest]

@[simp] theorem State.checkMerge_does {m : Nat} {s0 s : State} (e : StationEntry) (h : Does m s0 s)
    (hm : 4292608 &&& m = 4292608) : Does m s0 (State.checkMerge s e) := by
  refine h.comp ?_ hm
  unfold State.checkMerge
  try dsimp only
  (repeat' split) <;> simp (maxDischargeDepth := 60) [Ctr.rest, Tst.rest]

theorem State.passForward_does {m : Nat} {s0 s : State} {act : State → StationEntry → State} (detector : Nat)
    (source dest : Segment) (h : Does m s0 s) (hm : 4292640 &&& m = 4292640)
    (hact : ∀ {x : State} e, Does m s0 x → Does m s0 (act x e)) : Does m s0 (s.passForward detector source dest act) := by
  unfold State.passForward
  split
  · exact hact _ (h.comp (by simp) hm)
  · exact h.comp (by simp) hm


theorem State.passBackward_does {m : Nat} {s0 s : State} {act : State → StationEntry → State} (detector : Nat)
    (source dest : Segment) (h : Does m s0 s) (hm : 4292640 &&& m = 4292640)
    (hact : ∀ {x : State} e, Does m s0 x → Does m s0 (act x e)) : Does m s0 (s.passBackward detector source dest act) := by
  unfold State.passBackward
  split
  · exact hact _ (h.comp (by simp) hm)
  · exact h.comp (by simp) hm


@[simp] theorem State.afterD4_does {m : Nat} {s0 s : State} (e : StationEntry) (h : Does m s0 s)
    (hm : 4295684 &&& m = 4295684) : Does m s0 (State.afterD4 s e) := by
  refine h.comp ?_ hm
  unfold State.afterD4
  try dsimp only
  (repeat' split) <;> simp (maxDischargeDepth := 60) [Ctr.rest, Tst.rest]

@[simp] theorem State.takePassage_does {m : Nat} {s0 s : State} (r : Role) (h : Does m s0 s)
    (hm : 4295716 &&& m = 4295716) : Does m s0 (State.takePassage s r) := by
  refine h.comp ?_ hm
  unfold State.takePassage
  (repeat' split)
  all_goals
    first
    | simp (maxDischargeDepth := 60)
    | (refine State.passForward_does _ _ _ (Does.refl _ _) rfl fun e hx => ?_; simp [hx])

@[simp] theorem State.takeBackPassage_does {m : Nat} {s0 s : State} (r : Role) (h : Does m s0 s)
    (hm : 4295712 &&& m = 4295712) : Does m s0 (State.takeBackPassage s r) := by
  refine h.comp ?_ hm
  unfold State.takeBackPassage
  (repeat' split)
  all_goals
    first
    | simp (maxDischargeDepth := 60)
    | (refine State.passBackward_does _ _ _ (Does.refl _ _) rfl fun e hx => ?_; simp [hx])
    | (refine State.exitIfEmptied_does _ (State.passBackward_does _ _ _ (Does.refl _ _) rfl fun e hx => ?_) rfl; simp [hx])

@[simp] theorem State.setRoute_does {m : Nat} {s0 s : State} (e : StationEntry) (r : Route) (h : Does m s0 s)
    (hm : 32 &&& m = 32) : Does m s0 (State.setRoute s e r) := by
  refine h.comp ?_ hm
  unfold State.setRoute
  try dsimp only
  (repeat' split) <;> simp (maxDischargeDepth := 60) [Ctr.rest, Tst.rest]

@[simp] theorem State.reportForced_does {m : Nat} {s0 s : State} (e : StationEntry) (h : Does m s0 s)
    (hm : 4259840 &&& m = 4259840) : Does m s0 (State.reportForced s e) := by
  refine h.comp ?_ hm
  unfold State.reportForced
  try dsimp only
  (repeat' split) <;> simp (maxDischargeDepth := 60) [Ctr.rest, Tst.rest]

@[simp] theorem State.dropGarageNext_does {m : Nat} {s0 s : State} (e : StationEntry) (h : Does m s0 s)
    (hm : 4259844 &&& m = 4259844) : Does m s0 (State.dropGarageNext s e) := by
  refine h.comp ?_ hm
  unfold State.dropGarageNext
  try dsimp only
  (repeat' split) <;> simp (maxDischargeDepth := 60) [Ctr.rest, Tst.rest]

@[simp] theorem State.routeEntry_does {m : Nat} {s0 s : State} (e : StationEntry) (h : Does m s0 s)
    (hm : 4259876 &&& m = 4259876) : Does m s0 (State.routeEntry s e) := by
  refine h.comp ?_ hm
  unfold State.routeEntry
  try dsimp only
  (repeat' split) <;> simp (maxDischargeDepth := 60) [Ctr.rest, Tst.rest]

@[simp] theorem State.afterD5_does {m : Nat} {s0 s : State} (force : Nat) (e : StationEntry) (h : Does m s0 s)
    (hm : 4297764 &&& m = 4297764) : Does m s0 (State.afterD5 s force e) := by
  refine h.comp ?_ hm
  unfold State.afterD5
  try dsimp only
  (repeat' split) <;> simp (maxDischargeDepth := 60) [Ctr.rest, Tst.rest]

@[simp] theorem State.takeGrip_does {m : Nat} {s0 s : State} (force : Nat) (h : Does m s0 s)
    (hm : 4297764 &&& m = 4297764) : Does m s0 (State.takeGrip s force) := by
  refine h.comp ?_ hm
  unfold State.takeGrip
  (repeat' split)
  all_goals
    first
    | simp (maxDischargeDepth := 60)
    | (refine State.exitIfEmptied_does _ (State.passForward_does _ _ _ (Does.refl _ _) rfl fun e hx => ?_) rfl; simp [hx])

@[simp] theorem State.takeBackGrip_does {m : Nat} {s0 s : State}  (h : Does m s0 s)
    (hm : 4293664 &&& m = 4293664) : Does m s0 (State.takeBackGrip s) := by
  refine h.comp ?_ hm
  unfold State.takeBackGrip
  (repeat' split)
  all_goals
    first
    | simp (maxDischargeDepth := 60)
    | (refine State.passBackward_does _ _ _ (Does.refl _ _) rfl fun e hx => ?_; simp [hx])

@[simp] theorem State.checkRoute_does {m : Nat} {s0 s : State} (e : StationEntry) (p : SwitchPosition) (h : Does m s0 s)
    (hm : 4292608 &&& m = 4292608) : Does m s0 (State.checkRoute s e p) := by
  refine h.comp ?_ hm
  unfold State.checkRoute
  try dsimp only
  (repeat' split) <;> simp (maxDischargeDepth := 60) [Ctr.rest, Tst.rest]

@[simp] theorem State.toLaunchQueue_does {m : Nat} {s0 s : State} (e : StationEntry) (h : Does m s0 s)
    (hm : 4293168 &&& m = 4293168) : Does m s0 (State.toLaunchQueue s e) := by
  refine h.comp ?_ hm
  unfold State.toLaunchQueue
  try dsimp only
  (repeat' split) <;> simp (maxDischargeDepth := 60) [Ctr.rest, Tst.rest]

@[simp] theorem State.garageCabin_does {m : Nat} {s0 s : State} (who : Who) (h : Does m s0 s)
    (hm : 4 &&& m = 4) : Does m s0 (State.garageCabin s who) := by
  refine h.comp ?_ hm
  unfold State.garageCabin
  try dsimp only
  (repeat' split) <;> simp (maxDischargeDepth := 60) [Ctr.rest, Tst.rest]

/-- A cabin taken to the garage below Gcap (R73). -/
theorem State.toGarage_does {m : Nat} {s0 s : State} (e : StationEntry) (h : Does m s0 s)
    (hm : 4296308 &&& m = 4296308) (hg : s.ctr.garage.length < s.tables.gcap) : Does m s0 (State.toGarage s e) := by
  refine h.comp ?_ hm
  have h1 : Does 4296244 s (s.leaveStation e) := by simp
  have h2 : (s.leaveStation e).tables = s.tables := by unfold State.tables; rw [(h1.1 .tables rfl).1]
  unfold State.toGarage
  refine State.judgeGarageExit_does
    (State.garageCabin_does _ (State.pushGarage_does _ (h1.mono rfl) rfl fun hl => ?_) rfl) rfl
  have := hl.gcap
  rw [h2] at this
  rw [h1.1 .garage rfl]
  omega

@[simp] theorem State.garageOverflow_does {m : Nat} {s0 s : State} (e : StationEntry) (h : Does m s0 s)
    (hm : 4296692 &&& m = 4296692) : Does m s0 (State.garageOverflow s e) := by
  refine h.comp ?_ hm
  unfold State.garageOverflow
  try dsimp only
  (repeat' split) <;> simp (maxDischargeDepth := 60) [Ctr.rest, Tst.rest]

@[simp] theorem State.crossSwitch_does {m : Nat} {s0 s : State} (e : StationEntry) (p : SwitchPosition) (h : Does m s0 s)
    (hm : 4296692 &&& m = 4296692) : Does m s0 (State.crossSwitch s e p) := by
  refine h.comp ?_ hm
  unfold State.crossSwitch
  repeat' split
  · simp
  · exact State.toGarage_does e (Does.refl _ _) rfl ‹_›
  · simp

@[simp] theorem State.takeSwitch_does {m : Nat} {s0 s : State} (p : SwitchPosition) (h : Does m s0 s)
    (hm : 4296692 &&& m = 4296692) : Does m s0 (State.takeSwitch s p) := by
  refine h.comp ?_ hm
  unfold State.takeSwitch
  try dsimp only
  (repeat' split) <;> simp (maxDischargeDepth := 60) [Ctr.rest, Tst.rest]

@[simp] theorem State.takeBackSwitch_does {m : Nat} {s0 s : State}  (h : Does m s0 s)
    (hm : 4294192 &&& m = 4294192) : Does m s0 (State.takeBackSwitch s) := by
  refine h.comp ?_ hm
  unfold State.takeBackSwitch
  (repeat' split)
  all_goals
    first
    | simp (maxDischargeDepth := 60)
    | (refine State.passBackward_does _ _ _ (Does.refl _ _) rfl fun e hx => ?_; simp [hx])

@[simp] theorem State.takeSwitchNack_does {m : Nat} {s0 s : State} (f : RingFrame) (h : Does m s0 s)
    (hm : 4260864 &&& m = 4260864) : Does m s0 (State.takeSwitchNack s f) := by
  refine h.comp ?_ hm
  unfold State.takeSwitchNack
  try dsimp only
  (repeat' split) <;> simp (maxDischargeDepth := 60) [Ctr.rest, Tst.rest]

@[simp] theorem State.countExit_does {m : Nat} {s0 s : State}  (h : Does m s0 s)
    (hm : 1024 &&& m = 1024) : Does m s0 (State.countExit s) := by
  refine h.comp ?_ hm
  unfold State.countExit
  try dsimp only
  (repeat' split) <;> simp (maxDischargeDepth := 60) [Ctr.rest, Tst.rest]

@[simp] theorem State.checkTop_does {m : Nat} {s0 s : State} (c : ExitCommand) (g : GarageEntry) (h : Does m s0 s)
    (hm : 4259840 &&& m = 4259840) : Does m s0 (State.checkTop s c g) := by
  refine h.comp ?_ hm
  unfold State.checkTop
  try dsimp only
  (repeat' split) <;> simp (maxDischargeDepth := 60) [Ctr.rest, Tst.rest]

@[simp] theorem State.setGarage_does {m : Nat} {s0 s : State} (g : List GarageEntry) (h : Does m s0 s)
    (hm : 64 &&& m = 64) (hg : g.length ≤ s.ctr.garage.length) : Does m s0 (State.setGarage s g) := by
  refine h.comp ?_ hm
  unfold State.setGarage
  simp [hg, Ctr.rest]

@[simp] theorem State.locateWho_does {m : Nat} {s0 s : State} (w : Who) (l : Location) (h : Does m s0 s)
    (hm : 4 &&& m = 4) : Does m s0 (State.locateWho s w l) := by
  refine h.comp ?_ hm
  unfold State.locateWho
  try dsimp only
  (repeat' split) <;> simp (maxDischargeDepth := 60) [Ctr.rest, Tst.rest]

/-- The cabin popped joins a queue with room (R62, R77). -/
theorem State.exitToS4_does {m : Nat} {s0 s : State} (g : GarageEntry) (h : Does m s0 s)
    (hm : 2084 &&& m = 2084) (hq : s.ctr.queue.length < 32) : Does m s0 (State.exitToS4 s g) := by
  refine h.comp ?_ hm
  unfold State.exitToS4
  dsimp only
  refine State.locateWho_does _ _ (State.setDoorRecords_does _ (State.growQueue_does (Does.refl _ _) rfl ?_) rfl) rfl
  rw [placeInS4, List.length_append, List.length_cons]
  have := congrArg List.length (List.takeWhile_append_dropWhile (p := fun x : StationEntry => 4 ≤ x.segment.num) (l := s.ctr.queue))
  rw [List.length_append] at this
  omega

@[simp] theorem State.exitToUnlocated_does {m : Nat} {s0 s : State} (g : GarageEntry) (h : Does m s0 s)
    (hm : 4292868 &&& m = 4292868) : Does m s0 (State.exitToUnlocated s g) := by
  refine h.comp ?_ hm
  unfold State.exitToUnlocated
  try dsimp only
  (repeat' split) <;> simp (maxDischargeDepth := 60) [Ctr.rest, Tst.rest]

theorem State.popGarage_does {m : Nat} {s0 s : State} (c : ExitCommand) (g : GarageEntry) (rest : List GarageEntry) (h : Does m s0 s)
    (hm : 4296036 &&& m = 4296036) (hr : rest.length ≤ s.ctr.garage.length) : Does m s0 (State.popGarage s c g rest) := by
  refine h.comp ?_ hm
  unfold State.popGarage
  dsimp only
  have h1 : Does 4296036 s (if s.queueFull then (s.setGarage rest).exitToUnlocated g else (s.setGarage rest).exitToS4 g) := by
    split
    · simp [hr]
    · rename_i hq
      exact State.exitToS4_does _ (State.setGarage_does _ (Does.refl _ _) rfl hr) rfl
        (show s.ctr.queue.length < 32 by simpa [State.queueFull] using hq)
  have h2 := State.checkTop_does c g (State.countExit_does h1 rfl) rfl
  split
  · simp [h2, Ctr.rest]
  · exact h2

@[simp] theorem State.takeExit_does {m : Nat} {s0 s : State}  (h : Does m s0 s)
    (hm : 4296036 &&& m = 4296036) : Does m s0 (State.takeExit s) := by
  refine h.comp ?_ hm
  unfold State.takeExit
  dsimp only
  refine State.judgeGarageExit_does (State.judgeSegments_does ?_ rfl) rfl
  split
  · rename_i g rest _ hg
    exact State.popGarage_does _ _ _ (by simp) rfl (by rw [State.endExitCommand, State.setCtr_ctr, hg]; simp)
  · simp
  · simp

@[simp] theorem State.abandonExit_does {m : Nat} {s0 s : State} (k : EventKind) (data : List Int) (h : Does m s0 s)
    (hm : 4260864 &&& m = 4260864) : Does m s0 (State.abandonExit s k data) := by
  refine h.comp ?_ hm
  unfold State.abandonExit
  try dsimp only
  (repeat' split) <;> simp (maxDischargeDepth := 60) [Ctr.rest, Tst.rest]

@[simp] theorem State.takeExitNack_does {m : Nat} {s0 s : State} (f : RingFrame) (h : Does m s0 s)
    (hm : 4260864 &&& m = 4260864) : Does m s0 (State.takeExitNack s f) := by
  refine h.comp ?_ hm
  unfold State.takeExitNack
  try dsimp only
  (repeat' split) <;> simp (maxDischargeDepth := 60) [Ctr.rest, Tst.rest]

@[simp] theorem State.answer_does {m : Nat} {s0 s : State} (x : Status) (h : Does m s0 s)
    (hm : 0 &&& m = 0) : Does m s0 (State.answer s x).state := by
  refine h.comp ?_ hm
  unfold State.answer
  try dsimp only
  (repeat' split) <;> simp (maxDischargeDepth := 60) [Ctr.rest, Tst.rest]

@[simp] theorem State.takeGarageRelease_does {m : Nat} {s0 s : State} (count : Nat) (h : Does m s0 s)
    (hm : 66560 &&& m = 66560) : Does m s0 (State.takeGarageRelease s count).state := by
  refine h.comp ?_ hm
  unfold State.takeGarageRelease
  have h1 : ∀ n ≤ 8, Does 66560 s (s.setCtr { s.ctr with exitPending := n }).judgeGarageExit := fun n hn =>
    State.judgeGarageExit_does ((Does.refl 66560 s).setCtr (.inr rfl) (.inr rfl) (.inr ⟨rfl, rfl⟩) (.inr ⟨rfl, rfl⟩)
      (.inr rfl) (.inl rfl) fun hl =>
        have hb : s.ctr.bounded := hl.ctr
        ⟨hb.1, hb.2.1, hn⟩) rfl
  repeat' split
  · simp
  · simp
  · exact h1 _ ‹_›
  · exact h1 8 (Nat.le_refl 8)

@[simp] theorem State.takeGarageNext_does {m : Nat} {s0 s : State} (w : Word) (h : Does m s0 s)
    (hm : 4259844 &&& m = 4259844) : Does m s0 (State.takeGarageNext s w).state := by
  refine h.comp ?_ hm
  unfold State.takeGarageNext
  try dsimp only
  (repeat' split) <;> simp (maxDischargeDepth := 60) [Ctr.rest, Tst.rest]

/-- A cabin of the unlocated set pushed on a garage stack below Gcap (R84). -/
theorem State.parkCabin_does {m : Nat} {s0 s : State} (i : Nat) (h : Does m s0 s) (hm : 4296692 &&& m = 4296692)
    (hu : (s.reg i).location = .unlocated) (hg : s.ctr.garage.length < s.tables.gcap) : Does m s0 (State.parkCabin s i) := by
  refine h.comp ?_ hm
  have h1 : Does 256 s (s.takeOut i) := by
    unfold State.takeOut
    rw [hu]
    simp [Ctr.rest]
  unfold State.parkCabin
  refine State.judgeGarageExit_does (State.modReg_does _ _ (State.pushGarage_does _ (by simp) rfl fun hl => ?_) rfl) rfl
  have h2 : ((s.takeOut i).takeSerial (s.takeOut i).freshSerial).tables = s.tables := by
    unfold State.tables; rw [State.takeSerial, State.setCtr_tst, (h1.1 .tables rfl).1]
  have := hl.gcap
  rw [h2] at this
  rw [State.takeSerial, State.setCtr_ctr]
  dsimp only
  rw [h1.1 .garage rfl]
  omega

@[simp] theorem State.takeLocateCabin_does {m : Nat} {s0 s : State} (w : Word) (h : Does m s0 s)
    (hm : 4296692 &&& m = 4296692) : Does m s0 (State.takeLocateCabin s w).state := by
  refine h.comp ?_ hm
  unfold State.takeLocateCabin
  repeat' split
  all_goals first
    | (simp; done)
    | (rename_i hc
       simp only [Bool.and_eq_true, decide_eq_true_eq] at hc
       exact State.parkCabin_does _ (Does.refl _ _) rfl hc.1.1 hc.1.2)

@[simp] theorem State.reportRemoved_does {m : Nat} {s0 s : State} (serial : Option Nat) (id : Option Nat) (place : Location) (outOfService : Bool) (h : Does m s0 s)
    (hm : 4259840 &&& m = 4259840) : Does m s0 (State.reportRemoved s serial id place outOfService) := by
  refine h.comp ?_ hm
  unfold State.reportRemoved
  try dsimp only
  (repeat' split) <;> simp (maxDischargeDepth := 60) [Ctr.rest, Tst.rest]

@[simp] theorem State.takeOutOfService_does {m : Nat} {s0 s : State} (i : Nat) (h : Does m s0 s)
    (hm : 4296692 &&& m = 4296692) : Does m s0 (State.takeOutOfService s i) := by
  refine h.comp ?_ hm
  unfold State.takeOutOfService
  try dsimp only
  (repeat' split) <;> simp (maxDischargeDepth := 60) [Ctr.rest, Tst.rest]

@[simp] theorem State.removeRegistered_does {m : Nat} {s0 s : State} (i : Nat) (outOfService : Bool) (h : Does m s0 s)
    (hm : 4296692 &&& m = 4296692) : Does m s0 (State.removeRegistered s i outOfService) := by
  refine h.comp ?_ hm
  unfold State.removeRegistered
  try dsimp only
  (repeat' split) <;> simp (maxDischargeDepth := 60) [Ctr.rest, Tst.rest]

theorem State.removeWho_does {m : Nat} {s0 s : State} {drop : State → State} (w : Who) (outOfService : Bool)
    (h : Does m s0 s) (hm : 4296692 &&& m = 4296692) (hd : Does m s0 (drop s)) : Does m s0 (s.removeWho w outOfService drop) := by
  unfold State.removeWho
  split
  · exact h.comp (by simp) hm
  · exact hd


@[simp] theorem State.removeEntry_does {m : Nat} {s0 s : State} (e : StationEntry) (outOfService : Bool) (h : Does m s0 s)
    (hm : 4296692 &&& m = 4296692) : Does m s0 (State.removeEntry s e outOfService) := by
  refine h.comp ?_ hm
  exact State.reportRemoved_does _ _ _ _ (State.removeWho_does _ _ (Does.refl _ _) rfl (by simp)) rfl

@[simp] theorem State.removeTop_does {m : Nat} {s0 s : State} (g : GarageEntry) (outOfService : Bool) (h : Does m s0 s)
    (hm : 4296692 &&& m = 4296692) : Does m s0 (State.removeTop s g outOfService) := by
  refine h.comp ?_ hm
  exact State.reportRemoved_does _ _ _ _ (State.removeWho_does _ _ (Does.refl _ _) rfl (by simp)) rfl

@[simp] theorem State.removeUnlocated_does {m : Nat} {s0 s : State} (i : Nat) (outOfService : Bool) (h : Does m s0 s)
    (hm : 4296692 &&& m = 4296692) : Does m s0 (State.removeUnlocated s i outOfService) := by
  refine h.comp ?_ hm
  unfold State.removeUnlocated
  try dsimp only
  (repeat' split) <;> simp (maxDischargeDepth := 60) [Ctr.rest, Tst.rest]

@[simp] theorem State.slotMismatch_does {m : Nat} {s0 s : State} (i : Nat) (data : List Int) (h : Does m s0 s)
    (hm : 4292608 &&& m = 4292608) : Does m s0 (State.slotMismatch s i data) := by
  refine h.comp ?_ hm
  unfold State.slotMismatch
  try dsimp only
  (repeat' split) <;> simp (maxDischargeDepth := 60) [Ctr.rest, Tst.rest]

@[simp] theorem State.compareSlot_does {m : Nat} {s0 s : State} (i : Nat) (recorded : Option Nat) (j : Nat) (h : Does m s0 s)
    (hm : 4292608 &&& m = 4292608) : Does m s0 (State.compareSlot s i recorded j) := by
  refine h.comp ?_ hm
  unfold State.compareSlot
  try dsimp only
  (repeat' split) <;> simp (maxDischargeDepth := 60) [Ctr.rest, Tst.rest]

@[simp] theorem State.bookSummitArrival_does {m : Nat} {s0 s : State} (i j : Nat) (h : Does m s0 s)
    (hm : 4296692 &&& m = 4296692) : Does m s0 (State.bookSummitArrival s i j) := by
  refine h.comp ?_ hm
  unfold State.bookSummitArrival
  try dsimp only
  (repeat' split) <;> simp (maxDischargeDepth := 60) [Ctr.rest, Tst.rest]

@[simp] theorem State.loseSlot_does {m : Nat} {s0 s : State} (j : Nat) (x : SlotState) (h : Does m s0 s)
    (hm : 4260400 &&& m = 4260400) : Does m s0 (State.loseSlot s j x) := by
  refine h.comp ?_ hm
  unfold State.loseSlot
  (repeat' split) <;> simp (maxDischargeDepth := 60) [List.length_filter_le]

@[simp] theorem State.resolveSlot_does {m : Nat} {s0 s : State} (i j : Nat) (h : Does m s0 s)
    (hm : 4296692 &&& m = 4296692) : Does m s0 (State.resolveSlot s i j) := by
  refine h.comp ?_ hm
  unfold State.resolveSlot
  try dsimp only
  (repeat' split) <;> simp (maxDischargeDepth := 60) [Ctr.rest, Tst.rest]

@[simp] theorem State.joinDownhill_does {m : Nat} {s0 s : State} (i j : Nat) (h : Does m s0 s)
    (hm : 644 &&& m = 644) : Does m s0 (State.joinDownhill s i j) := by
  refine h.comp ?_ hm
  unfold State.joinDownhill
  try dsimp only
  (repeat' split) <;> simp (maxDischargeDepth := 60) [Ctr.rest, Tst.rest]

@[simp] theorem State.takeLaunched_does {m : Nat} {s0 s : State} (i : Nat) (h : Does m s0 s)
    (hm : 4296692 &&& m = 4296692) : Does m s0 (State.takeLaunched s i) := by
  refine h.comp ?_ hm
  unfold State.takeLaunched
  try dsimp only
  (repeat' split) <;> simp (maxDischargeDepth := 60) [Ctr.rest, Tst.rest]

@[simp] theorem State.bookSummitLaunch_does {m : Nat} {s0 s : State} (i j : Nat) (h : Does m s0 s)
    (hm : 4296692 &&& m = 4296692) : Does m s0 (State.bookSummitLaunch s i j) := by
  refine h.comp ?_ hm
  unfold State.bookSummitLaunch
  try dsimp only
  (repeat' split) <;> simp (maxDischargeDepth := 60) [Ctr.rest, Tst.rest]

theorem State.takeHandover_does {m : Nat} {s0 s : State} {book : State → Nat → Nat → State} (payload : List Byte)
    (known : Bool) (h : Does m s0 s) (hm : 4301824 &&& m = 4301824)
    (hb : ∀ {x : State} i k, Does m s0 x → Does m s0 (book x i k)) : Does m s0 (s.takeHandover payload book known) := by
  unfold State.takeHandover
  dsimp only
  split
  · exact hb _ _ (h.comp (by simp) hm)
  · exact h.comp (by simp) hm


end Sys2Proof.Machine
end

