-- ==== Sys2Proof/Laws/TableOps.lean ====
section
/-! SUPPORT. What staging a value keeps: the range of Gcap. -/

namespace Sys2Proof.Machine

/-- A property of the copy that a staged value gives, where it gives one. -/
def Staged.holds {α : Type} (P : α → Prop) : Staged α → Prop
  | .taken c => P c
  | .clamped c _ => P c
  | .refused => True

theorem ranged_holds {α : Type} {P : α → Prop} {v lo hi : Nat} {copy : α} (h : v ≤ hi → P copy) :
    (ranged v lo hi copy).holds P := by
  unfold ranged
  split
  · rename_i hc
    exact h (by simpa using And.right (by simpa using hc : lo ≤ v ∧ v ≤ hi))
  · trivial

/-- A staged SAFETY value keeps Gcap in its range (R75, R186). -/
theorem SafetyTables.stage_bounded {t : SafetyTables} (n : Nat) (w w2 : Word) (h : t.bounded) :
    (t.stage n w w2).holds SafetyTables.bounded := by
  unfold SafetyTables.stage
  dsimp only
  split
  all_goals first
    | exact ranged_holds fun hv => hv
    | exact ranged_holds fun _ => h
    | (unfold SafetyTables.stageBands; dsimp only; split <;> first | exact h | trivial)
    | skip
  repeat' split
  · exact ranged_holds fun _ => h
  · unfold SafetyTables.stageMatrix
    repeat' split
    all_goals trivial
  · trivial
  · unfold SafetyTables.stageNode
    split <;> first | exact h | trivial
  · unfold SafetyTables.stageTower
    split <;> first | exact h | trivial
  · trivial

end Sys2Proof.Machine
end

