-- ==== Sys2Proof/Laws/StoreOps.lean ====
section
/-! SUPPORT. What the operations of Machine/StoreOps.lean touch and keep. -/

namespace Sys2Proof.Machine

set_option linter.unusedSimpArgs false
set_option linter.unusedTactic false
set_option linter.unnecessarySeqFocus false

@[simp] theorem State.reply_does {m : Nat} {s0 s : State} (r : ReplyTo) (x : Status) (data : List Word) (h : Does m s0 s)
    (hm : 134283264 &&& m = 134283264) : Does m s0 (State.reply s r x data) := by
  refine h.comp ?_ hm
  unfold State.reply
  try dsimp only
  (repeat' split) <;> simp (maxDischargeDepth := 60) [Ctr.rest, Tst.rest]

@[simp] theorem State.replyIf_does {m : Nat} {s0 s : State} (r : Option ReplyTo) (x : Status) (h : Does m s0 s)
    (hm : 134283264 &&& m = 134283264) : Does m s0 (State.replyIf s r x) := by
  refine h.comp ?_ hm
  unfold State.replyIf
  try dsimp only
  (repeat' split) <;> simp (maxDischargeDepth := 60) [Ctr.rest, Tst.rest]

@[simp] theorem State.judgeTables_does {m : Nat} {s0 s : State}  (h : Does m s0 s)
    (hm : 32768 &&& m = 32768) : Does m s0 (State.judgeTables s) := by
  refine h.comp ?_ hm
  unfold State.judgeTables
  try dsimp only
  (repeat' split) <;> simp (maxDischargeDepth := 60) [Ctr.rest, Tst.rest]

theorem State.beginWrite_does {m : Nat} {s0 s : State} (k : WriteKind) (r : Option ReplyTo) (h : Does m s0 s)
    (hm : 524288 &&& m = 524288) (hk : s.Live → ∀ p stale, k = .park p stale → p.bounded) :
    Does m s0 (State.beginWrite s k r) :=
  h.setWrite hm hk

@[simp] theorem State.beginCommit_does {m : Nat} {s0 s : State} (g : TableGroup) (r : ReplyTo) (h : Does m s0 s)
    (hm : 17301504 &&& m = 17301504) : Does m s0 (State.beginCommit s g r) := by
  refine h.comp ?_ hm
  unfold State.beginCommit
  exact State.beginWrite_does _ _ (by split <;> simp) rfl fun _ p stale hk => by cases hk

@[simp] theorem State.beginFleet_does {m : Nat} {s0 s : State} (i : Nat) (r : ReplyTo) (h : Does m s0 s)
    (hm : 17301504 &&& m = 17301504) : Does m s0 (State.beginFleet s i r) :=
  h.comp (State.beginWrite_does _ _ (by simp) rfl fun _ p stale hk => by cases hk) hm

/-- A snapshot is in range (R62, R74, R191). -/
theorem State.snapshot_bounded {s : State} (h : s.Live) (t : SafetyTables) : (s.snapshot t).bounded := by
  have hb : s.ctr.bounded := h.ctr
  exact ⟨by simpa [State.snapshot] using hb.1, by simpa [State.snapshot] using hb.2.1⟩

@[simp] theorem State.beginPark_does {m : Nat} {s0 s : State} (t : SafetyTables) (r : ReplyTo) (h : Does m s0 s)
    (hm : 17301504 &&& m = 17301504) : Does m s0 (State.beginPark s t r) := by
  refine h.comp (State.beginWrite_does _ _ (by simp) rfl fun hl p stale hk => ?_) hm
  cases hk
  exact State.snapshot_bounded hl t

@[simp] theorem State.staleIf_does {m : Nat} {s0 s : State} (before : State) (h : Does m s0 s)
    (hm : 524288 &&& m = 524288) : Does m s0 (State.staleIf s before) := by
  refine h.comp ?_ hm
  unfold State.staleIf
  split
  · rename_i w _ hw
    split
    · rename_i p hk
      split
      · refine (Does.refl _ _).setWrite rfl fun hl q stale hq => ?_
        cases hq
        exact hl.snapshot hw hk
      · simp
    · simp
  · simp

@[simp] theorem State.clearLines_does {m : Nat} {s0 s : State}  (h : Does m s0 s)
    (hm : 4296692 &&& m = 4296692) : Does m s0 (State.clearLines s) := by
  refine h.comp ?_ hm
  unfold State.clearLines
  try dsimp only
  (repeat' split) <;> simp (maxDischargeDepth := 60) [Ctr.rest, Tst.rest]

@[simp] theorem State.rebuildSlots_does {m : Nat} {s0 s : State} (n : Nat) (h : Does m s0 s)
    (hm : 512 &&& m = 512) : Does m s0 (State.rebuildSlots s n) := by
  refine h.comp ?_ hm
  unfold State.rebuildSlots
  try dsimp only
  (repeat' split) <;> simp (maxDischargeDepth := 60) [Ctr.rest, Tst.rest]

@[simp] theorem State.resetLaunch_does {m : Nat} {s0 s : State}  (h : Does m s0 s)
    (hm : 65584 &&& m = 65584) : Does m s0 (State.resetLaunch s) := by
  refine h.comp ?_ hm
  unfold State.resetLaunch
  dsimp only
  have h1 : Does 65584 s (s.lgt.watch.foldl (fun x w => x.setSlotless w.cabin) s) :=
    Does.foldl _ _ (Does.refl _ _) fun x w hx => by simp [hx]
  (repeat' split) <;> simp (maxDischargeDepth := 60) [h1]

@[simp] theorem State.commitGeometry_does {m : Nat} {s0 s : State} (t : SafetyTables) (wasValid : Bool) (h : Does m s0 s)
    (hm : 4296700 &&& m = 4296700) : Does m s0 (State.commitGeometry s t wasValid) := by
  refine h.comp ?_ hm
  unfold State.commitGeometry
  try dsimp only
  (repeat' split) <;> simp (maxDischargeDepth := 60) [Ctr.rest, Tst.rest]

@[simp] theorem State.commitTension_does {m : Nat} {s0 s : State} (wasValid : Bool) (h : Does m s0 s)
    (hm : 4096 &&& m = 4096) : Does m s0 (State.commitTension s wasValid) := by
  refine h.comp ?_ hm
  unfold State.commitTension
  try dsimp only
  (repeat' split) <;> simp (maxDischargeDepth := 60) [Ctr.rest, Tst.rest]

@[simp] theorem State.recategorise_does {m : Nat} {s0 s : State} (matrix : List Category) (c : Cause) (h : Does m s0 s)
    (hm : 4292608 &&& m = 4292608) : Does m s0 (State.recategorise matrix s c) := by
  refine h.comp ?_ hm
  unfold State.recategorise
  try dsimp only
  (repeat' split) <;> simp (maxDischargeDepth := 60) [Ctr.rest, Tst.rest]

@[simp] theorem State.commitMatrix_does {m : Nat} {s0 s : State} (matrix : List Category) (h : Does m s0 s)
    (hm : 4317712 &&& m = 4317712) : Does m s0 (State.commitMatrix s matrix) := by
  refine h.comp ?_ hm
  unfold State.commitMatrix
  exact State.formOutput_does _ (Does.foldl _ _ (Does.refl _ _) fun x c hx =>
    State.recategorise_does _ _ hx rfl) rfl

@[simp] theorem State.judgeAbsence_does {m : Nat} {s0 s : State}  (h : Does m s0 s)
    (hm : 32768 &&& m = 32768) : Does m s0 (State.judgeAbsence s) := by
  refine h.comp ?_ hm
  unfold State.judgeAbsence
  try dsimp only
  (repeat' split) <;> simp (maxDischargeDepth := 60) [Ctr.rest, Tst.rest]

@[simp] theorem State.reportMark_does {m : Nat} {s0 s : State} (a : Nat) (h : Does m s0 s)
    (hm : 4259840 &&& m = 4259840) : Does m s0 (State.reportMark s a) := by
  refine h.comp ?_ hm
  unfold State.reportMark
  (repeat' split) <;> simp (maxDischargeDepth := 60)

@[simp] theorem State.absenceChanged_does {m : Nat} {s0 s : State} (a : Nat) (h : Does m s0 s)
    (hm : 4292608 &&& m = 4292608) : Does m s0 (State.absenceChanged s a) := by
  refine h.comp ?_ hm
  unfold State.absenceChanged
  (repeat' split) <;> simp (maxDischargeDepth := 60)

@[simp] theorem State.setMisses_does {m : Nat} {s0 s : State} (a n : Nat) (absent : Bool) (h : Does m s0 s)
    (hm : 65536 &&& m = 65536) : Does m s0 (State.setMisses s a n absent) := by
  refine h.comp ?_ hm
  unfold State.setMisses
  try dsimp only
  (repeat' split) <;> simp (maxDischargeDepth := 60) [Ctr.rest, Tst.rest]

@[simp] theorem State.clearMisses_does {m : Nat} {s0 s : State} (a : Nat) (h : Does m s0 s)
    (hm : 4292608 &&& m = 4292608) : Does m s0 (State.clearMisses s a) := by
  refine h.comp ?_ hm
  unfold State.clearMisses
  try dsimp only
  (repeat' split) <;> simp (maxDischargeDepth := 60) [Ctr.rest, Tst.rest]

@[simp] theorem State.commitNodes_does {m : Nat} {s0 s : State} (old new : List NodeEntry) (h : Does m s0 s)
    (hm : 4292608 &&& m = 4292608) : Does m s0 (State.commitNodes s old new) := by
  refine h.comp ?_ hm
  unfold State.commitNodes
  have h1 : Does 4292608 s ((changedNodes old new).foldl (fun x a => x.setMisses a 0 false) s) :=
    Does.foldl _ _ (Does.refl _ _) fun x a hx => by simp [hx]
  have h2 := Does.foldl State.reportMark ((changedNodes old new).filter s.isAbsent) h1 fun x a hx =>
    State.reportMark_does a hx rfl
  exact State.judgeAbsence_does (does_setRng h2 (.inl rfl) ⟨rfl, rfl, rfl, rfl, rfl⟩ ⟨rfl, rfl, rfl, rfl⟩) rfl

@[simp] theorem State.commitUpdate_does {m : Nat} {s0 s : State} (t : SafetyTables) (h : Does m s0 s)
    (hm : 4317756 &&& m = 4317756) : Does m s0 (State.commitUpdate s t) := by
  refine h.comp ?_ hm
  unfold State.commitUpdate
  simp (maxDischargeDepth := 60)

/-- Tables in range take effect (R189). -/
theorem State.applySafety_does {m : Nat} {s0 s : State} (t : SafetyTables) (h : Does m s0 s)
    (hm : 4718588 &&& m = 4718588) (ht : s.Live → t.bounded) : Does m s0 (State.applySafety s t) := by
  refine h.comp ?_ hm
  have h1 : Does 4718588 s (s.setTst { s.tst with safety := some t, stageSafety := t, safetyChanged := false }) :=
    (Does.refl _ _).setTst (.inl rfl) (.inl rfl) (.inr ⟨rfl, rfl⟩) (.inr rfl) (.inr rfl) (.inr rfl) fun hl =>
      have hb : s.tst.bounded := hl.tst
      ⟨hb.1, by rintro _ ⟨⟩; exact ht hl, ht hl, hb.2.2.2⟩
  unfold State.applySafety
  dsimp only
  (repeat' split) <;> simp (maxDischargeDepth := 60) [h1]

theorem State.storeSafety_does {m : Nat} {s0 s : State} (t : SafetyTables) (changed : Bool) (h : Does m s0 s)
    (hm : 16777216 &&& m = 16777216) (ht : s.Live → t.bounded) : Does m s0 (State.storeSafety s t changed) := by
  refine h.setStore (.inl hm) fun hl => ?_
  have hb : s.store.bounded := hl.store
  refine ⟨by rintro _ ⟨⟩; exact ht hl, fun p hp => ?_⟩
  dsimp only at hp
  split at hp
  · cases hp
  · exact hb.2 p hp

@[simp] theorem State.applyOperations_does {m : Nat} {s0 s : State} (o : OperationsTables) (h : Does m s0 s)
    (hm : 17170432 &&& m = 17170432) : Does m s0 (State.applyOperations s o) := by
  refine h.comp ?_ hm
  unfold State.applyOperations
  simp (maxDischargeDepth := 60) [Tst.rest]

@[simp] theorem State.applyCommit_does {m : Nat} {s0 s : State} (g : TableGroup) (r : Option ReplyTo) (h : Does m s0 s)
    (hm : 155713532 &&& m = 155713532) : Does m s0 (State.applyCommit s g r) := by
  refine h.comp ?_ hm
  unfold State.applyCommit
  have h1 : Does 155713532 s ((s.storeSafety s.tst.stageSafety s.geometryChanges).applySafety s.tst.stageSafety) :=
    State.applySafety_does _
      (State.storeSafety_does _ _ (Does.refl _ _) rfl fun hl => hl.tst.2.2.1) rfl
      fun hl => State.Live.tst (s := s.storeSafety _ _) hl |>.2.2.1
  dsimp only
  split <;> simp (maxDischargeDepth := 60) [h1]

@[simp] theorem State.endWrite_does {m : Nat} {s0 s : State}  (h : Does m s0 s)
    (hm : 524288 &&& m = 524288) : Does m s0 (State.endWrite s) := by
  refine h.comp ?_ hm
  unfold State.endWrite
  try dsimp only
  (repeat' split) <;> simp (maxDischargeDepth := 60) [Ctr.rest, Tst.rest]

@[simp] theorem State.followQueued_does {m : Nat} {s0 s : State}  (h : Does m s0 s)
    (hm : 17301504 &&& m = 17301504) : Does m s0 (State.followQueued s) := by
  refine h.comp ?_ hm
  unfold State.followQueued
  try dsimp only
  (repeat' split) <;> simp (maxDischargeDepth := 60) [Ctr.rest, Tst.rest]

@[simp] theorem State.completeFleet_does {m : Nat} {s0 s : State} (r : Option ReplyTo) (h : Does m s0 s)
    (hm : 155443728 &&& m = 155443728) : Does m s0 (State.completeFleet s r) := by
  refine h.comp ?_ hm
  unfold State.completeFleet
  try dsimp only
  (repeat' split) <;> simp (maxDischargeDepth := 60) [Ctr.rest, Tst.rest]

@[simp] theorem State.completeProtection_does {m : Nat} {s0 s : State} (m1 : ProtectionMode) (r : Option ReplyTo) (h : Does m s0 s)
    (hm : 151060480 &&& m = 151060480) : Does m s0 (State.completeProtection s m1 r) := by
  refine h.comp ?_ hm
  unfold State.completeProtection
  try dsimp only
  (repeat' split) <;> simp (maxDischargeDepth := 60) [Ctr.rest, Tst.rest]

/-- A snapshot in range written to the store (R191). -/
theorem State.completePark_does {m : Nat} {s0 s : State} (p : ParkRecord) (stale : Bool) (r : Option ReplyTo) (h : Does m s0 s)
    (hm : 155254784 &&& m = 155254784) (hp : s0.Live → p.bounded) : Does m s0 (State.completePark s p stale r) := by
  unfold State.completePark
  split
  · exact h.comp (by simp) hm
  · refine State.replyIf_does _ _ (h.setStoreFrom (land_trans (by decide) hm) fun h0 hl => ?_) (land_trans (by decide) hm)
    have hb : s.store.bounded := hl.store
    exact ⟨hb.1, by rintro _ ⟨⟩; exact hp h0⟩

@[simp] theorem State.placeFleet_does {m : Nat} {s0 s : State} (i : Nat) (f : FleetStatic) (h : Does m s0 s)
    (hm : 4296692 &&& m = 4296692) : Does m s0 (State.placeFleet s i f) := by
  refine h.comp ?_ hm
  unfold State.placeFleet
  try dsimp only
  (repeat' split) <;> simp (maxDischargeDepth := 60) [Ctr.rest, Tst.rest]

@[simp] theorem State.applyFleet_does {m : Nat} {s0 s : State} (i : Nat) (f : FleetStatic) (h : Does m s0 s)
    (hm : 4296692 &&& m = 4296692) : Does m s0 (State.applyFleet s i f) := by
  refine h.comp ?_ hm
  unfold State.applyFleet
  try dsimp only
  (repeat' split) <;> simp (maxDischargeDepth := 60) [Ctr.rest, Tst.rest]

end Sys2Proof.Machine
end

