-- ==== Sys2Proof/Laws/ResetOps.lean ====
section
/-! SUPPORT. What the operations of Machine/ResetOps.lean touch and keep. -/

namespace Sys2Proof.Machine

set_option linter.unusedSimpArgs false
set_option linter.unusedTactic false
set_option linter.unnecessarySeqFocus false

@[simp] theorem State.parkCutShort_does {m : Nat} {s0 s : State}  (h : Does m s0 s)
    (hm : 50331648 &&& m = 50331648) : Does m s0 (State.parkCutShort s) := by
  refine h.comp ?_ hm
  unfold State.parkCutShort
  try dsimp only
  (repeat' split) <;> simp (maxDischargeDepth := 60) [Ctr.rest, Tst.rest]

@[simp] theorem State.cutShort_does {m : Nat} {s0 s : State}  (h : Does m s0 s)
    (hm : 50855936 &&& m = 50855936) : Does m s0 (State.cutShort s) := by
  refine h.comp ?_ hm
  unfold State.cutShort
  try dsimp only
  (repeat' split) <;> simp (maxDischargeDepth := 60) [Ctr.rest, Tst.rest]

/-- TST's tables as the store gives them are in range. -/
theorem Tst.initial_bounded {x : Store} (h : x.bounded) (o : Option OperationsTables) (fleet locked : Bool) :
    (Tst.initial x.safety o fleet locked).bounded := by
  refine ⟨⟨Nat.zero_le 32, Nat.zero_lt_succ 65535⟩, h.1, ?_, fun w hw => by cases hw⟩
  cases hs : x.safety with
  | none => exact (by decide : SafetyTables.default.gcap ≤ 48)
  | some t => exact h.1 t hs

/-- The blocks right after a reset: running, within their bounds, the permits those of RUN. -/
theorem State.blocksReset_live (s : State) (locked : Bool) (h : s.store.bounded) : (s.blocksReset locked).Live := by
  refine ⟨rfl, ⟨?_, ?_, ?_, ?_, ?_, ?_, ?_, ?_, ?_, ?_, ?_⟩, rfl, rfl⟩
  · have h1 : Rng.initial.queuesBounded := by unfold Rng.queuesBounded; decide
    have h2 : Rng.initial.tablesSized := by unfold Rng.tablesSized; decide
    exact ⟨h1, h2⟩
  · exact Tst.initial_bounded h _ _ _
  · exact ⟨(by decide : Slk.initial.rxAnswered.length ≤ 4 ∧ Slk.initial.rxUnanswered.length ≤ 8 ∧
      Slk.initial.txUnanswered.length ≤ 16 ∧ Slk.initial.txVoice.length ≤ 2), Nat.zero_le 8, List.nodup_nil,
      List.nil_sublist _⟩
  · exact Nat.zero_le 6
  · exact (by decide : Rpu.initial.window.length ≤ 8 ∧ Rpu.initial.q ≤ 2147483647)
  · refine ⟨?_, ⟨Nat.zero_le 8, Nat.zero_le 255⟩, Nat.zero_le 8, Nat.zero_le 255⟩
    simp only [State.blocksReset, Stc.initial, loadedCauses, List.length_map]
    decide
  · exact ⟨(by decide : Rmn.initial.towers.length = 24), (by decide : ∀ r ∈ Rmn.initial.towers, r.debt ≤ 8)⟩
  · exact Nat.zero_le 8
  · exact ⟨Nat.zero_le 32, Nat.zero_le 48, Nat.zero_le 8⟩
  · exact h
  · simp only [State.blocksReset, Store.loadedRegistry, List.length_map, List.length_range]

@[simp] theorem State.blocksReset_does {m : Nat} {s0 s : State} (locked : Bool) (h : Does m s0 s)
    (hm : 218103806 &&& m = 218103806) : Does m s0 (State.blocksReset s locked) := by
  refine h.comp ⟨fun p hp => ?_, fun hp => ?_, fun hp => ?_, fun hl => s.blocksReset_live locked hl.store⟩ hm
  · cases p <;> first | rfl | (exact absurd hp (by decide))
  · exact absurd hp (by decide)
  · exact absurd hp (by decide)


@[simp] theorem State.startWatching_does {m : Nat} {s0 s : State}  (h : Does m s0 s)
    (hm : 4297276 &&& m = 4297276) : Does m s0 (State.startWatching s) := by
  refine h.comp ?_ hm
  unfold State.startWatching
  try dsimp only
  (repeat' split) <;> simp (maxDischargeDepth := 60) [Ctr.rest, Tst.rest]

@[simp] theorem restoreDynamic_does {m : Nat} {s0 s : State} (l : Location) (e : ParkEntry) (h : Does m s0 s)
    (hm : 4 &&& m = 4) : Does m s0 (restoreDynamic l s e) := by
  refine h.comp ?_ hm
  unfold restoreDynamic
  try dsimp only
  (repeat' split) <;> simp (maxDischargeDepth := 60) [Ctr.rest, Tst.rest]

@[simp] theorem restoreUphill_does {m : Nat} {s0 s : State} (u : UphillEntry) (h : Does m s0 s)
    (hm : 4 &&& m = 4) : Does m s0 (restoreUphill s u) := by
  refine h.comp ?_ hm
  unfold restoreUphill
  try dsimp only
  (repeat' split) <;> simp (maxDischargeDepth := 60) [Ctr.rest, Tst.rest]

@[simp] theorem State.restoreRpu_does {m : Nat} {s0 s : State} (p : ParkRecord) (h : Does m s0 s)
    (hm : 8 &&& m = 8) : Does m s0 (State.restoreRpu s p) := by
  refine h.comp ?_ hm
  unfold State.restoreRpu
  try dsimp only
  (repeat' split) <;> simp (maxDischargeDepth := 60) [Ctr.rest, Tst.rest]

/-- The collections of a record in range restored (R59, R87). -/
theorem State.restoreCtr_does {m : Nat} {s0 s : State} (p : ParkRecord) (h : Does m s0 s)
    (hm : 4843504 &&& m = 4843504) (hp : s.Live → p.bounded) : Does m s0 (State.restoreCtr s p) := by
  refine h.comp ((Does.refl 4843504 s).setCtr (.inl rfl) (.inl rfl) (.inl rfl) (.inl rfl) (.inl rfl) (.inl rfl) fun hl => ?_) hm
  have hb : s.ctr.bounded := hl.ctr
  exact ⟨by simpa [ParkRecord.stationQueue] using (hp hl).1, by simpa [ParkRecord.garageStack] using (hp hl).2, hb.2.2⟩

@[simp] theorem State.restoreRegistry_does {m : Nat} {s0 s : State} (p : ParkRecord) (h : Does m s0 s)
    (hm : 4 &&& m = 4) : Does m s0 (State.restoreRegistry s p) := by
  refine h.comp ?_ hm
  unfold State.restoreRegistry
  dsimp only
  have h1 : ∀ (xs : List ParkEntry) (l : Location) {x : State}, Does 4 s x → Does 4 s (xs.foldl (restoreDynamic l) x) :=
    fun xs l _ hx => Does.foldl _ _ hx fun x e hx => restoreDynamic_does l e hx rfl
  have h2 : ∀ (xs : List UphillEntry) {x : State}, Does 4 s x → Does 4 s (xs.foldl restoreUphill x) :=
    fun xs _ hx => Does.foldl _ _ hx fun x e hx => restoreUphill_does e hx rfl
  have h3 : ∀ (xs : List DownhillEntry) {x : State}, Does 4 s x →
      Does 4 s (xs.foldl (fun x d => x.setLocation d.cabin .downhill) x) :=
    fun xs _ hx => Does.foldl _ _ hx fun x e hx => by simp [hx]
  exact Does.foldl _ _ (h3 _ (h2 _ (h1 _ _ (h1 _ _ (Does.refl _ _))))) fun x i hx => by simp [hx]

@[simp] theorem State.restoreDoors_does {m : Nat} {s0 s : State}  (h : Does m s0 s)
    (hm : 2048 &&& m = 2048) : Does m s0 (State.restoreDoors s) := by
  refine h.comp ?_ hm
  unfold State.restoreDoors
  exact Does.foldl _ _ (by simp) fun x e hx => by simp [hx]

@[simp] theorem State.reportRestored_does {m : Nat} {s0 s : State}  (h : Does m s0 s)
    (hm : 4259840 &&& m = 4259840) : Does m s0 (State.reportRestored s) := by
  refine h.comp ?_ hm
  unfold State.reportRestored
  try dsimp only
  (repeat' split) <;> simp (maxDischargeDepth := 60) [Ctr.rest, Tst.rest]

/-- A record of the store restored (R192). -/
theorem State.restorePark_does {m : Nat} {s0 s : State} (p : ParkRecord) (h : Does m s0 s)
    (hm : 4845564 &&& m = 4845564) (hp : s.store.park = some p) : Does m s0 (State.restorePark s p) := by
  refine h.comp ?_ hm
  have h0 : Does 4845564 s (s.setLgt Lgt.initial) := (Does.refl _ _).setLgt (.inl rfl) fun _ => Nat.zero_le _
  have h1 : Does 4845564 s (((s.setLgt Lgt.initial).restoreRpu p).restoreCtr p) :=
    State.restoreCtr_does p (by simp [h0]) rfl fun hl =>
      have hb : s.store.bounded := State.Live.store (s := (s.setLgt Lgt.initial).restoreRpu p) hl
      hb.2 p hp
  unfold State.restorePark
  simp (maxDischargeDepth := 60) [h1]

@[simp] theorem State.tryRestore_does {m : Nat} {s0 s : State}  (h : Does m s0 s)
    (hm : 4845564 &&& m = 4845564) : Does m s0 (State.tryRestore s) := by
  refine h.comp ?_ hm
  unfold State.tryRestore
  repeat' split
  · simp
  · exact State.restorePark_does _ (Does.refl _ _) rfl ‹_›
  · simp

@[simp] theorem State.resetReport_does {m : Nat} {s0 s : State}  (h : Does m s0 s)
    (hm : 4317712 &&& m = 4317712) : Does m s0 (State.resetReport s) := by
  refine h.comp ?_ hm
  unfold State.resetReport
  try dsimp only
  (repeat' split) <;> simp (maxDischargeDepth := 60) [Ctr.rest, Tst.rest]

@[simp] theorem State.resetPart_does {m : Nat} {s0 s : State} (locked : Bool) (h : Does m s0 s)
    (hm : 218103806 &&& m = 218103806) : Does m s0 (State.resetPart s locked) := by
  refine h.comp ?_ hm
  unfold State.resetPart
  try dsimp only
  (repeat' split) <;> simp (maxDischargeDepth := 60) [Ctr.rest, Tst.rest]

@[simp] theorem State.powerOn_does {m : Nat} {s0 s : State}  (h : Does m s0 s)
    (hm : 268435454 &&& m = 268435454) : Does m s0 (State.powerOn s) := by
  refine h.comp ?_ hm
  unfold State.powerOn
  try dsimp only
  (repeat' split) <;> simp (maxDischargeDepth := 60) [Ctr.rest, Tst.rest]

@[simp] theorem State.restartPart_does {m : Nat} {s0 s : State}  (h : Does m s0 s)
    (hm : 218103806 &&& m = 218103806) : Does m s0 (State.restartPart s) := by
  refine h.comp ?_ hm
  unfold State.restartPart
  try dsimp only
  (repeat' split) <;> simp (maxDischargeDepth := 60) [Ctr.rest, Tst.rest]

end Sys2Proof.Machine
end

