-- ==== Sys2Proof/Laws/RingOps.lean ====
section
/-! SUPPORT. What the operations of Machine/RingOps.lean touch and keep. -/

namespace Sys2Proof.Machine

set_option linter.unusedSimpArgs false
set_option linter.unusedTactic false
set_option linter.unnecessarySeqFocus false

@[simp] theorem State.setSlotRecord_does {m : Nat} {s0 s : State} (n : Nat) (r : Option Word) (h : Does m s0 s)
    (hm : 65536 &&& m = 65536) : Does m s0 (State.setSlotRecord s n r) := by
  refine h.comp ?_ hm
  unfold State.setSlotRecord
  try dsimp only
  (repeat' split) <;> simp (maxDischargeDepth := 60) [Ctr.rest, Tst.rest]

@[simp] theorem State.letGo_does {m : Nat} {s0 s : State} (x : SlotOut) (h : Does m s0 s)
    (hm : 65536 &&& m = 65536) : Does m s0 (State.letGo s x) := by
  refine h.comp ?_ hm
  unfold State.letGo
  try dsimp only
  (repeat' split) <;> simp (maxDischargeDepth := 60) [Ctr.rest, Tst.rest]

@[simp] theorem State.seenAlive_does {m : Nat} {s0 s : State} (mask : Word) (h : Does m s0 s)
    (hm : 4292608 &&& m = 4292608) : Does m s0 (State.seenAlive s mask) := by
  refine h.comp ?_ hm
  exact Does.foldl _ _ (Does.refl _ _) fun x a hx => by simp [hx]

@[simp] theorem State.missAddress_does {m : Nat} {s0 s : State} (a : Nat) (h : Does m s0 s)
    (hm : 4292608 &&& m = 4292608) : Does m s0 (State.missAddress s a) := by
  refine h.comp ?_ hm
  unfold State.missAddress
  try dsimp only
  (repeat' split) <;> simp (maxDischargeDepth := 60) [Ctr.rest, Tst.rest]

@[simp] theorem State.missAll_does {m : Nat} {s0 s : State} (mask : Word) (h : Does m s0 s)
    (hm : 4292608 &&& m = 4292608) : Does m s0 (State.missAll s mask) := by
  refine h.comp ?_ hm
  unfold State.missAll
  split
  · exact Does.foldl _ _ (Does.refl _ _) fun x a hx => by simp [hx]
  · simp

@[simp] theorem State.countOrphan_does {m : Nat} {s0 s : State} (f : RingFrame) (r : Word) (h : Does m s0 s)
    (hm : 4317712 &&& m = 4317712) : Does m s0 (State.countOrphan s f r) := by
  refine h.comp ?_ hm
  unfold State.countOrphan
  simp (maxDischargeDepth := 60)

@[simp] theorem State.filterOut_does {m : Nat} {s0 s : State} (f : RingFrame) (r : FilterReason) (h : Does m s0 s)
    (hm : 4259840 &&& m = 4259840) : Does m s0 (State.filterOut s f r) := by
  refine h.comp ?_ hm
  unfold State.filterOut
  try dsimp only
  (repeat' split) <;> simp (maxDischargeDepth := 60) [Ctr.rest, Tst.rest]

@[simp] theorem State.setHold_does {m : Nat} {s0 s : State} (b : Bool) (h : Does m s0 s)
    (hm : 65536 &&& m = 65536) : Does m s0 (State.setHold s b) := by
  refine h.comp ?_ hm
  unfold State.setHold
  try dsimp only
  (repeat' split) <;> simp (maxDischargeDepth := 60) [Ctr.rest, Tst.rest]

@[simp] theorem State.noteManager_does {m : Nat} {s0 s : State} (f : RingFrame) (h : Does m s0 s)
    (hm : 65536 &&& m = 65536) : Does m s0 (State.noteManager s f) := by
  refine h.comp ?_ hm
  unfold State.noteManager
  try dsimp only
  (repeat' split) <;> simp (maxDischargeDepth := 60) [Ctr.rest, Tst.rest]

@[simp] theorem State.copyFrame_does {m : Nat} {s0 s : State} (f : RingFrame) (h : Does m s0 s)
    (hm : 4259840 &&& m = 4259840) : Does m s0 (State.copyFrame s f) := by
  refine h.comp ?_ hm
  unfold State.copyFrame
  dsimp only
  split
  · have h1 : Does 4259840 s
        (s.setRng { s.rng with ingress := s.rng.ingress ++ [{ frame := f, role := s.sourceRole f }] }) := by
      refine (Does.refl _ _).setRng (.inl rfl) ?_ (.inr List.prefix_rfl) (.inr id)
      simp_all [Rng.bounded, Rng.queuesBounded, Rng.tablesSized, Nat.succ_le_iff]
    split <;> simp [h1]
  · simp (maxDischargeDepth := 60)

@[simp] theorem State.reportInsertion_does {m : Nat} {s0 s : State} (f : EgressFrame) (h : Does m s0 s)
    (hm : 218103806 &&& m = 218103806) : Does m s0 (State.reportInsertion s f) := by
  refine h.comp ?_ hm
  unfold State.reportInsertion
  try dsimp only
  (repeat' split) <;> simp (maxDischargeDepth := 60) [Ctr.rest, Tst.rest]

theorem State.nextEgress_bounded {s : State} {f : EgressFrame} {r : Rng} (h : s.nextEgress = some (f, r))
    (hb : s.rng.bounded) : r.bounded := by
  unfold State.nextEgress at h
  simp only [Rng.bounded, Rng.queuesBounded, Rng.tablesSized] at hb ⊢
  by_cases hv : s.safetyValid = true <;> simp only [hv] at h <;> split at h <;> simp at h <;> (try obtain ⟨-, rfl⟩ := h) <;>
    grind

@[simp] theorem State.fillSlot_does {m : Nat} {s0 s : State} (n : Nat) (h : Does m s0 s)
    (hm : 218103806 &&& m = 218103806) : Does m s0 (State.fillSlot s n) := by
  refine h.comp ?_ hm
  unfold State.fillSlot
  split
  · rename_i f r hr
    have h1 : Does 218103806 s (s.setRng r) :=
      (Does.refl _ _).setRng (.inl rfl) (State.nextEgress_bounded hr) (.inl rfl) (.inl rfl)
    simp (maxDischargeDepth := 60) [h1]
  · simp (maxDischargeDepth := 60)


@[simp] theorem State.removeMarked_does {m : Nat} {s0 s : State} (n : Nat) (f : RingFrame) (record : Option Word) (h : Does m s0 s)
    (hm : 218103806 &&& m = 218103806) : Does m s0 (State.removeMarked s n f record) := by
  refine h.comp ?_ hm
  unfold State.removeMarked
  try dsimp only
  (repeat' split) <;> simp (maxDischargeDepth := 60) [Ctr.rest, Tst.rest]

@[simp] theorem State.passFrame_does {m : Nat} {s0 s : State} (n : Nat) (f : RingFrame) (mask : Word) (h : Does m s0 s)
    (hm : 65536 &&& m = 65536) : Does m s0 (State.passFrame s n f mask) := by
  refine h.comp ?_ hm
  unfold State.passFrame
  try dsimp only
  (repeat' split) <;> simp (maxDischargeDepth := 60) [Ctr.rest, Tst.rest]

@[simp] theorem State.acceptFrame_does {m : Nat} {s0 s : State} (n : Nat) (f : RingFrame) (h : Does m s0 s)
    (hm : 218103806 &&& m = 218103806) : Does m s0 (State.acceptFrame s n f) := by
  refine h.comp ?_ hm
  unfold State.acceptFrame
  try dsimp only
  (repeat' split) <;> simp (maxDischargeDepth := 60) [Ctr.rest, Tst.rest]

@[simp] theorem State.firstPass_does {m : Nat} {s0 s : State} (n : Nat) (f : RingFrame) (h : Does m s0 s)
    (hm : 218103806 &&& m = 218103806) : Does m s0 (State.firstPass s n f) := by
  refine h.comp ?_ hm
  unfold State.firstPass
  try dsimp only
  (repeat' split) <;> simp (maxDischargeDepth := 60) [Ctr.rest, Tst.rest]

@[simp] theorem State.recordTaken_does {m : Nat} {s0 s : State} (record : Option Word) (h : Does m s0 s)
    (hm : 4292608 &&& m = 4292608) : Does m s0 (State.recordTaken s record) := by
  refine h.comp ?_ hm
  unfold State.recordTaken
  try dsimp only
  (repeat' split) <;> simp (maxDischargeDepth := 60) [Ctr.rest, Tst.rest]

@[simp] theorem State.purgeSlot_does {m : Nat} {s0 s : State} (n : Nat) (w0 : Word) (h : Does m s0 s)
    (hm : 65536 &&& m = 65536) : Does m s0 (State.purgeSlot s n w0) := by
  refine h.comp ?_ hm
  unfold State.purgeSlot
  try dsimp only
  (repeat' split) <;> simp (maxDischargeDepth := 60) [Ctr.rest, Tst.rest]

@[simp] theorem State.passSlot_does {m : Nat} {s0 s : State} (n : Nat) (w0 w1 : Word) (payload : List Word) (h : Does m s0 s)
    (hm : 218103806 &&& m = 218103806) : Does m s0 (State.passSlot s n w0 w1 payload) := by
  refine h.comp ?_ hm
  unfold State.passSlot
  try dsimp only
  (repeat' split) <;> simp (maxDischargeDepth := 60) [Ctr.rest, Tst.rest]

end Sys2Proof.Machine
end

