-- ==== Sys2Proof/Laws/Deliver.lean ====
section
/-! SUPPORT. What the operations of Machine/Deliver.lean touch and keep. -/

namespace Sys2Proof.Machine

set_option linter.unusedSimpArgs false
set_option linter.unusedTactic false
set_option linter.unnecessarySeqFocus false

@[simp] theorem State.discardMalformed_does {m : Nat} {s0 s : State} (f : RingFrame) (h : Does m s0 s)
    (hm : 4259840 &&& m = 4259840) : Does m s0 (State.discardMalformed s f) := by
  refine h.comp ?_ hm
  unfold State.discardMalformed
  try dsimp only
  (repeat' split) <;> simp (maxDischargeDepth := 60) [Ctr.rest, Tst.rest]

@[simp] theorem State.countChanges_does {m : Nat} {s0 s : State} (before : State) (h : Does m s0 s)
    (hm : 4194304 &&& m = 4194304) : Does m s0 (s.countChanges before) := by
  refine h.comp ?_ hm
  unfold State.countChanges
  simp (maxDischargeDepth := 60) [Tst.rest]


@[simp] theorem State.settle_does {m : Nat} {s0 s : State} (before : State) (h : Does m s0 s)
    (hm : 4842000 &&& m = 4842000) : Does m s0 (s.settle before) := by
  refine h.comp ?_ hm
  unfold State.settle
  split <;> simp (maxDischargeDepth := 60)


theorem whole_does {m : Nat} {s0 s : State} {body : State → State} (h : Does m s0 s) (hm : 4842000 &&& m = 4842000)
    (hb : Does m s0 s → Does m s0 (body s)) : Does m s0 (whole body s) := by
  unfold whole
  split
  · exact h
  · exact State.settle_does _ (hb h) hm


theorem expiry_does {m : Nat} {s0 s : State} {body : State → State} (timer : Option Ms) (h : Does m s0 s)
    (hm : 4842000 &&& m = 4842000) (hb : Does m s0 s → Does m s0 (body s)) : Does m s0 (expiry timer body s) := by
  unfold expiry
  split
  · exact whole_does h hm hb
  · exact h


/-- The head of the ingress queue taken. -/
theorem State.takeHead_does {m : Nat} {s0 s : State} {e : IngressEntry} {rest : List IngressEntry} (h : Does m s0 s)
    (hm : 65536 &&& m = 65536) (he : s.rng.ingress = e :: rest) : Does m s0 (s.takeHead rest) := by
  have h1 : Does m s0 (s.setRng { s.rng with ingress := rest }) := by
    refine h.setRng (.inl hm) (fun hb => ?_) (.inr List.prefix_rfl) (.inr id)
    simp only [Rng.bounded, Rng.queuesBounded, Rng.tablesSized, he, List.length_cons] at hb ⊢
    omega
  unfold State.takeHead
  dsimp only
  split
  · exact State.setHold_does _ h1 hm
  · exact h1


theorem deliver_does {m : Nat} {s0 s : State} {body : IngressEntry → State → State} (row : Row) (h : Does m s0 s)
    (hm : 4842000 &&& m = 4842000) (hb : ∀ e {x : State}, Does m s0 x → Does m s0 (body e x)) :
    Does m s0 (deliver row body s) := by
  unfold deliver
  split
  · rename_i e rest he
    split
    · refine whole_does h hm fun h => ?_
      have h1 := State.takeHead_does h (land_trans (by decide) hm) he
      dsimp only
      split
      · exact State.discardMalformed_does _ h1 (land_trans (by decide) hm)
      · exact hb e h1
    · exact h
  · exact h


theorem judgeRequest_does {m : Nat} {s0 s : State} {body : RingFrame → State → State} (row : Row) (f : RingFrame)
    (h : Does m s0 s) (hm : 134283264 &&& m = 134283264) (hb : Does m s0 s → Does m s0 (body f s)) :
    Does m s0 (judgeRequest row body f s) := by
  unfold judgeRequest
  split
  · exact h.comp (by simp) hm
  · exact hb h


theorem manage_does {m : Nat} {s0 s : State} {body : RingFrame → State → State} (row : Row)
    (h : Does m s0 s) (hm : 139059728 &&& m = 139059728) (hb : ∀ f {x : State}, Does m s0 x → Does m s0 (body f x)) :
    Does m s0 (manage row body s) := by
  unfold manage
  split
  · exact h
  · exact deliver_does row h (land_trans (by decide) hm) fun e {x} hx => judgeRequest_does row _ hx (land_trans (by decide) hm) (hb e.frame)


@[simp] theorem Answer.give_does {m : Nat} {s0 : State} (a : Answer) (f : RingFrame) (h : Does m s0 a.state)
    (hm : 134283264 &&& m = 134283264) : Does m s0 (a.give f) := by
  refine h.comp ?_ hm
  unfold Answer.give
  simp


theorem deliverUnanswered_does {m : Nat} {s0 s : State} {body : LinkFrame → State → State} (kind : LinkFrame → Bool)
    (h : Does m s0 s) (hm : 4842000 &&& m = 4842000) (hb : ∀ f {x : State}, Does m s0 x → Does m s0 (body f x)) :
    Does m s0 (deliverUnanswered kind body s) := by
  unfold deliverUnanswered
  split
  · rename_i f rest he
    split
    · refine whole_does h (land_trans (by decide) hm) fun h => hb f ?_
      refine h.setSlk (.inl (land_trans (by decide) hm)) fun hb => ⟨?_, hb.2⟩
      have := hb.1
      simp only [he, List.length_cons] at this ⊢
      omega
    · exact h
  · exact h


theorem deliverAnswered_does {m : Nat} {s0 s : State} {body : LinkFrame → State → State} (kind : LinkFrame → Bool)
    (h : Does m s0 s) (hm : 4842000 &&& m = 4842000) (hb : ∀ f {x : State}, Does m s0 x → Does m s0 (body f x)) :
    Does m s0 (deliverAnswered kind body s) := by
  unfold deliverAnswered
  split
  · rename_i f rest he
    split
    · refine whole_does h (land_trans (by decide) hm) fun h => hb f ?_
      refine h.setSlk (.inl (land_trans (by decide) hm)) fun hb => ⟨?_, hb.2⟩
      have := hb.1
      simp only [he, List.length_cons] at this ⊢
      omega
    · exact h
  · exact h


theorem receive_does {m : Nat} {s0 s : State} {body : State → State} (mine : List Byte → Bool) (bytes : List Byte)
    (h : Does m s0 s) (hm : 4842000 &&& m = 4842000) (hb : Does m s0 s → Does m s0 (body s)) :
    Does m s0 (receive mine bytes body s) := by
  unfold receive
  split
  · exact whole_does h hm hb
  · exact h


end Sys2Proof.Machine
end

