-- ==== Sys2Proof/Laws/ManageOps.lean ====
section
/-! SUPPORT. What the operations of Machine/ManageOps.lean touch and keep. -/

namespace Sys2Proof.Machine

set_option linter.unusedSimpArgs false
set_option linter.unusedTactic false
set_option linter.unnecessarySeqFocus false

@[simp] theorem State.clearDropped_does {m : Nat} {s0 s : State}  (h : Does m s0 s)
    (hm : 4259840 &&& m = 4259840) : Does m s0 (State.clearDropped s) := by
  refine h.comp ?_ hm
  exact does_setRng (by simp) (.inl rfl) ⟨rfl, rfl, rfl, rfl, rfl⟩ ⟨rfl, rfl, rfl, rfl⟩

@[simp] theorem takeReadStatus_does {m : Nat} {s0 s : State} (f : RingFrame) (h : Does m s0 s)
    (hm : 138477568 &&& m = 138477568) : Does m s0 (takeReadStatus f s) := by
  refine h.comp ?_ hm
  unfold takeReadStatus
  try dsimp only
  (repeat' split) <;> simp (maxDischargeDepth := 60) [Ctr.rest, Tst.rest]

@[simp] theorem State.answerEntry_does {m : Nat} {s0 s : State} (words : Option (List Word)) (h : Does m s0 s)
    (hm : 0 &&& m = 0) : Does m s0 (State.answerEntry s words).state := by
  refine h.comp ?_ hm
  unfold State.answerEntry
  try dsimp only
  (repeat' split) <;> simp (maxDischargeDepth := 60) [Ctr.rest, Tst.rest]

@[simp] theorem State.readEntry_does {m : Nat} {s0 s : State} (w : Word) (h : Does m s0 s)
    (hm : 0 &&& m = 0) : Does m s0 (State.readEntry s w).state := by
  refine h.comp ?_ hm
  unfold State.readEntry
  try dsimp only
  (repeat' split) <;> simp (maxDischargeDepth := 60) [Ctr.rest, Tst.rest]

@[simp] theorem State.readPage_does {m : Nat} {s0 s : State} (w : Word) (h : Does m s0 s)
    (hm : 0 &&& m = 0) : Does m s0 (State.readPage s w).state := by
  refine h.comp ?_ hm
  unfold State.readPage
  try dsimp only
  (repeat' split) <;> simp (maxDischargeDepth := 60) [Ctr.rest, Tst.rest]

theorem State.setStageSafety_does {m : Nat} {s0 s : State} (t : SafetyTables) (h : Does m s0 s)
    (hm : 262144 &&& m = 262144) (ht : s.Live → t.bounded) : Does m s0 (State.setStageSafety s t) :=
  h.setTst (.inr ⟨rfl, rfl, rfl⟩) (.inl hm) (.inr ⟨rfl, rfl⟩) (.inr rfl) (.inr rfl) (.inr rfl) fun hl =>
    have hb : s.tst.bounded := hl.tst
    ⟨hb.1, hb.2.1, ht hl, hb.2.2.2⟩

@[simp] theorem State.setStageOperations_does {m : Nat} {s0 s : State} (o : OperationsTables) (h : Does m s0 s)
    (hm : 262144 &&& m = 262144) : Does m s0 (State.setStageOperations s o) := by
  refine h.comp ?_ hm
  unfold State.setStageOperations
  try dsimp only
  (repeat' split) <;> simp (maxDischargeDepth := 60) [Ctr.rest, Tst.rest]

theorem State.answerStaged_does {m : Nat} {s0 s : State} {α : Type} {put : State → α → State} (x : Staged α)
    (h : Does m s0 s) (hp : ∀ c, (∀ P : α → Prop, x.holds P → P c) → Does m s0 (put s c)) :
    Does m s0 (State.answerStaged s x put).state := by
  unfold State.answerStaged
  split
  · exact hp _ fun _ h => h
  · exact hp _ fun _ h => h
  · exact h


@[simp] theorem State.takeStage_does {m : Nat} {s0 s : State} (w value second : Word) (h : Does m s0 s)
    (hm : 262144 &&& m = 262144) : Does m s0 (State.takeStage s w value second).state := by
  refine h.comp ?_ hm
  unfold State.takeStage
  split
  · refine State.answerStaged_does _ (Does.refl _ _) fun c hc => ?_
    exact State.setStageSafety_does c (Does.refl _ _) rfl fun hl =>
      hc _ (SafetyTables.stage_bounded _ _ _ hl.tst.2.2.1)
  · exact State.answerStaged_does _ (Does.refl _ _) fun c _ => by simp
  · simp

@[simp] theorem State.takeDiscard_does {m : Nat} {s0 s : State} (g : Nat) (h : Does m s0 s)
    (hm : 262144 &&& m = 262144) : Does m s0 (State.takeDiscard s g).state := by
  refine h.comp ?_ hm
  unfold State.takeDiscard
  split
  · refine (Does.refl 262144 s).setTst (.inr ⟨rfl, rfl, rfl⟩) (.inl rfl) (.inr ⟨rfl, rfl⟩) (.inr rfl) (.inr rfl) (.inr rfl)
      fun hl => ?_
    have hb : s.tst.bounded := hl.tst
    refine ⟨hb.1, hb.2.1, ?_, hb.2.2.2⟩
    cases hs : s.tst.safety with
    | none => exact (by decide : SafetyTables.default.gcap ≤ 48)
    | some t => exact hb.2.1 t hs
  · simp (maxDischargeDepth := 60) [Tst.rest]
  · simp

@[simp] theorem takeCommit_does {m : Nat} {s0 s : State} (f : RingFrame) (h : Does m s0 s)
    (hm : 151584768 &&& m = 151584768) : Does m s0 (takeCommit f s) := by
  refine h.comp ?_ hm
  unfold takeCommit
  try dsimp only
  (repeat' split) <;> simp (maxDischargeDepth := 60) [Ctr.rest, Tst.rest]

@[simp] theorem takeWriteFleet_does {m : Nat} {s0 s : State} (f : RingFrame) (h : Does m s0 s)
    (hm : 155815924 &&& m = 155815924) : Does m s0 (takeWriteFleet f s) := by
  refine h.comp ?_ hm
  unfold takeWriteFleet
  try dsimp only
  (repeat' split) <;> simp (maxDischargeDepth := 60) [Ctr.rest, Tst.rest]

@[simp] theorem takeProtection_does {m : Nat} {s0 s : State} (f : RingFrame) (h : Does m s0 s)
    (hm : 135856128 &&& m = 135856128) : Does m s0 (takeProtection f s) := by
  refine h.comp ?_ hm
  unfold takeProtection
  have h1 : ∀ m r, Does 135856128 s (s.beginWrite (.protection m) r) := fun _ _ =>
    State.beginWrite_does _ _ (Does.refl _ _) rfl fun _ p stale hk => by cases hk
  (repeat' split) <;> simp (maxDischargeDepth := 60) [Tst.rest, h1]

@[simp] theorem takePark_does {m : Nat} {s0 s : State} (f : RingFrame) (h : Does m s0 s)
    (hm : 151584768 &&& m = 151584768) : Does m s0 (takePark f s) := by
  refine h.comp ?_ hm
  unfold takePark
  try dsimp only
  (repeat' split) <;> simp (maxDischargeDepth := 60) [Ctr.rest, Tst.rest]

@[simp] theorem takeRestart_does {m : Nat} {s0 s : State} (f : RingFrame) (h : Does m s0 s)
    (hm : 136380416 &&& m = 136380416) : Does m s0 (takeRestart f s) := by
  refine h.comp ?_ hm
  unfold takeRestart
  try dsimp only
  (repeat' split) <;> simp (maxDischargeDepth := 60) [Ctr.rest, Tst.rest]

@[simp] theorem State.removeAt_does {m : Nat} {s0 s : State} (p : RemovalPlace) (outOfService : Bool) (h : Does m s0 s)
    (hm : 4296692 &&& m = 4296692) : Does m s0 (State.removeAt s p outOfService) := by
  refine h.comp ?_ hm
  unfold State.removeAt
  try dsimp only
  (repeat' split) <;> simp (maxDischargeDepth := 60) [Ctr.rest, Tst.rest]

@[simp] theorem takeRemove_does {m : Nat} {s0 s : State} (f : RingFrame) (h : Does m s0 s)
    (hm : 155815924 &&& m = 155815924) : Does m s0 (takeRemove f s) := by
  refine h.comp ?_ hm
  unfold takeRemove
  try dsimp only
  (repeat' split) <;> simp (maxDischargeDepth := 60) [Ctr.rest, Tst.rest]

@[simp] theorem State.releaseCause_does {m : Nat} {s0 s : State} (c : Cause) (h : Does m s0 s)
    (hm : 12681216 &&& m = 12681216) : Does m s0 (State.releaseCause s c) := by
  refine h.comp ?_ hm
  unfold State.releaseCause
  try dsimp only
  (repeat' split) <;> simp (maxDischargeDepth := 60) [Ctr.rest, Tst.rest]

@[simp] theorem State.takeResetCauses_does {m : Nat} {s0 s : State}  (h : Does m s0 s)
    (hm : 12706320 &&& m = 12706320) : Does m s0 (State.takeResetCauses s).state := by
  refine h.comp ?_ hm
  unfold State.takeResetCauses
  exact State.formOutput_does _ (Does.foldl _ _ (Does.refl _ _) fun x c hx => by simp [hx]) rfl

-- no state arg: answerCall

theorem State.atDoor_does {m : Nat} {s0 s : State} {act : StationEntry → Answer} (w : Word) (h : Does m s0 s)
    (ha : ∀ e, Does m s0 (act e).state) : Does m s0 (s.atDoor w act).state := by
  unfold State.atDoor
  split
  · exact ha _
  · exact h


@[simp] theorem State.setKey_does {m : Nat} {s0 s : State} (k : KeyPosition) (h : Does m s0 s)
    (hm : 2 &&& m = 2) : Does m s0 (State.setKey s k) := by
  refine h.comp ?_ hm
  unfold State.setKey
  try dsimp only
  (repeat' split) <;> simp (maxDischargeDepth := 60) [Ctr.rest, Tst.rest]

end Sys2Proof.Machine
end

