-- ==== Sys2Proof/Laws/System.lean ====
section
/-! SUPPORT. What the commands of Machine/System.lean touch and keep. -/

namespace Sys2Proof.Machine

set_option linter.unusedSimpArgs false
set_option linter.unusedTactic false
set_option linter.unnecessarySeqFocus false

@[simp] theorem State.setLoop_does {m : Nat} {s0 s : State} (level : LoopLevel) (h : Does m s0 s)
    (hm : 2 &&& m = 2) : Does m s0 (State.setLoop s level) := by
  refine h.comp ?_ hm
  unfold State.setLoop
  try dsimp only
  (repeat' split) <;> simp (maxDischargeDepth := 60) [Ctr.rest, Tst.rest]

theorem execEstopInChange_does {level : LoopLevel} {s t : State} (h : execEstopInChange level s = .next t) : Does 4842002 s t := by
  cases h
  split
  · exact does_setPins (Does.refl _ _) (.inl rfl) rfl
  · exact whole_does (Does.refl _ _) rfl fun hx => by simp (maxDischargeDepth := 60)

@[simp] theorem State.switchToBackup_does {m : Nat} {s0 s : State} (edges : Nat) (h : Does m s0 s)
    (hm : 12681216 &&& m = 12681216) : Does m s0 (State.switchToBackup s edges) := by
  refine h.comp ?_ hm
  unfold State.switchToBackup
  try dsimp only
  (repeat' split) <;> simp (maxDischargeDepth := 60) [Ctr.rest, Tst.rest]

@[simp] theorem State.takeWindow_does {m : Nat} {s0 s : State} (edges : Nat) (h : Does m s0 s)
    (hm : 12681216 &&& m = 12681216) : Does m s0 (State.takeWindow s edges) := by
  refine h.comp ?_ hm
  unfold State.takeWindow
  try dsimp only
  (repeat' split) <;> simp (maxDischargeDepth := 60) [Ctr.rest, Tst.rest]

theorem execTimebaseWindowEnd_does {edges : Nat} {s t : State} (h : execTimebaseWindowEnd edges s = .next t) : Does 13230608 s t := by
  cases h
  exact whole_does (Does.refl _ _) rfl fun hx => by simp (maxDischargeDepth := 60)

theorem execRingSlotPass_does {slot : Fin 8} {w0 w1 : Word} {payload : List Word} {s t : State} (h : execRingSlotPass slot w0 w1 payload s = .next t) : Does 218103806 s t := by
  cases h
  exact whole_does (Does.refl _ _) rfl fun hx => by simp (maxDischargeDepth := 60)

@[simp] theorem State.discardUndeliverable_does {m : Nat} {s0 s : State} (e : IngressEntry) (h : Does m s0 s)
    (hm : 4259840 &&& m = 4259840) : Does m s0 (State.discardUndeliverable s e) := by
  refine h.comp ?_ hm
  unfold State.discardUndeliverable
  try dsimp only
  (repeat' split) <;> simp (maxDischargeDepth := 60) [Ctr.rest, Tst.rest]

theorem execFrameUndeliverable_does  {s t : State} (h : execFrameUndeliverable s = .next t) : Does 4842000 s t := by
  cases h
  exact deliver_does _ (Does.refl _ _) rfl fun e x hx => by simp (maxDischargeDepth := 60) [hx]

end Sys2Proof.Machine
end

