-- ==== Sys2Proof/Laws/Rope.lean ====
section
/-! SUPPORT. What the commands of Machine/Rope.lean touch and keep. -/

namespace Sys2Proof.Machine

set_option linter.unusedSimpArgs false
set_option linter.unusedTactic false
set_option linter.unnecessarySeqFocus false

theorem withSafety_does {m : Nat} {s0 s : State} {body : SafetyTables → State → State} (h : Does m s0 s)
    (hb : ∀ t, Does m s0 (body t s)) : Does m s0 (withSafety body s) := by
  unfold withSafety
  split
  · exact hb _
  · exact h

theorem execTachSample_does  {s t : State} (h : execTachSample s = .next t) : Does 21619260 s t := by
  cases h
  exact deliver_does _ (Does.refl _ _) rfl fun e x hx => withSafety_does hx fun t => by simp (maxDischargeDepth := 60) [hx]

theorem execTachLostExpiry_does  {s t : State} (h : execTachLostExpiry s = .next t) : Does 21619260 s t := by
  cases h
  exact expiry_does _ (Does.refl _ _) rfl fun hx => by simp (maxDischargeDepth := 60)

theorem execStillnessExpiry_does  {s t : State} (h : execStillnessExpiry s = .next t) : Does 21619224 s t := by
  cases h
  exact expiry_does _ (Does.refl _ _) rfl fun hx => by simp (maxDischargeDepth := 60)

theorem execRefMark_does  {s t : State} (h : execRefMark s = .next t) : Does 4842044 s t := by
  cases h
  exact deliver_does _ (Does.refl _ _) rfl fun e x hx => withSafety_does hx fun t => by simp (maxDischargeDepth := 60) [hx]

end Sys2Proof.Machine
end

