-- ==== Sys2Proof/Laws/Gate.lean ====
section
/-! SUPPORT. What the commands of Machine/Gate.lean touch and keep. -/

namespace Sys2Proof.Machine

set_option linter.unusedSimpArgs false
set_option linter.unusedTactic false
set_option linter.unnecessarySeqFocus false

theorem execGateReport_does  {s t : State} (h : execGateReport s = .next t) : Does 4842032 s t := by
  cases h
  exact deliver_does _ (Does.refl _ _) rfl fun e x hx => by split <;> simp (maxDischargeDepth := 60) [hx]

@[simp] theorem State.timeoutRelease_does {m : Nat} {s0 s : State}  (h : Does m s0 s)
    (hm : 33296 &&& m = 33296) : Does m s0 (State.timeoutRelease s) := by
  refine h.comp ?_ hm
  unfold State.timeoutRelease
  try dsimp only
  (repeat' split) <;> simp (maxDischargeDepth := 60) [Ctr.rest, Tst.rest]

theorem execGateReportTimeout_does  {s t : State} (h : execGateReportTimeout s = .next t) : Does 4842000 s t := by
  cases h
  exact expiry_does _ (Does.refl _ _) rfl fun hx => by simp (maxDischargeDepth := 60)

theorem execNackGateRelease_does  {s t : State} (h : execNackGateRelease s = .next t) : Does 4842000 s t := by
  cases h
  exact deliver_does _ (Does.refl _ _) rfl fun e x hx => by simp (maxDischargeDepth := 60) [hx]

theorem execAttach_does  {s t : State} (h : execAttach s = .next t) : Does 4845556 s t := by
  cases h
  exact deliver_does _ (Does.refl _ _) rfl fun e x hx => by split <;> simp (maxDischargeDepth := 60) [hx]

end Sys2Proof.Machine
end

