-- ==== Sys2Proof/Laws/Station.lean ====
section
/-! SUPPORT. What the commands of Machine/Station.lean touch and keep. -/

namespace Sys2Proof.Machine

set_option linter.unusedSimpArgs false
set_option linter.unusedTactic false
set_option linter.unnecessarySeqFocus false

theorem execArrivalForward_does  {s t : State} (h : execArrivalForward s = .next t) : Does 4845556 s t := by
  cases h
  exact deliver_does _ (Does.refl _ _) rfl fun e x hx => by simp (maxDischargeDepth := 60) [hx]

theorem execArrivalBackward_does  {s t : State} (h : execArrivalBackward s = .next t) : Does 4842000 s t := by
  cases h
  exact deliver_does _ (Does.refl _ _) rfl fun e x hx => by simp (maxDischargeDepth := 60) [hx]

theorem execPassageForward_does  {s t : State} (h : execPassageForward s = .next t) : Does 4845108 s t := by
  cases h
  exact deliver_does _ (Does.refl _ _) rfl fun e x hx => by simp (maxDischargeDepth := 60) [hx]

theorem execPassageBackward_does  {s t : State} (h : execPassageBackward s = .next t) : Does 4845104 s t := by
  cases h
  exact deliver_does _ (Does.refl _ _) rfl fun e x hx => by simp (maxDischargeDepth := 60) [hx]

theorem execGripSampleForward_does  {s t : State} (h : execGripSampleForward s = .next t) : Does 4847156 s t := by
  cases h
  exact deliver_does _ (Does.refl _ _) rfl fun e x hx => by simp (maxDischargeDepth := 60) [hx]

theorem execGripSampleBackward_does  {s t : State} (h : execGripSampleBackward s = .next t) : Does 4843056 s t := by
  cases h
  exact deliver_does _ (Does.refl _ _) rfl fun e x hx => by simp (maxDischargeDepth := 60) [hx]

theorem execSwitchPassageForward_does  {s t : State} (h : execSwitchPassageForward s = .next t) : Does 4845556 s t := by
  cases h
  exact deliver_does _ (Does.refl _ _) rfl fun e x hx => by simp (maxDischargeDepth := 60) [hx]

theorem execSwitchPassageBackward_does  {s t : State} (h : execSwitchPassageBackward s = .next t) : Does 4843056 s t := by
  cases h
  exact deliver_does _ (Does.refl _ _) rfl fun e x hx => by simp (maxDischargeDepth := 60) [hx]

theorem execNackSwitchSet_does  {s t : State} (h : execNackSwitchSet s = .next t) : Does 4843024 s t := by
  cases h
  exact deliver_does _ (Does.refl _ _) rfl fun e x hx => by simp (maxDischargeDepth := 60) [hx]

theorem execGarageExitForward_does  {s t : State} (h : execGarageExitForward s = .next t) : Does 4845428 s t := by
  cases h
  exact deliver_does _ (Does.refl _ _) rfl fun e x hx => by simp (maxDischargeDepth := 60) [hx]

theorem execGarageExitBackward_does  {s t : State} (h : execGarageExitBackward s = .next t) : Does 4842000 s t := by
  cases h
  exact deliver_does _ (Does.refl _ _) rfl fun e x hx => by simp (maxDischargeDepth := 60) [hx]

theorem execGarageExitTimeout_does  {s t : State} (h : execGarageExitTimeout s = .next t) : Does 4843024 s t := by
  cases h
  exact expiry_does _ (Does.refl _ _) rfl fun hx => by simp (maxDischargeDepth := 60)

theorem execNackGarageExitCommand_does  {s t : State} (h : execNackGarageExitCommand s = .next t) : Does 4843024 s t := by
  cases h
  exact deliver_does _ (Does.refl _ _) rfl fun e x hx => by simp (maxDischargeDepth := 60) [hx]

end Sys2Proof.Machine
end

