-- ==== Sys2Proof/Laws/Doors.lean ====
section
/-! SUPPORT. What the commands of Machine/Doors.lean touch and keep. -/

namespace Sys2Proof.Machine

set_option linter.unusedSimpArgs false
set_option linter.unusedTactic false
set_option linter.unnecessarySeqFocus false

@[simp] theorem State.takeDoorFrame_does {m : Nat} {s0 s : State} (e : IngressEntry) (h : Does m s0 s)
    (hm : 4295220 &&& m = 4295220) : Does m s0 (State.takeDoorFrame s e) := by
  refine h.comp ?_ hm
  unfold State.takeDoorFrame
  try dsimp only
  (repeat' split) <;> simp (maxDischargeDepth := 60) [Ctr.rest, Tst.rest]

theorem execDoorReport_does  {s t : State} (h : execDoorReport s = .next t) : Does 4844084 s t := by
  cases h
  exact deliver_does _ (Does.refl _ _) rfl fun e x hx => by simp (maxDischargeDepth := 60) [hx]

theorem execNackDoor_does  {s t : State} (h : execNackDoor s = .next t) : Does 4844084 s t := by
  cases h
  exact deliver_does _ (Does.refl _ _) rfl fun e x hx => by simp (maxDischargeDepth := 60) [hx]

@[simp] theorem State.timeoutUnit_does {m : Nat} {s0 s : State} (u : DoorUnitName) (h : Does m s0 s)
    (hm : 4295220 &&& m = 4295220) : Does m s0 (State.timeoutUnit s u) := by
  refine h.comp ?_ hm
  unfold State.timeoutUnit
  try dsimp only
  (repeat' split) <;> simp (maxDischargeDepth := 60) [Ctr.rest, Tst.rest]

@[simp] theorem State.retryUnit_does {m : Nat} {s0 s : State} (u : DoorUnitName) (h : Does m s0 s)
    (hm : 4294656 &&& m = 4294656) : Does m s0 (State.retryUnit s u) := by
  refine h.comp ?_ hm
  unfold State.retryUnit
  try dsimp only
  (repeat' split) <;> simp (maxDischargeDepth := 60) [Ctr.rest, Tst.rest]

theorem execDoorDeadlineExpiry_does {u : DoorUnitName} {s t : State} (h : execDoorDeadlineExpiry u s = .next t) : Does 4844084 s t := by
  cases h
  exact expiry_does _ (Does.refl _ _) rfl fun hx => by simp (maxDischargeDepth := 60)

theorem execUnitRecoverExpiry_does {u : DoorUnitName} {s t : State} (h : execUnitRecoverExpiry u s = .next t) : Does 4844048 s t := by
  cases h
  exact expiry_does _ (Does.refl _ _) rfl fun hx => by simp (maxDischargeDepth := 60)

theorem execDoorRetryTimerExpiry_does {u : DoorUnitName} {s t : State} (h : execDoorRetryTimerExpiry u s = .next t) : Does 4844048 s t := by
  cases h
  exact expiry_does _ (Does.refl _ _) rfl fun hx => by simp (maxDischargeDepth := 60)

theorem execDwellExpiry_does {serial : Nat} {s t : State} (h : execDwellExpiry serial s = .next t) : Does 4844048 s t := by
  cases h
  exact expiry_does _ (Does.refl _ _) rfl fun hx => by simp (maxDischargeDepth := 60)

theorem execReopenWaitExpiry_does {serial : Nat} {s t : State} (h : execReopenWaitExpiry serial s = .next t) : Does 4844048 s t := by
  cases h
  exact expiry_does _ (Does.refl _ _) rfl fun hx => by simp (maxDischargeDepth := 60)

theorem execSettleExpiry_does {serial : Nat} {s t : State} (h : execSettleExpiry serial s = .next t) : Does 4844084 s t := by
  cases h
  exact expiry_does _ (Does.refl _ _) rfl fun hx => by simp (maxDischargeDepth := 60)

end Sys2Proof.Machine
end

