-- ==== Sys2Proof/Laws/Supervision.lean ====
section
/-! SUPPORT. What the commands of Machine/Supervision.lean touch and keep. -/

namespace Sys2Proof.Machine

set_option linter.unusedSimpArgs false
set_option linter.unusedTactic false
set_option linter.unnecessarySeqFocus false

theorem execTensionSample_does  {s t : State} (h : execTensionSample s = .next t) : Does 4846096 s t := by
  cases h
  exact deliver_does _ (Does.refl _ _) rfl fun e x hx => by simp (maxDischargeDepth := 60) [hx]

@[simp] theorem State.loseTension_does {m : Nat} {s0 s : State}  (h : Does m s0 s)
    (hm : 36864 &&& m = 36864) : Does m s0 (State.loseTension s) := by
  refine h.comp ?_ hm
  unfold State.loseTension
  try dsimp only
  (repeat' split) <;> simp (maxDischargeDepth := 60) [Ctr.rest, Tst.rest]

theorem execTensionLossExpiry_does  {s t : State} (h : execTensionLossExpiry s = .next t) : Does 4846096 s t := by
  cases h
  exact expiry_does _ (Does.refl _ _) rfl fun hx => by simp (maxDischargeDepth := 60)

theorem State.atTower_does {m : Nat} {s0 s : State} {act : State → TowerEntry → State} (i : Nat) (h : Does m s0 s)
    (ha : ∀ e, Does m s0 (act s e)) : Does m s0 (s.atTower i act) := by
  unfold State.atTower
  split
  · exact ha _
  · exact h

theorem execTowerDueExpiry_does {i : Nat} {s t : State} (h : execTowerDueExpiry i s = .next t) : Does 4846096 s t := by
  cases h
  exact expiry_does _ (Does.refl _ _) rfl fun hx => State.atTower_does _ hx fun e => by simp (maxDischargeDepth := 60)

theorem execScanReport_does  {s t : State} (h : execScanReport s = .next t) : Does 4846096 s t := by
  cases h
  exact deliver_does _ (Does.refl _ _) rfl fun e x hx => by simp (maxDischargeDepth := 60) [hx]

theorem execScanDeadlineExpiry_does {i : Nat} {s t : State} (h : execScanDeadlineExpiry i s = .next t) : Does 4846096 s t := by
  cases h
  exact expiry_does _ (Does.refl _ _) rfl fun hx => State.atTower_does _ hx fun e => by simp (maxDischargeDepth := 60)

theorem execNackScanRequest_does  {s t : State} (h : execNackScanRequest s = .next t) : Does 4846096 s t := by
  cases h
  exact deliver_does _ (Does.refl _ _) rfl fun e x hx => by simp (maxDischargeDepth := 60) [hx]

theorem execTowerAlarm_does  {s t : State} (h : execTowerAlarm s = .next t) : Does 4846096 s t := by
  cases h
  exact deliver_does _ (Does.refl _ _) rfl fun e x hx => by simp (maxDischargeDepth := 60) [hx]

end Sys2Proof.Machine
end

