-- ==== Sys2Proof/Laws/Link.lean ====
section
/-! SUPPORT. What the commands of Machine/Link.lean touch and keep. -/

namespace Sys2Proof.Machine

set_option linter.unusedSimpArgs false
set_option linter.unusedTactic false
set_option linter.unnecessarySeqFocus false

theorem execLinkBadCheckFrame_does {bytes : List Byte} {s t : State} (h : execLinkBadCheckFrame bytes s = .next t) : Does 4842000 s t := by
  cases h
  exact receive_does _ _ (Does.refl _ _) rfl fun hx => by simp (maxDischargeDepth := 60)

@[simp] theorem State.takeSafetyFrame_does {m : Nat} {s0 s : State} (bytes : List Byte) (h : Does m s0 s)
    (hm : 4318736 &&& m = 4318736) : Does m s0 (State.takeSafetyFrame s bytes) := by
  refine h.comp ?_ hm
  unfold State.takeSafetyFrame
  try dsimp only
  (repeat' split) <;> simp (maxDischargeDepth := 60) [Ctr.rest, Tst.rest]

theorem execLinkSafetyFrame_does {bytes : List Byte} {s t : State} (h : execLinkSafetyFrame bytes s = .next t) : Does 4843024 s t := by
  cases h
  exact receive_does _ _ (Does.refl _ _) rfl fun hx => by simp (maxDischargeDepth := 60)

theorem execLinkBufferedFrame_does {bytes : List Byte} {s t : State} (h : execLinkBufferedFrame bytes s = .next t) : Does 4842000 s t := by
  cases h
  exact receive_does _ _ (Does.refl _ _) rfl fun hx => by simp (maxDischargeDepth := 60)

theorem execLinkVoiceFrame_does {bytes : List Byte} {s t : State} (h : execLinkVoiceFrame bytes s = .next t) : Does 4842000 s t := by
  cases h
  exact receive_does _ _ (Does.refl _ _) rfl fun hx => by simp (maxDischargeDepth := 60)

theorem execSilenceExpiry_does  {s t : State} (h : execSilenceExpiry s = .next t) : Does 4843024 s t := by
  cases h
  exact expiry_does _ (Does.refl _ _) rfl fun hx => by simp (maxDischargeDepth := 60)

theorem execSafetySendExpiry_does  {s t : State} (h : execSafetySendExpiry s = .next t) : Does 4842000 s t := by
  cases h
  exact expiry_does _ (Does.refl _ _) rfl fun hx => by simp (maxDischargeDepth := 60)

@[simp] theorem State.freeTransmitter_does {m : Nat} {s0 s : State}  (h : Does m s0 s)
    (hm : 8192 &&& m = 8192) : Does m s0 (State.freeTransmitter s) := by
  refine h.comp ?_ hm
  unfold State.freeTransmitter
  try dsimp only
  (repeat' split) <;> simp (maxDischargeDepth := 60) [Ctr.rest, Tst.rest]

theorem execTransmitComplete_does  {s t : State} (h : execTransmitComplete s = .next t) : Does 4842000 s t := by
  cases h
  split
  · exact whole_does (Does.refl _ _) rfl fun hx => by simp (maxDischargeDepth := 60)
  · exact Does.refl _ _

@[simp] theorem State.timeoutRequest_does {m : Nat} {s0 s : State} (tag : Nat) (h : Does m s0 s)
    (hm : 9216 &&& m = 9216) : Does m s0 (State.timeoutRequest s tag) := by
  refine h.comp ?_ hm
  unfold State.timeoutRequest
  try dsimp only
  (repeat' split) <;> simp (maxDischargeDepth := 60) [Ctr.rest, Tst.rest]

theorem execRequestTimeout_does {tag : Nat} {s t : State} (h : execRequestTimeout tag s = .next t) : Does 4843024 s t := by
  cases h
  exact expiry_does _ (Does.refl _ _) rfl fun hx => by simp (maxDischargeDepth := 60)

@[simp] theorem State.restartLink_does {m : Nat} {s0 s : State}  (h : Does m s0 s)
    (hm : 4318736 &&& m = 4318736) : Does m s0 (State.restartLink s) := by
  refine h.comp ?_ hm
  unfold State.restartLink
  try dsimp only
  (repeat' split) <;> simp (maxDischargeDepth := 60) [Ctr.rest, Tst.rest]

theorem execLinkRestart_does  {s t : State} (h : execLinkRestart s = .next t) : Does 139060752 s t := by
  cases h
  exact manage_does _ (Does.refl _ _) rfl fun f x hx => by simp (maxDischargeDepth := 60) [hx]

end Sys2Proof.Machine
end

