-- ==== Sys2Proof/Laws/Handover.lean ====
section
/-! SUPPORT. What the commands of Machine/Handover.lean touch and keep. -/

namespace Sys2Proof.Machine

set_option linter.unusedSimpArgs false
set_option linter.unusedTactic false
set_option linter.unnecessarySeqFocus false

theorem execHandoverSummitArrival_does  {s t : State} (h : execHandoverSummitArrival s = .next t) : Does 4845556 s t := by
  cases h
  exact deliverUnanswered_does _ (Does.refl _ _) rfl fun f x hx =>
    State.takeHandover_does _ _ hx rfl fun i k hx => by simp (maxDischargeDepth := 60) [hx]

theorem execHandoverSummitLaunch_does  {s t : State} (h : execHandoverSummitLaunch s = .next t) : Does 4845556 s t := by
  cases h
  exact deliverUnanswered_does _ (Does.refl _ _) rfl fun f x hx =>
    State.takeHandover_does _ _ hx rfl fun i k hx => by simp (maxDischargeDepth := 60) [hx]

@[simp] theorem State.takeReplyFrame_does {m : Nat} {s0 s : State} (f : LinkFrame) (h : Does m s0 s)
    (hm : 4304884 &&& m = 4304884) : Does m s0 (State.takeReplyFrame s f) := by
  refine h.comp ?_ hm
  unfold State.takeReplyFrame
  try dsimp only
  (repeat' split) <;> simp (maxDischargeDepth := 60) [Ctr.rest, Tst.rest]

theorem execReplyPart_does  {s t : State} (h : execReplyPart s = .next t) : Does 4845556 s t := by
  cases h
  exact deliverUnanswered_does _ (Does.refl _ _) rfl fun f x hx => by simp (maxDischargeDepth := 60) [hx]

@[simp] theorem State.retryReconcile_does {m : Nat} {s0 s : State}  (h : Does m s0 s)
    (hm : 9216 &&& m = 9216) : Does m s0 (State.retryReconcile s) := by
  refine h.comp ?_ hm
  unfold State.retryReconcile
  try dsimp only
  (repeat' split) <;> simp (maxDischargeDepth := 60) [Ctr.rest, Tst.rest]

theorem execReconcileRetryExpiry_does  {s t : State} (h : execReconcileRetryExpiry s = .next t) : Does 4843024 s t := by
  cases h
  exact expiry_does _ (Does.refl _ _) rfl fun hx => by simp (maxDischargeDepth := 60)

theorem execValleySetQuery_does  {s t : State} (h : execValleySetQuery s = .next t) : Does 4842000 s t := by
  cases h
  exact deliverAnswered_does _ (Does.refl _ _) rfl fun f x hx => by simp (maxDischargeDepth := 60) [hx]

theorem execLocate_does  {s t : State} (h : execLocate s = .next t) : Does 4842000 s t := by
  cases h
  exact deliverAnswered_does _ (Does.refl _ _) rfl fun f x hx => by simp (maxDischargeDepth := 60) [hx]

theorem execSummitRequestUnsupported_does  {s t : State} (h : execSummitRequestUnsupported s = .next t) : Does 4842000 s t := by
  cases h
  exact deliverAnswered_does _ (Does.refl _ _) rfl fun f x hx => by simp (maxDischargeDepth := 60) [hx]

end Sys2Proof.Machine
end

