-- ==== Sys2Proof/Laws/Intercom.lean ====
section
/-! SUPPORT. What the commands of Machine/Intercom.lean touch and keep. -/

namespace Sys2Proof.Machine

set_option linter.unusedSimpArgs false
set_option linter.unusedTactic false
set_option linter.unnecessarySeqFocus false

theorem execCallSetup_does  {s t : State} (h : execCallSetup s = .next t) : Does 4842000 s t := by
  cases h
  exact deliverUnanswered_does _ (Does.refl _ _) rfl fun f x hx => by simp (maxDischargeDepth := 60) [hx]

theorem execCallAccept_does  {s t : State} (h : execCallAccept s = .next t) : Does 4842000 s t := by
  cases h
  exact deliverUnanswered_does _ (Does.refl _ _) rfl fun f x hx => by simp (maxDischargeDepth := 60) [hx]

theorem execCallClear_does  {s t : State} (h : execCallClear s = .next t) : Does 4842000 s t := by
  cases h
  exact deliverUnanswered_does _ (Does.refl _ _) rfl fun f x hx => by simp (maxDischargeDepth := 60) [hx]

theorem execCallTimerExpiry_does  {s t : State} (h : execCallTimerExpiry s = .next t) : Does 4842000 s t := by
  cases h
  exact expiry_does _ (Does.refl _ _) rfl fun hx => by simp (maxDischargeDepth := 60)

theorem execPlayoutExpiry_does  {s t : State} (h : execPlayoutExpiry s = .next t) : Does 4842000 s t := by
  cases h
  exact expiry_does _ (Does.refl _ _) rfl fun hx => by simp (maxDischargeDepth := 60)

theorem execHandsetVoice_does  {s t : State} (h : execHandsetVoice s = .next t) : Does 4842000 s t := by
  cases h
  exact deliver_does _ (Does.refl _ _) rfl fun e x hx => by simp (maxDischargeDepth := 60) [hx]

theorem execCallKeyCall_does  {s t : State} (h : execCallKeyCall s = .next t) : Does 4842000 s t := by
  cases h
  exact deliver_does _ (Does.refl _ _) rfl fun e x hx => by simp (maxDischargeDepth := 60) [hx]

theorem execCallKeyAnswer_does  {s t : State} (h : execCallKeyAnswer s = .next t) : Does 4842000 s t := by
  cases h
  exact deliver_does _ (Does.refl _ _) rfl fun e x hx => by simp (maxDischargeDepth := 60) [hx]

theorem execCallKeyHangUp_does  {s t : State} (h : execCallKeyHangUp s = .next t) : Does 4842000 s t := by
  cases h
  exact deliver_does _ (Does.refl _ _) rfl fun e x hx => by simp (maxDischargeDepth := 60) [hx]

theorem execCall_does  {s t : State} (h : execCall s = .next t) : Does 139059728 s t := by
  cases h
  exact manage_does _ (Does.refl _ _) rfl fun f x hx => by simp (maxDischargeDepth := 60) [hx, answerCall]

theorem execAnswer_does  {s t : State} (h : execAnswer s = .next t) : Does 139059728 s t := by
  cases h
  exact manage_does _ (Does.refl _ _) rfl fun f x hx => by simp (maxDischargeDepth := 60) [hx, answerCall]

theorem execHangUp_does  {s t : State} (h : execHangUp s = .next t) : Does 139059728 s t := by
  cases h
  exact manage_does _ (Does.refl _ _) rfl fun f x hx => by simp (maxDischargeDepth := 60) [hx, answerCall]

end Sys2Proof.Machine
end

