-- ==== Sys2Proof/Laws/Manage.lean ====
section
/-! SUPPORT. What the commands of Machine/Manage.lean touch and keep. -/

namespace Sys2Proof.Machine

set_option linter.unusedSimpArgs false
set_option linter.unusedTactic false
set_option linter.unnecessarySeqFocus false

theorem execReadStatus_does {key : KeyPosition} {s t : State} (h : execReadStatus key s = .next t) : Does 139059730 s t := by
  cases h
  exact manage_does _ (Does.refl _ _) rfl fun f x hx => by simp (maxDischargeDepth := 60) [hx]

theorem execReadEntry_does  {s t : State} (h : execReadEntry s = .next t) : Does 139059728 s t := by
  cases h
  exact manage_does _ (Does.refl _ _) rfl fun f x hx => by simp (maxDischargeDepth := 60) [hx]

theorem execReadCollection_does  {s t : State} (h : execReadCollection s = .next t) : Does 139059728 s t := by
  cases h
  exact manage_does _ (Does.refl _ _) rfl fun f x hx => by simp (maxDischargeDepth := 60) [hx]

theorem execStageEntry_does  {s t : State} (h : execStageEntry s = .next t) : Does 139321872 s t := by
  cases h
  exact manage_does _ (Does.refl _ _) rfl fun f x hx => by simp (maxDischargeDepth := 60) [hx]

theorem execDiscardStage_does  {s t : State} (h : execDiscardStage s = .next t) : Does 139321872 s t := by
  cases h
  exact manage_does _ (Does.refl _ _) rfl fun f x hx => by simp (maxDischargeDepth := 60) [hx]

theorem execCommit_does {key : KeyPosition} {s t : State} (h : execCommit key s = .next t) : Does 155836946 s t := by
  cases h
  exact manage_does _ (Does.refl _ _) rfl fun f x hx => by simp (maxDischargeDepth := 60) [hx]

theorem execWriteFleetEntry_does  {s t : State} (h : execWriteFleetEntry s = .next t) : Does 155840500 s t := by
  cases h
  exact manage_does _ (Does.refl _ _) rfl fun f x hx => by simp (maxDischargeDepth := 60) [hx]

theorem execSetProtection_does {key : KeyPosition} {s t : State} (h : execSetProtection key s = .next t) : Does 140108306 s t := by
  cases h
  exact manage_does _ (Does.refl _ _) rfl fun f x hx => by simp (maxDischargeDepth := 60) [hx]

theorem execPark_does  {s t : State} (h : execPark s = .next t) : Does 155836944 s t := by
  cases h
  exact manage_does _ (Does.refl _ _) rfl fun f x hx => by simp (maxDischargeDepth := 60) [hx]

theorem execRestart_does {key : KeyPosition} {s t : State} (h : execRestart key s = .next t) : Does 218103806 s t := by
  cases h
  have h1 : Does 218103806 s (manage .restart (fun f x => takeRestart f (x.setKey key)) s) :=
    manage_does _ (Does.refl _ _) rfl fun f x hx => by simp (maxDischargeDepth := 60) [hx]
  split
  · exact State.restartPart_does h1 rfl
  · exact h1

theorem execRestartOfferTimeout_does  {s t : State} (h : execRestartOfferTimeout s = .next t) : Does 218103806 s t := by
  cases h
  exact expiry_does _ (Does.refl _ _) rfl fun hx => by simp (maxDischargeDepth := 60)

theorem execResetCauses_does {key : KeyPosition} {s t : State} (h : execResetCauses key s = .next t) : Does 147448338 s t := by
  cases h
  exact manage_does _ (Does.refl _ _) rfl fun f x hx => by simp (maxDischargeDepth := 60) [hx]

@[simp] theorem State.takeDoorMode_does {m : Nat} {s0 s : State} (mode : Nat) (h : Does m s0 s)
    (hm : 67584 &&& m = 67584) : Does m s0 (State.takeDoorMode s mode).state := by
  refine h.comp ?_ hm
  unfold State.takeDoorMode
  try dsimp only
  (repeat' split) <;> simp (maxDischargeDepth := 60) [Ctr.rest, Tst.rest]

theorem execSetDoorMode_does  {s t : State} (h : execSetDoorMode s = .next t) : Does 139061776 s t := by
  cases h
  exact manage_does _ (Does.refl _ _) rfl fun f x hx => by simp (maxDischargeDepth := 60) [hx]

theorem State.doorAnswer_does {m : Nat} {s0 s : State} {act : State → State} (allowed : Bool) (h : Does m s0 s)
    (ha : Does m s0 (act s)) : Does m s0 (s.doorAnswer allowed act).state := by
  unfold State.doorAnswer
  split
  · exact ha
  · exact h

theorem execHoldOpen_does  {s t : State} (h : execHoldOpen s = .next t) : Does 139061780 s t := by
  cases h
  exact manage_does _ (Does.refl _ _) rfl fun f x hx => Answer.give_does _ _ (State.atDoor_does _ hx fun e =>
    State.doorAnswer_does _ hx (by simp (maxDischargeDepth := 60) [hx])) rfl

theorem execReleaseHold_does  {s t : State} (h : execReleaseHold s = .next t) : Does 139061780 s t := by
  cases h
  exact manage_does _ (Does.refl _ _) rfl fun f x hx => Answer.give_does _ _ (State.atDoor_does _ hx fun e =>
    State.doorAnswer_does _ hx (by simp (maxDischargeDepth := 60) [hx])) rfl

theorem execDoorRetry_does  {s t : State} (h : execDoorRetry s = .next t) : Does 139061776 s t := by
  cases h
  exact manage_does _ (Does.refl _ _) rfl fun f x hx => Answer.give_does _ _ (State.atDoor_does _ hx fun e =>
    State.doorAnswer_does _ hx (by simp (maxDischargeDepth := 60) [hx])) rfl

theorem execGarageNext_does  {s t : State} (h : execGarageNext s = .next t) : Does 139059732 s t := by
  cases h
  exact manage_does _ (Does.refl _ _) rfl fun f x hx => by simp (maxDischargeDepth := 60) [hx]

theorem execGarageRelease_does  {s t : State} (h : execGarageRelease s = .next t) : Does 139060752 s t := by
  cases h
  exact manage_does _ (Does.refl _ _) rfl fun f x hx => by simp (maxDischargeDepth := 60) [hx]

theorem execRemoveCabin_does  {s t : State} (h : execRemoveCabin s = .next t) : Does 155840500 s t := by
  cases h
  exact manage_does _ (Does.refl _ _) rfl fun f x hx => by simp (maxDischargeDepth := 60) [hx]

theorem execLocateCabin_does  {s t : State} (h : execLocateCabin s = .next t) : Does 139063284 s t := by
  cases h
  exact manage_does _ (Does.refl _ _) rfl fun f x hx => by simp (maxDischargeDepth := 60) [hx]

@[simp] theorem takeUnknownRequest_does {m : Nat} {s0 s : State} (f : RingFrame) (h : Does m s0 s)
    (hm : 138477568 &&& m = 138477568) : Does m s0 (takeUnknownRequest f s) := by
  refine h.comp ?_ hm
  unfold takeUnknownRequest
  try dsimp only
  (repeat' split) <;> simp (maxDischargeDepth := 60) [Ctr.rest, Tst.rest]

theorem execMgmtRequestUnknownKind_does  {s t : State} (h : execMgmtRequestUnknownKind s = .next t) : Does 139059728 s t := by
  cases h
  split
  · exact Does.refl _ _
  · exact deliver_does _ (Does.refl _ _) rfl fun e x hx => by simp (maxDischargeDepth := 60) [hx]

end Sys2Proof.Machine
end

