-- ==== Sys2Proof/Laws/Completions.lean ====
section
/-! SUPPORT. What the commands of Machine/Completions.lean touch and keep. -/

namespace Sys2Proof.Machine

set_option linter.unusedSimpArgs false
set_option linter.unusedTactic false
set_option linter.unnecessarySeqFocus false

theorem complete_does {m : Nat} {s0 s : State} {act : WriteKind → Option (Option ReplyTo → State → State)} (h : Does m s0 s)
    (hm : 155836944 &&& m = 155836944)
    (ha : ∀ k e, act k = some e → (s.Live → ∀ p stale, k = .park p stale → p.bounded) → ∀ r {x : State}, Does m s0 x →
      Does m s0 (e r x)) : Does m s0 (complete act s) := by
  unfold complete
  split
  · rename_i w hw
    split
    · rename_i e he
      refine whole_does h (land_trans (by decide) hm) fun h => ?_
      exact State.followQueued_does (ha _ _ he (fun hl p stale hk => hl.snapshot hw hk) _
        (State.endWrite_does h (land_trans (by decide) hm)))
        (land_trans (by decide) hm)
    · exact h
  · exact h

theorem execCommitWriteComplete_does  {s t : State} (h : execCommitWriteComplete s = .next t) : Does 156237820 s t := by
  cases h
  refine complete_does (Does.refl _ _) rfl fun k e he hk r x hx => ?_
  cases k <;> simp at he
  subst he
  simp (maxDischargeDepth := 60) [hx]

theorem execFleetWriteComplete_does  {s t : State} (h : execFleetWriteComplete s = .next t) : Does 155968016 s t := by
  cases h
  refine complete_does (Does.refl _ _) rfl fun k e he hk r x hx => ?_
  cases k <;> simp at he
  subst he
  simp (maxDischargeDepth := 60) [hx]

theorem execProtectionWriteComplete_does  {s t : State} (h : execProtectionWriteComplete s = .next t) : Does 155836944 s t := by
  cases h
  refine complete_does (Does.refl _ _) rfl fun k e he hk r x hx => ?_
  cases k <;> simp at he
  subst he
  simp (maxDischargeDepth := 60) [hx]

theorem execParkWriteComplete_does  {s t : State} (h : execParkWriteComplete s = .next t) : Does 155836944 s t := by
  cases h
  refine complete_does (Does.refl _ _) rfl fun k e he hk r x hx => ?_
  cases k <;> simp at he
  subst he
  exact State.completePark_does _ _ r hx rfl fun hl => hk hl _ _ rfl

theorem execInvalidationWriteComplete_does  {s t : State} (h : execInvalidationWriteComplete s = .next t) : Does 155836944 s t := by
  cases h
  refine complete_does (Does.refl _ _) rfl fun k e he hk r x hx => ?_
  cases k <;> simp at he
  subst he
  simp (maxDischargeDepth := 60) [hx]

end Sys2Proof.Machine
end

