-- ==== Sys2Proof/Laws/Settle.lean ====
section
/-!
SUPPORT. How a command ends: what STC's taking of a report leaves of the gathered conditions, what the end of a command
keeps, and what a part held in reset or a command with nothing to do leaves unchanged.
-/

namespace Sys2Proof.Machine

/-! ## The gathered conditions -/

/-- The gathered conditions of a state. -/
def State.quiet (s : State) : Prop := s.stc.gathered = []

@[simp] theorem offerEvent_stc (s : State) : s.offerEvent.stc = s.stc := by
  unfold State.offerEvent State.placeReport State.setReport State.dropReport
  repeat' split
  all_goals first | rfl | (dsimp only; split <;> rfl)

@[simp] theorem report_stc (s : State) (k : EventKind) (c : Option Cause) (i : Option Nat) (d : List Int) :
    (s.report k c i d).stc = s.stc := by
  unfold State.report
  dsimp only
  split <;> simp

@[simp] theorem takeCondition_gathered (s : State) (x : CauseReport) :
    (s.takeCondition x).stc.gathered = s.stc.gathered := by
  unfold State.takeCondition State.reportCauseState State.reportCauseCategory State.setCause
  dsimp only
  repeat' split
  all_goals simp

theorem foldl_takeCondition_gathered (xs : List CauseReport) (s : State) :
    (xs.foldl State.takeCondition s).stc.gathered = s.stc.gathered := by
  induction xs generalizing s with
  | nil => rfl
  | cons x xs ih => rw [List.foldl_cons, ih, takeCondition_gathered]

theorem same_stc {m : Nat} {s t : State} (h : Does m s t) (hm : m.testBit 15 = false) : t.stc = s.stc := h.1 .stc hm

@[simp] theorem formOutput_gathered (s : State) (rs : List Riser) : (s.formOutput rs).stc.gathered = s.stc.gathered := by
  unfold State.formOutput
  dsimp only
  split
  · rfl
  · have h1 := same_stc (State.tellOutput_does (m := 4285968) (Does.refl 4285968
      ((s.setOutput (highestStanding s.stc.records) (s.riser rs)).reportOutput s.stc.output (s.riser rs))) rfl) (by decide)
    rw [h1]
    simp [State.reportOutput, State.setOutput]

@[simp] theorem takeTogether_gathered (s : State) (xs : List CauseReport) :
    (s.takeTogether xs).stc.gathered = s.stc.gathered := by
  unfold State.takeTogether
  rw [formOutput_gathered, foldl_takeCondition_gathered]

theorem foldl_takeTogether_gathered (xss : List (List CauseReport)) (s : State) :
    (xss.foldl State.takeTogether s).stc.gathered = s.stc.gathered := by
  induction xss generalizing s with
  | nil => rfl
  | cons xs xss ih => rw [List.foldl_cons, ih, takeTogether_gathered]

/-- STC takes everything that is gathered. -/
theorem takeReport_quiet (s : State) : s.takeReport.quiet := by
  unfold State.takeReport State.quiet
  split
  · assumption
  · rw [foldl_takeTogether_gathered]
    rfl

/-- With nothing gathered STC takes no report. -/
theorem takeReport_of_quiet {s : State} (h : s.quiet) : s.takeReport = s := by
  unfold State.takeReport
  rw [h]

/-! ## The end of a command -/

@[simp] theorem transmit_stc (s : State) : s.transmit.stc = s.stc := same_stc (State.transmit_does (Does.refl 8192 s) rfl) (by decide)

@[simp] theorem staleIf_stc (s b : State) : (s.staleIf b).stc = s.stc :=
  same_stc (State.staleIf_does b (Does.refl 524288 s) rfl) (by decide)

@[simp] theorem countChanges_stc (s b : State) : (s.countChanges b).stc = s.stc := rfl

/-- A command ends with nothing gathered, but where a reset has just ended. -/
theorem settle_quiet {s b : State} (h : wasReset b s = false) : (s.settle b).quiet := by
  unfold State.settle State.quiet
  rw [if_neg (by simp [h]), countChanges_stc, staleIf_stc, transmit_stc]
  exact takeReport_quiet s

/-- A command that gathers nothing ends without a report to STC. -/
theorem settle_of_quiet {s b : State} (h : s.quiet) (hr : wasReset b s = false) :
    s.settle b = ((s.transmit).staleIf b).countChanges b := by
  unfold State.settle
  rw [if_neg (by simp [hr]), takeReport_of_quiet h]

/-- What the end of a command keeps: every part but those that STC's report, the transmitter, a stale park snapshot and
the change counts reach. -/
theorem settle_keeps (s b : State) (p : Part) (hp : Nat.testBit 4842000 p.num = false) : p.same s (s.settle b) :=
  (State.settle_does b (Does.refl 4842000 s) rfl).1 p hp

/-- What a command that gathers nothing keeps as it ends: all but SLK, the write in flight and the event part. -/
theorem settle_keeps_of_quiet {s b : State} (h : s.quiet) (hr : wasReset b s = false) (p : Part)
    (hp : Nat.testBit 4726784 p.num = false) : p.same s (s.settle b) := by
  rw [settle_of_quiet h hr]
  exact (State.countChanges_does b (State.staleIf_does b (State.transmit_does (Does.refl 4726784 s) rfl) rfl) rfl).1 p hp

/-- The REPORT queue loses nothing as a command ends. -/
theorem settle_report (s b : State) : s.rng.report <+: (s.settle b).rng.report :=
  (State.settle_does b (Does.refl 4842000 s) rfl).2.1 (by decide)

/-! ## A part held in reset -/

@[simp] theorem whole_held {body : State → State} {s : State} (h : s.pins.held = true) : whole body s = s := by
  simp [whole, h]

@[simp] theorem whole_running {body : State → State} {s : State} (h : s.pins.held = false) :
    whole body s = (body s).settle s := by
  simp [whole, h]

@[simp] theorem expiry_held {o : Option Ms} {body : State → State} {s : State} (h : s.pins.held = true) :
    expiry o body s = s := by
  unfold expiry
  split <;> simp [h]

@[simp] theorem deliver_held {r : Row} {body : IngressEntry → State → State} {s : State} (h : s.pins.held = true) :
    deliver r body s = s := by
  unfold deliver
  repeat' split
  all_goals simp [h]

@[simp] theorem manage_held {r : Row} {body : RingFrame → State → State} {s : State} (h : s.pins.held = true) :
    manage r body s = s := by
  unfold manage
  split <;> simp [h]

@[simp] theorem deliverUnanswered_held {k : LinkFrame → Bool} {body : LinkFrame → State → State} {s : State}
    (h : s.pins.held = true) : deliverUnanswered k body s = s := by
  unfold deliverUnanswered
  repeat' split
  all_goals simp [h]

@[simp] theorem deliverAnswered_held {k : LinkFrame → Bool} {body : LinkFrame → State → State} {s : State}
    (h : s.pins.held = true) : deliverAnswered k body s = s := by
  unfold deliverAnswered
  repeat' split
  all_goals simp [h]

@[simp] theorem receive_held {p : List Byte → Bool} {b : List Byte} {body : State → State} {s : State}
    (h : s.pins.held = true) : receive p b body s = s := by
  unfold receive
  split <;> simp [h]

@[simp] theorem complete_held {act : WriteKind → Option (Option ReplyTo → State → State)} {s : State}
    (h : s.pins.held = true) : complete act s = s := by
  unfold complete
  repeat' split
  all_goals simp [h]

/-! ## A command that finds its work -/

/-- A delivery that finds its frame. -/
theorem deliver_running {r : Row} {body : IngressEntry → State → State} {s : State} {e : IngressEntry}
    {rest : List IngressEntry} (h : s.Delivers r e rest) :
    deliver r body s = (body e (s.takeHead rest)).settle s := by
  obtain ⟨h1, h2, h3, h4⟩ := h
  simp [deliver, h1, h2, h3, h4]

/-- A management request that finds its frame with no write in flight. -/
theorem manage_running {r : Row} {body : RingFrame → State → State} {s : State} {e : IngressEntry}
    {rest : List IngressEntry} (h : s.Requests r e rest) :
    manage r body s = (body e.frame (s.takeHead rest)).settle s := by
  obtain ⟨h1, h2, h3⟩ := h
  have h4 : (s.takeHead rest).tst = s.tst := by
    unfold State.takeHead State.setHold
    dsimp only
    repeat' split
    all_goals rfl
  simp [manage, h2, deliver_running h1, judgeRequest, h4, h3]

/-- A timer that has reached its expiry. -/
theorem expiry_running {o : Option Ms} {body : State → State} {s : State} (h : s.Fires o) :
    expiry o body s = (body s).settle s := by
  simp [expiry, h.1, h.2]

/-- A buffered UNANSWERED frame taken. -/
theorem deliverUnanswered_running {k : LinkFrame → Bool} {body : LinkFrame → State → State} {s : State} {f : LinkFrame}
    {rest : List LinkFrame} (h : s.Holds f rest) (hk : k f = true) :
    deliverUnanswered k body s = (body f (s.setSlk { s.slk with rxUnanswered := rest })).settle s := by
  simp [deliverUnanswered, h.1, h.2, hk]

/-- A buffered ANSWERED frame taken. -/
theorem deliverAnswered_running {k : LinkFrame → Bool} {body : LinkFrame → State → State} {s : State} {f : LinkFrame}
    {rest : List LinkFrame} (h : s.Asked f rest) (hk : k f = true) :
    deliverAnswered k body s = (body f (s.setSlk { s.slk with rxAnswered := rest })).settle s := by
  simp [deliverAnswered, h.1, h.2, hk]

/-! ## A reset -/

/-- The part is live after any reset from a store in range. -/
theorem resetPart_live (s : State) (locked : Bool) (h : s.store.bounded) : (s.resetPart locked).Live := by
  unfold State.resetPart
  exact (State.resetReport_does (State.tryRestore_does (State.startWatching_does (Does.refl 268435455 _) rfl) rfl)
    rfl).2.2.2 (s.blocksReset_live locked h)

/-- A reset ends with nothing gathered. -/
theorem resetPart_quiet (s : State) (locked : Bool) : (s.resetPart locked).quiet := by
  unfold State.resetPart State.resetReport
  exact takeReport_quiet _

end Sys2Proof.Machine
end

