-- ==== Sys2Proof/Laws/Fields.lean ====
section
/-! SUPPORT. The fields that the shared operations leave as they were, one lemma per field, for rewriting. -/

namespace Sys2Proof.Machine

/-- CTR is the same where its collections and its rest are. -/
theorem ctr_eq {a b : Ctr} (h1 : a.queue = b.queue) (h2 : a.garage = b.garage) (h3 : a.uphill = b.uphill ∧ a.downhill = b.downhill)
    (h4 : a.summit = b.summit ∧ a.unlocated = b.unlocated) (h5 : a.slots = b.slots) (h6 : a.rest = b.rest) : a = b := by
  cases a; cases b; simp_all [Ctr.rest]

theorem judge_part_keeps (s : State) (c : Cause) (b : Bool) (cabin : Option Nat) (p : Part) (hp : Nat.testBit 32768 p.num = false) : p.same s (State.judge s c b cabin) :=
  (State.judge_does c b cabin (Does.refl 32768 s) rfl).1 p hp

@[simp] theorem judge_pins (s : State) (c : Cause) (b : Bool) (cabin : Option Nat) : (State.judge s c b cabin).pins = s.pins := (judge_part_keeps s c b cabin .pins rfl)
@[simp] theorem judge_registry (s : State) (c : Cause) (b : Bool) (cabin : Option Nat) : (State.judge s c b cabin).registry = s.registry := (judge_part_keeps s c b cabin .registry rfl)
@[simp] theorem judge_rpu (s : State) (c : Cause) (b : Bool) (cabin : Option Nat) : (State.judge s c b cabin).rpu = s.rpu := (judge_part_keeps s c b cabin .rpu rfl)
@[simp] theorem judge_lgt (s : State) (c : Cause) (b : Bool) (cabin : Option Nat) : (State.judge s c b cabin).lgt = s.lgt := (judge_part_keeps s c b cabin .lgt rfl)
@[simp] theorem judge_dsq (s : State) (c : Cause) (b : Bool) (cabin : Option Nat) : (State.judge s c b cabin).dsq = s.dsq := (judge_part_keeps s c b cabin .dsq rfl)
@[simp] theorem judge_rmn (s : State) (c : Cause) (b : Bool) (cabin : Option Nat) : (State.judge s c b cabin).rmn = s.rmn := (judge_part_keeps s c b cabin .rmn rfl)
@[simp] theorem judge_slk (s : State) (c : Cause) (b : Bool) (cabin : Option Nat) : (State.judge s c b cabin).slk = s.slk := (judge_part_keeps s c b cabin .slk rfl)
@[simp] theorem judge_icm (s : State) (c : Cause) (b : Bool) (cabin : Option Nat) : (State.judge s c b cabin).icm = s.icm := (judge_part_keeps s c b cabin .icm rfl)
@[simp] theorem judge_rng (s : State) (c : Cause) (b : Bool) (cabin : Option Nat) : (State.judge s c b cabin).rng = s.rng := (judge_part_keeps s c b cabin .rng rfl)
@[simp] theorem judge_tmb (s : State) (c : Cause) (b : Bool) (cabin : Option Nat) : (State.judge s c b cabin).tmb = s.tmb := (judge_part_keeps s c b cabin .tmb rfl)
@[simp] theorem judge_store (s : State) (c : Cause) (b : Bool) (cabin : Option Nat) : (State.judge s c b cabin).store = s.store := (judge_part_keeps s c b cabin .store rfl)
@[simp] theorem judge_free (s : State) (c : Cause) (b : Bool) (cabin : Option Nat) : (State.judge s c b cabin).free = s.free := (judge_part_keeps s c b cabin .free rfl)
@[simp] theorem judge_ctr (s : State) (c : Cause) (b : Bool) (cabin : Option Nat) : (State.judge s c b cabin).ctr = s.ctr := ctr_eq (judge_part_keeps s c b cabin .queue rfl) (judge_part_keeps s c b cabin .garage rfl) (judge_part_keeps s c b cabin .lines rfl) (judge_part_keeps s c b cabin .sets rfl) (judge_part_keeps s c b cabin .slots rfl) (judge_part_keeps s c b cabin .track rfl)
@[simp] theorem judge_safety (s : State) (c : Cause) (b : Bool) (cabin : Option Nat) : (State.judge s c b cabin).tst.safety = s.tst.safety := (judge_part_keeps s c b cabin .tables rfl).1
@[simp] theorem judge_operations (s : State) (c : Cause) (b : Bool) (cabin : Option Nat) : (State.judge s c b cabin).tst.operations = s.tst.operations := (judge_part_keeps s c b cabin .tables rfl).2.1
@[simp] theorem judge_fleetValid (s : State) (c : Cause) (b : Bool) (cabin : Option Nat) : (State.judge s c b cabin).tst.fleetValid = s.tst.fleetValid := (judge_part_keeps s c b cabin .tables rfl).2.2
@[simp] theorem judge_stageSafety (s : State) (c : Cause) (b : Bool) (cabin : Option Nat) : (State.judge s c b cabin).tst.stageSafety = s.tst.stageSafety := (judge_part_keeps s c b cabin .staging rfl).1
@[simp] theorem judge_safetyChanged (s : State) (c : Cause) (b : Bool) (cabin : Option Nat) : (State.judge s c b cabin).tst.safetyChanged = s.tst.safetyChanged := (judge_part_keeps s c b cabin .staging rfl).2.1
@[simp] theorem judge_stageOperations (s : State) (c : Cause) (b : Bool) (cabin : Option Nat) : (State.judge s c b cabin).tst.stageOperations = s.tst.stageOperations := (judge_part_keeps s c b cabin .staging rfl).2.2.1
@[simp] theorem judge_operationsChanged (s : State) (c : Cause) (b : Bool) (cabin : Option Nat) : (State.judge s c b cabin).tst.operationsChanged = s.tst.operationsChanged := (judge_part_keeps s c b cabin .staging rfl).2.2.2
@[simp] theorem judge_write (s : State) (c : Cause) (b : Bool) (cabin : Option Nat) : (State.judge s c b cabin).tst.write = s.tst.write := (judge_part_keeps s c b cabin .write rfl).1
@[simp] theorem judge_invalidationQueued (s : State) (c : Cause) (b : Bool) (cabin : Option Nat) : (State.judge s c b cabin).tst.invalidationQueued = s.tst.invalidationQueued := (judge_part_keeps s c b cabin .write rfl).2
@[simp] theorem judge_lockedToPowerCycle (s : State) (c : Cause) (b : Bool) (cabin : Option Nat) : (State.judge s c b cabin).tst.lockedToPowerCycle = s.tst.lockedToPowerCycle := (judge_part_keeps s c b cabin .lock rfl)
@[simp] theorem judge_restart (s : State) (c : Cause) (b : Bool) (cabin : Option Nat) : (State.judge s c b cabin).tst.restart = s.tst.restart := (judge_part_keeps s c b cabin .restart rfl)

theorem raise_part_keeps (s : State) (c : Cause) (cabin : Option Nat) (p : Part) (hp : Nat.testBit 32768 p.num = false) : p.same s (State.raise s c cabin) :=
  (State.raise_does c cabin (Does.refl 32768 s) rfl).1 p hp

@[simp] theorem raise_pins (s : State) (c : Cause) (cabin : Option Nat) : (State.raise s c cabin).pins = s.pins := (raise_part_keeps s c cabin .pins rfl)
@[simp] theorem raise_registry (s : State) (c : Cause) (cabin : Option Nat) : (State.raise s c cabin).registry = s.registry := (raise_part_keeps s c cabin .registry rfl)
@[simp] theorem raise_rpu (s : State) (c : Cause) (cabin : Option Nat) : (State.raise s c cabin).rpu = s.rpu := (raise_part_keeps s c cabin .rpu rfl)
@[simp] theorem raise_lgt (s : State) (c : Cause) (cabin : Option Nat) : (State.raise s c cabin).lgt = s.lgt := (raise_part_keeps s c cabin .lgt rfl)
@[simp] theorem raise_dsq (s : State) (c : Cause) (cabin : Option Nat) : (State.raise s c cabin).dsq = s.dsq := (raise_part_keeps s c cabin .dsq rfl)
@[simp] theorem raise_rmn (s : State) (c : Cause) (cabin : Option Nat) : (State.raise s c cabin).rmn = s.rmn := (raise_part_keeps s c cabin .rmn rfl)
@[simp] theorem raise_slk (s : State) (c : Cause) (cabin : Option Nat) : (State.raise s c cabin).slk = s.slk := (raise_part_keeps s c cabin .slk rfl)
@[simp] theorem raise_icm (s : State) (c : Cause) (cabin : Option Nat) : (State.raise s c cabin).icm = s.icm := (raise_part_keeps s c cabin .icm rfl)
@[simp] theorem raise_rng (s : State) (c : Cause) (cabin : Option Nat) : (State.raise s c cabin).rng = s.rng := (raise_part_keeps s c cabin .rng rfl)
@[simp] theorem raise_tmb (s : State) (c : Cause) (cabin : Option Nat) : (State.raise s c cabin).tmb = s.tmb := (raise_part_keeps s c cabin .tmb rfl)
@[simp] theorem raise_store (s : State) (c : Cause) (cabin : Option Nat) : (State.raise s c cabin).store = s.store := (raise_part_keeps s c cabin .store rfl)
@[simp] theorem raise_free (s : State) (c : Cause) (cabin : Option Nat) : (State.raise s c cabin).free = s.free := (raise_part_keeps s c cabin .free rfl)
@[simp] theorem raise_ctr (s : State) (c : Cause) (cabin : Option Nat) : (State.raise s c cabin).ctr = s.ctr := ctr_eq (raise_part_keeps s c cabin .queue rfl) (raise_part_keeps s c cabin .garage rfl) (raise_part_keeps s c cabin .lines rfl) (raise_part_keeps s c cabin .sets rfl) (raise_part_keeps s c cabin .slots rfl) (raise_part_keeps s c cabin .track rfl)
@[simp] theorem raise_safety (s : State) (c : Cause) (cabin : Option Nat) : (State.raise s c cabin).tst.safety = s.tst.safety := (raise_part_keeps s c cabin .tables rfl).1
@[simp] theorem raise_operations (s : State) (c : Cause) (cabin : Option Nat) : (State.raise s c cabin).tst.operations = s.tst.operations := (raise_part_keeps s c cabin .tables rfl).2.1
@[simp] theorem raise_fleetValid (s : State) (c : Cause) (cabin : Option Nat) : (State.raise s c cabin).tst.fleetValid = s.tst.fleetValid := (raise_part_keeps s c cabin .tables rfl).2.2
@[simp] theorem raise_stageSafety (s : State) (c : Cause) (cabin : Option Nat) : (State.raise s c cabin).tst.stageSafety = s.tst.stageSafety := (raise_part_keeps s c cabin .staging rfl).1
@[simp] theorem raise_safetyChanged (s : State) (c : Cause) (cabin : Option Nat) : (State.raise s c cabin).tst.safetyChanged = s.tst.safetyChanged := (raise_part_keeps s c cabin .staging rfl).2.1
@[simp] theorem raise_stageOperations (s : State) (c : Cause) (cabin : Option Nat) : (State.raise s c cabin).tst.stageOperations = s.tst.stageOperations := (raise_part_keeps s c cabin .staging rfl).2.2.1
@[simp] theorem raise_operationsChanged (s : State) (c : Cause) (cabin : Option Nat) : (State.raise s c cabin).tst.operationsChanged = s.tst.operationsChanged := (raise_part_keeps s c cabin .staging rfl).2.2.2
@[simp] theorem raise_write (s : State) (c : Cause) (cabin : Option Nat) : (State.raise s c cabin).tst.write = s.tst.write := (raise_part_keeps s c cabin .write rfl).1
@[simp] theorem raise_invalidationQueued (s : State) (c : Cause) (cabin : Option Nat) : (State.raise s c cabin).tst.invalidationQueued = s.tst.invalidationQueued := (raise_part_keeps s c cabin .write rfl).2
@[simp] theorem raise_lockedToPowerCycle (s : State) (c : Cause) (cabin : Option Nat) : (State.raise s c cabin).tst.lockedToPowerCycle = s.tst.lockedToPowerCycle := (raise_part_keeps s c cabin .lock rfl)
@[simp] theorem raise_restart (s : State) (c : Cause) (cabin : Option Nat) : (State.raise s c cabin).tst.restart = s.tst.restart := (raise_part_keeps s c cabin .restart rfl)

theorem gather_part_keeps (s : State) (r : CauseReport) (p : Part) (hp : Nat.testBit 32768 p.num = false) : p.same s (State.gather s r) :=
  (State.gather_does r (Does.refl 32768 s) rfl).1 p hp

@[simp] theorem gather_pins (s : State) (r : CauseReport) : (State.gather s r).pins = s.pins := (gather_part_keeps s r .pins rfl)
@[simp] theorem gather_registry (s : State) (r : CauseReport) : (State.gather s r).registry = s.registry := (gather_part_keeps s r .registry rfl)
@[simp] theorem gather_rpu (s : State) (r : CauseReport) : (State.gather s r).rpu = s.rpu := (gather_part_keeps s r .rpu rfl)
@[simp] theorem gather_lgt (s : State) (r : CauseReport) : (State.gather s r).lgt = s.lgt := (gather_part_keeps s r .lgt rfl)
@[simp] theorem gather_dsq (s : State) (r : CauseReport) : (State.gather s r).dsq = s.dsq := (gather_part_keeps s r .dsq rfl)
@[simp] theorem gather_rmn (s : State) (r : CauseReport) : (State.gather s r).rmn = s.rmn := (gather_part_keeps s r .rmn rfl)
@[simp] theorem gather_slk (s : State) (r : CauseReport) : (State.gather s r).slk = s.slk := (gather_part_keeps s r .slk rfl)
@[simp] theorem gather_icm (s : State) (r : CauseReport) : (State.gather s r).icm = s.icm := (gather_part_keeps s r .icm rfl)
@[simp] theorem gather_rng (s : State) (r : CauseReport) : (State.gather s r).rng = s.rng := (gather_part_keeps s r .rng rfl)
@[simp] theorem gather_tmb (s : State) (r : CauseReport) : (State.gather s r).tmb = s.tmb := (gather_part_keeps s r .tmb rfl)
@[simp] theorem gather_store (s : State) (r : CauseReport) : (State.gather s r).store = s.store := (gather_part_keeps s r .store rfl)
@[simp] theorem gather_free (s : State) (r : CauseReport) : (State.gather s r).free = s.free := (gather_part_keeps s r .free rfl)
@[simp] theorem gather_ctr (s : State) (r : CauseReport) : (State.gather s r).ctr = s.ctr := ctr_eq (gather_part_keeps s r .queue rfl) (gather_part_keeps s r .garage rfl) (gather_part_keeps s r .lines rfl) (gather_part_keeps s r .sets rfl) (gather_part_keeps s r .slots rfl) (gather_part_keeps s r .track rfl)
@[simp] theorem gather_safety (s : State) (r : CauseReport) : (State.gather s r).tst.safety = s.tst.safety := (gather_part_keeps s r .tables rfl).1
@[simp] theorem gather_operations (s : State) (r : CauseReport) : (State.gather s r).tst.operations = s.tst.operations := (gather_part_keeps s r .tables rfl).2.1
@[simp] theorem gather_fleetValid (s : State) (r : CauseReport) : (State.gather s r).tst.fleetValid = s.tst.fleetValid := (gather_part_keeps s r .tables rfl).2.2
@[simp] theorem gather_stageSafety (s : State) (r : CauseReport) : (State.gather s r).tst.stageSafety = s.tst.stageSafety := (gather_part_keeps s r .staging rfl).1
@[simp] theorem gather_safetyChanged (s : State) (r : CauseReport) : (State.gather s r).tst.safetyChanged = s.tst.safetyChanged := (gather_part_keeps s r .staging rfl).2.1
@[simp] theorem gather_stageOperations (s : State) (r : CauseReport) : (State.gather s r).tst.stageOperations = s.tst.stageOperations := (gather_part_keeps s r .staging rfl).2.2.1
@[simp] theorem gather_operationsChanged (s : State) (r : CauseReport) : (State.gather s r).tst.operationsChanged = s.tst.operationsChanged := (gather_part_keeps s r .staging rfl).2.2.2
@[simp] theorem gather_write (s : State) (r : CauseReport) : (State.gather s r).tst.write = s.tst.write := (gather_part_keeps s r .write rfl).1
@[simp] theorem gather_invalidationQueued (s : State) (r : CauseReport) : (State.gather s r).tst.invalidationQueued = s.tst.invalidationQueued := (gather_part_keeps s r .write rfl).2
@[simp] theorem gather_lockedToPowerCycle (s : State) (r : CauseReport) : (State.gather s r).tst.lockedToPowerCycle = s.tst.lockedToPowerCycle := (gather_part_keeps s r .lock rfl)
@[simp] theorem gather_restart (s : State) (r : CauseReport) : (State.gather s r).tst.restart = s.tst.restart := (gather_part_keeps s r .restart rfl)

theorem report_part_keeps (s : State) (kind : EventKind) (cause : Option Cause) (cabin : Option Nat) (data : List Int) (p : Part) (hp : Nat.testBit 4259840 p.num = false) : p.same s (State.report s kind cause cabin data) :=
  (State.report_does kind cause cabin data (Does.refl 4259840 s) rfl).1 p hp

@[simp] theorem report_pins (s : State) (kind : EventKind) (cause : Option Cause) (cabin : Option Nat) (data : List Int) : (State.report s kind cause cabin data).pins = s.pins := (report_part_keeps s kind cause cabin data .pins rfl)
@[simp] theorem report_registry (s : State) (kind : EventKind) (cause : Option Cause) (cabin : Option Nat) (data : List Int) : (State.report s kind cause cabin data).registry = s.registry := (report_part_keeps s kind cause cabin data .registry rfl)
@[simp] theorem report_rpu (s : State) (kind : EventKind) (cause : Option Cause) (cabin : Option Nat) (data : List Int) : (State.report s kind cause cabin data).rpu = s.rpu := (report_part_keeps s kind cause cabin data .rpu rfl)
@[simp] theorem report_lgt (s : State) (kind : EventKind) (cause : Option Cause) (cabin : Option Nat) (data : List Int) : (State.report s kind cause cabin data).lgt = s.lgt := (report_part_keeps s kind cause cabin data .lgt rfl)
@[simp] theorem report_dsq (s : State) (kind : EventKind) (cause : Option Cause) (cabin : Option Nat) (data : List Int) : (State.report s kind cause cabin data).dsq = s.dsq := (report_part_keeps s kind cause cabin data .dsq rfl)
@[simp] theorem report_rmn (s : State) (kind : EventKind) (cause : Option Cause) (cabin : Option Nat) (data : List Int) : (State.report s kind cause cabin data).rmn = s.rmn := (report_part_keeps s kind cause cabin data .rmn rfl)
@[simp] theorem report_slk (s : State) (kind : EventKind) (cause : Option Cause) (cabin : Option Nat) (data : List Int) : (State.report s kind cause cabin data).slk = s.slk := (report_part_keeps s kind cause cabin data .slk rfl)
@[simp] theorem report_icm (s : State) (kind : EventKind) (cause : Option Cause) (cabin : Option Nat) (data : List Int) : (State.report s kind cause cabin data).icm = s.icm := (report_part_keeps s kind cause cabin data .icm rfl)
@[simp] theorem report_tmb (s : State) (kind : EventKind) (cause : Option Cause) (cabin : Option Nat) (data : List Int) : (State.report s kind cause cabin data).tmb = s.tmb := (report_part_keeps s kind cause cabin data .tmb rfl)
@[simp] theorem report_store (s : State) (kind : EventKind) (cause : Option Cause) (cabin : Option Nat) (data : List Int) : (State.report s kind cause cabin data).store = s.store := (report_part_keeps s kind cause cabin data .store rfl)
@[simp] theorem report_free (s : State) (kind : EventKind) (cause : Option Cause) (cabin : Option Nat) (data : List Int) : (State.report s kind cause cabin data).free = s.free := (report_part_keeps s kind cause cabin data .free rfl)
@[simp] theorem report_ctr (s : State) (kind : EventKind) (cause : Option Cause) (cabin : Option Nat) (data : List Int) : (State.report s kind cause cabin data).ctr = s.ctr := ctr_eq (report_part_keeps s kind cause cabin data .queue rfl) (report_part_keeps s kind cause cabin data .garage rfl) (report_part_keeps s kind cause cabin data .lines rfl) (report_part_keeps s kind cause cabin data .sets rfl) (report_part_keeps s kind cause cabin data .slots rfl) (report_part_keeps s kind cause cabin data .track rfl)
@[simp] theorem report_safety (s : State) (kind : EventKind) (cause : Option Cause) (cabin : Option Nat) (data : List Int) : (State.report s kind cause cabin data).tst.safety = s.tst.safety := (report_part_keeps s kind cause cabin data .tables rfl).1
@[simp] theorem report_operations (s : State) (kind : EventKind) (cause : Option Cause) (cabin : Option Nat) (data : List Int) : (State.report s kind cause cabin data).tst.operations = s.tst.operations := (report_part_keeps s kind cause cabin data .tables rfl).2.1
@[simp] theorem report_fleetValid (s : State) (kind : EventKind) (cause : Option Cause) (cabin : Option Nat) (data : List Int) : (State.report s kind cause cabin data).tst.fleetValid = s.tst.fleetValid := (report_part_keeps s kind cause cabin data .tables rfl).2.2
@[simp] theorem report_stageSafety (s : State) (kind : EventKind) (cause : Option Cause) (cabin : Option Nat) (data : List Int) : (State.report s kind cause cabin data).tst.stageSafety = s.tst.stageSafety := (report_part_keeps s kind cause cabin data .staging rfl).1
@[simp] theorem report_safetyChanged (s : State) (kind : EventKind) (cause : Option Cause) (cabin : Option Nat) (data : List Int) : (State.report s kind cause cabin data).tst.safetyChanged = s.tst.safetyChanged := (report_part_keeps s kind cause cabin data .staging rfl).2.1
@[simp] theorem report_stageOperations (s : State) (kind : EventKind) (cause : Option Cause) (cabin : Option Nat) (data : List Int) : (State.report s kind cause cabin data).tst.stageOperations = s.tst.stageOperations := (report_part_keeps s kind cause cabin data .staging rfl).2.2.1
@[simp] theorem report_operationsChanged (s : State) (kind : EventKind) (cause : Option Cause) (cabin : Option Nat) (data : List Int) : (State.report s kind cause cabin data).tst.operationsChanged = s.tst.operationsChanged := (report_part_keeps s kind cause cabin data .staging rfl).2.2.2
@[simp] theorem report_write (s : State) (kind : EventKind) (cause : Option Cause) (cabin : Option Nat) (data : List Int) : (State.report s kind cause cabin data).tst.write = s.tst.write := (report_part_keeps s kind cause cabin data .write rfl).1
@[simp] theorem report_invalidationQueued (s : State) (kind : EventKind) (cause : Option Cause) (cabin : Option Nat) (data : List Int) : (State.report s kind cause cabin data).tst.invalidationQueued = s.tst.invalidationQueued := (report_part_keeps s kind cause cabin data .write rfl).2
@[simp] theorem report_lockedToPowerCycle (s : State) (kind : EventKind) (cause : Option Cause) (cabin : Option Nat) (data : List Int) : (State.report s kind cause cabin data).tst.lockedToPowerCycle = s.tst.lockedToPowerCycle := (report_part_keeps s kind cause cabin data .lock rfl)
@[simp] theorem report_restart (s : State) (kind : EventKind) (cause : Option Cause) (cabin : Option Nat) (data : List Int) : (State.report s kind cause cabin data).tst.restart = s.tst.restart := (report_part_keeps s kind cause cabin data .restart rfl)

theorem offerEvent_part_keeps (s : State) (p : Part) (hp : Nat.testBit 4259840 p.num = false) : p.same s (State.offerEvent s) :=
  (State.offerEvent_does  (Does.refl 4259840 s) rfl).1 p hp

@[simp] theorem offerEvent_pins (s : State) : (State.offerEvent s).pins = s.pins := (offerEvent_part_keeps s .pins rfl)
@[simp] theorem offerEvent_registry (s : State) : (State.offerEvent s).registry = s.registry := (offerEvent_part_keeps s .registry rfl)
@[simp] theorem offerEvent_rpu (s : State) : (State.offerEvent s).rpu = s.rpu := (offerEvent_part_keeps s .rpu rfl)
@[simp] theorem offerEvent_lgt (s : State) : (State.offerEvent s).lgt = s.lgt := (offerEvent_part_keeps s .lgt rfl)
@[simp] theorem offerEvent_dsq (s : State) : (State.offerEvent s).dsq = s.dsq := (offerEvent_part_keeps s .dsq rfl)
@[simp] theorem offerEvent_rmn (s : State) : (State.offerEvent s).rmn = s.rmn := (offerEvent_part_keeps s .rmn rfl)
@[simp] theorem offerEvent_slk (s : State) : (State.offerEvent s).slk = s.slk := (offerEvent_part_keeps s .slk rfl)
@[simp] theorem offerEvent_icm (s : State) : (State.offerEvent s).icm = s.icm := (offerEvent_part_keeps s .icm rfl)
@[simp] theorem offerEvent_tmb (s : State) : (State.offerEvent s).tmb = s.tmb := (offerEvent_part_keeps s .tmb rfl)
@[simp] theorem offerEvent_store (s : State) : (State.offerEvent s).store = s.store := (offerEvent_part_keeps s .store rfl)
@[simp] theorem offerEvent_free (s : State) : (State.offerEvent s).free = s.free := (offerEvent_part_keeps s .free rfl)
@[simp] theorem offerEvent_ctr (s : State) : (State.offerEvent s).ctr = s.ctr := ctr_eq (offerEvent_part_keeps s .queue rfl) (offerEvent_part_keeps s .garage rfl) (offerEvent_part_keeps s .lines rfl) (offerEvent_part_keeps s .sets rfl) (offerEvent_part_keeps s .slots rfl) (offerEvent_part_keeps s .track rfl)
@[simp] theorem offerEvent_safety (s : State) : (State.offerEvent s).tst.safety = s.tst.safety := (offerEvent_part_keeps s .tables rfl).1
@[simp] theorem offerEvent_operations (s : State) : (State.offerEvent s).tst.operations = s.tst.operations := (offerEvent_part_keeps s .tables rfl).2.1
@[simp] theorem offerEvent_fleetValid (s : State) : (State.offerEvent s).tst.fleetValid = s.tst.fleetValid := (offerEvent_part_keeps s .tables rfl).2.2
@[simp] theorem offerEvent_stageSafety (s : State) : (State.offerEvent s).tst.stageSafety = s.tst.stageSafety := (offerEvent_part_keeps s .staging rfl).1
@[simp] theorem offerEvent_safetyChanged (s : State) : (State.offerEvent s).tst.safetyChanged = s.tst.safetyChanged := (offerEvent_part_keeps s .staging rfl).2.1
@[simp] theorem offerEvent_stageOperations (s : State) : (State.offerEvent s).tst.stageOperations = s.tst.stageOperations := (offerEvent_part_keeps s .staging rfl).2.2.1
@[simp] theorem offerEvent_operationsChanged (s : State) : (State.offerEvent s).tst.operationsChanged = s.tst.operationsChanged := (offerEvent_part_keeps s .staging rfl).2.2.2
@[simp] theorem offerEvent_write (s : State) : (State.offerEvent s).tst.write = s.tst.write := (offerEvent_part_keeps s .write rfl).1
@[simp] theorem offerEvent_invalidationQueued (s : State) : (State.offerEvent s).tst.invalidationQueued = s.tst.invalidationQueued := (offerEvent_part_keeps s .write rfl).2
@[simp] theorem offerEvent_lockedToPowerCycle (s : State) : (State.offerEvent s).tst.lockedToPowerCycle = s.tst.lockedToPowerCycle := (offerEvent_part_keeps s .lock rfl)
@[simp] theorem offerEvent_restart (s : State) : (State.offerEvent s).tst.restart = s.tst.restart := (offerEvent_part_keeps s .restart rfl)

theorem holdCondition_part_keeps (s : State) (c : Cause) (b : Bool) (p : Part) (hp : Nat.testBit 32768 p.num = false) : p.same s (State.holdCondition s c b) :=
  (State.holdCondition_does c b (Does.refl 32768 s) rfl).1 p hp

@[simp] theorem holdCondition_pins (s : State) (c : Cause) (b : Bool) : (State.holdCondition s c b).pins = s.pins := (holdCondition_part_keeps s c b .pins rfl)
@[simp] theorem holdCondition_registry (s : State) (c : Cause) (b : Bool) : (State.holdCondition s c b).registry = s.registry := (holdCondition_part_keeps s c b .registry rfl)
@[simp] theorem holdCondition_rpu (s : State) (c : Cause) (b : Bool) : (State.holdCondition s c b).rpu = s.rpu := (holdCondition_part_keeps s c b .rpu rfl)
@[simp] theorem holdCondition_lgt (s : State) (c : Cause) (b : Bool) : (State.holdCondition s c b).lgt = s.lgt := (holdCondition_part_keeps s c b .lgt rfl)
@[simp] theorem holdCondition_dsq (s : State) (c : Cause) (b : Bool) : (State.holdCondition s c b).dsq = s.dsq := (holdCondition_part_keeps s c b .dsq rfl)
@[simp] theorem holdCondition_rmn (s : State) (c : Cause) (b : Bool) : (State.holdCondition s c b).rmn = s.rmn := (holdCondition_part_keeps s c b .rmn rfl)
@[simp] theorem holdCondition_slk (s : State) (c : Cause) (b : Bool) : (State.holdCondition s c b).slk = s.slk := (holdCondition_part_keeps s c b .slk rfl)
@[simp] theorem holdCondition_icm (s : State) (c : Cause) (b : Bool) : (State.holdCondition s c b).icm = s.icm := (holdCondition_part_keeps s c b .icm rfl)
@[simp] theorem holdCondition_rng (s : State) (c : Cause) (b : Bool) : (State.holdCondition s c b).rng = s.rng := (holdCondition_part_keeps s c b .rng rfl)
@[simp] theorem holdCondition_tmb (s : State) (c : Cause) (b : Bool) : (State.holdCondition s c b).tmb = s.tmb := (holdCondition_part_keeps s c b .tmb rfl)
@[simp] theorem holdCondition_store (s : State) (c : Cause) (b : Bool) : (State.holdCondition s c b).store = s.store := (holdCondition_part_keeps s c b .store rfl)
@[simp] theorem holdCondition_free (s : State) (c : Cause) (b : Bool) : (State.holdCondition s c b).free = s.free := (holdCondition_part_keeps s c b .free rfl)
@[simp] theorem holdCondition_ctr (s : State) (c : Cause) (b : Bool) : (State.holdCondition s c b).ctr = s.ctr := ctr_eq (holdCondition_part_keeps s c b .queue rfl) (holdCondition_part_keeps s c b .garage rfl) (holdCondition_part_keeps s c b .lines rfl) (holdCondition_part_keeps s c b .sets rfl) (holdCondition_part_keeps s c b .slots rfl) (holdCondition_part_keeps s c b .track rfl)
@[simp] theorem holdCondition_safety (s : State) (c : Cause) (b : Bool) : (State.holdCondition s c b).tst.safety = s.tst.safety := (holdCondition_part_keeps s c b .tables rfl).1
@[simp] theorem holdCondition_operations (s : State) (c : Cause) (b : Bool) : (State.holdCondition s c b).tst.operations = s.tst.operations := (holdCondition_part_keeps s c b .tables rfl).2.1
@[simp] theorem holdCondition_fleetValid (s : State) (c : Cause) (b : Bool) : (State.holdCondition s c b).tst.fleetValid = s.tst.fleetValid := (holdCondition_part_keeps s c b .tables rfl).2.2
@[simp] theorem holdCondition_stageSafety (s : State) (c : Cause) (b : Bool) : (State.holdCondition s c b).tst.stageSafety = s.tst.stageSafety := (holdCondition_part_keeps s c b .staging rfl).1
@[simp] theorem holdCondition_safetyChanged (s : State) (c : Cause) (b : Bool) : (State.holdCondition s c b).tst.safetyChanged = s.tst.safetyChanged := (holdCondition_part_keeps s c b .staging rfl).2.1
@[simp] theorem holdCondition_stageOperations (s : State) (c : Cause) (b : Bool) : (State.holdCondition s c b).tst.stageOperations = s.tst.stageOperations := (holdCondition_part_keeps s c b .staging rfl).2.2.1
@[simp] theorem holdCondition_operationsChanged (s : State) (c : Cause) (b : Bool) : (State.holdCondition s c b).tst.operationsChanged = s.tst.operationsChanged := (holdCondition_part_keeps s c b .staging rfl).2.2.2
@[simp] theorem holdCondition_write (s : State) (c : Cause) (b : Bool) : (State.holdCondition s c b).tst.write = s.tst.write := (holdCondition_part_keeps s c b .write rfl).1
@[simp] theorem holdCondition_invalidationQueued (s : State) (c : Cause) (b : Bool) : (State.holdCondition s c b).tst.invalidationQueued = s.tst.invalidationQueued := (holdCondition_part_keeps s c b .write rfl).2
@[simp] theorem holdCondition_lockedToPowerCycle (s : State) (c : Cause) (b : Bool) : (State.holdCondition s c b).tst.lockedToPowerCycle = s.tst.lockedToPowerCycle := (holdCondition_part_keeps s c b .lock rfl)
@[simp] theorem holdCondition_restart (s : State) (c : Cause) (b : Bool) : (State.holdCondition s c b).tst.restart = s.tst.restart := (holdCondition_part_keeps s c b .restart rfl)

theorem reply_part_keeps (s : State) (r : ReplyTo) (x : Status) (data : List Word) (p : Part) (hp : Nat.testBit 134283264 p.num = false) : p.same s (State.reply s r x data) :=
  (State.reply_does r x data (Does.refl 134283264 s) rfl).1 p hp

@[simp] theorem reply_pins (s : State) (r : ReplyTo) (x : Status) (data : List Word) : (State.reply s r x data).pins = s.pins := (reply_part_keeps s r x data .pins rfl)
@[simp] theorem reply_registry (s : State) (r : ReplyTo) (x : Status) (data : List Word) : (State.reply s r x data).registry = s.registry := (reply_part_keeps s r x data .registry rfl)
@[simp] theorem reply_rpu (s : State) (r : ReplyTo) (x : Status) (data : List Word) : (State.reply s r x data).rpu = s.rpu := (reply_part_keeps s r x data .rpu rfl)
@[simp] theorem reply_lgt (s : State) (r : ReplyTo) (x : Status) (data : List Word) : (State.reply s r x data).lgt = s.lgt := (reply_part_keeps s r x data .lgt rfl)
@[simp] theorem reply_dsq (s : State) (r : ReplyTo) (x : Status) (data : List Word) : (State.reply s r x data).dsq = s.dsq := (reply_part_keeps s r x data .dsq rfl)
@[simp] theorem reply_rmn (s : State) (r : ReplyTo) (x : Status) (data : List Word) : (State.reply s r x data).rmn = s.rmn := (reply_part_keeps s r x data .rmn rfl)
@[simp] theorem reply_slk (s : State) (r : ReplyTo) (x : Status) (data : List Word) : (State.reply s r x data).slk = s.slk := (reply_part_keeps s r x data .slk rfl)
@[simp] theorem reply_icm (s : State) (r : ReplyTo) (x : Status) (data : List Word) : (State.reply s r x data).icm = s.icm := (reply_part_keeps s r x data .icm rfl)
@[simp] theorem reply_stc (s : State) (r : ReplyTo) (x : Status) (data : List Word) : (State.reply s r x data).stc = s.stc := (reply_part_keeps s r x data .stc rfl)
@[simp] theorem reply_tmb (s : State) (r : ReplyTo) (x : Status) (data : List Word) : (State.reply s r x data).tmb = s.tmb := (reply_part_keeps s r x data .tmb rfl)
@[simp] theorem reply_store (s : State) (r : ReplyTo) (x : Status) (data : List Word) : (State.reply s r x data).store = s.store := (reply_part_keeps s r x data .store rfl)
@[simp] theorem reply_free (s : State) (r : ReplyTo) (x : Status) (data : List Word) : (State.reply s r x data).free = s.free := (reply_part_keeps s r x data .free rfl)
@[simp] theorem reply_ctr (s : State) (r : ReplyTo) (x : Status) (data : List Word) : (State.reply s r x data).ctr = s.ctr := ctr_eq (reply_part_keeps s r x data .queue rfl) (reply_part_keeps s r x data .garage rfl) (reply_part_keeps s r x data .lines rfl) (reply_part_keeps s r x data .sets rfl) (reply_part_keeps s r x data .slots rfl) (reply_part_keeps s r x data .track rfl)
@[simp] theorem reply_safety (s : State) (r : ReplyTo) (x : Status) (data : List Word) : (State.reply s r x data).tst.safety = s.tst.safety := (reply_part_keeps s r x data .tables rfl).1
@[simp] theorem reply_operations (s : State) (r : ReplyTo) (x : Status) (data : List Word) : (State.reply s r x data).tst.operations = s.tst.operations := (reply_part_keeps s r x data .tables rfl).2.1
@[simp] theorem reply_fleetValid (s : State) (r : ReplyTo) (x : Status) (data : List Word) : (State.reply s r x data).tst.fleetValid = s.tst.fleetValid := (reply_part_keeps s r x data .tables rfl).2.2
@[simp] theorem reply_stageSafety (s : State) (r : ReplyTo) (x : Status) (data : List Word) : (State.reply s r x data).tst.stageSafety = s.tst.stageSafety := (reply_part_keeps s r x data .staging rfl).1
@[simp] theorem reply_safetyChanged (s : State) (r : ReplyTo) (x : Status) (data : List Word) : (State.reply s r x data).tst.safetyChanged = s.tst.safetyChanged := (reply_part_keeps s r x data .staging rfl).2.1
@[simp] theorem reply_stageOperations (s : State) (r : ReplyTo) (x : Status) (data : List Word) : (State.reply s r x data).tst.stageOperations = s.tst.stageOperations := (reply_part_keeps s r x data .staging rfl).2.2.1
@[simp] theorem reply_operationsChanged (s : State) (r : ReplyTo) (x : Status) (data : List Word) : (State.reply s r x data).tst.operationsChanged = s.tst.operationsChanged := (reply_part_keeps s r x data .staging rfl).2.2.2
@[simp] theorem reply_write (s : State) (r : ReplyTo) (x : Status) (data : List Word) : (State.reply s r x data).tst.write = s.tst.write := (reply_part_keeps s r x data .write rfl).1
@[simp] theorem reply_invalidationQueued (s : State) (r : ReplyTo) (x : Status) (data : List Word) : (State.reply s r x data).tst.invalidationQueued = s.tst.invalidationQueued := (reply_part_keeps s r x data .write rfl).2
@[simp] theorem reply_lockedToPowerCycle (s : State) (r : ReplyTo) (x : Status) (data : List Word) : (State.reply s r x data).tst.lockedToPowerCycle = s.tst.lockedToPowerCycle := (reply_part_keeps s r x data .lock rfl)
@[simp] theorem reply_restart (s : State) (r : ReplyTo) (x : Status) (data : List Word) : (State.reply s r x data).tst.restart = s.tst.restart := (reply_part_keeps s r x data .restart rfl)

theorem takeReport_part_keeps (s : State) (p : Part) (hp : Nat.testBit 4317712 p.num = false) : p.same s (State.takeReport s) :=
  (State.takeReport_does  (Does.refl 4317712 s) rfl).1 p hp

@[simp] theorem takeReport_pins (s : State) : (State.takeReport s).pins = s.pins := (takeReport_part_keeps s .pins rfl)
@[simp] theorem takeReport_registry (s : State) : (State.takeReport s).registry = s.registry := (takeReport_part_keeps s .registry rfl)
@[simp] theorem takeReport_rpu (s : State) : (State.takeReport s).rpu = s.rpu := (takeReport_part_keeps s .rpu rfl)
@[simp] theorem takeReport_dsq (s : State) : (State.takeReport s).dsq = s.dsq := (takeReport_part_keeps s .dsq rfl)
@[simp] theorem takeReport_rmn (s : State) : (State.takeReport s).rmn = s.rmn := (takeReport_part_keeps s .rmn rfl)
@[simp] theorem takeReport_tmb (s : State) : (State.takeReport s).tmb = s.tmb := (takeReport_part_keeps s .tmb rfl)
@[simp] theorem takeReport_store (s : State) : (State.takeReport s).store = s.store := (takeReport_part_keeps s .store rfl)
@[simp] theorem takeReport_free (s : State) : (State.takeReport s).free = s.free := (takeReport_part_keeps s .free rfl)
@[simp] theorem takeReport_queue (s : State) : (State.takeReport s).ctr.queue = s.ctr.queue := (takeReport_part_keeps s .queue rfl)
@[simp] theorem takeReport_garage (s : State) : (State.takeReport s).ctr.garage = s.ctr.garage := (takeReport_part_keeps s .garage rfl)
@[simp] theorem takeReport_uphill (s : State) : (State.takeReport s).ctr.uphill = s.ctr.uphill := (takeReport_part_keeps s .lines rfl).1
@[simp] theorem takeReport_downhill (s : State) : (State.takeReport s).ctr.downhill = s.ctr.downhill := (takeReport_part_keeps s .lines rfl).2
@[simp] theorem takeReport_summit (s : State) : (State.takeReport s).ctr.summit = s.ctr.summit := (takeReport_part_keeps s .sets rfl).1
@[simp] theorem takeReport_unlocated (s : State) : (State.takeReport s).ctr.unlocated = s.ctr.unlocated := (takeReport_part_keeps s .sets rfl).2
@[simp] theorem takeReport_track (s : State) : (State.takeReport s).ctr.rest = s.ctr.rest := (takeReport_part_keeps s .track rfl)
@[simp] theorem takeReport_safety (s : State) : (State.takeReport s).tst.safety = s.tst.safety := (takeReport_part_keeps s .tables rfl).1
@[simp] theorem takeReport_operations (s : State) : (State.takeReport s).tst.operations = s.tst.operations := (takeReport_part_keeps s .tables rfl).2.1
@[simp] theorem takeReport_fleetValid (s : State) : (State.takeReport s).tst.fleetValid = s.tst.fleetValid := (takeReport_part_keeps s .tables rfl).2.2
@[simp] theorem takeReport_stageSafety (s : State) : (State.takeReport s).tst.stageSafety = s.tst.stageSafety := (takeReport_part_keeps s .staging rfl).1
@[simp] theorem takeReport_safetyChanged (s : State) : (State.takeReport s).tst.safetyChanged = s.tst.safetyChanged := (takeReport_part_keeps s .staging rfl).2.1
@[simp] theorem takeReport_stageOperations (s : State) : (State.takeReport s).tst.stageOperations = s.tst.stageOperations := (takeReport_part_keeps s .staging rfl).2.2.1
@[simp] theorem takeReport_operationsChanged (s : State) : (State.takeReport s).tst.operationsChanged = s.tst.operationsChanged := (takeReport_part_keeps s .staging rfl).2.2.2
@[simp] theorem takeReport_write (s : State) : (State.takeReport s).tst.write = s.tst.write := (takeReport_part_keeps s .write rfl).1
@[simp] theorem takeReport_invalidationQueued (s : State) : (State.takeReport s).tst.invalidationQueued = s.tst.invalidationQueued := (takeReport_part_keeps s .write rfl).2
@[simp] theorem takeReport_lockedToPowerCycle (s : State) : (State.takeReport s).tst.lockedToPowerCycle = s.tst.lockedToPowerCycle := (takeReport_part_keeps s .lock rfl)
@[simp] theorem takeReport_restart (s : State) : (State.takeReport s).tst.restart = s.tst.restart := (takeReport_part_keeps s .restart rfl)

theorem transmit_part_keeps (s : State) (p : Part) (hp : Nat.testBit 8192 p.num = false) : p.same s (State.transmit s) :=
  (State.transmit_does  (Does.refl 8192 s) rfl).1 p hp

@[simp] theorem transmit_pins (s : State) : (State.transmit s).pins = s.pins := (transmit_part_keeps s .pins rfl)
@[simp] theorem transmit_registry (s : State) : (State.transmit s).registry = s.registry := (transmit_part_keeps s .registry rfl)
@[simp] theorem transmit_rpu (s : State) : (State.transmit s).rpu = s.rpu := (transmit_part_keeps s .rpu rfl)
@[simp] theorem transmit_lgt (s : State) : (State.transmit s).lgt = s.lgt := (transmit_part_keeps s .lgt rfl)
@[simp] theorem transmit_dsq (s : State) : (State.transmit s).dsq = s.dsq := (transmit_part_keeps s .dsq rfl)
@[simp] theorem transmit_rmn (s : State) : (State.transmit s).rmn = s.rmn := (transmit_part_keeps s .rmn rfl)
@[simp] theorem transmit_icm (s : State) : (State.transmit s).icm = s.icm := (transmit_part_keeps s .icm rfl)
@[simp] theorem transmit_rng (s : State) : (State.transmit s).rng = s.rng := (transmit_part_keeps s .rng rfl)
@[simp] theorem transmit_tmb (s : State) : (State.transmit s).tmb = s.tmb := (transmit_part_keeps s .tmb rfl)
@[simp] theorem transmit_store (s : State) : (State.transmit s).store = s.store := (transmit_part_keeps s .store rfl)
@[simp] theorem transmit_free (s : State) : (State.transmit s).free = s.free := (transmit_part_keeps s .free rfl)
@[simp] theorem transmit_ctr (s : State) : (State.transmit s).ctr = s.ctr := ctr_eq (transmit_part_keeps s .queue rfl) (transmit_part_keeps s .garage rfl) (transmit_part_keeps s .lines rfl) (transmit_part_keeps s .sets rfl) (transmit_part_keeps s .slots rfl) (transmit_part_keeps s .track rfl)
@[simp] theorem transmit_safety (s : State) : (State.transmit s).tst.safety = s.tst.safety := (transmit_part_keeps s .tables rfl).1
@[simp] theorem transmit_operations (s : State) : (State.transmit s).tst.operations = s.tst.operations := (transmit_part_keeps s .tables rfl).2.1
@[simp] theorem transmit_fleetValid (s : State) : (State.transmit s).tst.fleetValid = s.tst.fleetValid := (transmit_part_keeps s .tables rfl).2.2
@[simp] theorem transmit_stageSafety (s : State) : (State.transmit s).tst.stageSafety = s.tst.stageSafety := (transmit_part_keeps s .staging rfl).1
@[simp] theorem transmit_safetyChanged (s : State) : (State.transmit s).tst.safetyChanged = s.tst.safetyChanged := (transmit_part_keeps s .staging rfl).2.1
@[simp] theorem transmit_stageOperations (s : State) : (State.transmit s).tst.stageOperations = s.tst.stageOperations := (transmit_part_keeps s .staging rfl).2.2.1
@[simp] theorem transmit_operationsChanged (s : State) : (State.transmit s).tst.operationsChanged = s.tst.operationsChanged := (transmit_part_keeps s .staging rfl).2.2.2
@[simp] theorem transmit_write (s : State) : (State.transmit s).tst.write = s.tst.write := (transmit_part_keeps s .write rfl).1
@[simp] theorem transmit_invalidationQueued (s : State) : (State.transmit s).tst.invalidationQueued = s.tst.invalidationQueued := (transmit_part_keeps s .write rfl).2
@[simp] theorem transmit_lockedToPowerCycle (s : State) : (State.transmit s).tst.lockedToPowerCycle = s.tst.lockedToPowerCycle := (transmit_part_keeps s .lock rfl)
@[simp] theorem transmit_restart (s : State) : (State.transmit s).tst.restart = s.tst.restart := (transmit_part_keeps s .restart rfl)

theorem staleIf_part_keeps (s : State) (before : State) (p : Part) (hp : Nat.testBit 524288 p.num = false) : p.same s (State.staleIf s before) :=
  (State.staleIf_does before (Does.refl 524288 s) rfl).1 p hp

@[simp] theorem staleIf_pins (s : State) (before : State) : (State.staleIf s before).pins = s.pins := (staleIf_part_keeps s before .pins rfl)
@[simp] theorem staleIf_registry (s : State) (before : State) : (State.staleIf s before).registry = s.registry := (staleIf_part_keeps s before .registry rfl)
@[simp] theorem staleIf_rpu (s : State) (before : State) : (State.staleIf s before).rpu = s.rpu := (staleIf_part_keeps s before .rpu rfl)
@[simp] theorem staleIf_lgt (s : State) (before : State) : (State.staleIf s before).lgt = s.lgt := (staleIf_part_keeps s before .lgt rfl)
@[simp] theorem staleIf_dsq (s : State) (before : State) : (State.staleIf s before).dsq = s.dsq := (staleIf_part_keeps s before .dsq rfl)
@[simp] theorem staleIf_rmn (s : State) (before : State) : (State.staleIf s before).rmn = s.rmn := (staleIf_part_keeps s before .rmn rfl)
@[simp] theorem staleIf_slk (s : State) (before : State) : (State.staleIf s before).slk = s.slk := (staleIf_part_keeps s before .slk rfl)
@[simp] theorem staleIf_icm (s : State) (before : State) : (State.staleIf s before).icm = s.icm := (staleIf_part_keeps s before .icm rfl)
@[simp] theorem staleIf_rng (s : State) (before : State) : (State.staleIf s before).rng = s.rng := (staleIf_part_keeps s before .rng rfl)
@[simp] theorem staleIf_tmb (s : State) (before : State) : (State.staleIf s before).tmb = s.tmb := (staleIf_part_keeps s before .tmb rfl)
@[simp] theorem staleIf_store (s : State) (before : State) : (State.staleIf s before).store = s.store := (staleIf_part_keeps s before .store rfl)
@[simp] theorem staleIf_free (s : State) (before : State) : (State.staleIf s before).free = s.free := (staleIf_part_keeps s before .free rfl)
@[simp] theorem staleIf_ctr (s : State) (before : State) : (State.staleIf s before).ctr = s.ctr := ctr_eq (staleIf_part_keeps s before .queue rfl) (staleIf_part_keeps s before .garage rfl) (staleIf_part_keeps s before .lines rfl) (staleIf_part_keeps s before .sets rfl) (staleIf_part_keeps s before .slots rfl) (staleIf_part_keeps s before .track rfl)
@[simp] theorem staleIf_safety (s : State) (before : State) : (State.staleIf s before).tst.safety = s.tst.safety := (staleIf_part_keeps s before .tables rfl).1
@[simp] theorem staleIf_operations (s : State) (before : State) : (State.staleIf s before).tst.operations = s.tst.operations := (staleIf_part_keeps s before .tables rfl).2.1
@[simp] theorem staleIf_fleetValid (s : State) (before : State) : (State.staleIf s before).tst.fleetValid = s.tst.fleetValid := (staleIf_part_keeps s before .tables rfl).2.2
@[simp] theorem staleIf_stageSafety (s : State) (before : State) : (State.staleIf s before).tst.stageSafety = s.tst.stageSafety := (staleIf_part_keeps s before .staging rfl).1
@[simp] theorem staleIf_safetyChanged (s : State) (before : State) : (State.staleIf s before).tst.safetyChanged = s.tst.safetyChanged := (staleIf_part_keeps s before .staging rfl).2.1
@[simp] theorem staleIf_stageOperations (s : State) (before : State) : (State.staleIf s before).tst.stageOperations = s.tst.stageOperations := (staleIf_part_keeps s before .staging rfl).2.2.1
@[simp] theorem staleIf_operationsChanged (s : State) (before : State) : (State.staleIf s before).tst.operationsChanged = s.tst.operationsChanged := (staleIf_part_keeps s before .staging rfl).2.2.2
@[simp] theorem staleIf_lockedToPowerCycle (s : State) (before : State) : (State.staleIf s before).tst.lockedToPowerCycle = s.tst.lockedToPowerCycle := (staleIf_part_keeps s before .lock rfl)
@[simp] theorem staleIf_restart (s : State) (before : State) : (State.staleIf s before).tst.restart = s.tst.restart := (staleIf_part_keeps s before .restart rfl)

theorem countChanges_part_keeps (s : State) (before : State) (p : Part) (hp : Nat.testBit 4194304 p.num = false) : p.same s (s.countChanges before) :=
  (State.countChanges_does before (Does.refl 4194304 s) rfl).1 p hp

@[simp] theorem countChanges_pins (s : State) (before : State) : (s.countChanges before).pins = s.pins := (countChanges_part_keeps s before .pins rfl)
@[simp] theorem countChanges_registry (s : State) (before : State) : (s.countChanges before).registry = s.registry := (countChanges_part_keeps s before .registry rfl)
@[simp] theorem countChanges_rpu (s : State) (before : State) : (s.countChanges before).rpu = s.rpu := (countChanges_part_keeps s before .rpu rfl)
@[simp] theorem countChanges_lgt (s : State) (before : State) : (s.countChanges before).lgt = s.lgt := (countChanges_part_keeps s before .lgt rfl)
@[simp] theorem countChanges_dsq (s : State) (before : State) : (s.countChanges before).dsq = s.dsq := (countChanges_part_keeps s before .dsq rfl)
@[simp] theorem countChanges_rmn (s : State) (before : State) : (s.countChanges before).rmn = s.rmn := (countChanges_part_keeps s before .rmn rfl)
@[simp] theorem countChanges_slk (s : State) (before : State) : (s.countChanges before).slk = s.slk := (countChanges_part_keeps s before .slk rfl)
@[simp] theorem countChanges_icm (s : State) (before : State) : (s.countChanges before).icm = s.icm := (countChanges_part_keeps s before .icm rfl)
@[simp] theorem countChanges_rng (s : State) (before : State) : (s.countChanges before).rng = s.rng := (countChanges_part_keeps s before .rng rfl)
@[simp] theorem countChanges_tmb (s : State) (before : State) : (s.countChanges before).tmb = s.tmb := (countChanges_part_keeps s before .tmb rfl)
@[simp] theorem countChanges_store (s : State) (before : State) : (s.countChanges before).store = s.store := (countChanges_part_keeps s before .store rfl)
@[simp] theorem countChanges_free (s : State) (before : State) : (s.countChanges before).free = s.free := (countChanges_part_keeps s before .free rfl)
@[simp] theorem countChanges_ctr (s : State) (before : State) : (s.countChanges before).ctr = s.ctr := ctr_eq (countChanges_part_keeps s before .queue rfl) (countChanges_part_keeps s before .garage rfl) (countChanges_part_keeps s before .lines rfl) (countChanges_part_keeps s before .sets rfl) (countChanges_part_keeps s before .slots rfl) (countChanges_part_keeps s before .track rfl)
@[simp] theorem countChanges_safety (s : State) (before : State) : (s.countChanges before).tst.safety = s.tst.safety := (countChanges_part_keeps s before .tables rfl).1
@[simp] theorem countChanges_operations (s : State) (before : State) : (s.countChanges before).tst.operations = s.tst.operations := (countChanges_part_keeps s before .tables rfl).2.1
@[simp] theorem countChanges_fleetValid (s : State) (before : State) : (s.countChanges before).tst.fleetValid = s.tst.fleetValid := (countChanges_part_keeps s before .tables rfl).2.2
@[simp] theorem countChanges_stageSafety (s : State) (before : State) : (s.countChanges before).tst.stageSafety = s.tst.stageSafety := (countChanges_part_keeps s before .staging rfl).1
@[simp] theorem countChanges_safetyChanged (s : State) (before : State) : (s.countChanges before).tst.safetyChanged = s.tst.safetyChanged := (countChanges_part_keeps s before .staging rfl).2.1
@[simp] theorem countChanges_stageOperations (s : State) (before : State) : (s.countChanges before).tst.stageOperations = s.tst.stageOperations := (countChanges_part_keeps s before .staging rfl).2.2.1
@[simp] theorem countChanges_operationsChanged (s : State) (before : State) : (s.countChanges before).tst.operationsChanged = s.tst.operationsChanged := (countChanges_part_keeps s before .staging rfl).2.2.2
@[simp] theorem countChanges_write (s : State) (before : State) : (s.countChanges before).tst.write = s.tst.write := (countChanges_part_keeps s before .write rfl).1
@[simp] theorem countChanges_invalidationQueued (s : State) (before : State) : (s.countChanges before).tst.invalidationQueued = s.tst.invalidationQueued := (countChanges_part_keeps s before .write rfl).2
@[simp] theorem countChanges_lockedToPowerCycle (s : State) (before : State) : (s.countChanges before).tst.lockedToPowerCycle = s.tst.lockedToPowerCycle := (countChanges_part_keeps s before .lock rfl)
@[simp] theorem countChanges_restart (s : State) (before : State) : (s.countChanges before).tst.restart = s.tst.restart := (countChanges_part_keeps s before .restart rfl)

theorem settle_part_keeps (s : State) (before : State) (p : Part) (hp : Nat.testBit 4842000 p.num = false) : p.same s (s.settle before) :=
  (State.settle_does before (Does.refl 4842000 s) rfl).1 p hp

@[simp] theorem settle_pins (s : State) (before : State) : (s.settle before).pins = s.pins := (settle_part_keeps s before .pins rfl)
@[simp] theorem settle_registry (s : State) (before : State) : (s.settle before).registry = s.registry := (settle_part_keeps s before .registry rfl)
@[simp] theorem settle_rpu (s : State) (before : State) : (s.settle before).rpu = s.rpu := (settle_part_keeps s before .rpu rfl)
@[simp] theorem settle_dsq (s : State) (before : State) : (s.settle before).dsq = s.dsq := (settle_part_keeps s before .dsq rfl)
@[simp] theorem settle_rmn (s : State) (before : State) : (s.settle before).rmn = s.rmn := (settle_part_keeps s before .rmn rfl)
@[simp] theorem settle_tmb (s : State) (before : State) : (s.settle before).tmb = s.tmb := (settle_part_keeps s before .tmb rfl)
@[simp] theorem settle_store (s : State) (before : State) : (s.settle before).store = s.store := (settle_part_keeps s before .store rfl)
@[simp] theorem settle_free (s : State) (before : State) : (s.settle before).free = s.free := (settle_part_keeps s before .free rfl)
@[simp] theorem settle_queue (s : State) (before : State) : (s.settle before).ctr.queue = s.ctr.queue := (settle_part_keeps s before .queue rfl)
@[simp] theorem settle_garage (s : State) (before : State) : (s.settle before).ctr.garage = s.ctr.garage := (settle_part_keeps s before .garage rfl)
@[simp] theorem settle_uphill (s : State) (before : State) : (s.settle before).ctr.uphill = s.ctr.uphill := (settle_part_keeps s before .lines rfl).1
@[simp] theorem settle_downhill (s : State) (before : State) : (s.settle before).ctr.downhill = s.ctr.downhill := (settle_part_keeps s before .lines rfl).2
@[simp] theorem settle_summit (s : State) (before : State) : (s.settle before).ctr.summit = s.ctr.summit := (settle_part_keeps s before .sets rfl).1
@[simp] theorem settle_unlocated (s : State) (before : State) : (s.settle before).ctr.unlocated = s.ctr.unlocated := (settle_part_keeps s before .sets rfl).2
@[simp] theorem settle_track (s : State) (before : State) : (s.settle before).ctr.rest = s.ctr.rest := (settle_part_keeps s before .track rfl)
@[simp] theorem settle_safety (s : State) (before : State) : (s.settle before).tst.safety = s.tst.safety := (settle_part_keeps s before .tables rfl).1
@[simp] theorem settle_operations (s : State) (before : State) : (s.settle before).tst.operations = s.tst.operations := (settle_part_keeps s before .tables rfl).2.1
@[simp] theorem settle_fleetValid (s : State) (before : State) : (s.settle before).tst.fleetValid = s.tst.fleetValid := (settle_part_keeps s before .tables rfl).2.2
@[simp] theorem settle_stageSafety (s : State) (before : State) : (s.settle before).tst.stageSafety = s.tst.stageSafety := (settle_part_keeps s before .staging rfl).1
@[simp] theorem settle_safetyChanged (s : State) (before : State) : (s.settle before).tst.safetyChanged = s.tst.safetyChanged := (settle_part_keeps s before .staging rfl).2.1
@[simp] theorem settle_stageOperations (s : State) (before : State) : (s.settle before).tst.stageOperations = s.tst.stageOperations := (settle_part_keeps s before .staging rfl).2.2.1
@[simp] theorem settle_operationsChanged (s : State) (before : State) : (s.settle before).tst.operationsChanged = s.tst.operationsChanged := (settle_part_keeps s before .staging rfl).2.2.2
@[simp] theorem settle_lockedToPowerCycle (s : State) (before : State) : (s.settle before).tst.lockedToPowerCycle = s.tst.lockedToPowerCycle := (settle_part_keeps s before .lock rfl)
@[simp] theorem settle_restart (s : State) (before : State) : (s.settle before).tst.restart = s.tst.restart := (settle_part_keeps s before .restart rfl)

theorem withdrawRelease_part_keeps (s : State) (late : Bool) (p : Part) (hp : Nat.testBit 4260368 p.num = false) : p.same s (State.withdrawRelease s late) :=
  (State.withdrawRelease_does late (Does.refl 4260368 s) rfl).1 p hp

@[simp] theorem withdrawRelease_pins (s : State) (late : Bool) : (State.withdrawRelease s late).pins = s.pins := (withdrawRelease_part_keeps s late .pins rfl)
@[simp] theorem withdrawRelease_registry (s : State) (late : Bool) : (State.withdrawRelease s late).registry = s.registry := (withdrawRelease_part_keeps s late .registry rfl)
@[simp] theorem withdrawRelease_rpu (s : State) (late : Bool) : (State.withdrawRelease s late).rpu = s.rpu := (withdrawRelease_part_keeps s late .rpu rfl)
@[simp] theorem withdrawRelease_dsq (s : State) (late : Bool) : (State.withdrawRelease s late).dsq = s.dsq := (withdrawRelease_part_keeps s late .dsq rfl)
@[simp] theorem withdrawRelease_rmn (s : State) (late : Bool) : (State.withdrawRelease s late).rmn = s.rmn := (withdrawRelease_part_keeps s late .rmn rfl)
@[simp] theorem withdrawRelease_slk (s : State) (late : Bool) : (State.withdrawRelease s late).slk = s.slk := (withdrawRelease_part_keeps s late .slk rfl)
@[simp] theorem withdrawRelease_icm (s : State) (late : Bool) : (State.withdrawRelease s late).icm = s.icm := (withdrawRelease_part_keeps s late .icm rfl)
@[simp] theorem withdrawRelease_stc (s : State) (late : Bool) : (State.withdrawRelease s late).stc = s.stc := (withdrawRelease_part_keeps s late .stc rfl)
@[simp] theorem withdrawRelease_tmb (s : State) (late : Bool) : (State.withdrawRelease s late).tmb = s.tmb := (withdrawRelease_part_keeps s late .tmb rfl)
@[simp] theorem withdrawRelease_store (s : State) (late : Bool) : (State.withdrawRelease s late).store = s.store := (withdrawRelease_part_keeps s late .store rfl)
@[simp] theorem withdrawRelease_free (s : State) (late : Bool) : (State.withdrawRelease s late).free = s.free := (withdrawRelease_part_keeps s late .free rfl)
@[simp] theorem withdrawRelease_queue (s : State) (late : Bool) : (State.withdrawRelease s late).ctr.queue = s.ctr.queue := (withdrawRelease_part_keeps s late .queue rfl)
@[simp] theorem withdrawRelease_garage (s : State) (late : Bool) : (State.withdrawRelease s late).ctr.garage = s.ctr.garage := (withdrawRelease_part_keeps s late .garage rfl)
@[simp] theorem withdrawRelease_uphill (s : State) (late : Bool) : (State.withdrawRelease s late).ctr.uphill = s.ctr.uphill := (withdrawRelease_part_keeps s late .lines rfl).1
@[simp] theorem withdrawRelease_downhill (s : State) (late : Bool) : (State.withdrawRelease s late).ctr.downhill = s.ctr.downhill := (withdrawRelease_part_keeps s late .lines rfl).2
@[simp] theorem withdrawRelease_summit (s : State) (late : Bool) : (State.withdrawRelease s late).ctr.summit = s.ctr.summit := (withdrawRelease_part_keeps s late .sets rfl).1
@[simp] theorem withdrawRelease_unlocated (s : State) (late : Bool) : (State.withdrawRelease s late).ctr.unlocated = s.ctr.unlocated := (withdrawRelease_part_keeps s late .sets rfl).2
@[simp] theorem withdrawRelease_track (s : State) (late : Bool) : (State.withdrawRelease s late).ctr.rest = s.ctr.rest := (withdrawRelease_part_keeps s late .track rfl)
@[simp] theorem withdrawRelease_safety (s : State) (late : Bool) : (State.withdrawRelease s late).tst.safety = s.tst.safety := (withdrawRelease_part_keeps s late .tables rfl).1
@[simp] theorem withdrawRelease_operations (s : State) (late : Bool) : (State.withdrawRelease s late).tst.operations = s.tst.operations := (withdrawRelease_part_keeps s late .tables rfl).2.1
@[simp] theorem withdrawRelease_fleetValid (s : State) (late : Bool) : (State.withdrawRelease s late).tst.fleetValid = s.tst.fleetValid := (withdrawRelease_part_keeps s late .tables rfl).2.2
@[simp] theorem withdrawRelease_stageSafety (s : State) (late : Bool) : (State.withdrawRelease s late).tst.stageSafety = s.tst.stageSafety := (withdrawRelease_part_keeps s late .staging rfl).1
@[simp] theorem withdrawRelease_safetyChanged (s : State) (late : Bool) : (State.withdrawRelease s late).tst.safetyChanged = s.tst.safetyChanged := (withdrawRelease_part_keeps s late .staging rfl).2.1
@[simp] theorem withdrawRelease_stageOperations (s : State) (late : Bool) : (State.withdrawRelease s late).tst.stageOperations = s.tst.stageOperations := (withdrawRelease_part_keeps s late .staging rfl).2.2.1
@[simp] theorem withdrawRelease_operationsChanged (s : State) (late : Bool) : (State.withdrawRelease s late).tst.operationsChanged = s.tst.operationsChanged := (withdrawRelease_part_keeps s late .staging rfl).2.2.2
@[simp] theorem withdrawRelease_write (s : State) (late : Bool) : (State.withdrawRelease s late).tst.write = s.tst.write := (withdrawRelease_part_keeps s late .write rfl).1
@[simp] theorem withdrawRelease_invalidationQueued (s : State) (late : Bool) : (State.withdrawRelease s late).tst.invalidationQueued = s.tst.invalidationQueued := (withdrawRelease_part_keeps s late .write rfl).2
@[simp] theorem withdrawRelease_lockedToPowerCycle (s : State) (late : Bool) : (State.withdrawRelease s late).tst.lockedToPowerCycle = s.tst.lockedToPowerCycle := (withdrawRelease_part_keeps s late .lock rfl)
@[simp] theorem withdrawRelease_restart (s : State) (late : Bool) : (State.withdrawRelease s late).tst.restart = s.tst.restart := (withdrawRelease_part_keeps s late .restart rfl)

theorem reportHead_part_keeps (s : State) (p : Part) (hp : Nat.testBit 4293136 p.num = false) : p.same s (State.reportHead s) :=
  (State.reportHead_does  (Does.refl 4293136 s) rfl).1 p hp

@[simp] theorem reportHead_pins (s : State) : (State.reportHead s).pins = s.pins := (reportHead_part_keeps s .pins rfl)
@[simp] theorem reportHead_registry (s : State) : (State.reportHead s).registry = s.registry := (reportHead_part_keeps s .registry rfl)
@[simp] theorem reportHead_rpu (s : State) : (State.reportHead s).rpu = s.rpu := (reportHead_part_keeps s .rpu rfl)
@[simp] theorem reportHead_dsq (s : State) : (State.reportHead s).dsq = s.dsq := (reportHead_part_keeps s .dsq rfl)
@[simp] theorem reportHead_rmn (s : State) : (State.reportHead s).rmn = s.rmn := (reportHead_part_keeps s .rmn rfl)
@[simp] theorem reportHead_slk (s : State) : (State.reportHead s).slk = s.slk := (reportHead_part_keeps s .slk rfl)
@[simp] theorem reportHead_icm (s : State) : (State.reportHead s).icm = s.icm := (reportHead_part_keeps s .icm rfl)
@[simp] theorem reportHead_tmb (s : State) : (State.reportHead s).tmb = s.tmb := (reportHead_part_keeps s .tmb rfl)
@[simp] theorem reportHead_store (s : State) : (State.reportHead s).store = s.store := (reportHead_part_keeps s .store rfl)
@[simp] theorem reportHead_free (s : State) : (State.reportHead s).free = s.free := (reportHead_part_keeps s .free rfl)
@[simp] theorem reportHead_queue (s : State) : (State.reportHead s).ctr.queue = s.ctr.queue := (reportHead_part_keeps s .queue rfl)
@[simp] theorem reportHead_garage (s : State) : (State.reportHead s).ctr.garage = s.ctr.garage := (reportHead_part_keeps s .garage rfl)
@[simp] theorem reportHead_uphill (s : State) : (State.reportHead s).ctr.uphill = s.ctr.uphill := (reportHead_part_keeps s .lines rfl).1
@[simp] theorem reportHead_downhill (s : State) : (State.reportHead s).ctr.downhill = s.ctr.downhill := (reportHead_part_keeps s .lines rfl).2
@[simp] theorem reportHead_summit (s : State) : (State.reportHead s).ctr.summit = s.ctr.summit := (reportHead_part_keeps s .sets rfl).1
@[simp] theorem reportHead_unlocated (s : State) : (State.reportHead s).ctr.unlocated = s.ctr.unlocated := (reportHead_part_keeps s .sets rfl).2
@[simp] theorem reportHead_track (s : State) : (State.reportHead s).ctr.rest = s.ctr.rest := (reportHead_part_keeps s .track rfl)
@[simp] theorem reportHead_safety (s : State) : (State.reportHead s).tst.safety = s.tst.safety := (reportHead_part_keeps s .tables rfl).1
@[simp] theorem reportHead_operations (s : State) : (State.reportHead s).tst.operations = s.tst.operations := (reportHead_part_keeps s .tables rfl).2.1
@[simp] theorem reportHead_fleetValid (s : State) : (State.reportHead s).tst.fleetValid = s.tst.fleetValid := (reportHead_part_keeps s .tables rfl).2.2
@[simp] theorem reportHead_stageSafety (s : State) : (State.reportHead s).tst.stageSafety = s.tst.stageSafety := (reportHead_part_keeps s .staging rfl).1
@[simp] theorem reportHead_safetyChanged (s : State) : (State.reportHead s).tst.safetyChanged = s.tst.safetyChanged := (reportHead_part_keeps s .staging rfl).2.1
@[simp] theorem reportHead_stageOperations (s : State) : (State.reportHead s).tst.stageOperations = s.tst.stageOperations := (reportHead_part_keeps s .staging rfl).2.2.1
@[simp] theorem reportHead_operationsChanged (s : State) : (State.reportHead s).tst.operationsChanged = s.tst.operationsChanged := (reportHead_part_keeps s .staging rfl).2.2.2
@[simp] theorem reportHead_write (s : State) : (State.reportHead s).tst.write = s.tst.write := (reportHead_part_keeps s .write rfl).1
@[simp] theorem reportHead_invalidationQueued (s : State) : (State.reportHead s).tst.invalidationQueued = s.tst.invalidationQueued := (reportHead_part_keeps s .write rfl).2
@[simp] theorem reportHead_lockedToPowerCycle (s : State) : (State.reportHead s).tst.lockedToPowerCycle = s.tst.lockedToPowerCycle := (reportHead_part_keeps s .lock rfl)
@[simp] theorem reportHead_restart (s : State) : (State.reportHead s).tst.restart = s.tst.restart := (reportHead_part_keeps s .restart rfl)

theorem launchUpdate_part_keeps (s : State) (p : Part) (hp : Nat.testBit 4293168 p.num = false) : p.same s (State.launchUpdate s) :=
  (State.launchUpdate_does  (Does.refl 4293168 s) rfl).1 p hp

@[simp] theorem launchUpdate_pins (s : State) : (State.launchUpdate s).pins = s.pins := (launchUpdate_part_keeps s .pins rfl)
@[simp] theorem launchUpdate_registry (s : State) : (State.launchUpdate s).registry = s.registry := (launchUpdate_part_keeps s .registry rfl)
@[simp] theorem launchUpdate_rpu (s : State) : (State.launchUpdate s).rpu = s.rpu := (launchUpdate_part_keeps s .rpu rfl)
@[simp] theorem launchUpdate_dsq (s : State) : (State.launchUpdate s).dsq = s.dsq := (launchUpdate_part_keeps s .dsq rfl)
@[simp] theorem launchUpdate_rmn (s : State) : (State.launchUpdate s).rmn = s.rmn := (launchUpdate_part_keeps s .rmn rfl)
@[simp] theorem launchUpdate_slk (s : State) : (State.launchUpdate s).slk = s.slk := (launchUpdate_part_keeps s .slk rfl)
@[simp] theorem launchUpdate_icm (s : State) : (State.launchUpdate s).icm = s.icm := (launchUpdate_part_keeps s .icm rfl)
@[simp] theorem launchUpdate_tmb (s : State) : (State.launchUpdate s).tmb = s.tmb := (launchUpdate_part_keeps s .tmb rfl)
@[simp] theorem launchUpdate_store (s : State) : (State.launchUpdate s).store = s.store := (launchUpdate_part_keeps s .store rfl)
@[simp] theorem launchUpdate_free (s : State) : (State.launchUpdate s).free = s.free := (launchUpdate_part_keeps s .free rfl)
@[simp] theorem launchUpdate_garage (s : State) : (State.launchUpdate s).ctr.garage = s.ctr.garage := (launchUpdate_part_keeps s .garage rfl)
@[simp] theorem launchUpdate_uphill (s : State) : (State.launchUpdate s).ctr.uphill = s.ctr.uphill := (launchUpdate_part_keeps s .lines rfl).1
@[simp] theorem launchUpdate_downhill (s : State) : (State.launchUpdate s).ctr.downhill = s.ctr.downhill := (launchUpdate_part_keeps s .lines rfl).2
@[simp] theorem launchUpdate_summit (s : State) : (State.launchUpdate s).ctr.summit = s.ctr.summit := (launchUpdate_part_keeps s .sets rfl).1
@[simp] theorem launchUpdate_unlocated (s : State) : (State.launchUpdate s).ctr.unlocated = s.ctr.unlocated := (launchUpdate_part_keeps s .sets rfl).2
@[simp] theorem launchUpdate_track (s : State) : (State.launchUpdate s).ctr.rest = s.ctr.rest := (launchUpdate_part_keeps s .track rfl)
@[simp] theorem launchUpdate_safety (s : State) : (State.launchUpdate s).tst.safety = s.tst.safety := (launchUpdate_part_keeps s .tables rfl).1
@[simp] theorem launchUpdate_operations (s : State) : (State.launchUpdate s).tst.operations = s.tst.operations := (launchUpdate_part_keeps s .tables rfl).2.1
@[simp] theorem launchUpdate_fleetValid (s : State) : (State.launchUpdate s).tst.fleetValid = s.tst.fleetValid := (launchUpdate_part_keeps s .tables rfl).2.2
@[simp] theorem launchUpdate_stageSafety (s : State) : (State.launchUpdate s).tst.stageSafety = s.tst.stageSafety := (launchUpdate_part_keeps s .staging rfl).1
@[simp] theorem launchUpdate_safetyChanged (s : State) : (State.launchUpdate s).tst.safetyChanged = s.tst.safetyChanged := (launchUpdate_part_keeps s .staging rfl).2.1
@[simp] theorem launchUpdate_stageOperations (s : State) : (State.launchUpdate s).tst.stageOperations = s.tst.stageOperations := (launchUpdate_part_keeps s .staging rfl).2.2.1
@[simp] theorem launchUpdate_operationsChanged (s : State) : (State.launchUpdate s).tst.operationsChanged = s.tst.operationsChanged := (launchUpdate_part_keeps s .staging rfl).2.2.2
@[simp] theorem launchUpdate_write (s : State) : (State.launchUpdate s).tst.write = s.tst.write := (launchUpdate_part_keeps s .write rfl).1
@[simp] theorem launchUpdate_invalidationQueued (s : State) : (State.launchUpdate s).tst.invalidationQueued = s.tst.invalidationQueued := (launchUpdate_part_keeps s .write rfl).2
@[simp] theorem launchUpdate_lockedToPowerCycle (s : State) : (State.launchUpdate s).tst.lockedToPowerCycle = s.tst.lockedToPowerCycle := (launchUpdate_part_keeps s .lock rfl)
@[simp] theorem launchUpdate_restart (s : State) : (State.launchUpdate s).tst.restart = s.tst.restart := (launchUpdate_part_keeps s .restart rfl)

theorem trackUpdate_part_keeps (s : State) (p : Part) (hp : Nat.testBit 4292612 p.num = false) : p.same s (State.trackUpdate s) :=
  (State.trackUpdate_does  (Does.refl 4292612 s) rfl).1 p hp

@[simp] theorem trackUpdate_pins (s : State) : (State.trackUpdate s).pins = s.pins := (trackUpdate_part_keeps s .pins rfl)
@[simp] theorem trackUpdate_rpu (s : State) : (State.trackUpdate s).rpu = s.rpu := (trackUpdate_part_keeps s .rpu rfl)
@[simp] theorem trackUpdate_lgt (s : State) : (State.trackUpdate s).lgt = s.lgt := (trackUpdate_part_keeps s .lgt rfl)
@[simp] theorem trackUpdate_dsq (s : State) : (State.trackUpdate s).dsq = s.dsq := (trackUpdate_part_keeps s .dsq rfl)
@[simp] theorem trackUpdate_rmn (s : State) : (State.trackUpdate s).rmn = s.rmn := (trackUpdate_part_keeps s .rmn rfl)
@[simp] theorem trackUpdate_slk (s : State) : (State.trackUpdate s).slk = s.slk := (trackUpdate_part_keeps s .slk rfl)
@[simp] theorem trackUpdate_icm (s : State) : (State.trackUpdate s).icm = s.icm := (trackUpdate_part_keeps s .icm rfl)
@[simp] theorem trackUpdate_tmb (s : State) : (State.trackUpdate s).tmb = s.tmb := (trackUpdate_part_keeps s .tmb rfl)
@[simp] theorem trackUpdate_store (s : State) : (State.trackUpdate s).store = s.store := (trackUpdate_part_keeps s .store rfl)
@[simp] theorem trackUpdate_free (s : State) : (State.trackUpdate s).free = s.free := (trackUpdate_part_keeps s .free rfl)
@[simp] theorem trackUpdate_ctr (s : State) : (State.trackUpdate s).ctr = s.ctr := ctr_eq (trackUpdate_part_keeps s .queue rfl) (trackUpdate_part_keeps s .garage rfl) (trackUpdate_part_keeps s .lines rfl) (trackUpdate_part_keeps s .sets rfl) (trackUpdate_part_keeps s .slots rfl) (trackUpdate_part_keeps s .track rfl)
@[simp] theorem trackUpdate_safety (s : State) : (State.trackUpdate s).tst.safety = s.tst.safety := (trackUpdate_part_keeps s .tables rfl).1
@[simp] theorem trackUpdate_operations (s : State) : (State.trackUpdate s).tst.operations = s.tst.operations := (trackUpdate_part_keeps s .tables rfl).2.1
@[simp] theorem trackUpdate_fleetValid (s : State) : (State.trackUpdate s).tst.fleetValid = s.tst.fleetValid := (trackUpdate_part_keeps s .tables rfl).2.2
@[simp] theorem trackUpdate_stageSafety (s : State) : (State.trackUpdate s).tst.stageSafety = s.tst.stageSafety := (trackUpdate_part_keeps s .staging rfl).1
@[simp] theorem trackUpdate_safetyChanged (s : State) : (State.trackUpdate s).tst.safetyChanged = s.tst.safetyChanged := (trackUpdate_part_keeps s .staging rfl).2.1
@[simp] theorem trackUpdate_stageOperations (s : State) : (State.trackUpdate s).tst.stageOperations = s.tst.stageOperations := (trackUpdate_part_keeps s .staging rfl).2.2.1
@[simp] theorem trackUpdate_operationsChanged (s : State) : (State.trackUpdate s).tst.operationsChanged = s.tst.operationsChanged := (trackUpdate_part_keeps s .staging rfl).2.2.2
@[simp] theorem trackUpdate_write (s : State) : (State.trackUpdate s).tst.write = s.tst.write := (trackUpdate_part_keeps s .write rfl).1
@[simp] theorem trackUpdate_invalidationQueued (s : State) : (State.trackUpdate s).tst.invalidationQueued = s.tst.invalidationQueued := (trackUpdate_part_keeps s .write rfl).2
@[simp] theorem trackUpdate_lockedToPowerCycle (s : State) : (State.trackUpdate s).tst.lockedToPowerCycle = s.tst.lockedToPowerCycle := (trackUpdate_part_keeps s .lock rfl)
@[simp] theorem trackUpdate_restart (s : State) : (State.trackUpdate s).tst.restart = s.tst.restart := (trackUpdate_part_keeps s .restart rfl)

theorem positionUpdate_part_keeps (s : State) (p : Part) (hp : Nat.testBit 4317756 p.num = false) : p.same s (State.positionUpdate s) :=
  (State.positionUpdate_does  (Does.refl 4317756 s) rfl).1 p hp

@[simp] theorem positionUpdate_pins (s : State) : (State.positionUpdate s).pins = s.pins := (positionUpdate_part_keeps s .pins rfl)
@[simp] theorem positionUpdate_dsq (s : State) : (State.positionUpdate s).dsq = s.dsq := (positionUpdate_part_keeps s .dsq rfl)
@[simp] theorem positionUpdate_rmn (s : State) : (State.positionUpdate s).rmn = s.rmn := (positionUpdate_part_keeps s .rmn rfl)
@[simp] theorem positionUpdate_tmb (s : State) : (State.positionUpdate s).tmb = s.tmb := (positionUpdate_part_keeps s .tmb rfl)
@[simp] theorem positionUpdate_store (s : State) : (State.positionUpdate s).store = s.store := (positionUpdate_part_keeps s .store rfl)
@[simp] theorem positionUpdate_free (s : State) : (State.positionUpdate s).free = s.free := (positionUpdate_part_keeps s .free rfl)
@[simp] theorem positionUpdate_garage (s : State) : (State.positionUpdate s).ctr.garage = s.ctr.garage := (positionUpdate_part_keeps s .garage rfl)
@[simp] theorem positionUpdate_uphill (s : State) : (State.positionUpdate s).ctr.uphill = s.ctr.uphill := (positionUpdate_part_keeps s .lines rfl).1
@[simp] theorem positionUpdate_downhill (s : State) : (State.positionUpdate s).ctr.downhill = s.ctr.downhill := (positionUpdate_part_keeps s .lines rfl).2
@[simp] theorem positionUpdate_summit (s : State) : (State.positionUpdate s).ctr.summit = s.ctr.summit := (positionUpdate_part_keeps s .sets rfl).1
@[simp] theorem positionUpdate_unlocated (s : State) : (State.positionUpdate s).ctr.unlocated = s.ctr.unlocated := (positionUpdate_part_keeps s .sets rfl).2
@[simp] theorem positionUpdate_track (s : State) : (State.positionUpdate s).ctr.rest = s.ctr.rest := (positionUpdate_part_keeps s .track rfl)
@[simp] theorem positionUpdate_safety (s : State) : (State.positionUpdate s).tst.safety = s.tst.safety := (positionUpdate_part_keeps s .tables rfl).1
@[simp] theorem positionUpdate_operations (s : State) : (State.positionUpdate s).tst.operations = s.tst.operations := (positionUpdate_part_keeps s .tables rfl).2.1
@[simp] theorem positionUpdate_fleetValid (s : State) : (State.positionUpdate s).tst.fleetValid = s.tst.fleetValid := (positionUpdate_part_keeps s .tables rfl).2.2
@[simp] theorem positionUpdate_stageSafety (s : State) : (State.positionUpdate s).tst.stageSafety = s.tst.stageSafety := (positionUpdate_part_keeps s .staging rfl).1
@[simp] theorem positionUpdate_safetyChanged (s : State) : (State.positionUpdate s).tst.safetyChanged = s.tst.safetyChanged := (positionUpdate_part_keeps s .staging rfl).2.1
@[simp] theorem positionUpdate_stageOperations (s : State) : (State.positionUpdate s).tst.stageOperations = s.tst.stageOperations := (positionUpdate_part_keeps s .staging rfl).2.2.1
@[simp] theorem positionUpdate_operationsChanged (s : State) : (State.positionUpdate s).tst.operationsChanged = s.tst.operationsChanged := (positionUpdate_part_keeps s .staging rfl).2.2.2
@[simp] theorem positionUpdate_write (s : State) : (State.positionUpdate s).tst.write = s.tst.write := (positionUpdate_part_keeps s .write rfl).1
@[simp] theorem positionUpdate_invalidationQueued (s : State) : (State.positionUpdate s).tst.invalidationQueued = s.tst.invalidationQueued := (positionUpdate_part_keeps s .write rfl).2
@[simp] theorem positionUpdate_lockedToPowerCycle (s : State) : (State.positionUpdate s).tst.lockedToPowerCycle = s.tst.lockedToPowerCycle := (positionUpdate_part_keeps s .lock rfl)
@[simp] theorem positionUpdate_restart (s : State) : (State.positionUpdate s).tst.restart = s.tst.restart := (positionUpdate_part_keeps s .restart rfl)

end Sys2Proof.Machine
end

