-- ==== Sys2Proof/Laws/Conditions.lean ====
section
/-!
SUPPORT. The condition of a cause: where it is held, and that STC's taking of a report and the end of a command leave it as
its owner judged it (R160).
-/

namespace Sys2Proof.Machine

/-- Causes have distinct numbers. -/
theorem Cause.num_inj {a b : Cause} (h : a.num = b.num) : a = b := by revert h; cases a <;> cases b <;> decide

/-- A cause number is the index of one of 48 records. -/
theorem Cause.num_lt (a : Cause) : a.num < 48 := by cases a <;> decide

/-- Two states with the same chain hold the same condition. -/
theorem condition_of_stc {s t : State} (h : t.stc = s.stc) (c : Cause) : t.condition c = s.condition c := by
  unfold State.condition State.cause
  rw [h]

@[simp] theorem gather_condition (s : State) (r : CauseReport) (c : Cause) : (s.gather r).condition c = s.condition c := rfl

@[simp] theorem raise_condition (s : State) (c : Cause) (i : Option Nat) (d : Cause) :
    (s.raise c i).condition d = s.condition d := rfl

@[simp] theorem report_condition (s : State) (k : EventKind) (c : Option Cause) (i : Option Nat) (d : List Int) (x : Cause) :
    (s.report k c i d).condition x = s.condition x := condition_of_stc (report_stc s k c i d) x

theorem holdCondition_condition {s : State} (hs : s.stc.records.length = 48) (c d : Cause) (b : Bool) :
    (s.holdCondition c b).condition d = if d = c then b else s.condition d := by
  unfold State.condition State.cause State.holdCondition
  split
  · subst d
    simp [State.setStc, hs, c.num_lt]
  · rename_i h
    have h' : c.num ≠ d.num := fun e => h (Cause.num_inj e).symm
    simp [State.setStc, List.getD, h']

@[simp] theorem judge_records_length (s : State) (c : Cause) (b : Bool) (i : Option Nat) :
    (s.judge c b i).stc.records.length = s.stc.records.length := by
  unfold State.judge State.holdCondition State.gather
  split <;> simp [State.setStc]

/-- A judged condition is present or absent as judged, and no other changes. -/
theorem judge_condition {s : State} (hs : s.stc.records.length = 48) (c d : Cause) (b : Bool) (i : Option Nat) :
    (s.judge c b i).condition d = if d = c then b else s.condition d := by
  unfold State.judge
  split
  · rename_i h
    split
    · subst d; exact h
    · rfl
  · rw [gather_condition, holdCondition_condition hs]

theorem CauseRecord.take_present (r : CauseRecord) (x : CauseChange) (n : Ms) : (r.take x n).present = r.present := by
  unfold CauseRecord.take
  repeat' split
  all_goals rfl

theorem setCause_present {s : State} (c : Cause) (r : CauseRecord) (h : r.present = s.condition c) (d : Cause) :
    (s.setCause c r).condition d = s.condition d := by
  unfold State.condition State.cause State.setCause at *
  simp only [State.setStc, List.getD_eq_getElem?_getD, List.getElem?_set] at *
  by_cases hc : c.num = d.num
  · obtain rfl := Cause.num_inj hc
    by_cases hl : c.num < s.stc.records.length
    · simp [hl, h]
    · simp [hl]
  · simp [hc]

@[simp] theorem takeCondition_condition (s : State) (x : CauseReport) (d : Cause) :
    (s.takeCondition x).condition d = s.condition d := by
  have h : (s.setCause x.cause ((s.cause x.cause).take x.change s.now)).condition d = s.condition d :=
    setCause_present _ _ (CauseRecord.take_present _ _ _) d
  unfold State.takeCondition State.reportCauseState State.reportCauseCategory
  dsimp only
  repeat' split
  all_goals simp [h]

theorem foldl_takeCondition_condition (xs : List CauseReport) (s : State) (d : Cause) :
    (xs.foldl State.takeCondition s).condition d = s.condition d := by
  induction xs generalizing s with
  | nil => rfl
  | cons x xs ih => rw [List.foldl_cons, ih, takeCondition_condition]

theorem formOutput_records (s : State) (rs : List Riser) : (s.formOutput rs).stc.records = s.stc.records := by
  unfold State.formOutput
  dsimp only
  split
  · rfl
  · rw [same_stc (State.tellOutput_does (m := 4285968) (Does.refl 4285968
      ((s.setOutput (highestStanding s.stc.records) (s.riser rs)).reportOutput s.stc.output (s.riser rs))) rfl) (by decide)]
    simp [State.reportOutput, State.setOutput]

/-- STC's taking of a report leaves every condition as it is held. -/
@[simp] theorem takeReport_condition (s : State) (d : Cause) : s.takeReport.condition d = s.condition d := by
  unfold State.takeReport
  split
  · rfl
  · have h1 : ∀ (t : State) (rs), (t.formOutput rs).condition d = t.condition d := fun t rs => by
      unfold State.condition State.cause
      rw [formOutput_records]
    have h2 : ∀ (xss : List (List CauseReport)) (t : State),
        (xss.foldl State.takeTogether t).condition d = t.condition d := fun xss => by
      induction xss with
      | nil => exact fun _ => rfl
      | cons xs xss ih =>
        intro t
        rw [List.foldl_cons, ih, State.takeTogether, h1, foldl_takeCondition_condition]
    rw [h2]
    rfl

/-- The end of a command leaves every condition as it is held. -/
@[simp] theorem settle_condition (s b : State) (d : Cause) : (s.settle b).condition d = s.condition d := by
  unfold State.settle
  split
  · rfl
  · rw [condition_of_stc (t := ((s.takeReport.transmit).staleIf b).countChanges b) (s := s.takeReport) (by simp) d]
    exact takeReport_condition s d

/-! ## Position updates -/

section
variable {s : State} {d : Cause}

theorem condition_keeps {m : Nat} {s t : State} (h : Does m s t) (hm : m.testBit 15 = false) (d : Cause) :
    t.condition d = s.condition d := condition_of_stc (same_stc h hm) d

theorem judge_condition_ne (s : State) {c d : Cause} (h : d ≠ c) (b : Bool) (i : Option Nat) :
    (s.judge c b i).condition d = s.condition d := by
  unfold State.judge
  split
  · rfl
  · rw [gather_condition]
    have h' : c.num ≠ d.num := fun e => h (Cause.num_inj e).symm
    simp [State.condition, State.cause, State.holdCondition, State.setStc, List.getD, h']

theorem closeWindow_condition (s : State) (h : d ≠ .headBlocked) : s.closeWindow.condition d = s.condition d := by
  have h1 : s.countWindow.condition d = s.condition d :=
    condition_keeps (State.countWindow_does (m := 16) (Does.refl _ s) rfl) (by decide) d
  unfold State.closeWindow
  split
  · unfold State.countHead
    repeat' split
    all_goals first | exact h1 | (rw [judge_condition_ne _ h]; exact h1)
  · rfl

theorem endPassage_condition (s : State) (h : d ≠ .headBlocked) : s.endPassage.condition d = s.condition d := by
  unfold State.endPassage
  repeat' split
  all_goals first | rfl | exact closeWindow_condition s h | exact condition_keeps (State.countUnseen_does (m := 16) (Does.refl _ s) rfl) (by decide) d

theorem beginPassage_condition (s : State) (h : d ≠ .headBlocked) : s.beginPassage.condition d = s.condition d := by
  unfold State.beginPassage
  split
  · rfl
  · exact endPassage_condition s h

theorem checkOccupied_condition (s : State) (k : Nat) : (s.checkOccupied k).condition d = s.condition d := by
  unfold State.checkOccupied
  dsimp only
  split
  · rfl
  · rw [report_condition]; rfl

theorem movePhase_condition (s : State) (t : SafetyTables) (h : d ≠ .headBlocked) :
    (s.movePhase t).condition d = s.condition d := by
  unfold State.movePhase State.openWindow
  repeat' split
  all_goals first | rfl | exact checkOccupied_condition _ _ | exact closeWindow_condition s h

theorem countFailure_condition (s : State) (n : Nat) : (s.countFailure n).condition d = s.condition d := by
  unfold State.countFailure
  split <;> rfl

theorem testRelease_condition (s : State) : s.testRelease.condition d = s.condition d := by
  unfold State.testRelease State.makeRelease
  repeat' split
  · dsimp only
    split
    · exact condition_keeps (s := s.setPassage { s.lgt.passage with releaseMade := true })
        (State.queueRelease_does (m := 66064) _ _ (Does.refl _ _) rfl) (by decide) d
    · exact countFailure_condition _ _
  all_goals rfl

theorem missAttach_condition (s : State) (w : WatchEntry) : (s.missAttach w).condition d = s.condition d := by
  unfold State.missAttach
  dsimp only
  rw [report_condition, raise_condition]
  exact condition_keeps (State.slotlessWatch_does (m := 544) w (Does.refl _ _) rfl) (by decide) d

theorem checkWatch_condition (t : SafetyTables) (xs : List WatchEntry) (s : State) :
    (s.checkWatch t xs).condition d = s.condition d := by
  induction xs generalizing s with
  | nil => rfl
  | cons x xs ih =>
    unfold State.checkWatch
    rw [ih]
    split
    · exact missAttach_condition s x
    · rfl

theorem withdrawAtUpdate_condition (s : State) (t : SafetyTables) : (s.withdrawAtUpdate t).condition d = s.condition d :=
  condition_keeps (State.withdrawAtUpdate_does (m := 4260368) t (Does.refl _ s) rfl) (by decide) d

/-- LGT's part of a position update leaves every condition but HEAD_BLOCKED. -/
theorem launchUpdate_condition (s : State) (h : d ≠ .headBlocked) : s.launchUpdate.condition d = s.condition d := by
  unfold State.launchUpdate
  split
  · rfl
  · dsimp only
    rw [checkWatch_condition, testRelease_condition, withdrawAtUpdate_condition]
    exact (movePhase_condition _ _ h).trans (beginPassage_condition s h)

theorem markOverdue_condition (s : State) (c : Cause) (k : EventKind) (i slot : Nat) (x : Int) :
    (s.markOverdue c k i slot x).condition d = s.condition d := by
  unfold State.markOverdue
  rw [report_condition]
  rfl

/-- CTR's part of a position update leaves every condition. -/
theorem trackUpdate_condition (s : State) : s.trackUpdate.condition d = s.condition d := by
  unfold State.trackUpdate State.checkUphill State.checkDownhill
  dsimp only
  repeat' split
  all_goals first | rfl | simp only [markOverdue_condition]

/-- A position update leaves every condition but HEAD_BLOCKED. -/
theorem positionUpdate_condition (s : State) (h : d ≠ .headBlocked) : s.positionUpdate.condition d = s.condition d := by
  unfold State.positionUpdate
  split
  · rfl
  · unfold State.updateRope
    rw [takeReport_condition, trackUpdate_condition, takeReport_condition, launchUpdate_condition _ h]
    exact takeReport_condition s d

end

end Sys2Proof.Machine
end

