-- ==== Sys2Proof/Laws/Ends.lean ====
section
/-!
SUPPORT. What the end of a command leaves of LGT and of the slot table, what it makes of a single gathered condition, and
that a command which is no reset gathers nothing beyond its end.
-/

namespace Sys2Proof.Machine

/-! ## LGT and the slot table -/

@[simp] theorem freeSlotIf_lgt (s : State) (k : Nat) (x : SlotState) : (s.freeSlotIf k x).lgt = s.lgt := by
  unfold State.freeSlotIf
  split <;> rfl

theorem freeSlotIf_slots (s : State) (k : Nat) (x : SlotState) :
    (s.freeSlotIf k x).ctr.slots = if s.ctr.slots.getD k .empty = x then s.ctr.slots.set k .empty else s.ctr.slots := by
  unfold State.freeSlotIf State.slot
  split <;> rfl

/-- A withdrawal changes nothing of LGT but the pending release and the two counters. -/
theorem withdrawRelease_lgt (s : State) (late : Bool) :
    ∃ p l w, (s.withdrawRelease late).lgt = { s.lgt with pending := p, lateReleases := l, withdrawals := w } := by
  unfold State.withdrawRelease State.countWithdrawal
  split
  · split
    · split
      · exact ⟨none, satInc s.lgt.lateReleases, s.lgt.withdrawals, by simp [State.setPendingRelease, State.withdrawControl, State.setControl]⟩
      · exact ⟨none, s.lgt.lateReleases, satInc s.lgt.withdrawals, by simp [State.setPendingRelease, State.withdrawControl, State.setControl]⟩
    · exact ⟨_, _, _, rfl⟩
  · exact ⟨_, _, _, rfl⟩

theorem withdrawRelease_none {s : State} (h : s.lgt.pending = none) (late : Bool) : s.withdrawRelease late = s := by
  unfold State.withdrawRelease
  rw [h]

/-- A slot that no release is pending for is left by a withdrawal. -/
theorem withdrawRelease_slot (s : State) (late : Bool) (k : Nat) (h : ∀ c, s.slot k ≠ .releasePending c) :
    (s.withdrawRelease late).slot k = s.slot k := by
  have key : ∀ (x : State) (j c : Nat), x.ctr = s.ctr → (x.freeSlotIf j (.releasePending c)).slot k = s.slot k := by
    intro x j c hx
    unfold State.freeSlotIf
    split
    · rename_i hj
      by_cases hjk : j = k
      · subst hjk
        exact absurd (by simpa [State.slot, hx] using hj) (h c)
      · simp [State.slot, State.setSlot, hx, List.getD, hjk]
    · simp [State.slot, hx]
  unfold State.withdrawRelease State.countWithdrawal
  split
  · rename_i p _
    have := key (s.withdrawControl .gateRelease p.tag) p.slot p.cabin rfl
    split
    · split <;> simpa [State.slot, State.setPendingRelease] using this
    · rfl
  · rfl

theorem takeCondition_does' (s : State) (x : CauseReport) : Does 4292608 s (s.takeCondition x) :=
  State.takeCondition_does x (Does.refl 4292608 s) rfl

theorem foldl_takeCondition_lgt (xs : List CauseReport) (s : State) :
    (xs.foldl State.takeCondition s).lgt = s.lgt ∧ (xs.foldl State.takeCondition s).ctr.slots = s.ctr.slots := by
  induction xs generalizing s with
  | nil => exact ⟨rfl, rfl⟩
  | cons x xs ih =>
    rw [List.foldl_cons]
    have h := takeCondition_does' s x
    exact ⟨(ih _).1.trans (h.1 .lgt rfl), (ih _).2.trans (h.1 .slots rfl)⟩

/-- A withdrawal depends, in LGT and the slot table, on nothing else. -/
theorem withdrawRelease_congr {x y : State} (h1 : x.lgt = y.lgt) (h2 : x.ctr.slots = y.ctr.slots) :
    (x.withdrawRelease false).lgt = (y.withdrawRelease false).lgt ∧
      (x.withdrawRelease false).ctr.slots = (y.withdrawRelease false).ctr.slots := by
  unfold State.withdrawRelease State.countWithdrawal
  rw [h1]
  split
  · split
    · simp [State.setPendingRelease, State.withdrawControl, State.setControl, freeSlotIf_slots, h1, h2]
    · exact ⟨h1, h2⟩
  · exact ⟨h1, h2⟩

/-- After a withdrawal no release is QUEUED, and another does nothing more. -/
theorem withdrawRelease_twice (s : State) :
    (s.withdrawRelease false).withdrawRelease false = s.withdrawRelease false := by
  have h : ∀ x : State, (∀ p, x.lgt.pending = some p → p.phase ≠ .queued) → x.withdrawRelease false = x := by
    intro x hx
    unfold State.withdrawRelease
    split
    · split
      · exact absurd ‹_› (hx _ ‹_›)
      · rfl
    · rfl
  refine h _ fun p hp hq => ?_
  unfold State.withdrawRelease State.countWithdrawal at hp
  split at hp
  · split at hp
    · simp [State.setPendingRelease] at hp
    · simp_all
  · simp_all

/-- In LGT and the slot table one state is another, or another after a withdrawal. -/
def Withdraws (s t : State) : Prop :=
  t.lgt = s.lgt ∧ t.ctr.slots = s.ctr.slots ∨
    t.lgt = (s.withdrawRelease false).lgt ∧ t.ctr.slots = (s.withdrawRelease false).ctr.slots

theorem Withdraws.trans {s t u : State} (h1 : Withdraws s t) (h2 : Withdraws t u) : Withdraws s u := by
  rcases h1 with ⟨a, b⟩ | ⟨a, b⟩ <;> rcases h2 with ⟨c, d⟩ | ⟨c, d⟩
  · exact .inl ⟨c.trans a, d.trans b⟩
  · exact .inr ⟨c.trans (withdrawRelease_congr a b).1, d.trans (withdrawRelease_congr a b).2⟩
  · exact .inr ⟨c.trans a, d.trans b⟩
  · have h := withdrawRelease_congr a b
    rw [withdrawRelease_twice] at h
    exact .inr ⟨c.trans h.1, d.trans h.2⟩

/-- One report reaches LGT and the slot table through a withdrawal alone. -/
theorem takeTogether_withdraws (s : State) (xs : List CauseReport) : Withdraws s (s.takeTogether xs) := by
  have h := foldl_takeCondition_lgt xs s
  unfold State.takeTogether
  generalize (xs.foldl State.takeCondition s) = y at h
  unfold State.formOutput
  dsimp only
  split
  · exact .inl h
  · have hz : ((y.setOutput (highestStanding y.stc.records) (y.riser (risersOf xs))).reportOutput y.stc.output
        (y.riser (risersOf xs))).lgt = y.lgt ∧
        ((y.setOutput (highestStanding y.stc.records) (y.riser (risersOf xs))).reportOutput y.stc.output
        (y.riser (risersOf xs))).ctr = y.ctr := by
      unfold State.reportOutput State.setOutput
      simp
    generalize ((y.setOutput (highestStanding y.stc.records) (y.riser (risersOf xs))).reportOutput y.stc.output
      (y.riser (risersOf xs))) = z at hz
    have he : ∀ w : State, w.judgeEmergency.lgt = w.lgt ∧ w.judgeEmergency.ctr.slots = w.ctr.slots := fun w =>
      have hd := State.judgeEmergency_does (m := 268435455 - 2 ^ 4 - 2 ^ 9) (Does.refl _ w) rfl
      ⟨hd.1 .lgt rfl, hd.1 .slots rfl⟩
    have h1 : z.lgt = s.lgt := hz.1.trans h.1
    have h2 : z.ctr.slots = s.ctr.slots := (congrArg Ctr.slots hz.2).trans h.2
    unfold State.tellOutput Withdraws
    rw [(he _).1, (he _).2]
    split
    · exact .inr (withdrawRelease_congr h1 h2)
    · exact .inl ⟨h1, h2⟩

/-- What STC takes reaches LGT and the slot table through a withdrawal alone. -/
theorem takeReport_withdraws (s : State) : Withdraws s s.takeReport := by
  unfold State.takeReport
  split
  · exact .inl ⟨rfl, rfl⟩
  · have h : ∀ (xss : List (List CauseReport)) (t : State), Withdraws t (xss.foldl State.takeTogether t) := fun xss => by
      induction xss with
      | nil => exact fun _ => .inl ⟨rfl, rfl⟩
      | cons xs xss ih => exact fun t => (takeTogether_withdraws t xs).trans (ih _)
    exact Withdraws.trans (.inl ⟨rfl, rfl⟩ : Withdraws s s.clearGathered) (h _ _)

/-- With no release pending, STC's report leaves LGT and the slot table. -/
theorem takeReport_lgt_of_none {s : State} (h : s.lgt.pending = none) :
    s.takeReport.lgt = s.lgt ∧ s.takeReport.ctr.slots = s.ctr.slots := by
  rcases takeReport_withdraws s with h3 | h3
  · exact h3
  · rwa [withdrawRelease_none h] at h3

theorem settle_lgt_eq (s b : State) (hr : wasReset b s = false) :
    (s.settle b).lgt = s.takeReport.lgt ∧ (s.settle b).ctr.slots = s.takeReport.ctr.slots := by
  unfold State.settle
  rw [if_neg (by simp [hr])]
  simp

/-- With no release pending, the end of a command leaves LGT and the slot table. -/
theorem settle_lgt_of_none {s b : State} (h : s.lgt.pending = none) :
    (s.settle b).lgt = s.lgt ∧ (s.settle b).ctr.slots = s.ctr.slots := by
  cases hr : wasReset b s
  · rw [(settle_lgt_eq s b hr).1, (settle_lgt_eq s b hr).2]
    exact takeReport_lgt_of_none h
  · unfold State.settle
    rw [if_pos hr]
    exact ⟨rfl, rfl⟩

/-- The end of a command changes nothing of LGT but the pending release and the two counters of a withdrawal. -/
theorem settle_lgt (s b : State) :
    ∃ p l w, (s.settle b).lgt = { s.lgt with pending := p, lateReleases := l, withdrawals := w } := by
  cases hr : wasReset b s
  · rw [(settle_lgt_eq s b hr).1]
    rcases takeReport_withdraws s with h3 | h3
    · exact ⟨_, _, _, h3.1⟩
    · obtain ⟨p, l, w, h⟩ := withdrawRelease_lgt s false
      exact ⟨p, l, w, by rw [h3.1, h]⟩
  · unfold State.settle
    rw [if_pos hr]
    exact ⟨_, _, _, rfl⟩

/-- The end of a command leaves a slot that no release is pending for. -/
theorem settle_slot (s b : State) (k : Nat) (h : ∀ c, s.slot k ≠ .releasePending c) : (s.settle b).slot k = s.slot k := by
  have e : ∀ x y : State, x.ctr.slots = y.ctr.slots → x.slot k = y.slot k := fun x y hxy => by
    unfold State.slot
    rw [hxy]
  cases hr : wasReset b s
  · rcases takeReport_withdraws s with h3 | h3
    · exact e _ _ ((settle_lgt_eq s b hr).2.trans h3.2)
    · exact (e _ _ ((settle_lgt_eq s b hr).2.trans h3.2)).trans (withdrawRelease_slot s false k h)
  · unfold State.settle
    rw [if_pos hr]

/-! ## A single condition -/

theorem takeCondition_cause {s : State} (hs : s.stc.records.length = 48) (x : CauseReport) (c : Cause) :
    (s.takeCondition x).cause c = if c = x.cause then (s.cause c).take x.change s.now else s.cause c := by
  have h0 : ∀ t : State, t.stc = (s.setCause x.cause ((s.cause x.cause).take x.change s.now)).stc →
      t.cause c = if c = x.cause then (s.cause c).take x.change s.now else s.cause c := by
    intro t ht
    unfold State.cause
    rw [ht]
    unfold State.setCause
    split
    · rename_i hc
      subst hc
      simp [State.setStc, hs, x.cause.num_lt, State.cause]
    · rename_i hc
      have h' : x.cause.num ≠ c.num := fun e => hc (Cause.num_inj e).symm
      simp [State.setStc, List.getD, h']
  refine h0 _ ?_
  unfold State.takeCondition State.reportCauseState State.reportCauseCategory
  dsimp only
  repeat' split
  all_goals first | rfl | exact report_stc _ _ _ _ _

/-- One gathered condition reaches its own cause record and no other (R160 to R162). -/
theorem settle_cause {s b : State} {x : CauseReport} (hs : s.stc.records.length = 48) (hg : s.stc.gathered = [x])
    (hr : wasReset b s = false) (c : Cause) :
    (s.settle b).cause c = if c = x.cause then (s.cause c).take x.change s.now else s.cause c := by
  have h1 : (s.settle b).stc = s.takeReport.stc := by
    unfold State.settle
    rw [if_neg (by simp [hr])]
    simp
  have h2 : s.takeReport.cause c = (s.clearGathered.takeCondition x).cause c := by
    unfold State.takeReport
    rw [hg]
    unfold State.cause
    dsimp only
    show ((s.clearGathered.takeTogether [x]).stc.records.getD _ _) = _
    rw [State.takeTogether, formOutput_records]
    rfl
  have h3 : (s.settle b).cause c = s.takeReport.cause c := by
    unfold State.cause
    rw [h1]
  rw [h3, h2, takeCondition_cause (by exact hs)]
  rfl

/-- A command that gathers nothing leaves every cause record. -/
theorem settle_cause_of_quiet {s b : State} (hg : s.quiet) (hr : wasReset b s = false) (c : Cause) :
    (s.settle b).cause c = s.cause c := by
  have h : (s.settle b).stc = s.stc := settle_keeps_of_quiet hg hr .stc rfl
  unfold State.cause
  rw [h]

/-! ## No reset -/

/-- An operation that leaves an accepted RESTART ends in no reset. -/
theorem not_reset {m : Nat} {s t : State} (h : Does m s t) (hm : m.testBit 21 = false) : wasReset s t = false := by
  have h1 : t.tst.restart = s.tst.restart := h.1 .restart hm
  unfold wasReset
  rw [h1]
  cases s.tst.restart <;> rfl

end Sys2Proof.Machine
end

