-- ==== Sys2Proof/Laws/Quiet.lean ====
section
/-!
SUPPORT. Every command leaves no gathered condition behind: the shapes of the commands end in a report to the stop chain or
in a reset, and both leave nothing gathered (R160, R172).
-/

namespace Sys2Proof.Machine

/-- A command that leaves an accepted RESTART ends with nothing gathered. -/
theorem whole_quiet {body : State → State} {s : State} (h : s.quiet) (m : Nat) (hd : Does m s (whole body s))
    (hm : m.testBit 21 = false) :
    (whole body s).quiet := by
  cases hh : s.pins.held
  · have h1 := not_reset hd hm
    have h2 : wasReset s (body s) = false := by
      have : (whole body s).tst.restart = (body s).tst.restart := by
        rw [whole_running hh]; exact settle_keeps (body s) s .restart (by decide)
      unfold wasReset at *; rw [← this]; exact h1
    rw [whole_running hh]; exact settle_quiet h2
  · simpa [hh] using h

/-- A timer command that leaves an accepted RESTART ends with nothing gathered. -/
theorem expiry_quiet {o : Option Ms} {body : State → State} {s : State} (h : s.quiet) (m : Nat)
    (hd : Does m s (expiry o body s)) (hm : m.testBit 21 = false) :
    (expiry o body s).quiet := by
  unfold expiry at *; split <;> simp_all
  exact whole_quiet h m hd hm

/-- A delivery that leaves an accepted RESTART ends with nothing gathered. -/
theorem deliver_quiet {r : Row} {body : IngressEntry → State → State} {s : State} (h : s.quiet) (m : Nat)
    (hd : Does m s (deliver r body s)) (hm : m.testBit 21 = false) :
    (deliver r body s).quiet := by
  unfold deliver at *
  split at hd
  · rename_i e rest he
    simp only [he] at *
    split at hd
    · rw [if_pos ‹_›]; exact whole_quiet h m hd hm
    · rw [if_neg ‹_›]; exact h
  · simp_all

/-- A management request that leaves an accepted RESTART ends with nothing gathered. -/
theorem manage_quiet {r : Row} {body : RingFrame → State → State} {s : State} (h : s.quiet) (m : Nat)
    (hd : Does m s (manage r body s)) (hm : m.testBit 21 = false) :
    (manage r body s).quiet := by
  unfold manage at *; split <;> simp_all
  exact deliver_quiet h m hd hm

/-- The delivery of an UNANSWERED link frame ends with nothing gathered. -/
theorem deliverUnanswered_quiet {k : LinkFrame → Bool} {body : LinkFrame → State → State} {s : State}
    (h : s.quiet) (m : Nat) (hd : Does m s (deliverUnanswered k body s)) (hm : m.testBit 21 = false) :
    (deliverUnanswered k body s).quiet := by
  unfold deliverUnanswered at *
  split at hd
  · rename_i e rest he
    simp only [he] at *
    split at hd
    · rw [if_pos ‹_›]; exact whole_quiet h m hd hm
    · rw [if_neg ‹_›]; exact h
  · simp_all

/-- The delivery of an ANSWERED link frame ends with nothing gathered. -/
theorem deliverAnswered_quiet {k : LinkFrame → Bool} {body : LinkFrame → State → State} {s : State}
    (h : s.quiet) (m : Nat) (hd : Does m s (deliverAnswered k body s)) (hm : m.testBit 21 = false) :
    (deliverAnswered k body s).quiet := by
  unfold deliverAnswered at *
  split at hd
  · rename_i e rest he
    simp only [he] at *
    split at hd
    · rw [if_pos ‹_›]; exact whole_quiet h m hd hm
    · rw [if_neg ‹_›]; exact h
  · simp_all

/-- The receipt of a link frame ends with nothing gathered. -/
theorem receive_quiet {p : List Byte → Bool} {b : List Byte} {body : State → State} {s : State}
    (h : s.quiet) (m : Nat) (hd : Does m s (receive p b body s)) (hm : m.testBit 21 = false) :
    (receive p b body s).quiet := by
  unfold receive at *; split <;> simp_all
  exact whole_quiet h m hd hm

/-- The completion of a store write ends with nothing gathered. -/
theorem complete_quiet {act : WriteKind → Option (Option ReplyTo → State → State)} {s : State}
    (h : s.quiet) (m : Nat) (hd : Does m s (complete act s)) (hm : m.testBit 21 = false) :
    (complete act s).quiet := by
  unfold complete at *
  split at hd
  · rename_i w hw
    simp only [hw] at *
    split at hd
    · rename_i e he
      simp only [he] at *
      exact whole_quiet h m hd hm
    · simp_all
  · simp_all

/-- An operation whose effect leaves out RESTART keeps an accepted one. -/
theorem same_restart {m : Nat} {s t : State} (h : Does m s t)
    (hm : m.testBit 21 = false) : t.tst.restart = s.tst.restart := h.1 .restart hm

/-- Filling a slot begins a reset, which ends with nothing gathered, or keeps an accepted RESTART. -/
theorem fillSlot_cases (s : State) (n : Nat) : (s.fillSlot n).quiet ∨ (s.fillSlot n).tst.restart = s.tst.restart := by
  unfold State.fillSlot
  split
  · rename_i f r hf
    have h0 : ((s.setRng r).setSlotRecord n (some f.mask)).tst.restart = s.tst.restart := rfl
    generalize (s.setRng r).setSlotRecord n (some f.mask) = x at h0 ⊢
    have key : ∀ y : State, Does (268435455 - 2^21) x y → (y.letGo (s.insertedSlot n f)).tst.restart = s.tst.restart :=
      fun y hy => (same_restart hy (by decide)).trans h0
    unfold State.reportInsertion
    split
    · exact .inr (key _ (State.releaseInserted_does _ (Does.refl _ _) (by decide)))
    · exact .inr (key _ (State.doorInserted_does _ _ (Does.refl _ _) (by decide)))
    · exact .inr (key _ (State.doorInserted_does _ _ (Does.refl _ _) (by decide)))
    · exact .inr (key _ (State.doorInserted_does _ _ (Does.refl _ _) (by decide)))
    · exact .inr (key _ (State.scanInserted_does _ _ (Does.refl _ _) (by decide)))
    · exact .inr (key _ (State.exitInserted_does _ (Does.refl _ _) (by decide)))
    · split
      · left; exact resetPart_quiet _ _
      · exact .inr (key _ (State.offerEvent_does (Does.refl _ _) (by decide)))
    · exact .inr (key _ (State.offerEvent_does (Does.refl _ _) (by decide)))
    · exact .inr (key _ (Does.refl _ _))
  · right; rfl

/-- A reset that begins as a slot is filled ends with nothing gathered. -/
theorem fillSlot_quiet {m : Nat} {s x : State} (n : Nat) (h : Does m s x) (hm : m.testBit 21 = false)
    (hr : wasReset s (x.fillSlot n) = true) : (x.fillSlot n).quiet := by
  rcases fillSlot_cases x n with h1 | h1
  · exact h1
  · have h2 := same_restart h hm
    simp [wasReset, h1, h2] at hr
    rcases hr with ⟨a, b⟩
    simp [b] at a

/-- A reset that begins as a slot passes ends with nothing gathered. -/
theorem passSlot_quiet {s : State} {n : Nat} {w0 w1 : Word} {p : List Word}
    (hr : wasReset s (s.passSlot n w0 w1 p) = true) :
    (s.passSlot n w0 w1 p).quiet := by
  have D : ∀ {t : State}, Does (268435455 - 2^21) s t → wasReset s t = true → t.quiet := fun h hr => absurd hr (by simp [not_reset h (by decide)])
  unfold State.passSlot at *
  dsimp only at *
  split at hr
  · rw [if_pos ‹_›]; exact D (State.purgeSlot_does _ _ (Does.refl _ _) (by decide)) hr
  · rw [if_neg ‹_›]
    split at hr
    · rw [if_pos ‹_›]
      exact fillSlot_quiet (m := 268435455 - 2^21) n (State.recordTaken_does _ (Does.refl _ _) (by decide)) (by decide) hr
    · rw [if_neg ‹_›]
      split at hr
      · rw [if_pos ‹_›]
        unfold State.removeMarked at *
        refine fillSlot_quiet (m := 268435455 - 2^21) n ?_ (by decide) hr
        split
        · exact State.countOrphan_does _ _ (Does.refl _ _) (by decide)
        · exact State.filterOut_does _ _ (Does.refl _ _) (by decide)
      · rw [if_neg ‹_›]
        unfold State.firstPass at *
        split at hr
        · rename_i r hh
          try simp only [hh]
          exact fillSlot_quiet (m := 268435455 - 2^21) n (State.filterOut_does _ _ (State.recordTaken_does _ (Does.refl _ _) (by decide)) (by decide)) (by decide) hr
        · rename_i hh
          try simp only [hh]
          unfold State.acceptFrame at *
          dsimp only at *
          have hx : ∀ f : RingFrame, Does (268435455 - 2^21) s ((s.recordTaken (s.rng.slotRecords.getD n none)).clearMisses f.source) := fun f =>
            State.clearMisses_does _ (State.recordTaken_does _ (Does.refl _ _) (by decide)) (by decide)
          split at hr
          · rw [if_pos ‹_›]
            refine fillSlot_quiet (m := 268435455 - 2^21) n ?_ (by decide) hr
            split
            · exact State.copyFrame_does _ (hx _) (by decide)
            · exact hx _
          · rw [if_neg ‹_›]
            refine D (State.passFrame_does _ _ _ ?_ (by decide)) hr
            split
            · exact State.copyFrame_does _ (hx _) (by decide)
            · exact hx _

end Sys2Proof.Machine
end

