-- ==== Sys2Proof/WellFormed.lean ====
section
/-!
DEFINITION. The bounds the manual puts on a command's operands.
-/

namespace Sys2Proof

/-- A command whose operands lie in the ranges of the manual: a slot carries at most 12 payload words (chapter 12,
ring frame header), an entry serial is 0..65535 (R62), a tower table index 0..23 (chapter 6), a tag 0..7 (R140), and a
link frame has at most 4 header bytes, 64 payload bytes and 2 check bytes (chapter 12, link frames). -/
def Instr.wellFormed : Instr → Bool
  | .ringSlotPass _ _ _ payload => payload.length ≤ 12
  | .dwellExpiry serial => serial < 65536
  | .reopenWaitExpiry serial => serial < 65536
  | .settleExpiry serial => serial < 65536
  | .towerDueExpiry tower => tower < 24
  | .scanDeadlineExpiry tower => tower < 24
  | .requestTimeout tag => tag < 8
  | .linkBadCheckFrame bytes => bytes.length ≤ 70
  | .linkSafetyFrame bytes => bytes.length ≤ 70
  | .linkBufferedFrame bytes => bytes.length ≤ 70
  | .linkVoiceFrame bytes => bytes.length ≤ 70
  | .timebaseWindowEnd edges => edges < 4294967296
  | _ => true

end Sys2Proof
end

