-- ==== Sys2Proof/Tests/Slice0.lean ====
section
/-!
SUPPORT. Tests: the checks of WellFormed refuse an ill-formed command, a few steps of the manual's worked sequences, and a
state for each statement. A theorem `witness_…` applies a statement to a concrete state and concrete operands: Lean
accepts it only where every hypothesis is met there.
-/

namespace Sys2Proof.Tests

open Sys2Proof.Machine

set_option maxRecDepth 100000

/-! ## A small part -/

/-- A node that may send every kind to the master. -/
def node (r : Role) (critical : Bool := false) : NodeEntry := { role := r, kinds := 0x0FFFFFFE, dests := 1, critical := critical }

/-- One node of each role, at addresses 1 to 17. -/
def nodes : List NodeEntry :=
  [NodeEntry.unused, node .manager, node .arrivalReader, node .detector2, node .detector3, node .detector4,
   node .gripGauge, node .switch, node .gate, node .attach, node .garageDrive, node .doorOpenUnit,
   node .doorCloseUnit true, node .tach true, node .tension, node .towerConcentrator, node .refMark, node .handset] ++
    List.replicate 14 NodeEntry.unused

/-- A tower of four trains at the concentrator. -/
def tower : TowerEntry := { node := 15, number := 7, trains := 4, interval := 1000 }

/-- A line of 40 slots of 60,000 mm, as in the worked sequence of chapter 11, with one tower. -/
def tables : SafetyTables :=
  { SafetyTables.default with
    L := 2400000, N := 40, S := 60000, A := 2000, W := 1500, B := 14000, U := 1200000, Dn := 1100000
    tolArr := 5000, gAtt := 15000, eMax := 500, pMark := 30, rTol := 500, caps := [2, 2, 4, 4, 2, 8, 2], gcap := 20
    ts := 10, ka := 4000, kb := 4000, dMax := 40, qLim := 50000, vMax := 6000
    stopLo := 400, warnLo := 900, warnHi := 3100, stopHi := 3600, pTol := 2000, tLat := 100, nodes := nodes
    towers := some tower :: List.replicate 23 none }

/-- A door profile. -/
def profile : DoorProfile :=
  { tOpenMax := 4000, tCloseMax := 4000, tDwell := 3000, tSettle := 100, tRecover := 200, tReopenWait := 1500,
    maxReopen := 2 }

/-- Four equal profiles, and grips judged between 1000 N and 2000 N. -/
def operations : OperationsTables :=
  { profiles := List.replicate 4 profile, classes := List.replicate 4 { fMin := 1000, fMax := 2000 } }

/-- A cabin in service. -/
def cabin (id : Nat) (l : Location) (d : DoorState := .locked) : RegEntry :=
  { RegEntry.initial { id := id, profile := 0, gripClass := 0, inService := true } with location := l, door := d }

/-- A running part with every group valid, no cabin in service and the ring purged. -/
def base : State :=
  { State.reset with
    ctr := { State.reset.ctr with slots := List.replicate 40 .empty }
    rng := { State.reset.rng with purge := List.replicate 8 false }
    slk := { State.reset.slk with sending := some [] }
    stc := Stc.initial (loadedCauses (some tables))
    tst :=
      { State.reset.tst with
        safety := some tables, operations := some operations, fleetValid := true, stageSafety := tables
        stageOperations := operations } }

/-- A part whose rope runs forward at 1,500 m of the loop, referenced, the channels primed. -/
def moving : State :=
  { base with
    rpu :=
      { base.rpu with
        prevA := some 10, prevB := some 20, seqPrev := some 5, odo := 1502000, referenced := true, motion := .forward
        record :=
          { p := 1502000, k := 25, o := 2000, v := 5000, motion := .forward, referenced := true, time := 0 } } }

/-- The part with a cabin at registry index 0. -/
def holding (s : State) (r : RegEntry) : State := { s with registry := r :: s.registry.drop 1 }

/-- A delivered frame. -/
def entry (k : RingKind) (source tag : Nat) (r : Role) (payload : List Word) : IngressEntry :=
  { frame :=
      { kind := k.code, source := source, tag := tag, length := payload.length, mark := true, mask := 1, payload := payload }
    role := r }

/-- A management request with its kind and further words. -/
def request (kind : Nat) (words : List Word) : IngressEntry :=
  entry .mgmtRequest 1 3 .manager (BitVec.ofNat 32 (kind * 16777216) :: words)

/-- The part with one frame in its ingress queue. -/
def fed (s : State) (e : IngressEntry) : State := { s with rng := { s.rng with ingress := [e] } }

/-- The part with one UNANSWERED link frame in its receive buffer, the link UP. -/
def heard (s : State) (f : LinkFrame) : State := { s with slk := { s.slk with rxUnanswered := [f], link := .up } }

/-- The part with one ANSWERED link frame in its receive buffer, the link UP. -/
def asked (s : State) (f : LinkFrame) : State := { s with slk := { s.slk with rxAnswered := [f], link := .up } }

/-- A station queue with one entry of the cabin at registry index 0, and its door record. -/
def queued (s : State) (x : Segment) (r : Route := .undecided) : State :=
  { s with
    ctr :=
      { s.ctr with
        queue := [{ serial := 0, who := .cabin 0, segment := x, route := r, slotless := false }], nextSerial := 1 }
    dsq := { s.dsq with records := [DoorRecord.fresh 0] } }

/-- A command that has a next state. -/
def Completes (c : Instr) (s : State) : Prop := ∃ u, exec c s = .next u

/-- What a statement says of a next state gives the next state. -/
theorem answers {c : Instr} {s : State} {P : State → Prop} (h : ∃ u, exec c s = .next u ∧ P u) : Completes c s :=
  h.imp fun _ x => x.1

/-! ## The part as a whole -/

theorem base_inv : base.Inv := by
  unfold State.Inv State.bounded State.permitsRight Rng.bounded Rng.queuesBounded Rng.tablesSized Tst.bounded Slk.bounded
    Icm.bounded Rpu.bounded Rmn.bounded Stc.bounded FirstOut.bounded Stc.permitsAgree Slk.requestsRight Lgt.bounded
    Ctr.bounded Store.bounded SafetyTables.bounded ParkRecord.bounded
  decide

theorem witness_StepKeepsTheInvariant (h : Obligations.StepKeepsTheInvariant) : base.tick.Inv :=
  h base base.tick base_inv rfl

theorem witness_CommandsKeepTheirFrame (h : Obligations.CommandsKeepTheirFrame) : Completes .tachSample base :=
  (h .tachSample base).imp fun _ x => (fun y : Part.same .garage base _ ∧ _ => y.2) ⟨x.2 .garage (by decide), x.1⟩

/-- A part with LOCKED_TO_POWER_CYCLE set. -/
def lockedPart : State := { base with tst := { base.tst with lockedToPowerCycle := true } }

theorem witness_LockStandsUntilPowerOn_1 (h : Obligations.LockStandsUntilPowerOn) :
    lockedPart.tst.lockedToPowerCycle = true :=
  h.1 .linkRestart lockedPart lockedPart rfl rfl

theorem witness_LockStandsUntilPowerOn_2 (h : Obligations.LockStandsUntilPowerOn) :
    Completes (.commit .maint) (fed lockedPart (request 6 [0])) :=
  answers (h.2 (fed lockedPart (request 6 [0])) (request 6 [0]) [] .maint .safety ⟨⟨rfl, rfl, rfl, rfl⟩, rfl, rfl⟩ rfl
    (by decide) rfl (by decide))

theorem witness_ResetsBringThePartUp_1 (h : Obligations.ResetsBringThePartUp) : Completes .powerOnReset State.reset :=
  (h.1 State.reset).imp fun _ x => (fun y : _ ∧ _ => y.2) ⟨x.2.2.2.2.2.2.2.2.2.2.2.2.2.2.2 rfl, x.1⟩

/-- A part held in reset. -/
def heldPart : State := { base with pins := { base.pins with held := true } }

theorem witness_ResetsBringThePartUp_2 (h : Obligations.ResetsBringThePartUp) :
    exec .tachSample heldPart = .next heldPart :=
  h.2.2 .tachSample heldPart rfl (by decide) (by decide) nofun

/-- A part that writes the protection mode. -/
def writingMode : State :=
  { base with
    tst :=
      { base.tst with
        write := some { kind := .protection .unlocked, reply := some { source := 1, tag := 3, kind := 8 } } } }

theorem witness_ResetsBringThePartUp_3 (h : Obligations.ResetsBringThePartUp) :
    Completes .resetInAsserted writingMode :=
  (h.2.1 writingMode).imp fun _ x => (fun y : _ ∧ _ => y.2) ⟨x.2.2.2.2 .unlocked _ rfl, x.1⟩

/-- A park record: cabin 198, its doors open, in S3, an anonymous entry in S7, cabin 2 in the garage, cabin 3 uphill in
slot 5, cabin 4 at the summit, and cabin 198 in the slot it was being launched into. -/
def parked : ParkRecord :=
  { queue :=
      [{ index := none, segment := .s7, route := .line, slotless := true, door := .locking, verdict := .pass, force := none },
       { index := some 0, segment := .s3, route := .undecided, slotless := false, door := .opened, verdict := .pass
         force := some 1500 }]
    garage :=
      [{ index := some 1, segment := .s5, route := .garage, slotless := false, door := .locked, verdict := .reject
         force := some 900 }]
    uphill := [{ cabin := 2, slot := 5, oRelease := 300000, attachErr := some 12 }]
    downhill := []
    summit := [3]
    slots := (List.replicate 40 SlotState.empty).set 5 (.up 2)
    odo := 1502000, res := 7, odoRef := 2000, referenced := true, L := 2400000, S := 60000 }

/-- A store with that record, five cabins in service. -/
def parkedStore (p : ParkRecord) : Store :=
  { safety := some tables, operations := some operations
    fleet :=
      some ((List.range 128).map fun i => { id := 198 + i, profile := 0, gripClass := 0, inService := decide (i < 5) })
    protection := .unlocked, park := some p }

theorem parkedStore_restores :
    (parkedStore parked).restores tables
      ((List.range 128).map fun i => { id := 198 + i, profile := 0, gripClass := 0, inService := decide (i < 5) })
      parked :=
  ⟨rfl, rfl, rfl, rfl, rfl, by decide, by decide⟩

theorem witness_ResetsBringThePartUp_4 (h : Obligations.ResetsBringThePartUp) :
    ∃ u, exec .powerOnReset { State.reset with store := parkedStore parked } = .next u ∧ u.ctr.uphill = parked.uphill :=
  (h.1 { State.reset with store := parkedStore parked }).imp fun _ x => ⟨x.1,
    ((x.2.2.2.2.2.2.2.2.2.2.2.2.2.2.1 rfl).1 _ _ _ parkedStore_restores).1.2.2.2.2.1⟩

/-! ## Rope position and speed -/

/-- A TACH_SAMPLE of sequence 6, a millimetre of travel a count and 40 counts on. -/
def sample : IngressEntry := entry .tachSample 13 0 .tach [6, 0x0032003C]

theorem witness_TachSampleCarriesTravel_1 (h : Obligations.TachSampleCarriesTravel) :
    Completes .tachSample (fed moving sample) :=
  answers (h.1 (fed moving sample) sample [] tables 10 20 5 ⟨rfl, rfl, rfl, rfl⟩ rfl rfl rfl rfl (by decide) (by decide)
    (by decide) (by decide) (by decide))

/-- The part before its channels are primed, and after a sample of sequence 6. -/
def unprimed : State := { moving with rpu := { moving.rpu with prevA := none, prevB := none, seqPrev := none } }

def atSixth : State := { moving with rpu := { moving.rpu with seqPrev := some 6 } }

theorem witness_TachSampleCarriesTravel_2 (h : Obligations.TachSampleCarriesTravel) :
    Completes .tachSample (fed unprimed sample) :=
  answers (h.2.1 (fed unprimed sample) sample [] tables ⟨rfl, rfl, rfl, rfl⟩ rfl rfl rfl rfl (by decide))

theorem witness_TachSampleCarriesTravel_3 (h : Obligations.TachSampleCarriesTravel) :
    Completes .tachSample (fed atSixth sample) :=
  answers (h.2.2 (fed atSixth sample) sample [] tables 6 ⟨rfl, rfl, rfl, rfl⟩ rfl rfl (.inl (by decide)) rfl)

theorem witness_TachSampleMovesThePosition (h : Obligations.TachSampleMovesThePosition) :
    Completes .tachSample (fed moving sample) :=
  answers (h (fed moving sample) sample [] tables 10 20 5 ⟨rfl, rfl, rfl, rfl⟩ rfl rfl rfl rfl (by decide) (by decide))

/-- A part whose tach loss and stillness timers have run out. -/
def still : State :=
  { moving with
    rpu := { moving.rpu with tachLoss := some 0, stillness := some 0 }
    lgt :=
      { moving.lgt with
        pending := some { slot := 25, cabin := 0, id := 198, tag := 0, phase := .queued, windowClosed := false } } }

theorem witness_RopeTimersStopTheRope_1 (h : Obligations.RopeTimersStopTheRope) : Completes .tachLostExpiry still :=
  answers (h.1 still ⟨rfl, by decide⟩ (by decide))

theorem witness_RopeTimersStopTheRope_2 (h : Obligations.RopeTimersStopTheRope) : Completes .stillnessExpiry still :=
  answers (h.2 still ⟨rfl, by decide⟩ rfl)

/-- A REF_MARK. -/
def mark : IngressEntry := entry .refMark 16 0 .refMark []

/-- The part before its first mark. -/
def unreferenced : State := { moving with rpu := { moving.rpu with referenced := false } }

/-- A referenced part 400 mm past the mark, within R_tol, and one 600 mm past it. -/
def nearMark (p : Int) : State := { moving with rpu := { moving.rpu with record := { moving.rpu.record with p := p } } }

theorem witness_MarksTieAndCorrectThePosition_1 (h : Obligations.MarksTieAndCorrectThePosition) :
    Completes .refMark (fed unreferenced mark) :=
  answers (h.1 (fed unreferenced mark) mark [] tables ⟨rfl, rfl, rfl, rfl⟩ rfl rfl (by decide) (by decide))

theorem witness_MarksTieAndCorrectThePosition_2 (h : Obligations.MarksTieAndCorrectThePosition) :
    Completes .refMark (fed (nearMark 430) mark) :=
  answers (h.2 (fed (nearMark 430) mark) mark [] tables ⟨rfl, rfl, rfl, rfl⟩ rfl rfl (by decide))

theorem witness_MarksTieAndCorrectThePosition_3 (h : Obligations.MarksTieAndCorrectThePosition) :
    Completes .refMark (fed (nearMark 630) mark) :=
  answers (h.2 (fed (nearMark 630) mark) mark [] tables ⟨rfl, rfl, rfl, rfl⟩ rfl rfl (by decide))

theorem witness_OverspeedFollowsTheSpeed_1 (h : Obligations.OverspeedFollowsTheSpeed) :
    Completes .tachSample (fed moving sample) :=
  answers (h.1 (fed moving sample) sample [] tables 10 20 5 ⟨rfl, rfl, rfl, rfl⟩ rfl rfl rfl rfl (by decide) (by decide)
    (by decide))

theorem witness_OverspeedFollowsTheSpeed_2 (h : Obligations.OverspeedFollowsTheSpeed) :
    Completes .tachLostExpiry still :=
  answers (h.2 still ⟨rfl, by decide⟩ (by decide))

/-! ## Launch -/

/-- A ready cabin at the head of S6 while the window of an empty slot is open. -/
def launching : State :=
  { queued (holding moving { cabin 198 .station with verdict := .pass }) .s6 .line with
    lgt :=
      { moving.lgt with
        passage :=
          { slot := some 25, phase := .opened, launchWindow := true, releaseMade := false, barred := false
            confirmed := false, forwardRef := true } } }

/-- The release that the position update of `launching` makes. -/
def release : PendingRelease :=
  { slot := 25, cabin := 0, id := 198, tag := 0, phase := .queued, windowClosed := false }

theorem witness_ReleaseOnlyInsideTheWindow_1 (h : Obligations.ReleaseOnlyInsideTheWindow) :
    launching.launchUpdate.lgt.passage.slot = some 25 :=
  (h.1 launching tables release rfl rfl (by decide) (by decide)).1

theorem witness_ReleaseOnlyInsideTheWindow_2 (h : Obligations.ReleaseOnlyInsideTheWindow) :
    launching.launchUpdate.lgt.pending = some release :=
  h.2.1 launching tables { serial := 0, who := .cabin 0, segment := .s6, route := .line, slotless := false } 0 rfl rfl rfl
    rfl rfl rfl rfl rfl rfl (by decide) (by decide) (by decide) (by decide) (by decide) (by decide) rfl (by decide)

/-- The sample whose two counts show 500 mm of travel, into the window of slot 25. -/
theorem witness_ReleaseOnlyInsideTheWindow_3 (h : Obligations.ReleaseOnlyInsideTheWindow) :
    Completes .tachSample (fed launching sample) :=
  answers (h.2.2 .tachSample (fed launching sample) sample [] tables (.inl ⟨rfl, rfl, rfl, rfl, rfl⟩) rfl rfl)

theorem witness_ReleaseOnlyInsideTheWindow_4 (h : Obligations.ReleaseOnlyInsideTheWindow) :
    Completes .refMark (fed launching mark) :=
  answers (h.2.2 .refMark (fed launching mark) mark [] tables (.inr ⟨rfl, rfl, rfl, rfl, rfl⟩) rfl rfl)

/-- A SENT release of the cabin, its slot RELEASE_PENDING. -/
def released : State :=
  { launching with
    lgt := { launching.lgt with pending := some { release with phase := .sent 0 } }
    ctr := { launching.ctr with slots := launching.ctr.slots.set 25 (.releasePending 0) } }

/-- A GATE_REPORT of slot 25 and cabin 198. -/
def gateReport : IngressEntry := entry .gateReport 8 0 .gate [0x100190C6]

theorem witness_GateReportBooksTheRelease_1 (h : Obligations.GateReportBooksTheRelease) :
    Completes .gateReport (fed released gateReport) :=
  answers ((h (fed released gateReport) gateReport [] { release with phase := .sent 0 } 0
    { serial := 0, who := .cabin 0, segment := .s6, route := .line, slotless := false } ⟨rfl, rfl, rfl, rfl⟩
    (by decide) rfl rfl (by decide) rfl rfl).1 rfl (by decide))

/-- The part after the release of a cabin that has left the head of S6 since. -/
def releasedOther : State :=
  { released with
    lgt := { released.lgt with pending := some { release with phase := .sent 0, cabin := 1 } }
    ctr := { released.ctr with slots := released.ctr.slots.set 25 (.releasePending 1) } }

theorem witness_GateReportBooksTheRelease_2 (h : Obligations.GateReportBooksTheRelease) :
    Completes .gateReport (fed releasedOther gateReport) :=
  answers ((h (fed releasedOther gateReport) gateReport [] { release with phase := .sent 0, cabin := 1 } 0
    { serial := 0, who := .cabin 0, segment := .s6, route := .line, slotless := false } ⟨rfl, rfl, rfl, rfl⟩
    (by decide) rfl rfl (by decide) rfl rfl).2 (by decide))

theorem witness_GateReleaseFails_1 (h : Obligations.GateReleaseFails) : Completes .gateReportTimeout released :=
  answers ((h released { release with phase := .sent 0 } 0 rfl rfl rfl).1 (by decide))

/-- A NACK of a frame. -/
def nack (source tag : Nat) (r : Role) (k : RingKind) (reason : Nat) : IngressEntry :=
  entry .nack source tag r [BitVec.ofNat 32 (k.code * 256 + reason)]

theorem witness_GateReleaseFails_2 (h : Obligations.GateReleaseFails) :
    Completes .nackGateRelease (fed released (nack 8 0 .gate .gateRelease 2)) :=
  answers ((h (fed released (nack 8 0 .gate .gateRelease 2)) { release with phase := .sent 0 } 0 rfl rfl rfl).2
    (nack 8 0 .gate .gateRelease 2) [] ⟨rfl, rfl, rfl, rfl⟩ (by decide))

/-- A released cabin that has not attached yet. -/
def attaching : State :=
  { queued (holding moving { cabin 198 .station with verdict := .pass }) .s7 .line with
    lgt := { moving.lgt with watch := [{ cabin := 0, slot := 25, oRelease := 1502000 }] } }

/-- An ATTACH. -/
def attach : IngressEntry := entry .attach 9 0 .attach [0]

theorem witness_AttachMovesTheCabinUphill_1 (h : Obligations.AttachMovesTheCabinUphill) :
    Completes .attach (fed attaching attach) :=
  answers (h (fed attaching attach) attach [] tables { cabin := 0, slot := 25, oRelease := 1502000 } []
    { serial := 0, who := .cabin 0, segment := .s7, route := .line, slotless := false } ⟨rfl, rfl, rfl, rfl⟩ (by decide)
    rfl rfl (by decide) rfl (by decide) (by decide))

/-- The part whose released cabin was judged REJECT at a second D5 passage after its release was sent: it joins the uphill
list all the same (R32). -/
def attachingRejected : State :=
  { holding attaching { cabin 198 .station with verdict := .reject } with
    ctr := { attaching.ctr with slots := attaching.ctr.slots.set 25 (.releasing 0) } }

theorem witness_AttachMovesTheCabinUphill_2 (h : Obligations.AttachMovesTheCabinUphill) :
    ∃ u, exec .attach (fed attachingRejected attach) = .next u ∧ u.slot 25 = .up 0 ∧ (u.reg 0).verdict = .pass :=
  (h (fed attachingRejected attach) attach [] tables { cabin := 0, slot := 25, oRelease := 1502000 } []
    { serial := 0, who := .cabin 0, segment := .s7, route := .line, slotless := false } ⟨rfl, rfl, rfl, rfl⟩ (by decide)
    rfl rfl (by decide) rfl (by decide) (by decide)).imp fun _ x =>
      ⟨x.1, x.2.2.2.2.1, x.2.2.2.2.2.2.2.2⟩

/-- Frames with the direction bit set. -/
def backward (k : RingKind) (source : Nat) (r : Role) : IngressEntry := entry k source 0 r [0x80000000]

theorem witness_BackwardReportsMoveNoEntry_1 (h : Obligations.BackwardReportsMoveNoEntry) :
    Completes .arrivalBackward (fed attaching (backward .arrival 2 .arrivalReader)) :=
  answers (h (fed attaching (backward .arrival 2 .arrivalReader)) (backward .arrival 2 .arrivalReader) [] .arrivalBackward
    (.inl ⟨rfl, rfl, rfl, rfl, rfl⟩) (by decide) rfl)

theorem witness_BackwardReportsMoveNoEntry_2 (h : Obligations.BackwardReportsMoveNoEntry) :
    Completes .garageExitBackward (fed attaching (backward .garageExit 10 .garageDrive)) :=
  answers (h (fed attaching (backward .garageExit 10 .garageDrive)) (backward .garageExit 10 .garageDrive) []
    .garageExitBackward (.inr (.inl ⟨rfl, rfl, rfl, rfl, rfl⟩)) (by decide) rfl)

theorem witness_BackwardReportsMoveNoEntry_3 (h : Obligations.BackwardReportsMoveNoEntry) :
    Completes .gateReport (fed attaching (entry .gateReport 8 0 .gate [0x90000000])) :=
  answers (h (fed attaching (entry .gateReport 8 0 .gate [0x90000000])) (entry .gateReport 8 0 .gate [0x90000000]) []
    .gateReport (.inr (.inr (.inl ⟨rfl, ⟨rfl, rfl, rfl, rfl⟩, by decide⟩))) (by decide) rfl)

theorem witness_BackwardReportsMoveNoEntry_4 (h : Obligations.BackwardReportsMoveNoEntry) :
    Completes .attach (fed attaching (backward .attach 9 .attach)) :=
  answers (h (fed attaching (backward .attach 9 .attach)) (backward .attach 9 .attach) [] .attach
    (.inr (.inr (.inr ⟨rfl, ⟨rfl, rfl, rfl, rfl⟩, by decide⟩))) (by decide) rfl)

/-! ## Line lists and the summit -/

/-- A HANDOVER frame. -/
def handover (kind : HandoverKind) (seq id slot : Nat) : LinkFrame := handoverFrame kind seq id false (some slot)

/-- A part whose cabin is on the uphill list. -/
def uphillPart : State :=
  { holding moving { cabin 198 .uphill with verdict := .pass } with
    ctr :=
      { moving.ctr with
        uphill := [{ cabin := 0, slot := 5, oRelease := 100000, attachErr := some 0 }]
        slots := moving.ctr.slots.set 5 (.up 0) } }

theorem uphill_inv : uphillPart.Inv := by
  unfold State.Inv State.bounded State.permitsRight Rng.bounded Rng.queuesBounded Rng.tablesSized Tst.bounded Slk.bounded
    Icm.bounded Rpu.bounded Rmn.bounded Stc.bounded FirstOut.bounded Stc.permitsAgree Slk.requestsRight Lgt.bounded
    Ctr.bounded Store.bounded SafetyTables.bounded ParkRecord.bounded
  decide

theorem uphill_slots : ∀ k < 40, uphillPart.slot k = .empty ∨ k = 5 := by decide

theorem uphill_fleet : uphillPart.fleetKept := by
  refine ⟨⟨fun l => ?_, by decide⟩, ⟨fun k h => ?_, by decide⟩, ?_, ?_, ?_, nofun⟩
  · cases l <;> decide
  · rcases uphill_slots k h with e | rfl
    · rw [e]; trivial
    · exact ⟨_, List.mem_singleton.2 rfl, rfl, rfl⟩
  · unfold State.entriesAgree; decide
  · rintro i h
    cases List.mem_singleton.1 h; decide
  · unfold State.geometryAgrees SafetyTables.sized; decide

/-- A step of a part with a cabin on the uphill list. -/
theorem witness_StepKeepsTheFleet (h : Obligations.StepKeepsTheFleet) : uphillPart.tick.fleetKept :=
  h uphillPart uphillPart.tick uphill_inv uphill_fleet rfl

theorem witness_HandoversMoveTheCabin_1 (h : Obligations.HandoversMoveTheCabin) :
    Completes .handoverSummitArrival (heard uphillPart (handover .summitArrival 1 198 5)) :=
  answers (h.1 (heard uphillPart (handover .summitArrival 1 198 5)) (handover .summitArrival 1 198 5) [] 0
    { cabin := 0, slot := 5, oRelease := 100000, attachErr := some 0 } [] ⟨rfl, rfl⟩ rfl (by decide) (by decide) rfl rfl
    rfl rfl (by decide) (by decide))

/-- A part whose cabin is in the summit set. -/
def summitPart : State := { holding moving (cabin 198 .summit) with ctr := { moving.ctr with summit := [0] } }

theorem witness_HandoversMoveTheCabin_2 (h : Obligations.HandoversMoveTheCabin) :
    Completes .handoverSummitLaunch (heard summitPart (handover .summitLaunch 1 198 39)) :=
  answers (h.2 (heard summitPart (handover .summitLaunch 1 198 39)) (handover .summitLaunch 1 198 39) [] tables 0 39
    ⟨rfl, rfl⟩ rfl (by decide) (by decide) rfl rfl rfl (by decide) (by decide) (by decide) (by decide) (by decide))

/-- A part whose reconcile waits for the reply to its request of tag 2. -/
def querying : State :=
  { summitPart with
    ctr := { summitPart.ctr with reconcile := .querying 2 none }
    slk :=
      { summitPart.slk with
        link := .up
        requests := [{ tag := 2, kind := .summitSetQuery, requester := .cabinTracker, deadline := some 0 }] } }

/-- A reply of one part that names the cabin 198. -/
def setReply : LinkFrame := { cls := .unanswered, kind := 1, tag := 2, payload := [0, 9, 17, 1] ++ packIds [198] }

theorem witness_ReplyAppliesTheSummitSet (h : Obligations.ReplyAppliesTheSummitSet) :
    Completes .replyPart (heard querying setReply) :=
  answers (h (heard querying setReply) setReply [] ⟨rfl, rfl⟩ rfl rfl (by decide) (by decide) (by decide) (by decide)
    (by decide))

/-- A part whose reconcile waits to try again, with a link state. -/
def retrying (l : LinkState) : State :=
  { moving with ctr := { moving.ctr with reconcile := .retryWait 0 }, slk := { moving.slk with link := l } }

theorem witness_ReconcileRetriesAndTimesOut_1 (h : Obligations.ReconcileRetriesAndTimesOut) :
    Completes .reconcileRetryExpiry (retrying .up) :=
  ((h.1 (retrying .up) 0 rfl ⟨rfl, by decide⟩).1 rfl (by decide)).imp fun _ x => x.elim fun _ y => y.1

theorem witness_ReconcileRetriesAndTimesOut_2 (h : Obligations.ReconcileRetriesAndTimesOut) :
    Completes .reconcileRetryExpiry (retrying .down) :=
  answers ((h.1 (retrying .down) 0 rfl ⟨rfl, by decide⟩).2 (by decide))

theorem witness_ReconcileRetriesAndTimesOut_3 (h : Obligations.ReconcileRetriesAndTimesOut) :
    Completes (.requestTimeout 2) querying :=
  answers (h.2 querying 2 none ⟨rfl, by decide⟩ rfl rfl)

/-- A request of the summit. -/
def query (kind : Nat) (payload : List Byte) : LinkFrame := { cls := .answered, kind := kind, tag := 4, payload := payload }

theorem witness_SummitRequestsAreAnswered_1 (h : Obligations.SummitRequestsAreAnswered) :
    Completes .valleySetQuery (asked attaching (query 2 [])) :=
  answers ((h (asked attaching (query 2 [])) (query 2 []) [] .valleySetQuery _ ⟨rfl, rfl⟩ rfl rfl
    (.inl ⟨rfl, rfl, by decide, rfl⟩)).1 (by decide))

/-- A part whose garage stack holds cabins 1 to 33. -/
def fullStack : State :=
  { moving with
    registry := (List.range 128).map fun i => if i < 33 then cabin (i + 1) .garage else moving.reg i
    ctr := { moving.ctr with garage := (List.range 33).map fun i => { serial := i, who := .cabin i }, nextSerial := 33 } }

theorem witness_SummitRequestsAreAnswered_2 (h : Obligations.SummitRequestsAreAnswered) :
    Completes .valleySetQuery (asked fullStack (query 2 [])) :=
  answers ((h (asked fullStack (query 2 [])) (query 2 []) [] .valleySetQuery _ ⟨rfl, rfl⟩ rfl rfl
    (.inl ⟨rfl, rfl, by decide, rfl⟩)).1 (by decide))

/-- The part with `n` frames in its UNANSWERED transmit queue. -/
def backlog (s : State) (n : Nat) : State :=
  { s with slk := { s.slk with txUnanswered := List.replicate n { cls := .unanswered, kind := 3, tag := 0, payload := [1] } } }

theorem witness_SummitRequestsAreAnswered_3 (h : Obligations.SummitRequestsAreAnswered) :
    Completes .valleySetQuery (asked (backlog fullStack 15) (query 2 [])) :=
  answers ((h (asked (backlog fullStack 15) (query 2 [])) (query 2 []) [] .valleySetQuery _ ⟨rfl, rfl⟩ rfl rfl
    (.inl ⟨rfl, rfl, by decide, rfl⟩)).2 (by decide) (by decide) (by decide))

/-- A LOCATE of cabin 198. -/
def locate : LinkFrame := query 3 (twoBytes 198)

theorem witness_SummitRequestsAreAnswered_4 (h : Obligations.SummitRequestsAreAnswered) :
    Completes .locate (asked uphillPart locate) :=
  answers ((h (asked uphillPart locate) locate [] .locate _ ⟨rfl, rfl⟩ rfl rfl
    (.inr (.inl ⟨rfl, rfl, 0, some 5, 0, by decide, .inl ⟨rfl, rfl, by decide, _, rfl, rfl⟩, rfl⟩))).1 (by decide))

theorem witness_SummitRequestsAreAnswered_5 (h : Obligations.SummitRequestsAreAnswered) :
    Completes .locate (asked attaching locate) :=
  answers ((h (asked attaching locate) locate [] .locate _ ⟨rfl, rfl⟩ rfl rfl
    (.inr (.inl ⟨rfl, rfl, 0, none, 7, by decide,
      .inr (.inr ⟨by decide, by decide, rfl, rfl, rfl, .inl ⟨rfl, _, rfl, rfl⟩⟩), rfl⟩))).1 (by decide))

theorem witness_SummitRequestsAreAnswered_6 (h : Obligations.SummitRequestsAreAnswered) :
    Completes .locate (asked summitPart locate) :=
  answers ((h (asked summitPart locate) locate [] .locate _ ⟨rfl, rfl⟩ rfl rfl
    (.inr (.inl ⟨rfl, rfl, 0, none, 0, by decide,
      .inr (.inr ⟨by decide, by decide, rfl, rfl, rfl, .inr ⟨by decide, by decide, rfl⟩⟩), rfl⟩))).1 (by decide))

theorem witness_SummitRequestsAreAnswered_7 (h : Obligations.SummitRequestsAreAnswered) :
    Completes .locate (asked base locate) :=
  answers ((h (asked base locate) locate [] .locate _ ⟨rfl, rfl⟩ rfl rfl
    (.inr (.inr (.inl ⟨rfl, rfl, by decide, rfl⟩)))).1 (by decide))

theorem witness_SummitRequestsAreAnswered_8 (h : Obligations.SummitRequestsAreAnswered) :
    Completes .summitRequestUnsupported (asked uphillPart (query 1 [])) :=
  answers ((h (asked uphillPart (query 1 [])) (query 1 []) [] .summitRequestUnsupported _ ⟨rfl, rfl⟩ rfl rfl
    (.inr (.inr (.inr ⟨rfl, by decide, by decide, rfl⟩)))).1 (by decide))

/-! ## Station tracking -/

/-- A part whose cabin is on the downhill list. -/
def downhillPart : State :=
  { holding moving (cabin 198 .downhill) with
    ctr :=
      { moving.ctr with
        downhill := [{ cabin := 0, slot := 8, oReport := 402000 }], slots := moving.ctr.slots.set 8 (.down 0) } }

theorem witness_SummitRequestsAreAnswered_9 (h : Obligations.SummitRequestsAreAnswered) :
    Completes .locate (asked downhillPart locate) :=
  answers ((h (asked downhillPart locate) locate [] .locate _ ⟨rfl, rfl⟩ rfl rfl
    (.inr (.inl ⟨rfl, rfl, 0, some 8, 0, by decide, .inr (.inl ⟨rfl, rfl, by decide, rfl, _, rfl, rfl⟩), rfl⟩))).1
    (by decide))

/-- An ARRIVAL of cabin 198. -/
def arrival : IngressEntry := entry .arrival 2 0 .arrivalReader [198]

theorem witness_ArrivalJoinsTheStationQueue (h : Obligations.ArrivalJoinsTheStationQueue) :
    Completes .arrivalForward (fed downhillPart arrival) :=
  (h (fed downhillPart arrival) arrival [] 0 { cabin := 0, slot := 8, oReport := 402000 } [] ⟨rfl, rfl, rfl, rfl⟩
    (by decide) (by decide) rfl rfl rfl rfl (by decide) (by decide) (by decide) (by decide)).imp
    fun _ x => x.elim fun _ y => y.1

/-- A part with the cabin in a segment of the station. -/
def standing (x : Segment) (r : Route := .undecided) : State := queued (holding moving (cabin 198 .station)) x r

/-- The entry of that cabin. -/
def standingEntry (x : Segment) (r : Route := .undecided) : StationEntry :=
  { serial := 0, who := .cabin 0, segment := x, route := r, slotless := false }

/-- A PASSAGE of a detector. -/
def passage (source : Nat) (r : Role) (w : Word) : IngressEntry := entry .passage source 0 r [w]

theorem witness_PassagesMoveOneEntry_1 (h : Obligations.PassagesMoveOneEntry) :
    Completes .passageForward (fed (standing .s3) (passage 5 .detector4 0)) :=
  answers ((h.1 (fed (standing .s3) (passage 5 .detector4 0)) (passage 5 .detector4 0) [] (standingEntry .s3) .s3 .s4
    (.inr (.inr ⟨rfl, rfl, rfl⟩))).1 ⟨rfl, rfl, rfl, rfl⟩ (by decide))

theorem witness_PassagesMoveOneEntry_2 (h : Obligations.PassagesMoveOneEntry) :
    Completes .passageBackward (fed (standing .s2) (passage 3 .detector2 0x80000000)) :=
  answers ((h.1 (fed (standing .s2) (passage 3 .detector2 0x80000000)) (passage 3 .detector2 0x80000000) []
    (standingEntry .s2) .s1 .s2 (.inl ⟨rfl, rfl, rfl⟩)).2 ⟨rfl, rfl, rfl, rfl⟩ (by decide))

theorem witness_PassagesMoveOneEntry_3 (h : Obligations.PassagesMoveOneEntry) :
    Completes .gripSampleBackward (fed (standing .s5) (backward .gripSample 6 .gripGauge)) :=
  answers ((h.2 (fed (standing .s5) (backward .gripSample 6 .gripGauge)) (backward .gripSample 6 .gripGauge) []
    (standingEntry .s5)).1 ⟨rfl, rfl, rfl, rfl⟩ (by decide))

theorem witness_PassagesMoveOneEntry_4 (h : Obligations.PassagesMoveOneEntry) :
    Completes .switchPassageBackward (fed (standing .s6) (backward .switchPassage 7 .switch)) :=
  answers ((h.2 (fed (standing .s6) (backward .switchPassage 7 .switch)) (backward .switchPassage 7 .switch) []
    (standingEntry .s6)).2 ⟨rfl, rfl, rfl, rfl⟩ (by decide))

/-- A GRIP_SAMPLE of a force. -/
def grip (force : Nat) : IngressEntry := entry .gripSample 6 0 .gripGauge [BitVec.ofNat 32 force]

theorem witness_GripSampleJudgesAndRoutes_1 (h : Obligations.GripSampleJudgesAndRoutes) :
    Completes .gripSampleForward (fed (standing .s4) (grip 1000)) :=
  answers (h (fed (standing .s4) (grip 1000)) (grip 1000) [] tables operations (standingEntry .s4) 0
    ⟨rfl, rfl, rfl, rfl⟩ rfl rfl (by decide) rfl (by decide) (by decide) (by decide))

theorem witness_GripSampleJudgesAndRoutes_2 (h : Obligations.GripSampleJudgesAndRoutes) :
    Completes .gripSampleForward (fed (standing .s4) (grip 2001)) :=
  answers (h (fed (standing .s4) (grip 2001)) (grip 2001) [] tables operations (standingEntry .s4) 0
    ⟨rfl, rfl, rfl, rfl⟩ rfl rfl (by decide) rfl (by decide) (by decide) (by decide))

/-- A SWITCH_PASSAGE to LINE (0) or to GARAGE (1). -/
def switchPassage (w : Word) : IngressEntry := entry .switchPassage 7 0 .switch [w]

theorem witness_SwitchPassageParts_1 (h : Obligations.SwitchPassageParts) :
    Completes .switchPassageForward (fed (standing .s5 .line) (switchPassage 0)) :=
  answers (h.1 (fed (standing .s5 .line) (switchPassage 0)) (switchPassage 0) [] tables (standingEntry .s5 .line) 0
    ⟨rfl, rfl, rfl, rfl⟩ rfl (by decide) rfl (by decide))

theorem witness_SwitchPassageParts_2 (h : Obligations.SwitchPassageParts) :
    Completes .switchPassageForward (fed (standing .s5 .garage) (switchPassage 1)) :=
  answers (h.1 (fed (standing .s5 .garage) (switchPassage 1)) (switchPassage 1) [] tables (standingEntry .s5 .garage) 0
    ⟨rfl, rfl, rfl, rfl⟩ rfl (by decide) rfl (by decide))

/-- A part that has commanded the switch under tag 3. -/
def switching : State :=
  { standing .s5 with
    ctr := { (standing .s5).ctr with commanded := some .line, lastSwitchTag := some 3 } }

theorem witness_SwitchPassageParts_3 (h : Obligations.SwitchPassageParts) :
    Completes .nackSwitchSet (fed switching (nack 7 3 .switch .switchSet 1)) :=
  answers (h.2 (fed switching (nack 7 3 .switch .switchSet 1)) (nack 7 3 .switch .switchSet 1) [] ⟨rfl, rfl, rfl, rfl⟩
    (by decide))

/-- A part that has commanded a garage exit of the cabin on top of the stack. -/
def leaving : State :=
  { holding moving (cabin 198 .garage) with
    ctr :=
      { moving.ctr with
        garage := [{ serial := 0, who := .cabin 0 }], nextSerial := 1, exitPending := 1
        exitCommand := some { tag := 1, serial := 0, deadline := 0 } } }

/-- A GARAGE_EXIT. -/
def garageExit : IngressEntry := entry .garageExit 10 0 .garageDrive [0]

theorem witness_GarageExitPopsTheStack (h : Obligations.GarageExitPopsTheStack) :
    Completes .garageExitForward (fed leaving garageExit) :=
  answers (h (fed leaving garageExit) garageExit [] { tag := 1, serial := 0, deadline := 0 }
    { serial := 0, who := .cabin 0 } [] ⟨rfl, rfl, rfl, rfl⟩ rfl rfl (by decide))

theorem witness_ExitCommandEndsWithoutPassage_1 (h : Obligations.ExitCommandEndsWithoutPassage) :
    Completes .nackGarageExitCommand (fed leaving (nack 10 1 .garageDrive .garageExitCommand 1)) :=
  answers ((h (fed leaving (nack 10 1 .garageDrive .garageExitCommand 1)) { tag := 1, serial := 0, deadline := 0 } rfl rfl
    (by decide) (by decide)).1 (nack 10 1 .garageDrive .garageExitCommand 1) [] ⟨rfl, rfl, rfl, rfl⟩ (by decide))

theorem witness_ExitCommandEndsWithoutPassage_2 (h : Obligations.ExitCommandEndsWithoutPassage) :
    Completes .garageExitTimeout leaving :=
  answers ((h leaving { tag := 1, serial := 0, deadline := 0 } rfl rfl (by decide) (by decide)).2 ⟨rfl, by decide⟩)

/-- A part with a cabin that is not in service. -/
def retired : State :=
  { base with
    registry :=
      { RegEntry.initial { id := 198, profile := 0, gripClass := 0, inService := false } with location := .outOfService } ::
        base.registry.drop 1 }

/-- GARAGE_NEXT of cabin 198, setting the flag. -/
def garageNext : IngressEntry := request 16 [0x010000C6]

theorem witness_OperatorsMoveCabins_6 (h : Obligations.OperatorsMoveCabins) :
    Completes .garageNext (fed retired garageNext) :=
  answers ((h.2.2 (fed retired garageNext) garageNext [] 198 0 ⟨⟨rfl, rfl, rfl, rfl⟩, rfl, rfl⟩ (by decide) (by decide)
    (by decide) rfl (by decide) (by decide)).1 (by decide))

theorem witness_OperatorsMoveCabins_7 (h : Obligations.OperatorsMoveCabins) :
    Completes .garageNext (fed uphillPart garageNext) :=
  answers ((h.2.2 (fed uphillPart garageNext) garageNext [] 198 0 ⟨⟨rfl, rfl, rfl, rfl⟩, rfl, rfl⟩ (by decide) (by decide)
    (by decide) rfl (by decide) (by decide)).2 (by decide))

/-- GARAGE_RELEASE of a count. -/
def garageRelease (n : Word) : IngressEntry := request 17 [n]

/-- A part with a garaged cabin and no exit command outstanding. -/
def garaged : State := { leaving with ctr := { leaving.ctr with exitCommand := none } }

theorem witness_OperatorsMoveCabins_1 (h : Obligations.OperatorsMoveCabins) :
    Completes .garageRelease (fed garaged (garageRelease 2)) :=
  answers ((h.1 (fed garaged (garageRelease 2)) (garageRelease 2) [] (by decide)).1 ⟨⟨rfl, rfl, rfl, rfl⟩, rfl, rfl⟩
    (by decide) (by decide))

theorem witness_OperatorsMoveCabins_2 (h : Obligations.OperatorsMoveCabins) :
    Completes .garageRelease (fed garaged (garageRelease 8)) :=
  answers ((h.1 (fed garaged (garageRelease 8)) (garageRelease 8) [] (by decide)).1 ⟨⟨rfl, rfl, rfl, rfl⟩, rfl, rfl⟩
    (by decide) (by decide))

/-- A part with an unlocated cabin. -/
def lost : State := { holding moving (cabin 198 .unlocated .unknown) with ctr := { moving.ctr with unlocated := [0] } }

/-- LOCATE_CABIN of cabin 198 in the garage. -/
def locateCabin : IngressEntry := request 15 [0x010000C6]

theorem witness_OperatorsMoveCabins_3 (h : Obligations.OperatorsMoveCabins) :
    Completes .locateCabin (fed lost locateCabin) :=
  ((h.1 (fed lost locateCabin) locateCabin [] (by decide)).2 tables 198 0 ⟨⟨rfl, rfl, rfl, rfl⟩, rfl, rfl⟩ (by decide)
    (by decide) (by decide) rfl rfl (by decide) rfl).imp fun _ x => x.elim fun _ y => y.1

/-- REMOVE_CABIN of cabin 198 to UNLOCATED. -/
def removeCabin : IngressEntry := request 14 [198]

theorem witness_OperatorsMoveCabins_4 (h : Obligations.OperatorsMoveCabins) :
    Completes .removeCabin (fed (standing .s6 .line) removeCabin) :=
  answers ((h.2.1 (fed (standing .s6 .line) removeCabin) removeCabin [] 198 0 (standingEntry .s6 .line)
    ⟨⟨rfl, rfl, rfl, rfl⟩, rfl, rfl⟩ (by decide) (by decide) (by decide) rfl (by decide) (by decide) rfl).1 (by decide))

theorem witness_OperatorsMoveCabins_5 (h : Obligations.OperatorsMoveCabins) :
    Completes .removeCabin (fed (standing .s5) removeCabin) :=
  answers ((h.2.1 (fed (standing .s5) removeCabin) removeCabin [] 198 0 (standingEntry .s5)
    ⟨⟨rfl, rfl, rfl, rfl⟩, rfl, rfl⟩ (by decide) (by decide) (by decide) rfl (by decide) (by decide) rfl).2 (by decide))

/-! ## Doors -/

/-- A command of the cabin as a unit holds it, SENT with its deadline at the present. -/
def doorBusy (a : DoorAction) : BusyCommand :=
  { cmd := { serial := 0, cabin := some 0, field := 198, action := a }, tag := 4, phase := .sent 0, retries := 0
    before := .closed, acted := false }

/-- A unit with a state and nothing else. -/
def unitIn (x : UnitState) : DoorUnit := { state := x, pending := none, timedOut := none }

/-- A part with the cabin in S2, its door in a state, and the units and the door record given. -/
def sequencing (d : DoorState) (o c : UnitState) (r : DoorRecord) : State :=
  let s := queued (holding moving (cabin 198 .station d)) .s2
  { s with dsq := { s.dsq with records := [r], openUnit := unitIn o, closeUnit := unitIn c } }

/-- The part while the CLOSE unit carries out a command. -/
def closing (d : DoorState) (a : DoorAction) : State := sequencing d .idle (.busy (doorBusy a)) (DoorRecord.fresh 0)

/-- A DOOR_REPORT of cabin 198 from the OPEN unit, and from the CLOSE unit. -/
def openReport (r : DoorResult) : IngressEntry :=
  entry .doorReport 11 4 .doorOpenUnit [BitVec.ofNat 32 (r.code * 65536 + 198)]

def closeReport (r : DoorResult) : IngressEntry :=
  entry .doorReport 12 4 .doorCloseUnit [BitVec.ofNat 32 (r.code * 65536 + 198)]

theorem witness_MatchedReportFollowsTheTable_1 (h : Obligations.MatchedReportFollowsTheTable) :
    Completes .doorReport (fed (sequencing .opening (.busy (doorBusy .openDoor)) .idle (DoorRecord.fresh 0))
    (openReport .opened)) :=
  answers (h (fed (sequencing .opening (.busy (doorBusy .openDoor)) .idle (DoorRecord.fresh 0)) (openReport .opened))
    (openReport .opened) [] .openUnit (doorBusy .openDoor) 0 (standingEntry .s2) 0 profile .opened .opening .opened
    (.recover 200) ⟨rfl, rfl, rfl, rfl⟩ rfl (by decide) rfl rfl (by decide) rfl rfl (by decide) rfl rfl rfl
    (.inl ⟨rfl, rfl, rfl, rfl⟩))

theorem witness_MatchedReportFollowsTheTable_2 (h : Obligations.MatchedReportFollowsTheTable) :
    Completes .doorReport (fed (closing .closing (.closeDoor .separate)) (closeReport .closed)) :=
  answers (h (fed (closing .closing (.closeDoor .separate)) (closeReport .closed)) (closeReport .closed) []
    .closeUnit (doorBusy (.closeDoor .separate)) 0 (standingEntry .s2) 0 profile .closed .closing .closed
    (.recover 200) ⟨rfl, rfl, rfl, rfl⟩ rfl (by decide) rfl rfl (by decide) rfl rfl (by decide) rfl rfl rfl
    (.inr (.inl ⟨rfl, rfl, rfl, rfl, rfl⟩)))

theorem witness_MatchedReportFollowsTheTable_3 (h : Obligations.MatchedReportFollowsTheTable) :
    Completes .doorReport (fed (closing .closing (.closeDoor .auto)) (closeReport .closed)) :=
  answers (h (fed (closing .closing (.closeDoor .auto)) (closeReport .closed)) (closeReport .closed) [] .closeUnit
    (doorBusy (.closeDoor .auto)) 0 (standingEntry .s2) 0 profile .closed .closing .closed
    (.busy { doorBusy (.closeDoor .auto) with phase := .sent 4100, acted := true }) ⟨rfl, rfl, rfl, rfl⟩ rfl (by
    decide) rfl rfl (by decide) rfl rfl (by decide) rfl rfl rfl
    (.inr (.inr (.inl ⟨rfl, rfl, rfl, rfl, rfl⟩))))

theorem witness_MatchedReportFollowsTheTable_4 (h : Obligations.MatchedReportFollowsTheTable) :
    Completes .doorReport (fed (closing .closing (.closeDoor .auto)) (closeReport .obstructed)) :=
  answers (h (fed (closing .closing (.closeDoor .auto)) (closeReport .obstructed)) (closeReport .obstructed) []
    .closeUnit (doorBusy (.closeDoor .auto)) 0 (standingEntry .s2) 0 profile .obstructed .closing .reopening
    (.busy { doorBusy (.closeDoor .auto) with phase := .sent 4000, acted := true }) ⟨rfl, rfl, rfl, rfl⟩ rfl (by
    decide) rfl rfl (by decide) rfl rfl (by decide) rfl rfl rfl
    (.inr (.inr (.inr (.inl ⟨rfl, rfl, rfl, rfl⟩)))))

theorem witness_MatchedReportFollowsTheTable_5 (h : Obligations.MatchedReportFollowsTheTable) :
    Completes .doorReport (fed (closing .reopening (.closeDoor .auto)) (closeReport .reopened)) :=
  answers (h (fed (closing .reopening (.closeDoor .auto)) (closeReport .reopened)) (closeReport .reopened) []
    .closeUnit (doorBusy (.closeDoor .auto)) 0 (standingEntry .s2) 0 profile .reopened .reopening .opened
    (.recover 200) ⟨rfl, rfl, rfl, rfl⟩ rfl (by decide) rfl rfl (by decide) rfl rfl (by decide) rfl rfl rfl
    (.inr (.inr (.inr (.inr (.inl ⟨rfl, rfl, rfl, rfl⟩))))))

theorem witness_MatchedReportFollowsTheTable_6 (h : Obligations.MatchedReportFollowsTheTable) :
    Completes .doorReport (fed (closing .closed .lockDoor) (closeReport .locked)) :=
  answers (h (fed (closing .closed .lockDoor) (closeReport .locked)) (closeReport .locked) [] .closeUnit (doorBusy
    .lockDoor) 0 (standingEntry .s2) 0 profile .locked .closed .locked
    (.recover 200) ⟨rfl, rfl, rfl, rfl⟩ rfl (by decide) rfl rfl (by decide) rfl rfl (by decide) rfl rfl rfl
    (.inr (.inr (.inr (.inr (.inr (.inl ⟨.inl rfl, rfl, rfl, rfl⟩)))))))

theorem witness_MatchedReportFollowsTheTable_7 (h : Obligations.MatchedReportFollowsTheTable) :
    Completes .doorReport (fed (closing .locking (.closeDoor .auto)) (closeReport .fault)) :=
  answers (h (fed (closing .locking (.closeDoor .auto)) (closeReport .fault)) (closeReport .fault) [] .closeUnit
    (doorBusy (.closeDoor .auto)) 0 (standingEntry .s2) 0 profile .fault .locking .fault
    (.recover 200) ⟨rfl, rfl, rfl, rfl⟩ rfl (by decide) rfl rfl (by decide) rfl rfl (by decide) rfl rfl rfl
    (.inr (.inr (.inr (.inr (.inr (.inr ⟨by decide, rfl, rfl, rfl⟩)))))))

/-- A report of cabin 199, for which the CLOSE unit has no command. -/
def strayReport : IngressEntry := entry .doorReport 12 4 .doorCloseUnit [0x000100C7]

theorem witness_UnmatchedDoorReportIsIgnored (h : Obligations.UnmatchedDoorReportIsIgnored) :
    Completes .doorReport (fed (closing .closing (.closeDoor .auto)) strayReport) :=
  answers (h (fed (closing .closing (.closeDoor .auto)) strayReport) strayReport [] .closed ⟨rfl, rfl, rfl, rfl⟩
    (by decide) (fun b d x _ => by cases x; decide) nofun rfl (by decide) (by decide))

theorem witness_DoorNackRetriesOrAbandons_1 (h : Obligations.DoorNackRetriesOrAbandons) :
    Completes .nackDoor (fed (closing .locking .lockDoor) (nack 12 4 .doorCloseUnit .doorLock 1)) :=
  answers (h (fed (closing .locking .lockDoor) (nack 12 4 .doorCloseUnit .doorLock 1))
    (nack 12 4 .doorCloseUnit .doorLock 1) [] .closeUnit .openUnit (doorBusy .lockDoor) 0 (standingEntry .s2) 0
    (DoorRecord.fresh 0) ⟨rfl, rfl, rfl, rfl⟩ (by decide) rfl rfl rfl (by decide) rfl rfl (by decide) rfl (by decide)
    (by decide) rfl)

theorem witness_DoorNackRetriesOrAbandons_2 (h : Obligations.DoorNackRetriesOrAbandons) :
    Completes .nackDoor (fed (closing .locking .lockDoor) (nack 12 4 .doorCloseUnit .doorLock 2)) :=
  answers (h (fed (closing .locking .lockDoor) (nack 12 4 .doorCloseUnit .doorLock 2))
    (nack 12 4 .doorCloseUnit .doorLock 2) [] .closeUnit .openUnit (doorBusy .lockDoor) 0 (standingEntry .s2) 0
    (DoorRecord.fresh 0) ⟨rfl, rfl, rfl, rfl⟩ (by decide) rfl rfl rfl (by decide) rfl rfl (by decide) rfl (by decide)
    (by decide) rfl)

/-- A lock that is refused while its record is held is not offered again. -/
theorem witness_DoorNackRetriesOrAbandons_3 (h : Obligations.DoorNackRetriesOrAbandons) :
    let s := sequencing .locking .idle (.busy (doorBusy .lockDoor)) { DoorRecord.fresh 0 with held := .drive }
    ∃ u, exec .nackDoor (fed s (nack 12 4 .doorCloseUnit .doorLock 1)) = .next u ∧ u.dsq.closeUnit.state = .idle :=
  (h _ (nack 12 4 .doorCloseUnit .doorLock 1) [] .closeUnit .openUnit (doorBusy .lockDoor) 0 (standingEntry .s2) 0
    { DoorRecord.fresh 0 with held := .drive } ⟨rfl, rfl, rfl, rfl⟩ (by decide) rfl rfl rfl (by decide) rfl rfl (by decide)
    rfl (by decide) (by decide) rfl).imp fun _ x => ⟨x.1, x.2.2.2 (.inr (.inr ⟨by decide, by decide⟩))⟩

theorem witness_DoorDeadlineFaultsTheDoor (h : Obligations.DoorDeadlineFaultsTheDoor) :
    Completes (.doorDeadlineExpiry .closeUnit) (closing .closing (.closeDoor .auto)) :=
  answers (h (closing .closing (.closeDoor .auto)) .closeUnit (doorBusy (.closeDoor .auto)) 0 (standingEntry .s2) 0 profile
    (DoorRecord.fresh 0) rfl rfl ⟨rfl, by decide⟩ (by decide) rfl (by decide) rfl rfl (by decide) rfl (by decide) rfl)

/-- A part whose CLOSE unit has recovered. -/
def recovered : State := sequencing .opened .idle (.recover 0) (DoorRecord.fresh 0)

/-- A part whose CLOSE unit has recovered with a command pending. -/
def recoveredPending : State :=
  { recovered with dsq := { recovered.dsq with closeUnit := { recovered.dsq.closeUnit with pending := some (doorBusy .lockDoor).cmd } } }

/-- A part whose CLOSE unit has waited to offer its command again. -/
def refused : State := sequencing .closed .idle (.busy { doorBusy .lockDoor with phase := .retryWait 0 }) (DoorRecord.fresh 0)

theorem witness_DoorUnitOffersItsCommand_1 (h : Obligations.DoorUnitOffersItsCommand) :
    Completes (.unitRecoverExpiry .closeUnit) recovered :=
  answers ((h recovered .closeUnit 0 ⟨rfl, by decide⟩ (by decide)).1 rfl rfl)

theorem witness_DoorUnitOffersItsCommand_2 (h : Obligations.DoorUnitOffersItsCommand) :
    Completes (.unitRecoverExpiry .closeUnit) recoveredPending :=
  answers ((h recoveredPending .closeUnit 0 ⟨rfl, by decide⟩ (by decide)).2.1 (doorBusy .lockDoor).cmd rfl rfl
    (.inr fun r x => by cases x; rfl))

/-- The same with the record held. -/
def recoveredHeld : State :=
  { recoveredPending with
    dsq := { recoveredPending.dsq with records := [{ DoorRecord.fresh 0 with held := .drive }] } }

theorem witness_DoorUnitOffersItsCommand_3 (h : Obligations.DoorUnitOffersItsCommand) :
    Completes (.unitRecoverExpiry .closeUnit) recoveredHeld :=
  answers ((h recoveredHeld .closeUnit 0 ⟨rfl, by decide⟩ (by decide)).2.2.1 (doorBusy .lockDoor).cmd
    { DoorRecord.fresh 0 with held := .drive } rfl rfl (by decide) rfl (by decide))

theorem witness_DoorUnitOffersItsCommand_4 (h : Obligations.DoorUnitOffersItsCommand) :
    Completes (.doorRetryTimerExpiry .closeUnit) refused :=
  answers ((h refused .closeUnit 0 ⟨rfl, by decide⟩ (by decide)).2.2.2.1 { doorBusy .lockDoor with phase := .retryWait 0 }
    rfl rfl (.inr fun r x => by cases x; rfl))

/-- A part whose CLOSE unit has waited to offer the command of a record that is held. -/
def refusedHeld : State :=
  sequencing .closed .idle (.busy { doorBusy .lockDoor with phase := .retryWait 0 })
    { DoorRecord.fresh 0 with held := .drive }

theorem witness_DoorUnitOffersItsCommand_5 (h : Obligations.DoorUnitOffersItsCommand) :
    ∃ u, exec (.doorRetryTimerExpiry .closeUnit) refusedHeld = .next u ∧ u.dsq.closeUnit.state = .idle :=
  ((h refusedHeld .closeUnit 0 ⟨rfl, by decide⟩ (by decide)).2.2.2.2 { doorBusy .lockDoor with phase := .retryWait 0 }
    { DoorRecord.fresh 0 with held := .drive } rfl rfl (by decide) rfl (by decide) rfl).imp fun _ x => ⟨x.1, x.2.1⟩

/-- The record of a door asked to close, with a timer that runs out now. -/
def closeAsked (dwell wait : Option Ms) : DoorRecord :=
  { DoorRecord.fresh 0 with closeRequested := true, dwell := dwell, dwellDone := dwell.isNone, reopenWait := wait
                            reopened := wait.isSome }

theorem witness_DoorClosesWhenTheTimersAreDone_1 (h : Obligations.DoorClosesWhenTheTimersAreDone) :
    Completes (.dwellExpiry 0) (sequencing .opened .idle .idle (closeAsked (some 0) none)) :=
  answers ((h (sequencing .opened .idle .idle (closeAsked (some 0) none)) (standingEntry .s2) 0 (closeAsked (some 0) none) 0
    tables operations ⟨rfl, by decide⟩ (by decide) rfl (by decide) rfl rfl rfl rfl rfl rfl rfl rfl rfl (by decide)).1 rfl rfl)

theorem witness_DoorClosesWhenTheTimersAreDone_2 (h : Obligations.DoorClosesWhenTheTimersAreDone) :
    Completes (.reopenWaitExpiry 0) (sequencing .opened .idle .idle (closeAsked none (some 0))) :=
  answers ((h (sequencing .opened .idle .idle (closeAsked none (some 0))) (standingEntry .s2) 0 (closeAsked none (some 0)) 0
    tables operations ⟨rfl, by decide⟩ (by decide) rfl (by decide) rfl rfl rfl rfl rfl rfl rfl rfl rfl (by decide)).2 rfl rfl)

/-- The record of a closed door whose settle time runs out now. -/
def settling (m : LockMode) : DoorRecord := { DoorRecord.fresh 0 with settle := some 0, lockMode := m }

theorem witness_DoorLocksAfterTheSettleTime_1 (h : Obligations.DoorLocksAfterTheSettleTime) :
    Completes (.settleExpiry 0) (sequencing .closed .idle .idle (settling .auto)) :=
  answers (h (sequencing .closed .idle .idle (settling .auto)) (standingEntry .s2) 0 (settling .auto) 0 ⟨rfl, by decide⟩
    (by decide) rfl (by decide) (by decide) rfl rfl)

theorem witness_DoorLocksAfterTheSettleTime_2 (h : Obligations.DoorLocksAfterTheSettleTime) :
    Completes (.settleExpiry 0) (sequencing .closed .idle .idle (settling .separate)) :=
  answers (h (sequencing .closed .idle .idle (settling .separate)) (standingEntry .s2) 0 (settling .separate) 0
    ⟨rfl, by decide⟩ (by decide) rfl (by decide) (by decide) rfl rfl)

/-- SET_DOOR_MODE to CLOSED_RUN, and the requests on the door of cabin 198. -/
def doorMode : IngressEntry := request 10 [1]

def doorAsk (kind : Nat) : IngressEntry := request kind [198]

/-- The part with the door of its cabin in a state. -/
def doorIn (d : DoorState) : State := sequencing d .idle .idle (DoorRecord.fresh 0)

theorem witness_DoorRequestsAreTaken_1 (h : Obligations.DoorRequestsAreTaken) :
    Completes .setDoorMode (fed (doorIn .opened) doorMode) :=
  answers ((h (fed (doorIn .opened) doorMode) doorMode [] 0 0 (standingEntry .s2) (DoorRecord.fresh 0) (by decide)).1
    ⟨⟨rfl, rfl, rfl, rfl⟩, rfl, rfl⟩ (by decide))

/-- The part with a DOOR_OPEN QUEUED and another pending. -/
def openQueued : State :=
  let s := sequencing .locked (.busy { doorBusy .openDoor with phase := .queued }) .idle (DoorRecord.fresh 0)
  { s with dsq := { s.dsq with openUnit := { s.dsq.openUnit with pending := some (doorBusy .openDoor).cmd } } }

/-- The change into CLOSED_RUN takes both back. -/
theorem witness_DoorRequestsAreTaken_6 (h : Obligations.DoorRequestsAreTaken) :
    ∃ u, exec .setDoorMode (fed openQueued doorMode) = .next u ∧ (u.dsq.mode = .closedRun → u.dsq.openUnit.state = .idle) :=
  ((h (fed openQueued doorMode) doorMode [] 0 0 (standingEntry .s2) (DoorRecord.fresh 0) (by decide)).1
    ⟨⟨rfl, rfl, rfl, rfl⟩, rfl, rfl⟩ (by decide)).imp fun _ x =>
      ⟨x.1, fun m => (((x.2.2.2 m rfl).2.2.1 _ rfl rfl).2 rfl rfl fun c y => by cases y; rfl).1⟩

theorem witness_DoorRequestsAreTaken_2 (h : Obligations.DoorRequestsAreTaken) :
    Completes .holdOpen (fed (doorIn .opened) (doorAsk 11)) :=
  answers (((h (fed (doorIn .opened) (doorAsk 11)) (doorAsk 11) [] 198 0 (standingEntry .s2) (DoorRecord.fresh 0)
    (by decide)).2 (by decide) (by decide) (by decide) rfl (by decide) (by decide)).1 ⟨⟨rfl, rfl, rfl, rfl⟩, rfl, rfl⟩
    (by decide) rfl)

theorem witness_DoorRequestsAreTaken_3 (h : Obligations.DoorRequestsAreTaken) :
    Completes .holdOpen (fed (doorIn .closing) (doorAsk 11)) :=
  answers (((h (fed (doorIn .closing) (doorAsk 11)) (doorAsk 11) [] 198 0 (standingEntry .s2) (DoorRecord.fresh 0)
    (by decide)).2 (by decide) (by decide) (by decide) rfl (by decide) (by decide)).2.1 ⟨⟨rfl, rfl, rfl, rfl⟩, rfl, rfl⟩
    (by decide))

theorem witness_DoorRequestsAreTaken_4 (h : Obligations.DoorRequestsAreTaken) :
    Completes .releaseHold (fed (doorIn .opened) (doorAsk 12)) :=
  answers (((h (fed (doorIn .opened) (doorAsk 12)) (doorAsk 12) [] 198 0 (standingEntry .s2) (DoorRecord.fresh 0)
    (by decide)).2 (by decide) (by decide) (by decide) rfl (by decide) (by decide)).2.2.1
    ⟨⟨rfl, rfl, rfl, rfl⟩, rfl, rfl⟩)

/-- The record of a door held for an obstruction. -/
def obstructedRecord : DoorRecord := { DoorRecord.fresh 0 with reopens := 3, reopened := true, held := .obstruction }

theorem witness_DoorRequestsAreTaken_5 (h : Obligations.DoorRequestsAreTaken) :
    Completes .doorRetry (fed (sequencing .opened .idle .idle obstructedRecord) (doorAsk 13)) :=
  answers (((h (fed (sequencing .opened .idle .idle obstructedRecord) (doorAsk 13)) (doorAsk 13) [] 198 0
    (standingEntry .s2) obstructedRecord (by decide)).2 (by decide) (by decide) (by decide) rfl (by decide)
    (by decide)).2.2.2.1 ⟨⟨rfl, rfl, rfl, rfl⟩, rfl, rfl⟩ (.inl rfl) (by decide) (by decide))

/-- A FAULT door whose close waits to be offered again, with a second close pending behind it. -/
def retriedTwice : State :=
  let s := sequencing .fault .idle (.busy { doorBusy (.closeDoor .separate) with phase := .retryWait 0 }) (DoorRecord.fresh 0)
  { s with
    dsq :=
      { s.dsq with closeUnit := { s.dsq.closeUnit with pending := some (doorBusy (.closeDoor .separate)).cmd } } }

/-- A third DOOR_RETRY is a backlog, with which the record is held and no close for it waits any more. -/
theorem witness_DoorRequestsAreTaken_7 (h : Obligations.DoorRequestsAreTaken) :
    Completes .doorRetry (fed retriedTwice (doorAsk 13)) :=
  answers (((h (fed retriedTwice (doorAsk 13)) (doorAsk 13) [] 198 0 (standingEntry .s2) (DoorRecord.fresh 0)
    (by decide)).2 (by decide) (by decide) (by decide) rfl (by decide) (by decide)).2.2.2.2
    ⟨⟨rfl, rfl, rfl, rfl⟩, rfl, rfl⟩ (.inl rfl) (.inl rfl) rfl rfl)

/-! ## Supervision -/

/-- A TENSION_SAMPLE outside the stop band. -/
def tension : IngressEntry := entry .tensionSample 14 0 .tension [3700]

theorem witness_TensionFollowsTheBands_1 (h : Obligations.TensionFollowsTheBands) :
    Completes .tensionSample (fed base tension) :=
  answers (h.1 (fed base tension) tension [] tables ⟨rfl, rfl, rfl, rfl⟩ rfl (by decide))

theorem witness_TensionFollowsTheBands_2 (h : Obligations.TensionFollowsTheBands) :
    Completes .tensionLossExpiry { base with rmn := { base.rmn with tensionLoss := some 0 } } :=
  answers (h.2 { base with rmn := { base.rmn with tensionLoss := some 0 } } ⟨rfl, by decide⟩ (by decide))

/-- A part whose tower at table index 0 has a scan phase, a debt and a due timer that runs out now. -/
def scanning (p : ScanPhase) (debt : Nat) : State :=
  { base with
    rmn :=
      { base.rmn with
        towers :=
          { TowerRecord.initial with phase := p, debt := debt, dueTimer := some 0 } :: base.rmn.towers.drop 1 } }

theorem witness_TowerDueQueuesOrRaisesDebt_1 (h : Obligations.TowerDueQueuesOrRaisesDebt) :
    Completes (.towerDueExpiry 0) (scanning .idle 0) :=
  answers ((h (scanning .idle 0) 0 tower 0 rfl ⟨rfl, by decide⟩ rfl (by decide) rfl (by decide)).1 0 rfl (by decide)
    (by decide) (by decide))

theorem witness_TowerDueQueuesOrRaisesDebt_2 (h : Obligations.TowerDueQueuesOrRaisesDebt) :
    Completes (.towerDueExpiry 0) (scanning (.awaiting 2 0) 0) :=
  answers ((h (scanning (.awaiting 2 0) 0) 0 tower 0 rfl ⟨rfl, by decide⟩ rfl (by decide) rfl (by decide)).2.1 2 0 rfl rfl)

theorem witness_TowerDueQueuesOrRaisesDebt_3 (h : Obligations.TowerDueQueuesOrRaisesDebt) :
    Completes (.towerDueExpiry 0) (scanning (.queued false 2) 6) :=
  answers ((h (scanning (.queued false 2) 6) 0 tower 0 rfl ⟨rfl, by decide⟩ rfl (by decide) rfl (by decide)).2.2.1 2 rfl
    (by decide))

theorem witness_TowerDueQueuesOrRaisesDebt_4 (h : Obligations.TowerDueQueuesOrRaisesDebt) :
    Completes (.towerDueExpiry 0) (scanning (.queued false 2) 7) :=
  answers ((h (scanning (.queued false 2) 7) 0 tower 0 rfl ⟨rfl, by decide⟩ rfl (by decide) rfl (by decide)).2.2.2.1 2 rfl
    rfl (by decide))

theorem witness_TowerDueQueuesOrRaisesDebt_5 (h : Obligations.TowerDueQueuesOrRaisesDebt) :
    Completes (.towerDueExpiry 0) (scanning (.queued true 2) 8) :=
  answers ((h (scanning (.queued true 2) 8) 0 tower 0 rfl ⟨rfl, by decide⟩ rfl (by decide) rfl (by decide)).2.2.2.2 2 rfl
    rfl)

/-- A SCAN_REPORT or a TOWER_ALARM of tower 7 with two statuses. -/
def scanFrameOf (k : RingKind) : IngressEntry := entry k 15 2 .towerConcentrator [0x07020004]

theorem witness_ScansEndAtTheirReportOrFail_1 (h : Obligations.ScansEndAtTheirReportOrFail) :
    Completes .scanReport (fed (scanning (.awaiting 2 0) 0) (scanFrameOf .scanReport)) :=
  answers (h.1 (fed (scanning (.awaiting 2 0) 0) (scanFrameOf .scanReport)) (scanFrameOf .scanReport) [] 0 tower 0
    ⟨rfl, rfl, rfl, rfl⟩ (by decide) rfl rfl (by decide))

theorem witness_ScansEndAtTheirReportOrFail_2 (h : Obligations.ScansEndAtTheirReportOrFail) :
    Completes (.scanDeadlineExpiry 0) (scanning (.awaiting 2 0) 0) :=
  answers ((h.2 (scanning (.awaiting 2 0) 0) 0 tower 2 0 rfl rfl rfl (by decide) (by decide) (by decide)).1
    ⟨rfl, by decide⟩)

theorem witness_ScansEndAtTheirReportOrFail_3 (h : Obligations.ScansEndAtTheirReportOrFail) :
    Completes .nackScanRequest (fed (scanning (.awaiting 2 0) 0) (nack 15 2 .towerConcentrator .scanRequest 1)) :=
  answers ((h.2 (fed (scanning (.awaiting 2 0) 0) (nack 15 2 .towerConcentrator .scanRequest 1)) 0 tower 2 0 rfl rfl rfl
    (by decide) (by decide) (by decide)).2 (nack 15 2 .towerConcentrator .scanRequest 1) [] ⟨rfl, rfl, rfl, rfl⟩
    (by decide))

theorem witness_AlarmReplacesTheStatuses (h : Obligations.AlarmReplacesTheStatuses) :
    Completes .towerAlarm (fed base (scanFrameOf .towerAlarm)) :=
  (h (fed base (scanFrameOf .towerAlarm)) (scanFrameOf .towerAlarm) [] 0 tower ⟨rfl, rfl, rfl, rfl⟩ (by decide)
    (by decide)).imp fun _ x => x.elim fun _ y => y.1

/-! ## Summit link -/

/-- The bytes of a summit frame. -/
def summitBytes (f : LinkFrame) : List Byte := linkBytes f 1 false false

/-- The bytes of a summit SAFETY frame at SERVICE_STOP. -/
def safetyBytes : List Byte :=
  summitBytes { cls := .safety, kind := 1, tag := 0, payload := [2, 0x26, 0, 0, 1, 0, 7, 0] }

/-- The part with a link state and an acquisition count. -/
def linked (l : LinkState) (n : Nat) : State :=
  { base with slk := { base.slk with link := l, acq := n, lastSafety := some 0, silence := some 0, sendTimer := some 0 } }

theorem witness_SafetyFramesBringTheLinkUp_1 (h : Obligations.SafetyFramesBringTheLinkUp) :
    Completes (.linkSafetyFrame safetyBytes) (linked .down 0) :=
  answers (h (linked .down 0) safetyBytes 1 rfl (by decide) (by decide) (by decide) rfl (by decide))

theorem witness_SafetyFramesBringTheLinkUp_2 (h : Obligations.SafetyFramesBringTheLinkUp) :
    Completes (.linkSafetyFrame safetyBytes) (linked .acquiring 1) :=
  answers (h (linked .acquiring 1) safetyBytes 2 rfl (by decide) (by decide) (by decide) rfl
    (if_neg (fun x => x.elim (fun y => absurd y (by decide)) fun y => absurd (y 0 rfl) (by decide))).symm)

theorem witness_SafetyFramesBringTheLinkUp_3 (h : Obligations.SafetyFramesBringTheLinkUp) :
    Completes (.linkSafetyFrame safetyBytes) (linked .acquiring 2) :=
  answers (h (linked .acquiring 2) safetyBytes 3 rfl (by decide) (by decide) (by decide) rfl
    (if_neg (fun x => x.elim (fun y => absurd y (by decide)) fun y => absurd (y 0 rfl) (by decide))).symm)

theorem witness_SafetyFramesBringTheLinkUp_4 (h : Obligations.SafetyFramesBringTheLinkUp) :
    Completes (.linkSafetyFrame safetyBytes) (linked .up 3) :=
  answers (h (linked .up 3) safetyBytes 4 rfl (by decide) (by decide) (by decide) rfl
    (if_neg (fun x => x.elim (fun y => absurd y (by decide)) fun y => absurd (y 0 rfl) (by decide))).symm)

theorem witness_BufferedFramesJoinTheirBuffer_1 (h : Obligations.BufferedFramesJoinTheirBuffer) :
    Completes (.linkBadCheckFrame [1, 2, 3]) (linked .acquiring 2) :=
  answers (h.1 (linked .acquiring 2) [1, 2, 3] rfl (by decide) rfl rfl)

/-- The bytes of a summit CALL_SETUP, and of a request. -/
def setupBytes : List Byte := summitBytes (callFrameOf .setup)

def queryBytes : List Byte := summitBytes (query 2 [])

/-- The part with its receive buffers full. -/
def fullBuffers : State :=
  { linked .up 3 with
    slk :=
      { (linked .up 3).slk with
        rxAnswered := List.replicate 4 (query 2 []), rxUnanswered := List.replicate 8 (callFrameOf .setup) } }

theorem witness_BufferedFramesJoinTheirBuffer_2 (h : Obligations.BufferedFramesJoinTheirBuffer) :
    Completes (.linkBufferedFrame setupBytes) (linked .up 3) :=
  answers (h.2 (linked .up 3) setupBytes rfl (by decide) (by decide) rfl rfl)

theorem witness_BufferedFramesJoinTheirBuffer_3 (h : Obligations.BufferedFramesJoinTheirBuffer) :
    Completes (.linkBufferedFrame queryBytes) fullBuffers :=
  answers (h.2 fullBuffers queryBytes rfl (by decide) (by decide) rfl rfl)

theorem witness_LinkEntersDown_1 (h : Obligations.LinkEntersDown) : Completes .silenceExpiry (linked .up 3) :=
  answers (h (linked .up 3) .silenceExpiry sample [] (.inl ⟨rfl, rfl, by decide⟩) (by decide))

/-- LINK_RESTART. -/
def linkRestart : IngressEntry := request 20 []

theorem witness_LinkEntersDown_2 (h : Obligations.LinkEntersDown) :
    Completes .linkRestart (fed (linked .acquiring 2) linkRestart) :=
  answers (h (fed (linked .acquiring 2) linkRestart) .linkRestart linkRestart []
    (.inr ⟨rfl, ⟨⟨rfl, rfl, rfl, rfl⟩, rfl, rfl⟩, by decide, by decide⟩) (by decide))

theorem witness_SafetyFrameIsBuilt_1 (h : Obligations.SafetyFrameIsBuilt) : Completes .safetySendExpiry (linked .up 3) :=
  (h (linked .up 3) ⟨rfl, by decide⟩ rfl rfl).imp fun _ x => x.elim fun _ y => y.1

/-- The part in UP with POWER_ON LATCHED. -/
def stopped : State := ((linked .up 3).raise .powerOn none).takeReport

/-- The clause of a part whose SUMMIT_STOP is INACTIVE is met: the output, SERVICE_STOP by POWER_ON, is the category. -/
theorem witness_SafetyFrameIsBuilt_2 (h : Obligations.SafetyFrameIsBuilt) : ∃ c : Category, c = .serviceStop :=
  (h stopped ⟨rfl, by decide⟩ rfl rfl).elim fun _ x =>
    x.imp fun _ y => (y.2.2.2.2.2.1 (by decide) (by decide) (by decide)).trans (by decide)

/-- That part with a stop that the summit reports, SUMMIT_STOP ACTIVE at EMERGENCY_STOP. -/
def mirroring : State := (stopped.setMirror .emergencyStop).takeReport

/-- With the mirror ACTIVE the category sent is at least that of POWER_ON, and the clause of standing causes is met. -/
theorem witness_SafetyFrameIsBuilt_3 (h : Obligations.SafetyFrameIsBuilt) :
    ∃ c : Category, Category.serviceStop.code ≤ c.code :=
  (h mirroring ⟨rfl, by decide⟩ (by decide) (by decide)).elim fun _ x =>
    x.imp fun _ y => Nat.le_trans (by decide) (y.2.2.1 .powerOn (by decide) (by decide))

/-- A part with a table group invalid, TABLES_INVALID ACTIVE: the clause of TABLES_INVALID is met. -/
theorem witness_SafetyFrameIsBuilt_4 (h : Obligations.SafetyFrameIsBuilt) :
    ∃ c : Category, Category.serviceStop.code ≤ c.code :=
  (h { State.reset with slk := (linked .up 3).slk } ⟨rfl, by decide⟩ rfl rfl).elim fun _ x =>
    x.imp fun _ y => y.2.2.2.1 (by decide)

/-- The summit's stop raises the output and does not go back to the summit (R138). -/
theorem test_sent_category_leaves_out_the_mirror :
    mirroring.stc.output = .emergencyStop ∧ mirroring.sentCategory = .serviceStop := by decide

/-- The part with frames waiting for the transmitter. -/
def sendingPart (safety : Option LinkFrame) (voice unanswered answered : List LinkFrame) : State :=
  { linked .up 3 with
    slk :=
      { (linked .up 3).slk with
        txSafety := safety, txVoice := voice, txUnanswered := unanswered, txAnswered := answered } }

/-- A VOICE frame, and a REQUEST. -/
def speechFrame : LinkFrame := { cls := .voice, kind := 1, tag := 0, payload := [0, 5] }

def requestFrame : LinkFrame := { cls := .answered, kind := 1, tag := 2, payload := [] }

theorem witness_TransmitterTakesTheNextFrame_1 (h : Obligations.TransmitterTakesTheNextFrame) :
    Completes .transmitComplete (sendingPart (some base.safetyFrame) [speechFrame] [callFrameOf .setup] []) :=
  answers ((h (sendingPart (some base.safetyFrame) [speechFrame] [callFrameOf .setup] []) rfl rfl rfl rfl).1
    base.safetyFrame rfl)

theorem witness_TransmitterTakesTheNextFrame_2 (h : Obligations.TransmitterTakesTheNextFrame) :
    Completes .transmitComplete (sendingPart none [speechFrame] [callFrameOf .setup] []) :=
  answers ((h (sendingPart none [speechFrame] [callFrameOf .setup] []) rfl rfl rfl rfl).2.1 speechFrame [] rfl rfl rfl)

theorem witness_TransmitterTakesTheNextFrame_3 (h : Obligations.TransmitterTakesTheNextFrame) :
    Completes .transmitComplete (sendingPart none [] [callFrameOf .setup] [requestFrame]) :=
  answers ((h (sendingPart none [] [callFrameOf .setup] [requestFrame]) rfl rfl rfl rfl).2.2.1 (callFrameOf .setup) []
    rfl rfl rfl rfl)

theorem witness_TransmitterTakesTheNextFrame_4 (h : Obligations.TransmitterTakesTheNextFrame) :
    Completes .transmitComplete (sendingPart none [] [] [requestFrame]) :=
  answers ((h (sendingPart none [] [] [requestFrame]) rfl rfl rfl rfl).2.2.2.1 requestFrame [] rfl rfl (.inr rfl) rfl rfl
    rfl)

theorem witness_TransmitterTakesTheNextFrame_5 (h : Obligations.TransmitterTakesTheNextFrame) :
    Completes .transmitComplete (sendingPart none [] [] []) :=
  answers ((h (sendingPart none [] [] []) rfl rfl rfl rfl).2.2.2.2 rfl rfl (.inr rfl) (.inr rfl))

/-! ## Intercom -/

/-- The part with a call state, the link UP and the call and playout timers run out. -/
def calling (c : CallState) : State :=
  { linked .up 3 with icm := { base.icm with call := c, callTimer := some 0, playout := some 0 } }

/-- A CALL_KEY of an action. -/
def key (n : Word) : IngressEntry := entry .callKey 17 0 .handset [n]

theorem witness_CallRequestsAreTaken_1 (h : Obligations.CallRequestsAreTaken) :
    Completes .callKeyCall (fed (calling .idle) (key 0)) :=
  answers ((h (fed (calling .idle) (key 0)) (key 0) [] .callKeyCall rfl rfl (by decide) (by decide)).1
    (.inl ⟨rfl, rfl, rfl, rfl, rfl⟩) rfl rfl)

theorem witness_CallRequestsAreTaken_2 (h : Obligations.CallRequestsAreTaken) :
    Completes .call (fed (calling .idle) (request 21 [])) :=
  answers ((h (fed (calling .idle) (request 21 [])) (request 21 []) [] .call rfl rfl (by decide) (by decide)).1
    (.inr ⟨rfl, ⟨rfl, rfl, rfl, rfl⟩, rfl, rfl⟩) rfl rfl)

theorem witness_CallRequestsAreTaken_3 (h : Obligations.CallRequestsAreTaken) :
    Completes .callKeyAnswer (fed (calling .ringing) (key 1)) :=
  answers ((h (fed (calling .ringing) (key 1)) (key 1) [] .callKeyAnswer rfl rfl (by decide) (by decide)).2.1
    (.inl ⟨rfl, rfl, rfl, rfl, rfl⟩) rfl)

theorem witness_CallRequestsAreTaken_4 (h : Obligations.CallRequestsAreTaken) :
    Completes .answer (fed (calling .ringing) (request 22 [])) :=
  answers ((h (fed (calling .ringing) (request 22 [])) (request 22 []) [] .answer rfl rfl (by decide) (by decide)).2.1
    (.inr ⟨rfl, ⟨rfl, rfl, rfl, rfl⟩, rfl, rfl⟩) rfl)

theorem witness_CallRequestsAreTaken_5 (h : Obligations.CallRequestsAreTaken) :
    Completes .callKeyHangUp (fed (calling .talk) (key 2)) :=
  answers ((h (fed (calling .talk) (key 2)) (key 2) [] .callKeyHangUp rfl rfl (by decide) (by decide)).2.2.1
    (.inl ⟨rfl, rfl, rfl, rfl, rfl⟩) (by decide) rfl)

theorem witness_CallRequestsAreTaken_6 (h : Obligations.CallRequestsAreTaken) :
    Completes .hangUp (fed (calling .calling) (request 23 [])) :=
  answers ((h (fed (calling .calling) (request 23 [])) (request 23 []) [] .hangUp rfl rfl (by decide) (by decide)).2.2.1
    (.inr ⟨rfl, ⟨rfl, rfl, rfl, rfl⟩, rfl, rfl⟩) (by decide) rfl)

theorem witness_CallRequestsAreTaken_7 (h : Obligations.CallRequestsAreTaken) :
    Completes .callKeyCall (fed (calling .talk) (key 0)) :=
  answers ((h (fed (calling .talk) (key 0)) (key 0) [] .callKeyCall rfl rfl (by decide) (by decide)).2.2.2
    (.inl ⟨.inl ⟨rfl, rfl, rfl, rfl, rfl⟩, .inl (by decide)⟩))

theorem witness_CallRequestsAreTaken_8 (h : Obligations.CallRequestsAreTaken) :
    Completes .answer (fed (calling .idle) (request 22 [])) :=
  answers ((h (fed (calling .idle) (request 22 [])) (request 22 []) [] .answer rfl rfl (by decide) (by decide)).2.2.2
    (.inr (.inl ⟨.inr ⟨rfl, ⟨rfl, rfl, rfl, rfl⟩, rfl, rfl⟩, by decide⟩)))

theorem witness_CallRequestsAreTaken_9 (h : Obligations.CallRequestsAreTaken) :
    Completes .hangUp (fed (calling .idle) (request 23 [])) :=
  answers ((h (fed (calling .idle) (request 23 [])) (request 23 []) [] .hangUp rfl rfl (by decide) (by decide)).2.2.2
    (.inr (.inr ⟨.inr ⟨rfl, ⟨rfl, rfl, rfl, rfl⟩, rfl, rfl⟩, .inl rfl⟩)))

theorem witness_CallFramesAndTheTimerMoveTheCall_1 (h : Obligations.CallFramesAndTheTimerMoveTheCall) :
    Completes .callSetup (heard (calling .idle) (callFrameOf .setup)) :=
  answers ((h.1 (heard (calling .idle) (callFrameOf .setup)) (callFrameOf .setup) [] ⟨rfl, rfl⟩ rfl rfl).1 (by decide) rfl)

theorem witness_CallFramesAndTheTimerMoveTheCall_2 (h : Obligations.CallFramesAndTheTimerMoveTheCall) :
    Completes .callAccept (heard (calling .calling) (callFrameOf .accept)) :=
  answers ((h.1 (heard (calling .calling) (callFrameOf .accept)) (callFrameOf .accept) [] ⟨rfl, rfl⟩ rfl rfl).2.1
    (by decide) rfl)

theorem witness_CallFramesAndTheTimerMoveTheCall_3 (h : Obligations.CallFramesAndTheTimerMoveTheCall) :
    Completes .callClear (heard (calling .ringing) (callFrameOf .clear)) :=
  answers ((h.1 (heard (calling .ringing) (callFrameOf .clear)) (callFrameOf .clear) [] ⟨rfl, rfl⟩ rfl rfl).2.2.1
    (by decide) (.inl rfl))

theorem witness_CallFramesAndTheTimerMoveTheCall_4 (h : Obligations.CallFramesAndTheTimerMoveTheCall) :
    Completes .callAccept (heard (calling .idle) (callFrameOf .accept)) :=
  answers ((h.1 (heard (calling .idle) (callFrameOf .accept)) (callFrameOf .accept) [] ⟨rfl, rfl⟩ rfl rfl).2.2.2.1
    (by decide) (by decide))

theorem witness_CallFramesAndTheTimerMoveTheCall_5 (h : Obligations.CallFramesAndTheTimerMoveTheCall) :
    Completes .callTimerExpiry (calling .ringing) :=
  answers (h.2 (calling .ringing) ⟨rfl, by decide⟩ (.inr rfl) rfl rfl (by decide))

theorem witness_CallFramesAndTheTimerMoveTheCall_6 (h : Obligations.CallFramesAndTheTimerMoveTheCall) :
    Completes .callSetup (heard (calling .calling) (callFrameOf .setup)) :=
  answers ((h.1 (heard (calling .calling) (callFrameOf .setup)) (callFrameOf .setup) [] ⟨rfl, rfl⟩ rfl rfl).2.2.2.2.1
    (by decide) rfl rfl (by decide))

theorem witness_CallFramesAndTheTimerMoveTheCall_7 (h : Obligations.CallFramesAndTheTimerMoveTheCall) :
    Completes .callSetup (heard (calling .talk) (callFrameOf .setup)) :=
  answers ((h.1 (heard (calling .talk) (callFrameOf .setup)) (callFrameOf .setup) [] ⟨rfl, rfl⟩ rfl rfl).2.2.2.2.2.1
    (by decide) rfl rfl (by decide))

theorem witness_CallFramesAndTheTimerMoveTheCall_8 (h : Obligations.CallFramesAndTheTimerMoveTheCall) :
    Completes .callSetup (heard (calling .ringing) (callFrameOf .setup)) :=
  answers ((h.1 (heard (calling .ringing) (callFrameOf .setup)) (callFrameOf .setup) [] ⟨rfl, rfl⟩ rfl
    rfl).2.2.2.2.2.2.1 (by decide) rfl)

theorem witness_CallFramesAndTheTimerMoveTheCall_9 (h : Obligations.CallFramesAndTheTimerMoveTheCall) :
    Completes .callClear (heard (calling .idle) (callFrameOf .clear)) :=
  answers ((h.1 (heard (calling .idle) (callFrameOf .clear)) (callFrameOf .clear) [] ⟨rfl, rfl⟩ rfl
    rfl).2.2.2.2.2.2.2.1 (by decide) rfl)

theorem witness_CallFramesAndTheTimerMoveTheCall_10 (h : Obligations.CallFramesAndTheTimerMoveTheCall) :
    Completes .callClear (heard (calling .talk) (callFrameOf .clear)) :=
  answers ((h.1 (heard (calling .talk) (callFrameOf .clear)) (callFrameOf .clear) [] ⟨rfl, rfl⟩ rfl
    rfl).2.2.2.2.2.2.2.2.1 (by decide) rfl rfl)

/-- A part in TALK with EMERGENCY_OPEN set. -/
def emergencyTalk : State := { calling .talk with icm := { (calling .talk).icm with emergencyOpen := true } }

theorem witness_CallFramesAndTheTimerMoveTheCall_11 (h : Obligations.CallFramesAndTheTimerMoveTheCall) :
    Completes .callClear (heard emergencyTalk (callFrameOf .clear)) :=
  answers ((h.1 (heard emergencyTalk (callFrameOf .clear)) (callFrameOf .clear) [] ⟨rfl, rfl⟩ rfl
    rfl).2.2.2.2.2.2.2.2.2 (by decide) rfl rfl (by decide) (by decide))

/-- A handset's VOICE frame. -/
def handsetVoice : IngressEntry := entry .voice 17 0 .handset [5, 0, 0, 0, 0, 0, 0, 0, 0, 0, 0]

/-- A part in TALK with two frames in its VOICE transmit queue. -/
def talking : State :=
  { calling .talk with
    slk := { (calling .talk).slk with txVoice := List.replicate 2 { cls := .voice, kind := 1, tag := 0, payload := [0] } } }

theorem witness_SpeechPassesThrough_1 (h : Obligations.SpeechPassesThrough) :
    Completes .handsetVoice (fed talking handsetVoice) :=
  answers (((h (fed talking handsetVoice) rfl rfl).1 handsetVoice [] ⟨rfl, rfl, rfl, rfl⟩).1 rfl)

theorem witness_SpeechPassesThrough_2 (h : Obligations.SpeechPassesThrough) :
    Completes .handsetVoice (fed (calling .idle) handsetVoice) :=
  answers (((h (fed (calling .idle) handsetVoice) rfl rfl).1 handsetVoice [] ⟨rfl, rfl, rfl, rfl⟩).2 (by decide))

/-- A part in TALK with one entry in its jitter buffer. -/
def buffering : State :=
  { calling .talk with
    icm := { (calling .talk).icm with buffer := [{ seq := 4, audio := List.replicate 40 0 }], phase := .filling } }

/-- The bytes of a summit VOICE frame of sequence 5. -/
def voiceBytes : List Byte :=
  summitBytes { cls := .voice, kind := 1, tag := 0, payload := twoBytes 5 ++ List.replicate 40 0 }

theorem witness_SpeechPassesThrough_3 (h : Obligations.SpeechPassesThrough) :
    Completes (.linkVoiceFrame voiceBytes) buffering :=
  answers (((h buffering rfl rfl).2.1 voiceBytes _ rfl (by decide) (by decide) rfl rfl (by decide)).2.2.2
    [{ seq := 4, audio := List.replicate 40 0 }] [] rfl nofun rfl (by decide) nofun)

/-- A part in TALK with a jitter buffer of the sequences given and a last played sequence. -/
def voiced (last : Option Nat) (seqs : List Nat) : State :=
  { calling .talk with
    icm :=
      { (calling .talk).icm with
        buffer := seqs.map fun n => { seq := n, audio := [] }, phase := .playing, lastPlayed := last } }

theorem witness_SpeechPassesThrough_6 (h : Obligations.SpeechPassesThrough) :
    Completes (.linkVoiceFrame voiceBytes) (voiced (some 5) []) :=
  answers (((h (voiced (some 5) []) rfl rfl).2.1 voiceBytes _ rfl (by decide) (by decide) rfl rfl (by decide)).2.1 rfl
    (.inl ⟨5, rfl, by decide⟩))

theorem witness_SpeechPassesThrough_7 (h : Obligations.SpeechPassesThrough) :
    Completes (.linkVoiceFrame voiceBytes) (voiced none [32773]) :=
  answers (((h (voiced none [32773]) rfl rfl).2.1 voiceBytes _ rfl (by decide) (by decide) rfl rfl (by decide)).2.1 rfl
    (.inr (by decide)))

theorem witness_SpeechPassesThrough_8 (h : Obligations.SpeechPassesThrough) :
    Completes (.linkVoiceFrame voiceBytes) (voiced none [5]) :=
  answers (((h (voiced none [5]) rfl rfl).2.1 voiceBytes _ rfl (by decide) (by decide) rfl rfl (by decide)).2.2.1 rfl
    nofun (by decide) (by decide))

theorem witness_SpeechPassesThrough_9 (h : Obligations.SpeechPassesThrough) :
    Completes (.linkVoiceFrame voiceBytes) (voiced (some 4) [6, 7, 8, 9, 10, 11]) :=
  answers (((h (voiced (some 4) [6, 7, 8, 9, 10, 11]) rfl rfl).2.1 voiceBytes _ rfl (by decide) (by decide) rfl rfl
    (by decide)).2.2.2 [] ([6, 7, 8, 9, 10, 11].map fun n => { seq := n, audio := [] }) rfl
    (fun p x => by cases x; decide) rfl nofun (by decide))

theorem witness_SpeechPassesThrough_10 (h : Obligations.SpeechPassesThrough) :
    Completes (.linkVoiceFrame voiceBytes) { voiced none [] with icm := { (calling .idle).icm with buffer := [] } } :=
  answers (((h { voiced none [] with icm := { (calling .idle).icm with buffer := [] } } rfl rfl).2.1 voiceBytes _ rfl
    (by decide) (by decide) rfl rfl (by decide)).1 (by decide))

theorem witness_SpeechPassesThrough_4 (h : Obligations.SpeechPassesThrough) : Completes .playoutExpiry buffering :=
  answers ((h buffering rfl rfl).2.2.1 { seq := 4, audio := List.replicate 40 0 } [] ⟨rfl, by decide⟩ rfl (by decide)
    (by decide))

theorem witness_SpeechPassesThrough_5 (h : Obligations.SpeechPassesThrough) : Completes .playoutExpiry (calling .talk) :=
  answers ((h (calling .talk) rfl rfl).2.2.2 ⟨rfl, by decide⟩ rfl)

/-! ## Stop chain and ring -/

/-- The part with a queued release, and the same with its loop open. -/
def releasing : State := { base with lgt := { base.lgt with pending := some release } }

def openLoop : State :=
  { base with
    pins := { base.pins with loop := .loopOpen }
    stc :=
      { base.stc with
        records :=
          base.stc.records.set Cause.estopLoop.num { base.cause .estopLoop with present := true, state := .active }
        output := .emergencyStop, servicePermit := false, emergencyPermit := false } }

theorem releasing_inv : releasing.Inv := by
  unfold State.Inv State.bounded State.permitsRight Rng.bounded Rng.queuesBounded Rng.tablesSized Tst.bounded Slk.bounded
    Icm.bounded Rpu.bounded Rmn.bounded Stc.bounded FirstOut.bounded Stc.permitsAgree Slk.requestsRight Lgt.bounded
    Ctr.bounded Store.bounded SafetyTables.bounded ParkRecord.bounded
  decide

theorem openLoop_inv : openLoop.Inv := by
  unfold State.Inv State.bounded State.permitsRight Rng.bounded Rng.queuesBounded Rng.tablesSized Tst.bounded Slk.bounded
    Icm.bounded Rpu.bounded Rmn.bounded Stc.bounded FirstOut.bounded Stc.permitsAgree Slk.requestsRight Lgt.bounded
    Ctr.bounded Store.bounded SafetyTables.bounded ParkRecord.bounded
  decide

/-- A part held in reset, its permits withdrawn. -/
def heldStopped : State :=
  { heldPart with stc := { heldPart.stc with servicePermit := false, emergencyPermit := false } }

theorem heldStopped_inv : heldStopped.Inv := by
  unfold State.Inv State.bounded State.permitsRight Rng.bounded Rng.queuesBounded Rng.tablesSized Tst.bounded Slk.bounded
    Icm.bounded Rpu.bounded Rmn.bounded Stc.bounded FirstOut.bounded Stc.permitsAgree Slk.requestsRight Lgt.bounded
    Ctr.bounded Store.bounded SafetyTables.bounded ParkRecord.bounded
  decide

theorem witness_EstopOpeningWithdrawsBothPermits_1 (h : Obligations.EstopOpeningWithdrawsBothPermits) :
    Completes (.estopInChange .loopOpen) releasing :=
  answers ((h releasing releasing_inv).1 rfl (by decide) (by decide))

theorem witness_EstopOpeningWithdrawsBothPermits_2 (h : Obligations.EstopOpeningWithdrawsBothPermits) :
    Completes (.estopInChange .loopClosed) openLoop :=
  answers ((h openLoop openLoop_inv).2.1 rfl (by decide) (by decide))

theorem witness_EstopOpeningWithdrawsBothPermits_3 (h : Obligations.EstopOpeningWithdrawsBothPermits) :
    exec (.estopInChange .loopOpen) heldStopped =
      .next (heldStopped.setPins { heldStopped.pins with loop := .loopOpen }) :=
  (h heldStopped heldStopped_inv).2.2 .loopOpen rfl

/-- A part stopped with causes of each category LATCHED, on the backup oscillator. -/
def latchedPart : State :=
  { base with
    rpu := { base.rpu with motion := .stopped }
    tmb := { base.tmb with selection := .backup, lastWindow := some 0 }
    stc :=
      { base.stc with
        records :=
          [Cause.tensionWarn, .tachSingle, .doorNotLocked, .tensionLimit, .timebaseDegraded].foldl
            (fun x c => x.set c.num { base.cause c with state := .latched, raises := 1 }) base.stc.records
        output := .emergencyStop, servicePermit := false, emergencyPermit := false } }

/-- RESET_CAUSES. -/
def resetCauses : IngressEntry := request 9 []

theorem latchedPart_inv : (fed latchedPart resetCauses).Inv := by
  unfold State.Inv State.bounded State.permitsRight Rng.bounded Rng.queuesBounded Rng.tablesSized Tst.bounded Slk.bounded
    Icm.bounded Rpu.bounded Rmn.bounded Stc.bounded FirstOut.bounded Stc.permitsAgree Slk.requestsRight Lgt.bounded
    Ctr.bounded Store.bounded SafetyTables.bounded ParkRecord.bounded
  decide

theorem witness_ResetCausesReleasesByItsGates_1 (h : Obligations.ResetCausesReleasesByItsGates) :
    Completes (.resetCauses .run) (fed latchedPart resetCauses) :=
  answers (h (fed latchedPart resetCauses) resetCauses [] .run ⟨⟨rfl, rfl, rfl, rfl⟩, rfl, rfl⟩ latchedPart_inv (by decide))

theorem witness_ResetCausesReleasesByItsGates_2 (h : Obligations.ResetCausesReleasesByItsGates) :
    Completes (.resetCauses .maint) (fed latchedPart resetCauses) :=
  answers (h (fed latchedPart resetCauses) resetCauses [] .maint ⟨⟨rfl, rfl, rfl, rfl⟩, rfl, rfl⟩ latchedPart_inv
    (by decide))

/-- The ring before its purge revolution is over. -/
def purging : State := { base with rng := { base.rng with purge := List.replicate 8 true } }

theorem witness_RingSlotsAreServed_1 (h : Obligations.RingSlotsAreServed) :
    Completes (.ringSlotPass 0 0x08681000 1 [3700]) purging :=
  answers ((h.1 purging 0 0x08681000 1 [3700] rfl (by unfold Rng.tablesSized; decide) (by decide)).1 (by decide))

/-- A CONTROL frame that waits. -/
def switchSet : EgressFrame := { kind := .switchSet, mask := 128, tag := 1, payload := [0], restartReply := false }

/-- The ring with that frame waiting, and with a record of slot 0 that names addresses 7 and 8. -/
def waiting : State :=
  { base with
    rng := { base.rng with control := [switchSet], slotRecords := some 0x180 :: base.rng.slotRecords.drop 1 } }

theorem witness_RingSlotsAreServed_2 (h : Obligations.RingSlotsAreServed) :
    Completes (.ringSlotPass 0 0 0 []) waiting :=
  answers ((h.1 waiting 0 0 0 [] rfl (by unfold Rng.tablesSized; decide) (by decide)).2.1 (by decide) (by decide))

/-- The part with frames that wait, CONTROL, VOICE, POLL and REPORT. -/
def egress (s : State) (control voice poll report : List EgressFrame) : State :=
  { s with rng := { s.rng with control := control, voice := voice, poll := poll, report := report } }

/-- The slot of a POLL frame that waits before a REPORT one. -/
theorem witness_RingSlotsAreServed_7 (h : Obligations.RingSlotsAreServed) :
    ∃ u, exec (.ringSlotPass 0 0 0 []) (egress base [] [] [{ switchSet with mask := 2 }] [switchSet]) = .next u ∧
      u.rng.slotRecords = some 2 :: base.rng.slotRecords.drop 1 :=
  ((h.1 (egress base [] [] [{ switchSet with mask := 2 }] [switchSet]) 0 0 0 [] rfl (by unfold Rng.tablesSized; decide)
    (by decide)).2.1 (by decide) (by decide)).imp fun _ x => ⟨x.1, x.2.1⟩

/-- While SAFETY is invalid a CONTROL frame waits and the REPORT frame goes. -/
theorem witness_RingSlotsAreServed_8 (h : Obligations.RingSlotsAreServed) :
    let s := egress { base with tst := { base.tst with safety := none } } [switchSet] [] [] [mgmtReply { source := 1, tag := 3, kind := 6 } .ok [] false]
    ∃ u, exec (.ringSlotPass 0 0 0 []) s = .next u ∧ u.rng.control = [switchSet] ∧ u.rng.report = [] :=
  ((h.1 _ 0 0 0 [] rfl (by unfold Rng.tablesSized; decide) (by decide)).2.2.1 (by decide) (by decide) rfl
    (by decide)).imp fun _ x => ⟨x.1, (x.2.1 rfl).1, ((x.2.2.2.2.2.2 _ _ (.inl rfl) rfl (.inr rfl)).1 rfl)⟩

/-- The insertion of a release, of a door command, of a scan and of a garage exit command. -/
theorem witness_RingSlotsAreServed_9 (h : Obligations.RingSlotsAreServed) :
    let s := egress releasing [{ switchSet with kind := .gateRelease, tag := release.tag }] [] [] []
    ∃ u, exec (.ringSlotPass 0 0 0 []) s = .next u ∧ u.rng.control = [] ∧
      u.lgt.pending = some { release with phase := .sent (s.after 100) } :=
  ((h.1 _ 0 0 0 [] rfl (by unfold Rng.tablesSized; decide) (by decide)).2.2.1 (by decide) (by decide) rfl
    (by decide)).imp fun _ x =>
      ⟨x.1, (x.2.2.1 _ [] rfl rfl).1 (fun y => absurd y (by decide)),
        (x.2.2.1 _ [] rfl rfl).2.1 release rfl rfl rfl rfl⟩

theorem witness_RingSlotsAreServed_10 (h : Obligations.RingSlotsAreServed) :
    let b := { doorBusy (.closeDoor .auto) with phase := .queued }
    let s := egress (sequencing .opened .idle (.busy b) (DoorRecord.fresh 0)) [{ switchSet with kind := .doorClose, tag := 4 }] [] [] []
    ∃ u, exec (.ringSlotPass 0 0 0 []) s = .next u ∧ u.rng.control = [] ∧ (u.reg 0).door = .closing :=
  ((h.1 _ 0 0 0 [] rfl (by unfold Rng.tablesSized; decide) (by decide)).2.2.1 (by decide) (by decide) rfl
    (by decide)).imp fun _ x =>
      ⟨x.1, (x.2.2.1 _ [] rfl rfl).1 (fun _ => ⟨rfl, rfl⟩),
        ((x.2.2.1 _ [] rfl rfl).2.2.1 .closeUnit _ (standingEntry .s2) 0 profile rfl rfl rfl rfl
          (fun o c hne hb => by cases o <;> first | exact absurd rfl hne | cases hb) rfl rfl (by decide) rfl rfl).2⟩

theorem witness_RingSlotsAreServed_11 (h : Obligations.RingSlotsAreServed) :
    let s := egress (scanning (.queued false 2) 3) [] [] [{ switchSet with kind := .scanRequest, mask := 0x8000, tag := 2 }] []
    ∃ u, exec (.ringSlotPass 0 0 0 []) s = .next u ∧ u.rng.poll = [] ∧ (u.tower 0).debt = 0 ∧
      (u.tower 0).phase = .awaiting 2 (s.after 250) :=
  ((h.1 _ 0 0 0 [] rfl (by unfold Rng.tablesSized; decide) (by decide)).2.2.1 (by decide) (by decide) rfl
    (by decide)).imp fun _ x =>
      have y := x.2.2.2.2.2.1 _ [] 0 rfl (.inr ⟨rfl, rfl, rfl⟩) rfl (by decide) (by decide)
      ⟨x.1, x.2.2.2.2.1 _ [] rfl rfl rfl rfl, by rw [y], by rw [y]⟩

theorem witness_RingSlotsAreServed_12 (h : Obligations.RingSlotsAreServed) :
    let s := egress leaving [{ switchSet with kind := .garageExitCommand }] [] [] []
    ∃ u, exec (.ringSlotPass 0 0 0 []) s = .next u ∧ (u.ctr.exitCommand.map ExitCommand.deadline) = some (s.after 30000) :=
  ((h.1 _ 0 0 0 [] rfl (by unfold Rng.tablesSized; decide) (by decide)).2.2.1 (by decide) (by decide) rfl
    (by decide)).imp fun _ x => ⟨x.1, by rw [(x.2.2.1 _ [] rfl rfl).2.2.2 _ rfl rfl rfl]; rfl⟩

/-- An event report that waits follows the REPORT frame that goes, and a VOICE frame leaves its queue. -/
theorem witness_RingSlotsAreServed_13 (h : Obligations.RingSlotsAreServed) :
    let s := egress (base.report .parkStale none none []) [] [] [] [{ switchSet with kind := .event }]
    let s := { s with tst := { s.tst with events := [s.eventEntry .parkStale none none []] } }
    ∃ u, exec (.ringSlotPass 0 0 0 []) s = .next u ∧ u.tst.events = [] :=
  ((h.1 _ 0 0 0 [] rfl (by unfold Rng.tablesSized; decide) (by decide)).2.2.1 (by decide) (by decide) rfl
    (by decide)).imp fun _ x =>
      ⟨x.1, ((x.2.2.2.2.2.2 _ [] (.inr ⟨rfl, rfl, rfl⟩) rfl (.inl rfl)).2 _ [] rfl (by decide) (by decide)).1⟩

theorem witness_RingSlotsAreServed_14 (h : Obligations.RingSlotsAreServed) :
    ∃ u, exec (.ringSlotPass 0 0 0 []) (egress base [] [{ switchSet with kind := .voice }] [] []) = .next u ∧
      u.rng.voice = [] :=
  ((h.1 (egress base [] [{ switchSet with kind := .voice }] [] []) 0 0 0 [] rfl (by unfold Rng.tablesSized; decide)
    (by decide)).2.2.1 (by decide) (by decide) rfl (by decide)).imp fun _ x => ⟨x.1, x.2.2.2.1 _ [] rfl rfl rfl⟩

/-- The header words of a TENSION_SAMPLE: from address 14, and from address 13, whose role is TACH but whose kinds allow
it; with an empty mask; and marked. -/
theorem witness_RingSlotsAreServed_3 (h : Obligations.RingSlotsAreServed) :
    Completes (.ringSlotPass 0 0x0B701000 1 [3700]) base :=
  answers ((h.1 base 0 0x0B701000 1 [3700] rfl (by unfold Rng.tablesSized; decide) (by decide)).2.2.2.1 tables (by decide)
    (by decide) (by decide) rfl)

theorem witness_RingSlotsAreServed_4 (h : Obligations.RingSlotsAreServed) :
    Completes (.ringSlotPass 0 0x0B701000 0 [3700]) base :=
  answers ((h.1 base 0 0x0B701000 0 [3700] rfl (by unfold Rng.tablesSized; decide) (by decide)).2.2.2.1 tables (by decide)
    (by decide) (by decide) rfl)

theorem witness_RingSlotsAreServed_5 (h : Obligations.RingSlotsAreServed) :
    Completes (.ringSlotPass 0 0x16001800 0x80 [0]) waiting :=
  answers ((h.1 waiting 0 0x16001800 0x80 [0] rfl (by unfold Rng.tablesSized; decide) (by decide)).2.2.2.2 0x180 (by decide)
    (by decide) (by decide) rfl rfl)

/-- A frame that the detector D2 may send and that has no row: a TACH_SAMPLE. -/
def stray : IngressEntry := entry .tachSample 3 0 .detector2 [0, 0]

theorem witness_RingSlotsAreServed_6 (h : Obligations.RingSlotsAreServed) :
    Completes .frameUndeliverable (fed base stray) :=
  answers (h.2 (fed base stray) stray [] ⟨rfl, rfl, rfl, rfl⟩ rfl (by decide) (by decide))

/-! ## Tables, store and timebase -/

theorem witness_TimebaseWindowIsJudged_1 (h : Obligations.TimebaseWindowIsJudged) :
    Completes (.timebaseWindowEnd 38000) base :=
  answers ((h base 38000 rfl rfl).1 (.inl (by decide)))

theorem witness_TimebaseWindowIsJudged_2 (h : Obligations.TimebaseWindowIsJudged) :
    Completes (.timebaseWindowEnd 42001) base :=
  answers ((h base 42001 rfl rfl).2 (.inr (by decide)) rfl (by decide) (by decide) (by decide))

/-- STAGE_ENTRY of a SAFETY entry, and of a FLEET one. -/
def stage (n v : Word) : IngressEntry := request 4 [n, v]

theorem witness_StagingIsJudged_1 (h : Obligations.StagingIsJudged) :
    Completes .stageEntry (fed base (stage 2 4000000)) :=
  answers ((h (fed base (stage 2 4000000)) (stage 2 4000000) [] (by decide)).1 2 4000000 ⟨⟨rfl, rfl, rfl, rfl⟩, rfl, rfl⟩
    rfl rfl)

theorem witness_StagingIsJudged_2 (h : Obligations.StagingIsJudged) :
    Completes .stageEntry (fed base (stage 2 4000001)) :=
  answers ((h (fed base (stage 2 4000001)) (stage 2 4000001) [] (by decide)).1 2 4000001 ⟨⟨rfl, rfl, rfl, rfl⟩, rfl, rfl⟩
    rfl rfl)

theorem witness_StagingIsJudged_3 (h : Obligations.StagingIsJudged) :
    Completes .stageEntry (fed base (stage 32 1)) :=
  answers ((h (fed base (stage 32 1)) (stage 32 1) [] (by decide)).1 32 1 ⟨⟨rfl, rfl, rfl, rfl⟩, rfl, rfl⟩ rfl rfl)

theorem witness_StagingIsJudged_4 (h : Obligations.StagingIsJudged) :
    Completes .stageEntry (fed base (stage 79 3)) :=
  answers ((h (fed base (stage 79 3)) (stage 79 3) [] (by decide)).1 79 3 ⟨⟨rfl, rfl, rfl, rfl⟩, rfl, rfl⟩ rfl rfl)

theorem witness_StagingIsJudged_5 (h : Obligations.StagingIsJudged) :
    Completes .stageEntry (fed base (stage 0x02000000 0)) :=
  answers ((h (fed base (stage 0x02000000 0)) (stage 0x02000000 0) [] (by decide)).1 0x02000000 0
    ⟨⟨rfl, rfl, rfl, rfl⟩, rfl, rfl⟩ rfl rfl)

/-- Staged into SAFETY: the last and the first value beyond the range of KA and of a capacity. -/
theorem witness_StagingIsJudged_13 (h : Obligations.StagingIsJudged) :
    ∃ u, exec .stageEntry (fed base (request 4 [22, 20000])) = .next u ∧ u.tst.stageSafety = { tables with ka := 20000 } :=
  have m : (22, 500, 20000, fun (t : SafetyTables) v => { t with ka := v }) ∈ SafetyTables.numbers := by
    simp [SafetyTables.numbers]
  ((h (fed base (request 4 [22, 20000])) (request 4 [22, 20000]) [] (by decide)).1 _ _
    ⟨⟨rfl, rfl, rfl, rfl⟩, rfl, rfl⟩ rfl rfl).imp fun _ x =>
      ⟨x.1, (((x.2.2.2.2.2.2.1 (by decide)).1 500 20000 _ m).1 (by decide) (by decide)).2.2⟩

theorem witness_StagingIsJudged_14 (h : Obligations.StagingIsJudged) :
    ∃ u, exec .stageEntry (fed base (request 4 [19, 9])) = .next u ∧ u.tst.stageSafety = tables :=
  have m : (19, 1, 8, fun (t : SafetyTables) v => { t with caps := t.caps.set 6 v }) ∈ SafetyTables.numbers :=
    List.mem_append_right _ (List.mem_map.mpr ⟨6, by decide, rfl⟩)
  ((h (fed base (request 4 [19, 9])) (request 4 [19, 9]) [] (by decide)).1 _ _
    ⟨⟨rfl, rfl, rfl, rfl⟩, rfl, rfl⟩ rfl rfl).imp fun _ x =>
      ⟨x.1, (((x.2.2.2.2.2.2.1 (by decide)).1 1 8 _ m).2 (.inr (by decide))).2.2⟩

/-- Tension bands in order, and two of them equal. -/
theorem witness_StagingIsJudged_15 (h : Obligations.StagingIsJudged) :
    ∃ u, exec .stageEntry (fed base (request 4 [27, 0x00010002, 0x00030004])) = .next u ∧
      u.tst.stageSafety = { tables with stopLo := 1, warnLo := 2, warnHi := 3, stopHi := 4 } :=
  ((h (fed base (request 4 [27, 0x00010002, 0x00030004])) (request 4 [27, 0x00010002, 0x00030004]) [] (by decide)).1 _ _
    ⟨⟨rfl, rfl, rfl, rfl⟩, rfl, rfl⟩ rfl rfl).imp fun _ x =>
      ⟨x.1, (((x.2.2.2.2.2.2.1 (by decide)).2.1 rfl).1 (by decide) (by decide) (by decide)).2.2⟩

theorem witness_StagingIsJudged_16 (h : Obligations.StagingIsJudged) :
    ∃ u, exec .stageEntry (fed base (request 4 [27, 0x00010002, 0x00020004])) = .next u ∧ u.tst.stageSafety = tables :=
  ((h (fed base (request 4 [27, 0x00010002, 0x00020004])) (request 4 [27, 0x00010002, 0x00020004]) [] (by decide)).1 _ _
    ⟨⟨rfl, rfl, rfl, rfl⟩, rfl, rfl⟩ rfl rfl).imp fun _ x =>
      ⟨x.1, (((x.2.2.2.2.2.2.1 (by decide)).2.1 rfl).2 (.inr (.inl (by decide)))).2.2⟩

/-- The stop matrix: a fixed cause at its default and below it, the mirror, and a word that is no category. -/
theorem witness_StagingIsJudged_17 (h : Obligations.StagingIsJudged) :
    ∃ u, exec .stageEntry (fed base (request 4 [78, 3])) = .next u ∧ u.tst.safetyChanged = true :=
  ((h (fed base (request 4 [78, 3])) (request 4 [78, 3]) [] (by decide)).1 _ _
    ⟨⟨rfl, rfl, rfl, rfl⟩, rfl, rfl⟩ rfl rfl).imp fun _ x =>
      ⟨x.1, ((((x.2.2.2.2.2.2.1 (by decide)).2.2.1 .estopLoop rfl).2 .emergencyStop rfl).2.1 rfl).1 rfl |>.2.1⟩

theorem witness_StagingIsJudged_18 (h : Obligations.StagingIsJudged) :
    ∃ u, exec .stageEntry (fed base (request 4 [78, 0])) = .next u ∧
      u.tst.stageSafety = { tables with matrix := tables.matrix.set 46 .emergencyStop } :=
  ((h (fed base (request 4 [78, 0])) (request 4 [78, 0]) [] (by decide)).1 _ _
    ⟨⟨rfl, rfl, rfl, rfl⟩, rfl, rfl⟩ rfl rfl).imp fun _ x =>
      ⟨x.1, ((((x.2.2.2.2.2.2.1 (by decide)).2.2.1 .estopLoop rfl).2 .run rfl).2.1 rfl).2 (by decide) |>.2.2⟩

theorem witness_StagingIsJudged_19 (h : Obligations.StagingIsJudged) :
    ∃ u, exec .stageEntry (fed base (request 4 [74, 1])) = .next u ∧ u.tst.stageSafety = tables :=
  ((h (fed base (request 4 [74, 1])) (request 4 [74, 1]) [] (by decide)).1 _ _
    ⟨⟨rfl, rfl, rfl, rfl⟩, rfl, rfl⟩ rfl rfl).imp fun _ x =>
      ⟨x.1, (((x.2.2.2.2.2.2.1 (by decide)).2.2.1 .summitStop rfl).2 .holdLaunch rfl).1 rfl |>.2.2⟩

theorem witness_StagingIsJudged_20 (h : Obligations.StagingIsJudged) :
    ∃ u, exec .stageEntry (fed base (request 4 [32, 4])) = .next u ∧ u.tst.stageSafety = tables :=
  ((h (fed base (request 4 [32, 4])) (request 4 [32, 4]) [] (by decide)).1 _ _
    ⟨⟨rfl, rfl, rfl, rfl⟩, rfl, rfl⟩ rfl rfl).imp fun _ x =>
      ⟨x.1, (((x.2.2.2.2.2.2.1 (by decide)).2.2.1 .tachLost rfl).1 rfl).2.2⟩

/-- The node table: a role of no code, kinds with bit 0 set, and destinations. -/
theorem witness_StagingIsJudged_21 (h : Obligations.StagingIsJudged) :
    ∃ u, exec .stageEntry (fed base (request 4 [99, 18])) = .next u ∧ u.tst.stageSafety = tables :=
  ((h (fed base (request 4 [99, 18])) (request 4 [99, 18]) [] (by decide)).1 _ _
    ⟨⟨rfl, rfl, rfl, rfl⟩, rfl, rfl⟩ rfl rfl).imp fun _ x =>
      ⟨x.1, ((((x.2.2.2.2.2.2.1 (by decide)).2.2.2.1 (by decide) (by decide)).1 rfl).2 rfl).2.2⟩

theorem witness_StagingIsJudged_22 (h : Obligations.StagingIsJudged) :
    ∃ u, exec .stageEntry (fed base (request 4 [100, 1])) = .next u ∧ u.tst.stageSafety = tables :=
  ((h (fed base (request 4 [100, 1])) (request 4 [100, 1]) [] (by decide)).1 _ _
    ⟨⟨rfl, rfl, rfl, rfl⟩, rfl, rfl⟩ rfl rfl).imp fun _ x =>
      ⟨x.1, ((((x.2.2.2.2.2.2.1 (by decide)).2.2.2.1 (by decide) (by decide)).2.1 rfl).2 (.inl rfl)).2.2⟩

theorem witness_StagingIsJudged_23 (h : Obligations.StagingIsJudged) :
    ∃ u, exec .stageEntry (fed base (request 4 [101, 0xFFFFFFFF])) = .next u ∧ u.tst.safetyChanged = true :=
  ((h (fed base (request 4 [101, 0xFFFFFFFF])) (request 4 [101, 0xFFFFFFFF]) [] (by decide)).1 _ _
    ⟨⟨rfl, rfl, rfl, rfl⟩, rfl, rfl⟩ rfl rfl).imp fun _ x =>
      ⟨x.1, (((x.2.2.2.2.2.2.1 (by decide)).2.2.2.1 (by decide) (by decide)).2.2 rfl).2.1⟩

/-- The tower table: no tower, a tower at both ends of its ranges, and one of no train. -/
theorem witness_StagingIsJudged_24 (h : Obligations.StagingIsJudged) :
    ∃ u, exec .stageEntry (fed base (request 4 [192, 0])) = .next u ∧
      u.tst.stageSafety = { tables with towers := List.replicate 24 none } :=
  ((h (fed base (request 4 [192, 0])) (request 4 [192, 0]) [] (by decide)).1 _ _
    ⟨⟨rfl, rfl, rfl, rfl⟩, rfl, rfl⟩ rfl rfl).imp fun _ x =>
      ⟨x.1, (((x.2.2.2.2.2.2.1 (by decide)).2.2.2.2.1 (by decide) (by decide)).1 rfl).2.2⟩

theorem witness_StagingIsJudged_25 (h : Obligations.StagingIsJudged) :
    ∃ u, exec .stageEntry (fed base (request 4 [215, 0x1FFF9388])) = .next u ∧ u.tst.safetyChanged = true :=
  ((h (fed base (request 4 [215, 0x1FFF9388])) (request 4 [215, 0x1FFF9388]) [] (by decide)).1 _ _
    ⟨⟨rfl, rfl, rfl, rfl⟩, rfl, rfl⟩ rfl rfl).imp fun _ x =>
      ⟨x.1, (((x.2.2.2.2.2.2.1 (by decide)).2.2.2.2.1 (by decide) (by decide)).2.1 (by decide)).2.1⟩

theorem witness_StagingIsJudged_26 (h : Obligations.StagingIsJudged) :
    ∃ u, exec .stageEntry (fed base (request 4 [192, 0x0F070064])) = .next u ∧ u.tst.stageSafety = tables :=
  ((h (fed base (request 4 [192, 0x0F070064])) (request 4 [192, 0x0F070064]) [] (by decide)).1 _ _
    ⟨⟨rfl, rfl, rfl, rfl⟩, rfl, rfl⟩ rfl rfl).imp fun _ x =>
      ⟨x.1, (((x.2.2.2.2.2.2.1 (by decide)).2.2.2.2.1 (by decide) (by decide)).2.2 (by decide) (by decide)).2.2⟩

/-- SAFETY entries that no table has. -/
theorem witness_StagingIsJudged_27 (h : Obligations.StagingIsJudged) :
    ∃ u, exec .stageEntry (fed base (request 4 [216, 0])) = .next u ∧ u.tst.stageSafety = tables :=
  ((h (fed base (request 4 [216, 0])) (request 4 [216, 0]) [] (by decide)).1 _ _
    ⟨⟨rfl, rfl, rfl, rfl⟩, rfl, rfl⟩ rfl rfl).imp fun _ x =>
      ⟨x.1, ((x.2.2.2.2.2.2.1 (by decide)).2.2.2.2.2 (.inr (.inr (.inr (by decide))))).2.2⟩

/-- Staged into OPERATIONS: entry 5 in range, entry 6 out of range, entry 28 with its bounds in order and reversed, and
an entry that no table has. -/
theorem witness_StagingIsJudged_8 (h : Obligations.StagingIsJudged) :
    ∃ u, exec .stageEntry (fed base (stage 0x01000005 65535)) = .next u ∧ u.tst.operationsChanged = true :=
  ((h (fed base (stage 0x01000005 65535)) (stage 0x01000005 65535) [] (by decide)).1 0x01000005 65535
    ⟨⟨rfl, rfl, rfl, rfl⟩, rfl, rfl⟩ rfl rfl).imp fun _ x =>
      ⟨x.1, ((x.2.2.2.2.2.1 (by decide)).2.2.1 (by decide) (by decide)).2.1⟩

theorem witness_StagingIsJudged_9 (h : Obligations.StagingIsJudged) :
    ∃ u, exec .stageEntry (fed base (stage 0x01000006 4)) = .next u ∧ u.tst.stageOperations = operations :=
  ((h (fed base (stage 0x01000006 4)) (stage 0x01000006 4) [] (by decide)).1 0x01000006 4
    ⟨⟨rfl, rfl, rfl, rfl⟩, rfl, rfl⟩ rfl rfl).imp fun _ x =>
      ⟨x.1, ((x.2.2.2.2.2.1 (by decide)).2.2.2.1 (by decide) (by decide)).2.2⟩

theorem witness_StagingIsJudged_10 (h : Obligations.StagingIsJudged) :
    ∃ u, exec .stageEntry (fed base (stage 0x0100001C 0x00050005)) = .next u ∧ u.tst.operationsChanged = true :=
  ((h (fed base (stage 0x0100001C 0x00050005)) (stage 0x0100001C 0x00050005) [] (by decide)).1 0x0100001C 0x00050005
    ⟨⟨rfl, rfl, rfl, rfl⟩, rfl, rfl⟩ rfl rfl).imp fun _ x =>
      ⟨x.1, ((x.2.2.2.2.2.1 (by decide)).2.2.2.2.1 (by decide) (by decide) (by decide)).2.1⟩

theorem witness_StagingIsJudged_11 (h : Obligations.StagingIsJudged) :
    ∃ u, exec .stageEntry (fed base (stage 0x0100001F 0x00060005)) = .next u ∧ u.tst.stageOperations = operations :=
  ((h (fed base (stage 0x0100001F 0x00060005)) (stage 0x0100001F 0x00060005) [] (by decide)).1 0x0100001F 0x00060005
    ⟨⟨rfl, rfl, rfl, rfl⟩, rfl, rfl⟩ rfl rfl).imp fun _ x =>
      ⟨x.1, ((x.2.2.2.2.2.1 (by decide)).2.2.2.2.2.1 (by decide) (by decide) (by decide)).2.2⟩

theorem witness_StagingIsJudged_12 (h : Obligations.StagingIsJudged) :
    ∃ u, exec .stageEntry (fed base (stage 0x01000020 0)) = .next u ∧ u.tst.stageOperations = operations :=
  ((h (fed base (stage 0x01000020 0)) (stage 0x01000020 0) [] (by decide)).1 0x01000020 0
    ⟨⟨rfl, rfl, rfl, rfl⟩, rfl, rfl⟩ rfl rfl).imp fun _ x =>
      ⟨x.1, ((x.2.2.2.2.2.1 (by decide)).2.2.2.2.2.2 (by decide)).2.2⟩

/-- DISCARD_STAGE of a group. -/
def discard (g : Word) : IngressEntry := request 5 [g]

theorem witness_StagingIsJudged_6 (h : Obligations.StagingIsJudged) : Completes .discardStage (fed base (discard 1)) :=
  answers ((h (fed base (discard 1)) (discard 1) [] (by decide)).2 1 ⟨⟨rfl, rfl, rfl, rfl⟩, rfl, rfl⟩ (by decide))

theorem witness_StagingIsJudged_7 (h : Obligations.StagingIsJudged) : Completes .discardStage (fed base (discard 2)) :=
  answers ((h (fed base (discard 2)) (discard 2) [] (by decide)).2 2 ⟨⟨rfl, rfl, rfl, rfl⟩, rfl, rfl⟩ (by decide))

/-- COMMIT of a group. -/
def commit (g : Word) : IngressEntry := request 6 [g]

/-- A part stopped, with a changed staging copy. -/
def staged (t : SafetyTables) : State :=
  { base with
    rpu := { base.rpu with motion := .stopped }
    tst := { base.tst with stageSafety := t, safetyChanged := true, operationsChanged := false } }

theorem witness_CommitPassesItsGates_1 (h : Obligations.CommitPassesItsGates) :
    Completes (.commit .maint) (fed (staged tables) (commit 0)) :=
  answers (h (fed (staged tables) (commit 0)) (commit 0) [] .maint ⟨⟨rfl, rfl, rfl, rfl⟩, rfl, rfl⟩ (by decide) rfl)

theorem witness_CommitPassesItsGates_2 (h : Obligations.CommitPassesItsGates) :
    Completes (.commit .maint) (fed (staged { tables with S := 48000 }) (commit 0)) :=
  answers (h (fed (staged { tables with S := 48000 }) (commit 0)) (commit 0) [] .maint ⟨⟨rfl, rfl, rfl, rfl⟩, rfl, rfl⟩
    (by decide) rfl)

theorem witness_CommitPassesItsGates_3 (h : Obligations.CommitPassesItsGates) :
    Completes (.commit .maint) (fed (staged tables) (commit 1)) :=
  answers (h (fed (staged tables) (commit 1)) (commit 1) [] .maint ⟨⟨rfl, rfl, rfl, rfl⟩, rfl, rfl⟩ (by decide) rfl)

theorem witness_CommitPassesItsGates_4 (h : Obligations.CommitPassesItsGates) :
    Completes (.commit .run) (fed base (commit 0)) :=
  answers (h (fed base (commit 0)) (commit 0) [] .run ⟨⟨rfl, rfl, rfl, rfl⟩, rfl, rfl⟩ (by decide) rfl)

/-- Where the reply of a store write goes. -/
def replyPlace (kind : Nat) : ReplyTo := { source := 1, tag := 3, kind := kind }

/-- A part that writes a kind to the store. -/
def writing (k : WriteKind) (s : State) : State :=
  { s with tst := { s.tst with write := some { kind := k, reply := some (replyPlace 6) } } }

theorem witness_CommitComesIntoForce_1 (h : Obligations.CommitComesIntoForce) :
    Completes .commitWriteComplete (writing (.commit .operations) base) :=
  answers ((h (writing (.commit .operations) base) (replyPlace 6) .operations rfl rfl rfl (by decide)).1 rfl)

/-- The new tables of the worked sequence of chapter 11: 50 slots of 48,000 mm. -/
def shorter : SafetyTables := { tables with S := 48000, N := 50 }

theorem witness_CommitComesIntoForce_2 (h : Obligations.CommitComesIntoForce) :
    Completes .commitWriteComplete
      (writing (.commit .safety) { uphillPart with tst := { uphillPart.tst with stageSafety := shorter } }) :=
  answers ((h (writing (.commit .safety) { uphillPart with tst := { uphillPart.tst with stageSafety := shorter } })
    (replyPlace 6) .safety rfl rfl rfl (by decide)).2 rfl)

theorem witness_CommitComesIntoForce_3 (h : Obligations.CommitComesIntoForce) :
    Completes .commitWriteComplete (writing (.commit .safety) uphillPart) :=
  answers ((h (writing (.commit .safety) uphillPart) (replyPlace 6) .safety rfl rfl rfl (by decide)).2 rfl)

/-- WRITE_FLEET_ENTRY of an index and a static word. -/
def fleetWrite (i w : Word) : IngressEntry := request 7 [i, w]

theorem witness_FleetEntryIsWritten_1 (h : Obligations.FleetEntryIsWritten) :
    Completes .writeFleetEntry (fed base (fleetWrite 128 0x800000C6)) :=
  answers ((h.1 (fed base (fleetWrite 128 0x800000C6)) (fleetWrite 128 0x800000C6) [] 128
    { id := 198, profile := 0, gripClass := 0, inService := true } _ ⟨⟨rfl, rfl, rfl, rfl⟩, rfl, rfl⟩ (by decide) (by decide)
    rfl (by decide) rfl (by decide)).1 (by decide))

theorem witness_FleetEntryIsWritten_2 (h : Obligations.FleetEntryIsWritten) :
    Completes .writeFleetEntry (fed uphillPart (fleetWrite 0 198)) :=
  answers ((h.1 (fed uphillPart (fleetWrite 0 198)) (fleetWrite 0 198) [] 0
    { id := 198, profile := 0, gripClass := 0, inService := false } _ ⟨⟨rfl, rfl, rfl, rfl⟩, rfl, rfl⟩ (by decide) (by decide)
    rfl (by decide) rfl (by decide)).2.1 (by decide) (by decide) (.inr (.inr ⟨rfl, rfl, by decide⟩)))

theorem witness_FleetEntryIsWritten_3 (h : Obligations.FleetEntryIsWritten) :
    Completes .writeFleetEntry (fed uphillPart (fleetWrite 0 0x800310C6)) :=
  answers ((h.1 (fed uphillPart (fleetWrite 0 0x800310C6)) (fleetWrite 0 0x800310C6) [] 0
    { id := 198, profile := 1, gripClass := 3, inService := true } _ ⟨⟨rfl, rfl, rfl, rfl⟩, rfl, rfl⟩ (by decide) (by decide)
    rfl (by decide) rfl (by decide)).2.2 (by decide) (by decide) (.inl rfl) (fun _ => rfl) (by decide) nofun)

theorem witness_FleetEntryIsWritten_4 (h : Obligations.FleetEntryIsWritten) :
    Completes .writeFleetEntry (fed retired (fleetWrite 0 0x800000C6)) :=
  answers ((h.1 (fed retired (fleetWrite 0 0x800000C6)) (fleetWrite 0 0x800000C6) [] 0
    { id := 198, profile := 0, gripClass := 0, inService := true } _ ⟨⟨rfl, rfl, rfl, rfl⟩, rfl, rfl⟩ (by decide) (by decide)
    rfl (by decide) rfl (by decide)).2.2 (by decide) (by decide) (.inr rfl) nofun (by decide) nofun)

theorem witness_FleetEntryIsWritten_5 (h : Obligations.FleetEntryIsWritten) :
    Completes .writeFleetEntry (fed lost (fleetWrite 0 198)) :=
  answers ((h.1 (fed lost (fleetWrite 0 198)) (fleetWrite 0 198) [] 0
    { id := 198, profile := 0, gripClass := 0, inService := false } _ ⟨⟨rfl, rfl, rfl, rfl⟩, rfl, rfl⟩ (by decide) (by decide)
    rfl (by decide) rfl (by decide)).2.2 (by decide) (by decide) (.inl rfl) (fun _ => rfl) (by decide) (fun _ => rfl))

theorem witness_FleetEntryIsWritten_6 (h : Obligations.FleetEntryIsWritten) :
    Completes .fleetWriteComplete (writing (.fleet 0) base) :=
  answers (h.2 (writing (.fleet 0) base) (replyPlace 6) 0 rfl rfl rfl (by decide))

/-- SET_PROTECTION to a mode. -/
def protect (m : Word) : IngressEntry := request 8 [m]

theorem witness_ProtectionIsWritten_1 (h : Obligations.ProtectionIsWritten) :
    Completes (.setProtection .maint) (fed base (protect 0)) :=
  answers (h.1 (fed base (protect 0)) (protect 0) [] .maint ⟨⟨rfl, rfl, rfl, rfl⟩, rfl, rfl⟩ (by decide) rfl)

theorem witness_ProtectionIsWritten_2 (h : Obligations.ProtectionIsWritten) :
    Completes (.setProtection .run) (fed lockedPart (protect 0)) :=
  answers (h.1 (fed lockedPart (protect 0)) (protect 0) [] .run ⟨⟨rfl, rfl, rfl, rfl⟩, rfl, rfl⟩ (by decide) rfl)

theorem witness_ProtectionIsWritten_3 (h : Obligations.ProtectionIsWritten) :
    Completes (.setProtection .run) (fed base (protect 2)) :=
  answers (h.1 (fed base (protect 2)) (protect 2) [] .run ⟨⟨rfl, rfl, rfl, rfl⟩, rfl, rfl⟩ (by decide) rfl)

theorem witness_ProtectionIsWritten_4 (h : Obligations.ProtectionIsWritten) :
    Completes .protectionWriteComplete (writing (.protection .locked) base) :=
  answers (h.2 (writing (.protection .locked) base) .locked (replyPlace 6) rfl rfl rfl (by decide))

/-- PARK. -/
def park : IngressEntry := request 18 []

/-- The snapshot of the small part. -/
def snapshot : ParkRecord := base.snapshot tables

theorem witness_ParkIsWritten_1 (h : Obligations.ParkIsWritten) : Completes .park (fed moving park) :=
  answers (h.1 (fed moving park) park [] ⟨⟨rfl, rfl, rfl, rfl⟩, rfl, rfl⟩ (by decide) rfl)

theorem witness_ParkIsWritten_2 (h : Obligations.ParkIsWritten) : Completes .park (fed (staged tables) park) :=
  answers (h.1 (fed (staged tables) park) park [] ⟨⟨rfl, rfl, rfl, rfl⟩, rfl, rfl⟩ (by decide) rfl)

theorem witness_ParkIsWritten_3 (h : Obligations.ParkIsWritten) :
    Completes .parkWriteComplete (writing (.park snapshot false) base) :=
  answers ((h.2.1 (writing (.park snapshot false) base) snapshot (replyPlace 6) false rfl rfl (by decide)).1 rfl)

/-- The same with an invalidation queued. -/
def queuedInvalidation : State :=
  writing (.park snapshot false) { base with tst := { base.tst with invalidationQueued := true } }

theorem witness_ParkIsWritten_4 (h : Obligations.ParkIsWritten) : Completes .parkWriteComplete queuedInvalidation :=
  answers ((h.2.1 queuedInvalidation snapshot (replyPlace 6) false rfl rfl (by decide)).1 rfl)

theorem witness_ParkIsWritten_5 (h : Obligations.ParkIsWritten) :
    Completes .parkWriteComplete (writing (.park snapshot true) base) :=
  answers ((h.2.1 (writing (.park snapshot true) base) snapshot (replyPlace 6) true rfl rfl (by decide)).2 rfl rfl rfl
    (by decide) rfl)

theorem witness_ParkIsWritten_6 (h : Obligations.ParkIsWritten) :
    Completes .invalidationWriteComplete (writing .invalidation base) :=
  answers (h.2.2 (writing .invalidation base) (some (replyPlace 6)) rfl rfl)

/-- RESTART. -/
def restart : IngressEntry := request 19 []

theorem witness_RestartWaitsForItsReply_1 (h : Obligations.RestartWaitsForItsReply) :
    Completes (.restart .maint) (fed (staged tables) restart) :=
  answers (h.1 (fed (staged tables) restart) restart [] .maint ⟨⟨rfl, rfl, rfl, rfl⟩, rfl, rfl⟩ (by decide))

theorem witness_RestartWaitsForItsReply_2 (h : Obligations.RestartWaitsForItsReply) :
    Completes (.restart .run) (fed moving restart) :=
  answers (h.1 (fed moving restart) restart [] .run ⟨⟨rfl, rfl, rfl, rfl⟩, rfl, rfl⟩ (by decide))

/-- A part whose RESTART is accepted, with its reply in the REPORT queue. -/
def restarting : State :=
  { base with
    tst := { base.tst with restart := some 0, lockedToPowerCycle := true }
    rng := { base.rng with report := [mgmtReply (replyPlace 19) .ok [] true] } }

theorem witness_RestartWaitsForItsReply_3 (h : Obligations.RestartWaitsForItsReply) :
    Completes .restartOfferTimeout restarting :=
  answers (h.2 restarting .restartOfferTimeout 0 switchSet [] rfl rfl (.inl ⟨rfl, by decide⟩))

theorem witness_RestartWaitsForItsReply_4 (h : Obligations.RestartWaitsForItsReply) :
    Completes (.ringSlotPass 2 0 0 []) restarting :=
  answers (h.2 restarting (.ringSlotPass 2 0 0 []) 2 (mgmtReply (replyPlace 19) .ok [] true) [] rfl rfl
    (.inr ⟨rfl, by decide, by decide, rfl, rfl, rfl, rfl, rfl, rfl⟩))

/-- A RESTART restores the record, and one of another slot length is not restored. -/
theorem witness_RestartWaitsForItsReply_5 (h : Obligations.RestartWaitsForItsReply) :
    ∃ u, exec .restartOfferTimeout { restarting with store := parkedStore parked } = .next u ∧ u.rpu.odo = 1502000 :=
  (h.2 { restarting with store := parkedStore parked } .restartOfferTimeout 0 switchSet [] rfl rfl
    (.inl ⟨rfl, by decide⟩)).imp fun _ x => ⟨x.1, (x.2.2.2.2.2.2.2.2.1.1 _ _ _ parkedStore_restores).1.1⟩

theorem witness_RestartWaitsForItsReply_6 (h : Obligations.RestartWaitsForItsReply) :
    ∃ u, exec .restartOfferTimeout { restarting with store := parkedStore { parked with S := 48000 } } = .next u ∧
      u.rpu.odo = 0 :=
  (h.2 { restarting with store := parkedStore { parked with S := 48000 } } .restartOfferTimeout 0 switchSet [] rfl rfl
    (.inl ⟨rfl, by decide⟩)).imp fun _ x =>
      ⟨x.1, (x.2.2.2.2.2.2.2.2.1.2 (.inr (.inr (.inr ⟨_, _, rfl, rfl, .inr (by decide)⟩)))).1⟩

theorem witness_RequestsAreReadOrBusy_1 (h : Obligations.RequestsAreReadOrBusy) :
    Completes (.readStatus .run) (fed (writing (.fleet 0) base) (request 1 [])) :=
  ((h.1 (fed (writing (.fleet 0) base) (request 1 [])) (request 1 []) [] rfl (by decide) rfl).1 .run
    ⟨rfl, rfl, rfl, rfl⟩).imp fun _ x => x.elim fun _ y => y.1

theorem witness_RequestsAreReadOrBusy_2 (h : Obligations.RequestsAreReadOrBusy) :
    Completes .readEntry (fed base (request 2 [0x0080001B])) :=
  answers ((h.1 (fed base (request 2 [0x0080001B])) (request 2 [0x0080001B]) [] rfl (by decide) rfl).2.1 27
    ⟨rfl, rfl, rfl, rfl⟩ rfl (by decide))

theorem witness_RequestsAreReadOrBusy_3 (h : Obligations.RequestsAreReadOrBusy) :
    Completes .readEntry (fed uphillPart (request 2 [0x02000000])) :=
  answers ((h.1 (fed uphillPart (request 2 [0x02000000])) (request 2 [0x02000000]) [] rfl (by decide) rfl).2.1 0
    ⟨rfl, rfl, rfl, rfl⟩ rfl (by decide))

theorem witness_RequestsAreReadOrBusy_4 (h : Obligations.RequestsAreReadOrBusy) :
    Completes .readCollection (fed uphillPart (request 3 [0])) :=
  answers ((h.1 (fed uphillPart (request 3 [0])) (request 3 [0]) [] rfl (by decide) rfl).2.2.1 ⟨rfl, rfl, rfl, rfl⟩ rfl)

theorem witness_RequestsAreReadOrBusy_5 (h : Obligations.RequestsAreReadOrBusy) :
    Completes .mgmtRequestUnknownKind (fed base (request 24 [])) :=
  answers ((h.1 (fed base (request 24 [])) (request 24 []) [] rfl (by decide) rfl).2.2.2 ⟨rfl, rfl, rfl, rfl⟩)

theorem witness_RequestsAreReadOrBusy_6 (h : Obligations.RequestsAreReadOrBusy) :
    Completes .mgmtRequestUnknownKind (fed base (request 6 [])) :=
  answers ((h.1 (fed base (request 6 [])) (request 6 []) [] rfl (by decide) rfl).2.2.2 ⟨rfl, rfl, rfl, rfl⟩)

theorem witness_RequestsAreReadOrBusy_7 (h : Obligations.RequestsAreReadOrBusy) :
    Completes .garageRelease (fed (writing (.commit .safety) base) (garageRelease 1)) :=
  answers (h.2 (fed (writing (.commit .safety) base) (garageRelease 1)) (garageRelease 1) [] .run .garageRelease
    .garageRelease ⟨rfl, rfl, rfl, rfl⟩ rfl rfl (by decide) rfl (by decide))

/-! ## Steps of the manual's worked sequences -/

/-- The state a command leaves, or the state before it where it has no next state. -/
def after (c : Instr) (s : State) : State :=
  match exec c s with
  | .next u => u
  | _ => s

/-- The state held before the sample of chapter 1, worked case "one sample at the launch window"; beside it, as in the
worked sequence of chapter 2, cabin 214 ready at the head of S6 and CTR's tag sequence at 5. -/
def workedLine : State :=
  let t := { tables with kb := 3990 }
  let s := queued (holding base (cabin 214 .station)) .s6 .line
  { s with
    tst := { s.tst with safety := some t, stageSafety := t }
    stc := Stc.initial (loadedCauses (some t))
    ctr := { s.ctr with commanded := some .line }
    registry := s.registry.map fun r => if r.stat.id = 214 then { r with verdict := .pass } else r
    lgt := { s.lgt with tagSeq := 5, passage := { s.lgt.passage with slot := some 21 } }
    rpu :=
      { s.rpu with
        prevA := some 65530, prevB := some 12000, seqPrev := some 117, odo := 9651210, res := 750, odoRef := 8389262
        referenced := true, window := [51880, 51870, 51870, 51870, 51900, 51860, 51870, 51880], q := 2000
        motion := .forward
        record := { p := 1261948, k := 21, o := 1948, v := 5187, motion := .forward, referenced := true, time := 0 } } }

/-- The sample of that case: sequence 118, cA 7, cB 12,013. -/
def workedSample : State := after .tachSample (fed workedLine (entry .tachSample 13 0 .tach [0x76, 0x00072EED]))

theorem test_worked_sample_carries_travel :
    workedSample.rpu.prevA = some 7 ∧ workedSample.rpu.prevB = some 12013 ∧ workedSample.rpu.odo = 9651262 ∧
      workedSample.rpu.res = 620 ∧ workedSample.rpu.q = 2005 ∧ workedSample.rpu.v = 5187 ∧
      workedSample.rpu.motion = .forward ∧ workedSample.rpu.window.length = 8 := by decide

theorem test_worked_sample_moves_the_position :
    workedSample.rpu.record.p = 1262000 ∧ workedSample.rpu.record.k = 21 ∧ workedSample.rpu.record.o = 2000 := by decide

theorem test_worked_sample_queues_the_release :
    workedSample.lgt.pending =
        some { slot := 21, cabin := 0, id := 214, tag := 5, phase := .queued, windowClosed := false } ∧
      workedSample.slot 21 = .releasePending 0 := by decide

/-- The mark of chapter 1, worked case "a channel fault and two marks": P is 2,399,950 and P_mark 30. -/
def workedMark (p : Int) : State :=
  after .refMark
    (fed
      { base with
        rpu := { base.rpu with odo := 0, odoRef := -p, referenced := true
                               record := { base.rpu.record with p := p, referenced := true } } }
      (entry .refMark 16 0 .refMark []))

theorem test_worked_mark_corrects : (workedMark 2399950).rpu.odoRef = -2399950 - 80 ∧
    (workedMark 2399950).rpu.record.p = 30 ∧ (workedMark 2399950).rpu.corrections = 1 := by decide

theorem test_worked_mark_drifts : (workedMark 1200000).rpu.record.p = 1200000 ∧
    ((workedMark 1200000).stc.records.getD Cause.ropeRefDrift.num (CauseRecord.initial .run)).state = .active := by decide

/-- The attach of chapter 2, worked sequence "slot 21": cabin 214 released at 9,651,470, attaching at P = 1,274,168. -/
def workedAttach : State :=
  let s := queued (holding base { cabin 214 .station with verdict := .pass }) .s7 .line
  after .attach
    (fed
      { s with
        lgt := { s.lgt with watch := [{ cabin := 0, slot := 21, oRelease := 9651470 }] }
        ctr := { s.ctr with slots := s.ctr.slots.set 21 (.releasing 0) }
        rpu := { s.rpu with odo := 9663430, record := { s.rpu.record with p := 1274168, referenced := true } } }
      (entry .attach 9 0 .attach [0]))

theorem test_worked_attach_error : workedAttach.slot 21 = .up 0 ∧
    workedAttach.ctr.uphill = [{ cabin := 0, slot := 21, oRelease := 9651470, attachErr := some 168 }] := by decide

/-- The orphan of chapter 10, worked sequence "a close unit that stops answering": the mask {12} returns marked. -/
def workedOrphan (misses : Nat) : State :=
  after (.ringSlotPass 5 0x13021800 0x1000 [512])
    { base with
      rng :=
        { base.rng with
          slotRecords := base.rng.slotRecords.set 5 (some 0x1000), misses := base.rng.misses.set 12 misses } }

theorem test_worked_orphans : (workedOrphan 0).rng.misses.getD 12 0 = 1 ∧ (workedOrphan 1).rng.absent.getD 12 false = false ∧
    (workedOrphan 2).rng.absent.getD 12 false = true ∧ (workedOrphan 0).rng.slotRecords.getD 5 none = none := by decide

/-- The same orphan as the third miss of a critical node, while a release waits in the CONTROL queue: NODE_ABSENT holds the
launch, and the slot does not take the release (R28, R164, R175). -/
def holdingOrphan : State :=
  after (.ringSlotPass 5 0x13021800 0x1000 [512])
    { launching with
      lgt := { launching.lgt with pending := some release }
      ctr := { launching.ctr with slots := launching.ctr.slots.set 25 (.releasePending 0) }
      rng :=
        { launching.rng with
          slotRecords := launching.rng.slotRecords.set 5 (some 0x1000), misses := launching.rng.misses.set 12 2
          control := [launching.releaseFrame 25 198] } }

theorem test_orphan_withdraws_the_release :
    holdingOrphan.lgt.pending = none ∧ holdingOrphan.slot 25 = .empty ∧ holdingOrphan.rng.control = [] ∧
      holdingOrphan.stc.output = .serviceStop := by decide

/-- The deadline of a lock whose cabin, LOCKED, is between D7 and D8 after a confirmed release (R42, R102). -/
def launchedTimeout : State :=
  let s := closing .locked .lockDoor
  after (.doorDeadlineExpiry .closeUnit)
    { s with lgt := { s.lgt with watch := [{ cabin := 0, slot := 25, oRelease := 1502000 }] } }

theorem test_launched_door_is_kept : (launchedTimeout.reg 0).door = .locked ∧
    (launchedTimeout.cause .doorTimeout).state = .latched := by decide

/-- A reversed close of a cabin for which a second DOOR_RETRY left another close pending: the door is OPEN again, and none is
sent before its dwell is over (R91, R95, R101). -/
def reopenedTwice : State :=
  let s := closing .reopening (.closeDoor .separate)
  after .doorReport
    (fed
      { s with
        dsq := { s.dsq with closeUnit := { s.dsq.closeUnit with pending := some (doorBusy (.closeDoor .separate)).cmd } } }
      (closeReport .reopened))

theorem test_reopened_door_keeps_its_dwell : (reopenedTwice.reg 0).door = .opened ∧
    reopenedTwice.dsq.closeUnit.pending = none ∧ reopenedTwice.dsq.closeUnit.state = .recover 200 := by decide

/-- A cabin of S1 that arrives again while a park record is written (R43, R191). -/
def parkedArrival : State :=
  let s := standing .s1
  after .arrivalForward (fed (writing (.park (s.snapshot tables) false) s) arrival)

theorem test_new_entry_makes_the_snapshot_stale :
    (parkedArrival.tst.write.map fun w => match w.kind with | .park _ stale => stale | _ => false) = some true ∧
      (parkedArrival.ctr.queue.map fun e => e.serial) = [1] := by decide

/-- The scan debt of chapter 6, worked sequence "debt under ring load": tower 0 QUEUED in POLL with tag 3, due again. -/
def workedDebt (debt : Nat) : State :=
  let r := { TowerRecord.initial with phase := .queued false 3, dueTimer := some 0, debt := debt }
  after (.towerDueExpiry 0)
    { base with
      rmn := { base.rmn with towers := base.rmn.towers.set 0 r, lastTag := some 3 }
      rng := { base.rng with poll := [{ kind := .scanRequest, mask := 0x8000, tag := 3, payload := [7], restartReply
      := false }] } }

theorem test_worked_debt : ((workedDebt 0).rmn.towers.getD 0 TowerRecord.initial).debt = 1 ∧ (workedDebt 0).rng.poll.length = 1 ∧
    ((workedDebt 7).rmn.towers.getD 0 TowerRecord.initial).debt = 8 ∧
    ((workedDebt 7).rmn.towers.getD 0 TowerRecord.initial).phase = .queued true 3 ∧
    (workedDebt 7).rng.poll = [] ∧ (workedDebt 7).rng.control.length = 1 := by decide

/-- Chapter 11, worked sequence "a slot length changed": S is staged at 48,000 and the group is committed. -/
def workedCommit (key : KeyPosition) : State :=
  let s := { base with rpu := { base.rpu with motion := .stopped } }
  after (.commit key) (fed (after .stageEntry (fed s (request 4 [2, 48000]))) (request 6 [0]))

theorem test_worked_commit_replies :
    ((workedCommit .run).rng.report.map fun f => f.payload) = [[0x04000000], [0x06010000]] ∧
      ((workedCommit .maint).rng.report.map fun f => f.payload) = [[0x04000000], [0x06060100]] := by decide

theorem test_power_on_of_a_blank_store : after .powerOnReset State.reset = State.reset := by decide

/-! ## The checks of WellFormed -/

theorem test_long_slot_refused : Instr.wellFormed (.ringSlotPass 0 0 0 (List.replicate 13 0)) = false := by decide

theorem test_full_slot_accepted : Instr.wellFormed (.ringSlotPass 0 0 0 (List.replicate 12 0)) = true := by decide

theorem test_dwell_serial_refused : Instr.wellFormed (.dwellExpiry 65536) = false := by decide

theorem test_reopen_serial_refused : Instr.wellFormed (.reopenWaitExpiry 65536) = false := by decide

theorem test_settle_serial_refused : Instr.wellFormed (.settleExpiry 65536) = false := by decide

theorem test_due_tower_refused : Instr.wellFormed (.towerDueExpiry 24) = false := by decide

theorem test_scan_tower_refused : Instr.wellFormed (.scanDeadlineExpiry 24) = false := by decide

theorem test_request_tag_refused : Instr.wellFormed (.requestTimeout 8) = false := by decide

theorem test_long_bad_check_frame_refused : Instr.wellFormed (.linkBadCheckFrame (List.replicate 71 0)) = false := by decide

theorem test_long_safety_frame_refused : Instr.wellFormed (.linkSafetyFrame (List.replicate 71 0)) = false := by decide

theorem test_long_buffered_frame_refused : Instr.wellFormed (.linkBufferedFrame (List.replicate 71 0)) = false := by decide

theorem test_long_voice_frame_refused : Instr.wellFormed (.linkVoiceFrame (List.replicate 71 0)) = false := by decide

theorem test_window_edges_refused : Instr.wellFormed (.timebaseWindowEnd 4294967296) = false := by decide

theorem test_no_word_spells_a_command : decodeTableWord 32 0 = none := rfl

end Sys2Proof.Tests
end

section
/-!
PROOFS. The reference marks and the speed (chapter 1): what a delivery, a position update, a mark and a recomputed speed
leave of the rope position unit and of its conditions.
-/

namespace Sys2Proof.Machine

/-! ## The head of the ingress queue taken -/

/-- Taking the head of the ingress queue changes the ring port alone (R178). -/
theorem takeHead_eq_setRng (s : State) (rest : List IngressEntry) : ∃ r, s.takeHead rest = s.setRng r := by
  unfold State.takeHead State.setHold
  dsimp only
  repeat' split
  all_goals exact ⟨_, rfl⟩

@[simp] theorem takeHead_rpu (s : State) (rest : List IngressEntry) : (s.takeHead rest).rpu = s.rpu := by
  obtain ⟨r, h⟩ := takeHead_eq_setRng s rest
  rw [h, State.setRng_rpu]

@[simp] theorem takeHead_stc (s : State) (rest : List IngressEntry) : (s.takeHead rest).stc = s.stc := by
  obtain ⟨r, h⟩ := takeHead_eq_setRng s rest
  rw [h, State.setRng_stc]

@[simp] theorem takeHead_tst (s : State) (rest : List IngressEntry) : (s.takeHead rest).tst = s.tst := by
  obtain ⟨r, h⟩ := takeHead_eq_setRng s rest
  rw [h, State.setRng_tst]

@[simp] theorem takeHead_tmb (s : State) (rest : List IngressEntry) : (s.takeHead rest).tmb = s.tmb := by
  obtain ⟨r, h⟩ := takeHead_eq_setRng s rest
  rw [h, State.setRng_tmb]

@[simp] theorem takeHead_condition (s : State) (rest : List IngressEntry) (c : Cause) :
    (s.takeHead rest).condition c = s.condition c := condition_of_stc (takeHead_stc s rest) c

/-! ## The commands of the rope position unit that find their work -/

theorem exec_refMark (s : State) : exec .refMark s = execRefMark s := rfl

theorem exec_tachSample (s : State) : exec .tachSample s = execTachSample s := rfl

theorem exec_tachLostExpiry (s : State) : exec .tachLostExpiry s = execTachLostExpiry s := rfl

theorem withSafety_of_valid {s : State} {t : SafetyTables} (body : SafetyTables → State → State)
    (ht : s.tst.safety = some t) : withSafety body s = body t s := by simp [withSafety, ht]

theorem exec_refMark_of_delivers {s : State} {e : IngressEntry} {rest : List IngressEntry} {t : SafetyTables}
    (h : s.Delivers .refMark e rest) (ht : s.tst.safety = some t) :
    exec .refMark s = .next (((s.takeHead rest).takeMark t).settle s) := by
  rw [exec_refMark, execRefMark, deliver_running h, withSafety_of_valid _ (by simpa using ht)]

theorem exec_tachSample_of_delivers {s : State} {e : IngressEntry} {rest : List IngressEntry} {t : SafetyTables}
    (h : s.Delivers .tachSample e rest) (ht : s.tst.safety = some t) :
    exec .tachSample s =
      .next (((s.takeHead rest).takeSample t e.frame.tachSequence e.frame.countA e.frame.countB).settle s) := by
  rw [exec_tachSample, execTachSample, deliver_running h, withSafety_of_valid _ (by simpa using ht)]

theorem exec_tachLostExpiry_of_fires {s : State} (h : s.Fires s.rpu.tachLoss) :
    exec .tachLostExpiry s = .next (s.loseTach.settle s) := by
  rw [exec_tachLostExpiry, execTachLostExpiry, expiry_running h]

/-! ## Position updates (R8) -/

/-- A position update while SAFETY is valid sets the position record and nothing else of the rope position unit: the
record has P and carries the unit's state (R8). -/
theorem positionUpdate_record {s : State} {t : SafetyTables} (ht : s.tst.safety = some t) :
    ∃ r : PositionRecord, s.positionUpdate.rpu = { s.rpu with record := r } ∧ r.p = (s.rpu.odo - s.rpu.odoRef) % t.L ∧
      r.referenced = s.rpu.referenced ∧ r.motion = s.rpu.motion ∧ r.time = s.now :=
  ⟨s.positionRecord t, by
    simp [State.positionUpdate, ht, State.updateRope, State.setRecord, State.positionRecord, State.now],
    rfl, rfl, rfl, rfl⟩

/-- Whether or not SAFETY is valid, a position update leaves all of the rope position unit but the record. -/
theorem positionUpdate_rpu (s : State) : ∃ r, s.positionUpdate.rpu = { s.rpu with record := r } := by
  cases ht : s.tst.safety with
  | none => exact ⟨s.rpu.record, by simp [State.positionUpdate, ht]⟩
  | some t => exact (positionUpdate_record ht).imp fun _ h => h.1

@[simp] theorem positionUpdate_v (s : State) : s.positionUpdate.rpu.v = s.rpu.v := by
  obtain ⟨r, h⟩ := positionUpdate_rpu s
  rw [h]

@[simp] theorem positionUpdate_window (s : State) : s.positionUpdate.rpu.window = s.rpu.window := by
  obtain ⟨r, h⟩ := positionUpdate_rpu s
  rw [h]

/-! ## Reference marks (R15, R16) -/

/-- The first mark ties the reference so that P is P_mark, and its position update carries that (R15). -/
theorem firstMark_rpu {s : State} {t : SafetyTables} (ht : s.tst.safety = some t) (hL : t.pMark < t.L) :
    ∃ r : PositionRecord,
      (s.firstMark t).rpu = { s.rpu with odoRef := s.rpu.odo - t.pMark, referenced := true, record := r } ∧
        r.p = t.pMark ∧ r.referenced = true ∧ r.motion = s.rpu.motion ∧ r.time = s.now := by
  obtain ⟨r, hr, hp, href, hm, hn⟩ := positionUpdate_record (t := t)
    (s := (s.setRpu { s.rpu with odoRef := s.rpu.odo - t.pMark, referenced := true }).judge .ropeUnreferenced false)
    (by simpa using ht)
  simp only [judge_rpu, State.setRpu_rpu] at hr hp href hm
  rw [sub_sub_cancel, Int.emod_eq_of_lt (by omega) (by omega)] at hp
  exact ⟨r, hr, hp, href, hm, by simpa [State.now] using hn⟩

/-- The first mark makes ROPE_UNREFERENCED absent (R15). -/
theorem firstMark_ropeUnreferenced {s : State} (t : SafetyTables) (hs : s.stc.records.length = 48) :
    (s.firstMark t).condition .ropeUnreferenced = false := by
  unfold State.firstMark
  rw [positionUpdate_condition _ (by decide), judge_condition (by exact hs), if_pos rfl]

/-- The first mark leaves every condition but ROPE_UNREFERENCED, and HEAD_BLOCKED that its position update judges. -/
theorem firstMark_condition (s : State) (t : SafetyTables) {c : Cause} (hu : c ≠ .ropeUnreferenced)
    (hb : c ≠ .headBlocked) : (s.firstMark t).condition c = s.condition c := by
  unfold State.firstMark
  rw [positionUpdate_condition _ hb, judge_condition_ne _ hu]
  rfl

/-- A correction moves O_ref by the error, is counted, and its position update carries the new position (R16). -/
theorem correctReference_rpu {s : State} {t : SafetyTables} (ht : s.tst.safety = some t) (err : Int) :
    ∃ r : PositionRecord,
      (s.correctReference err).rpu =
          { s.rpu with odoRef := s.rpu.odoRef + err, corrections := satInc s.rpu.corrections, record := r } ∧
        r.p = (s.rpu.odo - s.rpu.odoRef - err) % t.L ∧ r.time = s.now := by
  obtain ⟨r, hr, hp, -, -, hn⟩ := positionUpdate_record (t := t)
    (s := ((s.setRpu
      { s.rpu with odoRef := s.rpu.odoRef + err, corrections := satInc s.rpu.corrections }).report .refCorrection none
        none [err]).judge .ropeRefDrift false) (by simpa using ht)
  simp only [judge_rpu, report_rpu, State.setRpu_rpu, ← sub_sub] at hr hp
  exact ⟨r, hr, hp, by simpa [State.now] using hn⟩

/-- A correction clears ROPE_REF_DRIFT (R16). -/
theorem correctReference_ropeRefDrift {s : State} (err : Int) (hs : s.stc.records.length = 48) :
    (s.correctReference err).condition .ropeRefDrift = false := by
  unfold State.correctReference
  rw [positionUpdate_condition _ (by decide), judge_condition (by simpa using hs), if_pos rfl]

theorem takeMark_of_unreferenced {s : State} (t : SafetyTables) (h : s.rpu.referenced = false) :
    s.takeMark t = s.firstMark t := by simp [State.takeMark, h]

/-- A mark while REFERENCED corrects the reference or makes ROPE_REF_DRIFT present, as its error says (R16). -/
theorem takeMark_of_referenced {s : State} (t : SafetyTables) (h : s.rpu.referenced = true) :
    s.takeMark t =
      if (circularDiff s.rpu.record.p t.pMark t.L).natAbs ≤ t.rTol then
        s.correctReference (circularDiff s.rpu.record.p t.pMark t.L)
      else s.judge .ropeRefDrift true := by
  simp [State.takeMark, h, State.laterMark]

/-! ## The speed against v_max (R13) -/

/-- OVERSPEED is judged against a window that is not empty: it is present exactly where the speed passes v_max. -/
def State.SpeedJudged (s : State) (t : SafetyTables) : Prop :=
  s.rpu.window ≠ [] ∧ (s.condition .overspeed = true ↔ (t.vMax : Int) < |s.rpu.v|)

/-- The judgement stands where the window, the speed and OVERSPEED are left. -/
theorem State.SpeedJudged.keep {s u : State} {t : SafetyTables} (h : s.SpeedJudged t) (hw : u.rpu.window = s.rpu.window)
    (hv : u.rpu.v = s.rpu.v) (hc : u.condition .overspeed = s.condition .overspeed) : u.SpeedJudged t := by
  unfold State.SpeedJudged
  rw [hw, hv, hc]
  exact h

theorem updateSpeed_judged {s : State} (t : SafetyTables) (travel : Int) (hs : s.stc.records.length = 48) :
    (s.updateSpeed t travel).SpeedJudged t := by
  unfold State.updateSpeed
  constructor
  · simp [pushWindow]
  · rw [judge_condition (by exact hs), if_pos rfl, decide_eq_true_iff, judge_rpu, State.setRpu_rpu, Int.abs_eq_natAbs,
      Int.ofNat_lt]

@[simp] theorem ropeStarted_rpu (s : State) : s.ropeStarted.rpu = s.rpu :=
  (State.ropeStarted_does (m := 17301504) (Does.refl _ s) rfl).1 .rpu rfl

@[simp] theorem setMotion_rpu (s : State) (m : Motion) : (s.setMotion m).rpu = { s.rpu with motion := m } := by
  unfold State.setMotion
  split
  · subst m
    rfl
  · dsimp only
    split
    · rw [ropeStarted_rpu, State.setRpu_rpu]
    · rfl

@[simp] theorem setMotion_stc (s : State) (m : Motion) : (s.setMotion m).stc = s.stc :=
  same_stc (State.setMotion_does (m := 17301512) m (Does.refl _ s) rfl) (by decide)

theorem moving_rpu (s : State) (m : Motion) : (s.moving m).rpu = { s.rpu with motion := m, stillness := none } := by
  simp [State.moving, State.setStillness]

theorem slow_rpu (s : State) : ∃ x, s.slow.rpu = { s.rpu with stillness := x } := by
  unfold State.slow
  repeat' split
  · exact ⟨s.rpu.stillness, rfl⟩
  · exact ⟨some (s.after 1000), rfl⟩
  · exact ⟨s.rpu.stillness, rfl⟩

/-- The motion judged changes nothing of the rope position unit but the motion state and the stillness timer (R11). -/
theorem judgeMotion_rpu (s : State) :
    ∃ m x, s.judgeMotion.rpu = { s.rpu with motion := m, stillness := x } := by
  unfold State.judgeMotion
  repeat' split
  · exact ⟨.unknown, none, moving_rpu s .unknown⟩
  · exact ⟨.forward, none, moving_rpu s .forward⟩
  · exact ⟨.reverse, none, moving_rpu s .reverse⟩
  · obtain ⟨x, hx⟩ := slow_rpu s
    exact ⟨s.rpu.motion, x, hx⟩

theorem judgeMotion_judged {s : State} {t : SafetyTables} (h : s.SpeedJudged t) : s.judgeMotion.SpeedJudged t := by
  obtain ⟨m, x, hr⟩ := judgeMotion_rpu s
  exact h.keep (by rw [hr]) (by rw [hr])
    (condition_keeps (State.judgeMotion_does (m := 17301512) (Does.refl _ s) rfl) (by decide) _)

theorem positionUpdate_judged {s : State} {t : SafetyTables} (h : s.SpeedJudged t) : s.positionUpdate.SpeedJudged t :=
  h.keep (by simp) (by simp) (positionUpdate_condition s (by decide))

theorem settle_judged {s : State} {t : SafetyTables} (b : State) (h : s.SpeedJudged t) : (s.settle b).SpeedJudged t :=
  h.keep (by simp) (by simp) (by simp)

@[simp] theorem judgeSlip_records_length (s : State) (t : SafetyTables) (f : Fusion) :
    (s.judgeSlip t f).stc.records.length = s.stc.records.length := by
  unfold State.judgeSlip
  dsimp only
  repeat' split
  all_goals simp

/-- The channel stages of a sample judge the speed (R3 to R13). -/
theorem takeCounts_judged {s : State} (t : SafetyTables) (a b cA cB : Nat) (hs : s.stc.records.length = 48) :
    (s.takeCounts t a b cA cB).SpeedJudged t := by
  unfold State.takeCounts
  refine judgeMotion_judged (updateSpeed_judged t _ ?_)
  simpa [State.addTravel, State.judgeChannels, State.storeCounts] using hs

/-- An accepted sample of primed channels judges the speed. -/
theorem acceptSample_judged {s : State} (t : SafetyTables) (seq cA cB : Nat) {a b : Nat} (ha : s.rpu.prevA = some a)
    (hb : s.rpu.prevB = some b) (hs : s.stc.records.length = 48) : (s.acceptSample t seq cA cB).SpeedJudged t := by
  unfold State.acceptSample
  simp only [State.setRpu_rpu, ha, hb]
  exact positionUpdate_judged (takeCounts_judged t a b cA cB hs)

/-- A sample in order, or after a gap, of primed channels judges the speed (R1). -/
theorem takeSample_judged {s : State} (t : SafetyTables) (cA cB : Nat) {seq a b p : Nat} (ha : s.rpu.prevA = some a)
    (hb : s.rpu.prevB = some b) (hp : s.rpu.seqPrev = some p) (h1 : 1 ≤ (seq + 256 - p) % 256)
    (h127 : (seq + 256 - p) % 256 ≤ 127) (hs : s.stc.records.length = 48) :
    (s.takeSample t seq cA cB).SpeedJudged t := by
  unfold State.takeSample
  simp only [hp]
  split
  · exact acceptSample_judged t seq cA cB ha hb hs
  · have hgap : 2 ≤ (seq + 256 - p) % 256 := by omega
    rw [if_pos (by simp [hgap, h127])]
    exact acceptSample_judged t seq cA cB (by simpa [State.tachGap] using ha) (by simpa [State.tachGap] using hb)
      (by simpa [State.tachGap] using hs)

/-! ## Tach loss (R14) -/

/-- The expiry of the tach loss timer leaves the speed 0. -/
theorem loseTach_v (s : State) : s.loseTach.rpu.v = 0 := by simp [State.loseTach]

/-- The expiry of the tach loss timer makes OVERSPEED absent (R13). -/
theorem loseTach_overspeed {s : State} (hs : s.stc.records.length = 48) : s.loseTach.condition .overspeed = false := by
  unfold State.loseTach
  dsimp only
  rw [positionUpdate_condition _ (by decide), judge_condition (by simpa using hs), if_pos rfl]

/-! ## The statements -/

/-- Settles O10: the first mark by `firstMark_rpu` and its conditions, a later one by the size of its error. -/
theorem marksTieAndCorrectThePosition : Obligations.MarksTieAndCorrectThePosition := by
  constructor
  · intro s e rest t hd ht href hL hs
    refine ⟨_, exec_refMark_of_delivers hd ht, ?_⟩
    rw [takeMark_of_unreferenced t (by simpa using href)]
    obtain ⟨r, hr, hp, hrr, hm, hn⟩ := firstMark_rpu (s := s.takeHead rest) (by simpa using ht) hL
    have hu := firstMark_ropeUnreferenced (s := s.takeHead rest) t (by simpa using hs)
    have hc : ∀ c : Cause, c ≠ .ropeUnreferenced → c ≠ .headBlocked →
        ((s.takeHead rest).firstMark t).condition c = s.condition c := fun c hcu hcb => by
      rw [firstMark_condition _ t hcu hcb, takeHead_condition]
    simp only [takeHead_rpu, State.now, takeHead_tmb] at hr hm hn
    simp only [settle_rpu, settle_condition, hr]
    exact ⟨trivial, hp, hrr, hm, hn, hu, hc _ (by decide) (by decide), hc _ (by decide) (by decide)⟩
  · intro s e rest t hd ht href hs
    refine ⟨_, exec_refMark_of_delivers hd ht, ?_⟩
    rw [takeMark_of_referenced t (by simpa using href)]
    simp only [takeHead_rpu, settle_rpu, settle_condition, circularDiff]
    generalize (s.rpu.record.p - t.pMark + (t.L / 2 : Nat)) % t.L - (t.L / 2 : Nat) = err
    split
    · obtain ⟨r, hr, hp, hn⟩ := correctReference_rpu (s := s.takeHead rest) (by simpa using ht) err
      have hc := correctReference_ropeRefDrift (s := s.takeHead rest) err (by simpa using hs)
      simp only [takeHead_rpu, State.now, takeHead_tmb] at hr hp hn
      simp only [hr]
      exact ⟨trivial, hp, hn, hc⟩
    · exact ⟨by simp, by rw [judge_condition (by simpa using hs), if_pos rfl]⟩

/-- Settles O11: every accepted sample of primed channels judges the speed it has just formed, and the tach loss sets the
speed 0 with OVERSPEED absent. -/
theorem overspeedFollowsTheSpeed : Obligations.OverspeedFollowsTheSpeed := by
  constructor
  · intro s e rest t a b p hd ht ha hb hp h1 h127 hs
    have hj : ((s.takeHead rest).takeSample t e.frame.tachSequence e.frame.countA e.frame.countB).SpeedJudged t :=
      takeSample_judged t _ _ (by simpa using ha) (by simpa using hb) (by simpa using hp) h1 h127 (by simpa using hs)
    exact ⟨_, exec_tachSample_of_delivers hd ht, settle_judged s hj⟩
  · intro s hf hs
    exact ⟨_, exec_tachLostExpiry_of_fires hf, by simp [loseTach_v], by simp [loseTach_overspeed hs]⟩

end Sys2Proof.Machine
end

section
/-!
PROOFS. Event reports and door reports (chapters 5 and 11): where a report that is queued stands until the end of its
command, and what a door report does that is neither matched nor late.
-/

namespace Sys2Proof.Machine

/-! ## The head of the ingress queue taken -/

@[simp] theorem takeHead_dsq (s : State) (rest : List IngressEntry) : (s.takeHead rest).dsq = s.dsq := by
  obtain ⟨r, h⟩ := takeHead_eq_setRng s rest
  rw [h, State.setRng_dsq]

@[simp] theorem takeHead_ctr (s : State) (rest : List IngressEntry) : (s.takeHead rest).ctr = s.ctr := by
  obtain ⟨r, h⟩ := takeHead_eq_setRng s rest
  rw [h, State.setRng_ctr]

@[simp] theorem takeHead_registry (s : State) (rest : List IngressEntry) : (s.takeHead rest).registry = s.registry := by
  obtain ⟨r, h⟩ := takeHead_eq_setRng s rest
  rw [h, State.setRng_registry]

@[simp] theorem takeHead_doorUnit (s : State) (rest : List IngressEntry) (u : DoorUnitName) :
    (s.takeHead rest).doorUnit u = s.doorUnit u := by
  unfold State.doorUnit
  rw [takeHead_dsq]

/-- Taking the head of the ingress queue leaves the provisional manager mask. -/
@[simp] theorem takeHead_provisional (s : State) (rest : List IngressEntry) :
    (s.takeHead rest).rng.provisional = s.rng.provisional := by
  unfold State.takeHead State.setHold
  dsimp only
  repeat' split
  all_goals rfl

/-! ## The addresses of event reports (R193) -/

theorem roleMask_congr {s t : State} (hs : t.tst.safety = s.tst.safety) (r : Role) : t.roleMask r = s.roleMask r := by
  unfold State.roleMask
  rw [hs]

/-- The mask of EVENT frames depends on the SAFETY group and the provisional manager mask alone. -/
theorem eventMask_congr {s t : State} (hs : t.tst.safety = s.tst.safety) (hp : t.rng.provisional = s.rng.provisional) :
    t.eventMask = s.eventMask := by
  unfold State.eventMask State.safetyValid
  rw [roleMask_congr hs, hs, hp]

@[simp] theorem takeHead_eventMask (s : State) (rest : List IngressEntry) : (s.takeHead rest).eventMask = s.eventMask :=
  eventMask_congr (by simp) (by simp)

/-! ## Event reports queued and offered (R193) -/

/-- With room in the REPORT class and an address to send to, the oldest event report leaves as a frame. -/
theorem offerEvent_of_room {s : State} {e : EventEntry} {rest : List EventEntry} (he : s.tst.events = e :: rest)
    (hroom : s.rng.report.length < 16) (hm : s.eventMask ≠ 0) :
    s.offerEvent =
      (s.setTst { s.tst with events := rest }).setReport
        (s.rng.report ++
          [{ kind := .event, mask := s.eventMask, tag := 0, payload := e.words, restartReply := false }]) := by
  have hplace : s.rng.report.length < 32 := by omega
  simp only [State.offerEvent, he, hroom, hm, if_true, if_false, State.placeReport, State.setTst_rng, hplace]

theorem offerEvent_of_full {s : State} (hfull : ¬ s.rng.report.length < 16) : s.offerEvent = s := by
  unfold State.offerEvent
  split
  · rfl
  · rw [if_neg hfull]

/-- An offer loses no event report that TST holds: the oldest becomes a frame, the others stay queued. -/
theorem offerEvent_reported {s : State} {x : EventEntry} (hx : x ∈ s.tst.events) (hm : s.eventMask ≠ 0) :
    s.offerEvent.Reported x.kind x.data := by
  refine ⟨x, rfl, rfl, ?_⟩
  by_cases hroom : s.rng.report.length < 16
  · obtain ⟨e, rest, he⟩ := List.exists_cons_of_ne_nil (List.ne_nil_of_mem hx)
    rw [offerEvent_of_room he hroom hm]
    rw [he, List.mem_cons] at hx
    obtain rfl | hrest := hx
    · exact .inr (List.mem_append_right _ (List.mem_singleton.mpr rfl))
    · exact .inl hrest
  · rw [offerEvent_of_full hroom]
    exact .inl hx

/-- A report queued while TST has room and an address to send to stands in its queue or as its frame. -/
theorem report_reported {s : State} (k : EventKind) (c : Option Cause) (i : Option Nat) (d : List Int)
    (hroom : s.tst.events.length < 32) (hm : s.eventMask ≠ 0) : (s.report k c i d).Reported k d := by
  unfold State.report
  rw [if_pos hroom]
  exact offerEvent_reported (x := s.eventEntry k c i d) (by simp) hm

theorem State.Reported.congr {s t : State} {k : EventKind} {d : List Int} (h : s.Reported k d)
    (he : t.tst.events = s.tst.events) (hm : t.eventMask = s.eventMask) (hr : t.rng = s.rng) : t.Reported k d := by
  unfold State.Reported
  rw [he, hm, hr]
  exact h

/-! ## The end of a command that gathers nothing -/

section
variable {s b : State} (hq : s.quiet) (hr : wasReset b s = false)
include hq hr

theorem settle_ctr_of_quiet : (s.settle b).ctr = s.ctr := by simp [settle_of_quiet hq hr]

theorem settle_rng_of_quiet : (s.settle b).rng = s.rng := by simp [settle_of_quiet hq hr]

/-- The end of such a command leaves TST's event reports: it changes of TST the change counts and a write in flight. -/
theorem settle_events_of_quiet : (s.settle b).tst.events = s.tst.events := by
  rw [settle_of_quiet hq hr]
  calc ((s.transmit.staleIf b).countChanges b).tst.events
      = (s.transmit.staleIf b).tst.events := rfl
    _ = s.transmit.tst.events := congrArg Prod.fst (staleIf_part_keeps s.transmit b .events rfl)
    _ = s.tst.events := congrArg Prod.fst (transmit_part_keeps s .events rfl)

theorem settle_eventMask_of_quiet : (s.settle b).eventMask = s.eventMask := by
  refine eventMask_congr ?_ (by rw [settle_rng_of_quiet hq hr])
  simp [settle_of_quiet hq hr]

/-- A report made in such a command stands at its end. -/
theorem State.Reported.settle_of_quiet {k : EventKind} {d : List Int} (h : s.Reported k d) : (s.settle b).Reported k d :=
  h.congr (settle_events_of_quiet hq hr) (settle_eventMask_of_quiet hq hr) (settle_rng_of_quiet hq hr)

end

/-! ## Door reports that are neither matched nor late (R97, R102, R104) -/

theorem exec_doorReport (s : State) : exec .doorReport s = execDoorReport s := rfl

theorem exec_doorReport_of_delivers {s : State} {e : IngressEntry} {rest : List IngressEntry} {r : DoorResult}
    (h : s.Delivers .doorReport e rest) (hc : DoorResult.ofCode (field (e.frame.word 0) 16 3) = some r) :
    exec .doorReport s =
      .next (((s.takeHead rest).takeDoorReport (doorUnitOf e.role) e.frame.cabinId r).settle s) := by
  rw [exec_doorReport, execDoorReport, deliver_running h]
  simp only [State.takeDoorFrame, hc]

/-- A report against a BUSY unit whose command is not SENT, or is another cabin's, is not matched (R97). -/
theorem reportWhileBusy_of_unmatched {s : State} {u : DoorUnitName} {b : BusyCommand} {field : Nat} (r : DoorResult)
    (h : ∀ d, b.phase = .sent d → field ≠ b.cmd.field) :
    s.reportWhileBusy u b field r = s.unmatchedReport u field r.code := by
  unfold State.reportWhileBusy
  cases hp : b.phase with
  | sent d => simp [CommandPhase.unsent, h d hp]
  | queued => simp [CommandPhase.unsent]
  | retryWait d => simp [CommandPhase.unsent]

/-- A report that no BUSY command matches, and that completes no timed-out action of a unit that is not BUSY, is one of
R104. -/
theorem takeDoorReport_of_unmatched {s : State} {u : DoorUnitName} {field : Nat} {r : DoorResult}
    (hmatch : ∀ b d, (s.doorUnit u).state = .busy b → b.phase = .sent d → field ≠ b.cmd.field)
    (hlate : ∀ c, (s.doorUnit u).timedOut = some c → c.field = field → c.action.completedBy r = true →
      ∃ b, (s.doorUnit u).state = .busy b) :
    s.takeDoorReport u field r = s.unmatchedReport u field r.code := by
  unfold State.takeDoorReport
  split
  · next b hb => exact reportWhileBusy_of_unmatched r fun d hd => hmatch b d hb hd
  · next hidle =>
    have hnone : ((s.doorUnit u).timedOut.filter fun c => c.field = field && c.action.completedBy r) = none := by
      rw [Option.filter_eq_none_iff]
      intro c hc hcr
      obtain ⟨hf, hby⟩ := by simpa using hcr
      obtain ⟨b, hb⟩ := hlate c hc hf hby
      exact hidle b hb
    rw [hnone]

section
variable (s : State) (u : DoorUnitName) (field code : Nat)

@[simp] theorem unmatchedReport_dsq :
    (s.unmatchedReport u field code).dsq = { s.dsq with unmatched := satInc s.dsq.unmatched } := by
  simp [State.unmatchedReport]

@[simp] theorem unmatchedReport_registry : (s.unmatchedReport u field code).registry = s.registry := by
  simp [State.unmatchedReport]

@[simp] theorem unmatchedReport_ctr : (s.unmatchedReport u field code).ctr = s.ctr := by
  simp [State.unmatchedReport]

@[simp] theorem unmatchedReport_stc : (s.unmatchedReport u field code).stc = s.stc := by
  simp [State.unmatchedReport]

@[simp] theorem unmatchedReport_restart : (s.unmatchedReport u field code).tst.restart = s.tst.restart := by
  simp [State.unmatchedReport]

variable {s}

theorem unmatchedReport_reported (hroom : s.tst.events.length < 32) (hm : s.eventMask ≠ 0) :
    (s.unmatchedReport u field code).Reported .doorReportUnmatched
      [(unitNumber u : Nat), (field : Nat), (code : Nat)] :=
  report_reported _ _ _ _ hroom hm

end

/-! ## The statement -/

/-- Settles O30: such a report is R104's by `takeDoorReport_of_unmatched`, which counts and reports it, and a command that
gathers nothing ends with its count and its report standing. -/
theorem unmatchedDoorReportIsIgnored : Obligations.UnmatchedDoorReportIsIgnored := by
  intro s e rest r hd hc hmatch hlate hg hroom hm
  have htake : (s.takeHead rest).takeDoorReport (doorUnitOf e.role) e.frame.cabinId r =
      (s.takeHead rest).unmatchedReport (doorUnitOf e.role) e.frame.cabinId r.code :=
    takeDoorReport_of_unmatched (by simpa using hmatch) (by simpa using hlate)
  have hquiet : ((s.takeHead rest).unmatchedReport (doorUnitOf e.role) e.frame.cabinId r.code).quiet := by
    simpa [State.quiet] using hg
  have hreset : wasReset s ((s.takeHead rest).unmatchedReport (doorUnitOf e.role) e.frame.cabinId r.code) = false := by
    simp [wasReset]
  refine ⟨_, exec_doorReport_of_delivers hd hc, ?_⟩
  rw [htake]
  refine ⟨by simp, by simp, by simp [settle_ctr_of_quiet hquiet hreset], ?_⟩
  exact (unmatchedReport_reported _ _ _ (by simpa using hroom) (by simpa using hm)).settle_of_quiet hquiet hreset

end Sys2Proof.Machine
end

section
/-!
PROOFS. Tower alarms (chapter 6): what replacing a tower's statuses leaves of the scan records, and which record an alarm
reaches.
-/

namespace Sys2Proof.Machine

/-! ## The scan records (R116) -/

/-- The scan records are held by the rope monitor alone. -/
theorem tower_congr {s t : State} (h : t.rmn = s.rmn) (i : Nat) : t.tower i = s.tower i := by
  unfold State.tower
  rw [h]

/-- The tower table is held by the SAFETY group alone. -/
theorem towerEntry_congr {s t : State} (h : t.tst.safety = s.tst.safety) (i : Nat) :
    t.towerEntry i = s.towerEntry i := by
  unfold State.towerEntry
  rw [h]

theorem towerNamed_congr {s t : State} (h : t.tst.safety = s.tst.safety) (node number : Nat) :
    t.towerNamed node number = s.towerNamed node number := by
  unfold State.towerNamed
  simp only [towerEntry_congr h]

/-- A tower that a node and a number name stands at one of the 24 table indices. -/
theorem towerNamed_lt {s : State} {node number i : Nat} {y : TowerEntry}
    (h : s.towerNamed node number = some (i, y)) : i < 24 := by
  obtain ⟨k, hk, hnamed⟩ := List.exists_of_findSome?_eq_some h
  have hki : k = i := by
    split at hnamed
    · split at hnamed
      · exact congrArg Prod.fst (Option.some.inj hnamed)
      · cases hnamed
    · cases hnamed
  exact hki ▸ List.mem_range.mp hk

theorem modTower_tower_self {s : State} {i : Nat} (f : TowerRecord → TowerRecord) (hi : i < s.rmn.towers.length) :
    (s.modTower i f).tower i = f (s.tower i) := by
  simp [State.tower, State.modTower, hi]

theorem modTower_tower_ne (s : State) {i j : Nat} (f : TowerRecord → TowerRecord) (h : j ≠ i) :
    (s.modTower i f).tower j = s.tower j := by
  simp [State.tower, State.modTower, List.getD, h.symm]

@[simp] theorem modTower_towers_length (s : State) (i : Nat) (f : TowerRecord → TowerRecord) :
    (s.modTower i f).rmn.towers.length = s.rmn.towers.length := by
  simp [State.modTower]

@[simp] theorem modTower_now (s : State) (i : Nat) (f : TowerRecord → TowerRecord) : (s.modTower i f).now = s.now := rfl

@[simp] theorem takeHead_rmn (s : State) (rest : List IngressEntry) : (s.takeHead rest).rmn = s.rmn := by
  obtain ⟨r, h⟩ := takeHead_eq_setRng s rest
  rw [h, State.setRng_rmn]

@[simp] theorem takeHead_tower (s : State) (rest : List IngressEntry) (i : Nat) :
    (s.takeHead rest).tower i = s.tower i := tower_congr (takeHead_rmn s rest) i

@[simp] theorem takeHead_now (s : State) (rest : List IngressEntry) : (s.takeHead rest).now = s.now := by
  unfold State.now
  rw [takeHead_tmb]

@[simp] theorem takeHead_towerNamed (s : State) (rest : List IngressEntry) (node number : Nat) :
    (s.takeHead rest).towerNamed node number = s.towerNamed node number :=
  towerNamed_congr (by simp) node number

@[simp] theorem settle_tower (s b : State) (i : Nat) : (s.settle b).tower i = s.tower i :=
  tower_congr (settle_rmn s b) i

/-! ## A tower's statuses replaced (R122 to R124) -/

@[simp] theorem fitStatuses_length (trains : Nat) (xs : List TrainStatus) : (fitStatuses trains xs).length = trains := by
  simp [fitStatuses]

/-- Each train of the tower has the status the list gives it, and SENSOR_FAULT where the list does not reach it. -/
theorem fitStatuses_getElem? {trains n : Nat} (xs : List TrainStatus) (h : n < trains) :
    (fitStatuses trains xs)[n]? = some (xs.getD n .sensorFault) := by
  simp [fitStatuses, h]

@[simp] theorem judgeTrains_rmn (s : State) : s.judgeTrains.rmn = s.rmn := by simp [State.judgeTrains]

@[simp] theorem reportStatuses_rmn (s : State) (e : TowerEntry) (src : StatusSource) (old new : List TrainStatus) :
    (s.reportStatuses e src old new).rmn = s.rmn := by
  unfold State.reportStatuses
  split
  · rfl
  · rw [report_rmn]

/-- Of the rope monitor, the judgements and the report that follow new statuses leave what the new statuses made it. -/
theorem replaceStatuses_rmn (s : State) (i : Nat) (e : TowerEntry) (xs : List TrainStatus) (src : StatusSource) :
    (s.replaceStatuses i e xs src).rmn =
      (s.modTower i fun r =>
        { r with statuses := some { trains := fitStatuses e.trains xs, source := src, time := s.now } }).rmn := by
  simp [State.replaceStatuses]

theorem replaceStatuses_tower_self {s : State} {i : Nat} (e : TowerEntry) (xs : List TrainStatus) (src : StatusSource)
    (hi : i < s.rmn.towers.length) :
    (s.replaceStatuses i e xs src).tower i =
      { s.tower i with statuses := some { trains := fitStatuses e.trains xs, source := src, time := s.now } } := by
  rw [tower_congr (replaceStatuses_rmn s i e xs src), modTower_tower_self _ hi]

theorem replaceStatuses_tower_ne (s : State) {i j : Nat} (e : TowerEntry) (xs : List TrainStatus) (src : StatusSource)
    (h : j ≠ i) : (s.replaceStatuses i e xs src).tower j = s.tower j := by
  rw [tower_congr (replaceStatuses_rmn s i e xs src), modTower_tower_ne s _ h]

/-! ## Tower alarms (R123) -/

theorem exec_towerAlarm (s : State) : exec .towerAlarm s = execTowerAlarm s := rfl

theorem exec_towerAlarm_of_delivers {s : State} {e : IngressEntry} {rest : List IngressEntry}
    (h : s.Delivers .towerAlarm e rest) :
    exec .towerAlarm s = .next (((s.takeHead rest).takeAlarm e.frame).settle s) := by
  rw [exec_towerAlarm, execTowerAlarm, deliver_running h]

section
variable {s : State} {f : RingFrame} {i : Nat} {y : TowerEntry} (h : s.towerNamed f.source f.towerNumber = some (i, y))
include h

theorem takeAlarm_of_named :
    s.takeAlarm f =
      (s.modTower i fun r => { r with alarms := satInc r.alarms }).replaceStatuses i y f.statuses .alarm := by
  simp only [State.takeAlarm, h]

/-- An alarm counts and replaces the statuses of its tower; its scan record stands. -/
theorem takeAlarm_tower_self (hi : i < s.rmn.towers.length) :
    (s.takeAlarm f).tower i =
      { s.tower i with
        alarms := satInc (s.tower i).alarms
        statuses := some { trains := fitStatuses y.trains f.statuses, source := .alarm, time := s.now } } := by
  rw [takeAlarm_of_named h, replaceStatuses_tower_self _ _ _ (by simpa using hi), modTower_tower_self _ hi, modTower_now]

theorem takeAlarm_tower_ne {j : Nat} (hj : j ≠ i) : (s.takeAlarm f).tower j = s.tower j := by
  rw [takeAlarm_of_named h, replaceStatuses_tower_ne _ _ _ _ hj, modTower_tower_ne _ _ hj]

end

/-! ## The statement -/

/-- Settles O40: the alarm's list fitted to the train count is what `takeAlarm_tower_self` puts into the record of the tower
named, `takeAlarm_tower_ne` leaves the others, and the end of the command leaves every record. -/
theorem alarmReplacesTheStatuses : Obligations.AlarmReplacesTheStatuses := by
  intro s e rest i y hd hnamed hlen
  have hnamed' : (s.takeHead rest).towerNamed e.frame.source e.frame.towerNumber = some (i, y) := by simpa using hnamed
  have hi : i < (s.takeHead rest).rmn.towers.length := by simpa [hlen] using towerNamed_lt hnamed
  refine ⟨_, fitStatuses y.trains e.frame.statuses, exec_towerAlarm_of_delivers hd, fitStatuses_length _ _,
    fun n hn => fitStatuses_getElem? _ hn, ?_, fun j hj => ?_⟩
  · rw [settle_tower, takeAlarm_tower_self hnamed' hi, takeHead_tower, takeHead_now]
  · rw [settle_tower, takeAlarm_tower_ne hnamed' hj, takeHead_tower]

end Sys2Proof.Machine
end
section
/-!
PROOFS. Every command: that it completes, which parts it may touch, and what it keeps of the invariant.
-/

namespace Sys2Proof.Machine

/-! ## The parts a command may touch, as a mask -/

/-- The mask of a list of parts, with the two bits under which the REPORT queue may shrink or fill. -/
def Part.maskOf : List Part → Nat
  | [] => 201326592
  | p :: ps => 2 ^ p.num ||| maskOf ps

theorem Part.num_inj {p q : Part} (h : p.num = q.num) : p = q := by
  cases p <;> cases q <;> first | rfl | cases h

theorem Part.testBit_maskOf {p : Part} {ps : List Part} (h : p ∉ ps) : (Part.maskOf ps).testBit p.num = false := by
  induction ps with
  | nil => cases p <;> decide
  | cons q ps ih =>
    obtain ⟨hne, hps⟩ := not_or.mp (mt List.mem_cons.mpr h)
    rw [Part.maskOf, Nat.testBit_or, ih hps, Nat.testBit_two_pow, decide_eq_false fun hn => hne (Part.num_inj hn).symm]
    rfl

/-! ## What a command does to a part that runs and to one that is held -/

/-- A command's effect: it touches the parts of its mask, leaves a part that is held in reset as it was, and leaves nothing
gathered behind. -/
structure Settled (m : Nat) (s t : State) : Prop where
  does : Does m s t
  held : s.pins.held = true → t = s
  quiet : s.quiet → t.quiet

theorem Settled.refl (m : Nat) (s : State) : Settled m s s := ⟨Does.refl m s, fun _ => rfl, id⟩

section
variable {a m : Nat} {s : State}

theorem whole_settled {body : State → State} (hd : Does a s (whole body s)) (hm : a &&& m = a := by (dsimp only [touched]; decide))
    (hr : a.testBit 21 = false := by decide) : Settled m s (whole body s) :=
  ⟨hd.mono hm, whole_held, fun h => whole_quiet h a hd hr⟩

theorem expiry_settled {o : Option Ms} {body : State → State} (hd : Does a s (expiry o body s))
    (hm : a &&& m = a := by (dsimp only [touched]; decide)) (hr : a.testBit 21 = false := by decide) : Settled m s (expiry o body s) :=
  ⟨hd.mono hm, expiry_held, fun h => expiry_quiet h a hd hr⟩

theorem deliver_settled {r : Row} {body : IngressEntry → State → State} (hd : Does a s (deliver r body s))
    (hm : a &&& m = a := by (dsimp only [touched]; decide)) (hr : a.testBit 21 = false := by decide) : Settled m s (deliver r body s) :=
  ⟨hd.mono hm, deliver_held, fun h => deliver_quiet h a hd hr⟩

theorem manage_settled {r : Row} {body : RingFrame → State → State} (hd : Does a s (manage r body s))
    (hm : a &&& m = a := by (dsimp only [touched]; decide)) (hr : a.testBit 21 = false := by decide) : Settled m s (manage r body s) :=
  ⟨hd.mono hm, manage_held, fun h => manage_quiet h a hd hr⟩

theorem deliverUnanswered_settled {k : LinkFrame → Bool} {body : LinkFrame → State → State}
    (hd : Does a s (deliverUnanswered k body s)) (hm : a &&& m = a := by (dsimp only [touched]; decide))
    (hr : a.testBit 21 = false := by decide) : Settled m s (deliverUnanswered k body s) :=
  ⟨hd.mono hm, deliverUnanswered_held, fun h => deliverUnanswered_quiet h a hd hr⟩

theorem deliverAnswered_settled {k : LinkFrame → Bool} {body : LinkFrame → State → State}
    (hd : Does a s (deliverAnswered k body s)) (hm : a &&& m = a := by (dsimp only [touched]; decide))
    (hr : a.testBit 21 = false := by decide) : Settled m s (deliverAnswered k body s) :=
  ⟨hd.mono hm, deliverAnswered_held, fun h => deliverAnswered_quiet h a hd hr⟩

theorem receive_settled {p : List Byte → Bool} {b : List Byte} {body : State → State} (hd : Does a s (receive p b body s))
    (hm : a &&& m = a := by (dsimp only [touched]; decide)) (hr : a.testBit 21 = false := by decide) : Settled m s (receive p b body s) :=
  ⟨hd.mono hm, receive_held, fun h => receive_quiet h a hd hr⟩

theorem complete_settled {act : WriteKind → Option (Option ReplyTo → State → State)} (hd : Does a s (complete act s))
    (hm : a &&& m = a := by (dsimp only [touched]; decide)) (hr : a.testBit 21 = false := by decide) : Settled m s (complete act s) :=
  ⟨hd.mono hm, complete_held, fun h => complete_quiet h a hd hr⟩

end

/-! ## The commands that may end in a RESTART's reset (R192) -/

/-- A command whose body ends quietly where it is a reset ends quietly. -/
theorem whole_quiet_of_reset {body : State → State} {s : State} (h : s.quiet)
    (hb : wasReset s (body s) = true → (body s).quiet) : (whole body s).quiet := by
  cases hh : s.pins.held
  · rw [whole_running hh]
    cases hr : wasReset s (body s)
    · exact settle_quiet hr
    · unfold State.settle
      rw [if_pos hr]
      exact hb hr
  · rwa [whole_held hh]

theorem execRingSlotPass_settled (n : Fin 8) (w0 w1 : Word) (p : List Word) (s : State) :
    Settled 218103806 s (whole (fun x => x.passSlot n w0 w1 p) s) :=
  ⟨execRingSlotPass_does rfl, whole_held, fun h => whole_quiet_of_reset h passSlot_quiet⟩

theorem execRestartOfferTimeout_settled (s : State) : Settled 218103806 s (expiry s.tst.restart State.restartPart s) := by
  refine ⟨execRestartOfferTimeout_does rfl, expiry_held, fun h => ?_⟩
  unfold expiry
  split
  · exact whole_quiet_of_reset h fun _ => resetPart_quiet _ _
  · exact h

/-- A request is taken only with no RESTART accepted, so it ends in no reset. -/
theorem manage_quiet_of_quiet {r : Row} {body : RingFrame → State → State} {s : State} (h : s.quiet) :
    (manage r body s).quiet := by
  unfold manage
  split
  · exact h
  · next hr =>
    unfold deliver
    split
    · split
      · exact whole_quiet_of_reset h fun hw => absurd hw (by simp_all [wasReset])
      · exact h
    · exact h

theorem execRestart_settled (key : KeyPosition) (s : State) :
    ∃ t, exec (.restart key) s = .next t ∧ Settled 218103806 s t := by
  refine ⟨_, rfl, execRestart_does rfl, fun h => ?_, fun h => ?_⟩
  · rw [manage_held h, if_neg]
    cases hr : s.tst.restart <;> simp [State.restartRefused, hr]
  · split
    · exact resetPart_quiet _ _
    · exact manage_quiet_of_quiet h

/-! ## Every command (R160) -/

/-- The commands that a part held in reset takes too: the resets and the level of the loop (log entry 2). -/
def wakesHeld : Instr → Bool
  | .powerOnReset | .resetInAsserted | .estopInChange _ => true
  | _ => false

theorem execTransmitComplete_settled (s : State) {m : Nat} (hm : 4842000 &&& m = 4842000) :
    ∃ t, exec .transmitComplete s = .next t ∧ Settled m s t := by
  refine ⟨_, rfl, ?_⟩
  have hd : Does 4842000 s _ := execTransmitComplete_does rfl
  split
  · next h => exact whole_settled (by simpa [h] using hd) hm
  · exact .refl m s

theorem execMgmtRequestUnknownKind_settled (s : State) {m : Nat} (hm : 139059728 &&& m = 139059728) :
    ∃ t, exec .mgmtRequestUnknownKind s = .next t ∧ Settled m s t := by
  refine ⟨_, rfl, ?_⟩
  have hd : Does 139059728 s _ := execMgmtRequestUnknownKind_does rfl
  split
  · exact .refl m s
  · next h => exact deliver_settled (by simpa [h] using hd) hm

/-- Every command but these three has the effect of its parts, none on a part that is held, and leaves nothing gathered. -/
theorem exec_settled (c : Instr) (s : State) (hc : wakesHeld c = false) :
    ∃ t, exec c s = .next t ∧ Settled (Part.maskOf (touched c)) s t := by
  match c with
  | .timebaseWindowEnd edges => exact ⟨_, rfl, whole_settled (execTimebaseWindowEnd_does rfl)⟩
  | .frameUndeliverable => exact ⟨_, rfl, deliver_settled (execFrameUndeliverable_does rfl)⟩
  | .tachSample => exact ⟨_, rfl, deliver_settled (execTachSample_does rfl)⟩
  | .tachLostExpiry => exact ⟨_, rfl, expiry_settled (execTachLostExpiry_does rfl)⟩
  | .stillnessExpiry => exact ⟨_, rfl, expiry_settled (execStillnessExpiry_does rfl)⟩
  | .refMark => exact ⟨_, rfl, deliver_settled (execRefMark_does rfl)⟩
  | .gateReport => exact ⟨_, rfl, deliver_settled (execGateReport_does rfl)⟩
  | .gateReportTimeout => exact ⟨_, rfl, expiry_settled (execGateReportTimeout_does rfl)⟩
  | .nackGateRelease => exact ⟨_, rfl, deliver_settled (execNackGateRelease_does rfl)⟩
  | .attach => exact ⟨_, rfl, deliver_settled (execAttach_does rfl)⟩
  | .arrivalForward => exact ⟨_, rfl, deliver_settled (execArrivalForward_does rfl)⟩
  | .arrivalBackward => exact ⟨_, rfl, deliver_settled (execArrivalBackward_does rfl)⟩
  | .passageForward => exact ⟨_, rfl, deliver_settled (execPassageForward_does rfl)⟩
  | .passageBackward => exact ⟨_, rfl, deliver_settled (execPassageBackward_does rfl)⟩
  | .gripSampleForward => exact ⟨_, rfl, deliver_settled (execGripSampleForward_does rfl)⟩
  | .gripSampleBackward => exact ⟨_, rfl, deliver_settled (execGripSampleBackward_does rfl)⟩
  | .switchPassageForward => exact ⟨_, rfl, deliver_settled (execSwitchPassageForward_does rfl)⟩
  | .switchPassageBackward => exact ⟨_, rfl, deliver_settled (execSwitchPassageBackward_does rfl)⟩
  | .nackSwitchSet => exact ⟨_, rfl, deliver_settled (execNackSwitchSet_does rfl)⟩
  | .garageExitForward => exact ⟨_, rfl, deliver_settled (execGarageExitForward_does rfl)⟩
  | .garageExitBackward => exact ⟨_, rfl, deliver_settled (execGarageExitBackward_does rfl)⟩
  | .garageExitTimeout => exact ⟨_, rfl, expiry_settled (execGarageExitTimeout_does rfl)⟩
  | .nackGarageExitCommand => exact ⟨_, rfl, deliver_settled (execNackGarageExitCommand_does rfl)⟩
  | .doorReport => exact ⟨_, rfl, deliver_settled (execDoorReport_does rfl)⟩
  | .nackDoor => exact ⟨_, rfl, deliver_settled (execNackDoor_does rfl)⟩
  | .doorDeadlineExpiry unit => exact ⟨_, rfl, expiry_settled (execDoorDeadlineExpiry_does rfl)⟩
  | .unitRecoverExpiry unit => exact ⟨_, rfl, expiry_settled (execUnitRecoverExpiry_does rfl)⟩
  | .doorRetryTimerExpiry unit => exact ⟨_, rfl, expiry_settled (execDoorRetryTimerExpiry_does rfl)⟩
  | .dwellExpiry serial => exact ⟨_, rfl, expiry_settled (execDwellExpiry_does rfl)⟩
  | .reopenWaitExpiry serial => exact ⟨_, rfl, expiry_settled (execReopenWaitExpiry_does rfl)⟩
  | .settleExpiry serial => exact ⟨_, rfl, expiry_settled (execSettleExpiry_does rfl)⟩
  | .tensionSample => exact ⟨_, rfl, deliver_settled (execTensionSample_does rfl)⟩
  | .tensionLossExpiry => exact ⟨_, rfl, expiry_settled (execTensionLossExpiry_does rfl)⟩
  | .towerDueExpiry tower => exact ⟨_, rfl, expiry_settled (execTowerDueExpiry_does rfl)⟩
  | .scanReport => exact ⟨_, rfl, deliver_settled (execScanReport_does rfl)⟩
  | .scanDeadlineExpiry tower => exact ⟨_, rfl, expiry_settled (execScanDeadlineExpiry_does rfl)⟩
  | .nackScanRequest => exact ⟨_, rfl, deliver_settled (execNackScanRequest_does rfl)⟩
  | .towerAlarm => exact ⟨_, rfl, deliver_settled (execTowerAlarm_does rfl)⟩
  | .linkBadCheckFrame bytes => exact ⟨_, rfl, receive_settled (execLinkBadCheckFrame_does rfl)⟩
  | .linkSafetyFrame bytes => exact ⟨_, rfl, receive_settled (execLinkSafetyFrame_does rfl)⟩
  | .linkBufferedFrame bytes => exact ⟨_, rfl, receive_settled (execLinkBufferedFrame_does rfl)⟩
  | .handoverSummitArrival => exact ⟨_, rfl, deliverUnanswered_settled (execHandoverSummitArrival_does rfl)⟩
  | .handoverSummitLaunch => exact ⟨_, rfl, deliverUnanswered_settled (execHandoverSummitLaunch_does rfl)⟩
  | .replyPart => exact ⟨_, rfl, deliverUnanswered_settled (execReplyPart_does rfl)⟩
  | .reconcileRetryExpiry => exact ⟨_, rfl, expiry_settled (execReconcileRetryExpiry_does rfl)⟩
  | .requestTimeout tag => exact ⟨_, rfl, expiry_settled (execRequestTimeout_does rfl)⟩
  | .valleySetQuery => exact ⟨_, rfl, deliverAnswered_settled (execValleySetQuery_does rfl)⟩
  | .locate => exact ⟨_, rfl, deliverAnswered_settled (execLocate_does rfl)⟩
  | .summitRequestUnsupported => exact ⟨_, rfl, deliverAnswered_settled (execSummitRequestUnsupported_does rfl)⟩
  | .linkVoiceFrame bytes => exact ⟨_, rfl, receive_settled (execLinkVoiceFrame_does rfl)⟩
  | .silenceExpiry => exact ⟨_, rfl, expiry_settled (execSilenceExpiry_does rfl)⟩
  | .safetySendExpiry => exact ⟨_, rfl, expiry_settled (execSafetySendExpiry_does rfl)⟩
  | .callSetup => exact ⟨_, rfl, deliverUnanswered_settled (execCallSetup_does rfl)⟩
  | .callAccept => exact ⟨_, rfl, deliverUnanswered_settled (execCallAccept_does rfl)⟩
  | .callClear => exact ⟨_, rfl, deliverUnanswered_settled (execCallClear_does rfl)⟩
  | .callTimerExpiry => exact ⟨_, rfl, expiry_settled (execCallTimerExpiry_does rfl)⟩
  | .playoutExpiry => exact ⟨_, rfl, expiry_settled (execPlayoutExpiry_does rfl)⟩
  | .handsetVoice => exact ⟨_, rfl, deliver_settled (execHandsetVoice_does rfl)⟩
  | .callKeyCall => exact ⟨_, rfl, deliver_settled (execCallKeyCall_does rfl)⟩
  | .callKeyAnswer => exact ⟨_, rfl, deliver_settled (execCallKeyAnswer_does rfl)⟩
  | .callKeyHangUp => exact ⟨_, rfl, deliver_settled (execCallKeyHangUp_does rfl)⟩
  | .call => exact ⟨_, rfl, manage_settled (execCall_does rfl)⟩
  | .answer => exact ⟨_, rfl, manage_settled (execAnswer_does rfl)⟩
  | .hangUp => exact ⟨_, rfl, manage_settled (execHangUp_does rfl)⟩
  | .readStatus key => exact ⟨_, rfl, manage_settled (execReadStatus_does rfl)⟩
  | .readEntry => exact ⟨_, rfl, manage_settled (execReadEntry_does rfl)⟩
  | .readCollection => exact ⟨_, rfl, manage_settled (execReadCollection_does rfl)⟩
  | .stageEntry => exact ⟨_, rfl, manage_settled (execStageEntry_does rfl)⟩
  | .discardStage => exact ⟨_, rfl, manage_settled (execDiscardStage_does rfl)⟩
  | .commit key => exact ⟨_, rfl, manage_settled (execCommit_does rfl)⟩
  | .writeFleetEntry => exact ⟨_, rfl, manage_settled (execWriteFleetEntry_does rfl)⟩
  | .setProtection key => exact ⟨_, rfl, manage_settled (execSetProtection_does rfl)⟩
  | .park => exact ⟨_, rfl, manage_settled (execPark_does rfl)⟩
  | .resetCauses key => exact ⟨_, rfl, manage_settled (execResetCauses_does rfl)⟩
  | .setDoorMode => exact ⟨_, rfl, manage_settled (execSetDoorMode_does rfl)⟩
  | .holdOpen => exact ⟨_, rfl, manage_settled (execHoldOpen_does rfl)⟩
  | .releaseHold => exact ⟨_, rfl, manage_settled (execReleaseHold_does rfl)⟩
  | .doorRetry => exact ⟨_, rfl, manage_settled (execDoorRetry_does rfl)⟩
  | .garageNext => exact ⟨_, rfl, manage_settled (execGarageNext_does rfl)⟩
  | .garageRelease => exact ⟨_, rfl, manage_settled (execGarageRelease_does rfl)⟩
  | .removeCabin => exact ⟨_, rfl, manage_settled (execRemoveCabin_does rfl)⟩
  | .locateCabin => exact ⟨_, rfl, manage_settled (execLocateCabin_does rfl)⟩
  | .linkRestart => exact ⟨_, rfl, manage_settled (execLinkRestart_does rfl)⟩
  | .commitWriteComplete => exact ⟨_, rfl, complete_settled (execCommitWriteComplete_does rfl)⟩
  | .fleetWriteComplete => exact ⟨_, rfl, complete_settled (execFleetWriteComplete_does rfl)⟩
  | .protectionWriteComplete => exact ⟨_, rfl, complete_settled (execProtectionWriteComplete_does rfl)⟩
  | .parkWriteComplete => exact ⟨_, rfl, complete_settled (execParkWriteComplete_does rfl)⟩
  | .invalidationWriteComplete => exact ⟨_, rfl, complete_settled (execInvalidationWriteComplete_does rfl)⟩
  | .transmitComplete => exact execTransmitComplete_settled s (by decide)
  | .mgmtRequestUnknownKind => exact execMgmtRequestUnknownKind_settled s (by decide)
  | .ringSlotPass n w0 w1 p => exact ⟨_, rfl, execRingSlotPass_settled n w0 w1 p s⟩
  | .restart key => exact execRestart_settled key s
  | .restartOfferTimeout => exact ⟨_, rfl, execRestartOfferTimeout_settled s⟩

/-! ## The resets and the level of the loop -/

theorem exec_powerOnReset (s : State) : exec .powerOnReset s = .next s.powerOn := rfl

theorem execEstopInChange_settled_of_running {level : LoopLevel} {s : State} (h : s.pins.held = false) :
    ∃ t, exec (.estopInChange level) s = .next t ∧ Settled 4842002 s t := by
  refine ⟨_, rfl, ?_⟩
  have hd : Does 4842002 s _ := execEstopInChange_does (level := level) rfl
  rw [if_neg (by simp [h])] at hd ⊢
  exact whole_settled hd rfl

theorem exec_estopInChange_of_held {level : LoopLevel} {s : State} (h : s.pins.held = true) :
    exec (.estopInChange level) s = .next (s.setLoop level) := by
  simp [exec, execEstopInChange, h]

theorem exec_resetInAsserted_keeps (s : State) {p : Part} (hp : p ∉ touched .resetInAsserted) :
    ∃ t, exec .resetInAsserted s = .next t ∧ p.same s t := by
  refine ⟨_, rfl, Part.same_trans ((State.cutShort_does (Does.refl 50855936 s) rfl).1 p ?_) ?_⟩
  · revert hp
    cases p <;> decide
  · cases p <;> first | exact absurd (by decide) hp | simp [Part.same]

/-! ## The invariant -/

theorem State.Live.inv {s : State} (h : s.Live) (hq : s.quiet) : s.Inv :=
  ⟨h.2.1, by simpa [State.permitsRight, h.1] using h.2.2, hq⟩

theorem State.Inv.live {s : State} (h : s.Inv) (hh : s.pins.held = false) : s.Live :=
  ⟨hh, h.1, by simpa [State.permitsRight, hh] using h.2.1⟩

theorem Settled.inv {m : Nat} {s t : State} (h : Settled m s t) (hs : s.Inv) : t.Inv := by
  cases hh : s.pins.held
  · exact (h.does.2.2.2 (hs.live hh)).inv (h.quiet hs.2.2)
  · rwa [h.held hh]

theorem State.bounded.store {s : State} (h : s.bounded) : s.store.bounded := by
  obtain ⟨-, -, -, -, -, -, -, -, -, hstore, -⟩ := h
  exact hstore

/-- A write cut short clears what was being written, and brings nothing out of its bounds (R189). -/
theorem cutShort_bounded {s : State} (h : s.bounded) : s.cutShort.bounded := by
  obtain ⟨hrng, htst, hslk, hicm, hrpu, hstc, hrmn, hlgt, hctr, hstore, hreg⟩ := h
  have hend : ∀ x : State, x.tst = s.tst → x.endWrite.tst.bounded := fun x hx =>
    ⟨by simpa [State.endWrite, hx] using htst.1, by simpa [State.endWrite, hx] using htst.2.1,
      by simpa [State.endWrite, hx] using htst.2.2.1, by simp [State.endWrite]⟩
  unfold State.cutShort
  split
  · exact ⟨hrng, htst, hslk, hicm, hrpu, hstc, hrmn, hlgt, hctr, hstore, hreg⟩
  · split
    · exact ⟨hrng, hend _ rfl, hslk, hicm, hrpu, hstc, hrmn, hlgt, hctr, hstore, hreg⟩
    · split
      · refine ⟨hrng, hend _ rfl, hslk, hicm, hrpu, hstc, hrmn, hlgt, hctr, ⟨hstore.1, ?_⟩, hreg⟩
        simp only [State.parkCutShort, State.endWrite, State.setTst_store, State.setFree_store, State.setStore_store]
        split
        · exact hstore.2
        · simp
      · exact ⟨hrng, hend _ rfl, hslk, hicm, hrpu, hstc, hrmn, hlgt, hctr, hstore, hreg⟩

theorem cutShort_stc (s : State) : s.cutShort.stc = s.stc :=
  same_stc (State.cutShort_does (Does.refl 50855936 s) rfl) (by decide)

theorem powerOn_inv {s : State} (h : s.Inv) : s.powerOn.Inv :=
  (resetPart_live _ _ (cutShort_bounded h.1).store).inv (resetPart_quiet _ _)

/-- RESET_IN leaves the bounds and takes both permits away (R172). -/
theorem resetIn_inv {s t : State} (h : s.Inv) (ht : exec .resetInAsserted s = .next t) : t.Inv := by
  cases ht
  exact ⟨cutShort_bounded h.1, by simp [State.permitsRight], by simp [cutShort_stc, h.2.2]⟩

/-- Every command keeps the invariant. -/
theorem exec_inv {c : Instr} {s t : State} (hs : s.Inv) (ht : exec c s = .next t) : t.Inv := by
  cases hc : wakesHeld c
  · obtain ⟨u, hu, h⟩ := exec_settled c s hc
    cases hu.symm.trans ht
    exact h.inv hs
  · cases c with
    | powerOnReset => cases ht; exact powerOn_inv hs
    | resetInAsserted => exact resetIn_inv hs ht
    | estopInChange level =>
      cases hh : s.pins.held
      · obtain ⟨u, hu, h⟩ := execEstopInChange_settled_of_running (level := level) hh
        cases hu.symm.trans ht
        exact h.inv hs
      · cases (exec_estopInChange_of_held hh).symm.trans ht
        exact hs
    | _ => cases hc

/-! ## The statements -/

/-- Settles O1: `setPending` leaves the rest of the queue and every block. -/
theorem stepTakesTheFrontCommand : Obligations.StepTakesTheFrontCommand := fun _ _ _ => rfl

/-- Settles O3: a waiting command keeps the invariant by `exec_inv`, and the counter of TMB is no part of it. -/
theorem stepKeepsTheInvariant : Obligations.StepKeepsTheInvariant := by
  intro s t hs ht
  unfold step at ht
  split at ht
  · next rest _ => exact exec_inv (s := s.setPending rest) hs ht
  · cases ht
    exact hs

/-- Settles O4: by the mask of its parts, and for RESET_IN by the parts that a write cut short leaves. -/
theorem commandsKeepTheirFrame : Obligations.CommandsKeepTheirFrame := by
  intro c s
  cases hc : wakesHeld c
  · obtain ⟨t, ht, h⟩ := exec_settled c s hc
    exact ⟨t, ht, fun p hp => h.does.1 p (Part.testBit_maskOf hp)⟩
  · cases c with
    | powerOnReset =>
      exact ⟨_, exec_powerOnReset s, fun p hp =>
        ((State.powerOn_does (Does.refl 268435454 s) rfl).mono (by decide)).1 p (Part.testBit_maskOf hp)⟩
    | resetInAsserted =>
      refine ⟨_, rfl, fun p hp => ?_⟩
      obtain ⟨t, ht, h⟩ := exec_resetInAsserted_keeps s hp
      cases ht
      exact h
    | estopInChange level =>
      exact ⟨_, rfl, fun p hp =>
        ((execEstopInChange_does rfl).mono (by dsimp only [touched]; decide)).1 p (Part.testBit_maskOf hp)⟩
    | _ => cases hc

end Sys2Proof.Machine
end
section
/-!
PROOFS. Tach samples and the timers of the rope (chapter 1): what a sample's channel stages, its motion and its position
update leave of the rope position unit and of its conditions.
-/

namespace Sys2Proof.Machine

@[simp] theorem takeHead_lgt (s : State) (rest : List IngressEntry) : (s.takeHead rest).lgt = s.lgt := by
  obtain ⟨r, h⟩ := takeHead_eq_setRng s rest
  rw [h, State.setRng_lgt]

/-! ## The pieces of a sample (R3 to R11) -/

/-- The delta of a channel is the balanced remainder of the difference of its counts (R3). -/
theorem countDelta_eq_bmod {c p : Nat} (hc : c < 65536) (hp : p < 65536) :
    countDelta c p = Int.bmod ((c : Int) - p) 65536 := by
  simp only [countDelta]
  rw [Int.bmod_def]
  push_cast
  split <;> split <;> omega

theorem field_lt (w : Word) (lo n : Nat) : field w lo n < 2 ^ n := Nat.mod_lt _ (Nat.two_pow_pos n)

/-- Two travels have opposite nonzero signs exactly where their product is negative (R5). -/
theorem Fusion.opposite_iff (f : Fusion) : f.opposite = true ↔ f.travelA * f.travelB < 0 := by
  simp only [Fusion.opposite, Bool.or_eq_true, Bool.and_eq_true, decide_eq_true_iff, mul_neg_iff]
  tauto

theorem Fusion.both_iff (f : Fusion) : f.both = true ↔ f.plausibleA = true ∧ f.plausibleB = true := by
  simp [Fusion.both]

section
variable (t : SafetyTables) (dA dB : Int)

theorem fusionOf_both_iff : (fusionOf t dA dB).both = true ↔ dA.natAbs ≤ t.dMax ∧ dB.natAbs ≤ t.dMax := by
  simp [Fusion.both_iff, fusionOf, plausible]

theorem fusionOf_opposite_iff : (fusionOf t dA dB).opposite = true ↔ dA * t.ka * (dB * t.kb) < 0 :=
  (fusionOf t dA dB).opposite_iff

/-- The fused travel of two deltas, by which of them are plausible (R5). -/
theorem fusionOf_travel :
    (fusionOf t dA dB).travel =
      if dA.natAbs ≤ t.dMax then
        if dB.natAbs ≤ t.dMax then
          if dA * t.ka * (dB * t.kb) < 0 then 0
          else if (dB * t.kb).natAbs < (dA * t.ka).natAbs then dB * t.kb else dA * t.ka
        else dA * t.ka
      else if dB.natAbs ≤ t.dMax then dB * t.kb else 0 := by
  unfold Fusion.travel
  by_cases hA : dA.natAbs ≤ t.dMax
  · by_cases hB : dB.natAbs ≤ t.dMax
    · rw [if_pos ((fusionOf_both_iff t dA dB).mpr ⟨hA, hB⟩), if_pos hA, if_pos hB]
      by_cases hO : dA * t.ka * (dB * t.kb) < 0
      · rw [if_pos ((fusionOf_opposite_iff t dA dB).mpr hO), if_pos hO]
      · rw [if_neg (mt (fusionOf_opposite_iff t dA dB).mp hO), if_neg hO]
        rfl
    · simp [Fusion.both, fusionOf, plausible, hA, hB]
  · simp [Fusion.both, fusionOf, plausible, hA]

theorem fusionOf_single_iff :
    (fusionOf t dA dB).single = true ↔
      (dA.natAbs ≤ t.dMax ∧ ¬dB.natAbs ≤ t.dMax) ∨ (dB.natAbs ≤ t.dMax ∧ ¬dA.natAbs ≤ t.dMax) := by
  simp only [Fusion.single, fusionOf, plausible]
  by_cases hA : dA.natAbs ≤ t.dMax <;> by_cases hB : dB.natAbs ≤ t.dMax <;> simp [hA, hB]

theorem fusionOf_disagree_iff :
    (fusionOf t dA dB).disagree = true ↔
      dA.natAbs ≤ t.dMax ∧ dB.natAbs ≤ t.dMax ∧ dA * t.ka * (dB * t.kb) < 0 := by
  rw [Fusion.disagree, Bool.and_eq_true, fusionOf_both_iff, fusionOf_opposite_iff, and_assoc]

end

theorem boundOdo_eq (x : Int) : boundOdo x = max (-2 ^ 39) (min (2 ^ 39) x) := by
  unfold boundOdo odoBound
  split
  · omega
  · split <;> omega

theorem slipAfter_eq (q d : Nat) : slipAfter q d = min 2147483647 (q - q / 16 + d) := by
  unfold slipAfter
  dsimp only
  split <;> omega

theorem pushWindow_eq (w : List Int) (t : Int) :
    pushWindow w t = (if w.length < 8 then w else w.tail) ++ [t] := by
  simp [pushWindow]

theorem speedOf_pushWindow (w : List Int) (t : Int) (ts : Nat) :
    speedOf (pushWindow w t) ts = (pushWindow w t).sum.tdiv ((pushWindow w t).length * ts) := by
  unfold speedOf
  rw [if_neg (by simp [pushWindow])]
  push_cast
  rfl

/-! ## Motion (R11) -/

/-- The motion state and the stillness timer after the speed is judged (R11). -/
theorem judgeMotion_motion (s : State) :
    (s.judgeMotion.rpu.motion, s.judgeMotion.rpu.stillness) =
      (if s.rpu.window.length < 8 then (Motion.unknown, none)
       else if 50 ≤ s.rpu.v then (Motion.forward, none)
       else if s.rpu.v ≤ -50 then (Motion.reverse, none)
       else
         (s.rpu.motion,
           if s.rpu.motion = .stopped ∨ s.rpu.stillness.isSome then s.rpu.stillness else some (s.after 1000))) := by
  unfold State.judgeMotion
  split
  · rw [moving_rpu]
  split
  · rw [moving_rpu]
  split
  · rw [moving_rpu]
  · unfold State.slow
    by_cases hm : s.rpu.motion = .stopped
    · simp [hm]
    · cases hs : s.rpu.stillness <;> simp [hm, hs, State.setStillness]

/-- The motion judged leaves every condition. -/
theorem judgeMotion_condition (s : State) (c : Cause) : s.judgeMotion.condition c = s.condition c :=
  condition_keeps (State.judgeMotion_does (m := 17301512) (Does.refl _ s) rfl) (by decide) c

@[simp] theorem setRpu_condition (s : State) (r : Rpu) (c : Cause) : (s.setRpu r).condition c = s.condition c := rfl

/-! ## The channel stages of a sample (R3 to R13) -/

@[simp] theorem judgeChannels_rpu (s : State) (f : Fusion) : (s.judgeChannels f).rpu = s.rpu := by
  simp [State.judgeChannels]

@[simp] theorem judgeChannels_tmb (s : State) (f : Fusion) : (s.judgeChannels f).tmb = s.tmb := by
  simp [State.judgeChannels]

@[simp] theorem judgeChannels_records_length (s : State) (f : Fusion) :
    (s.judgeChannels f).stc.records.length = s.stc.records.length := by
  simp [State.judgeChannels]

@[simp] theorem judgeSlip_tmb (s : State) (t : SafetyTables) (f : Fusion) : (s.judgeSlip t f).tmb = s.tmb := by
  unfold State.judgeSlip
  dsimp only
  repeat' split
  all_goals simp

@[simp] theorem judgeSlip_rpu (s : State) (t : SafetyTables) (f : Fusion) :
    (s.judgeSlip t f).rpu =
      { s.rpu with q := if f.both then slipAfter s.rpu.q (f.travelA - f.travelB).natAbs else s.rpu.q } := by
  unfold State.judgeSlip
  dsimp only
  split
  · split
    · simp
    · split <;> simp
  · simp

/-- Q against its limit makes ROPE_SLIP present, and against half of it absent (R6). -/
theorem judgeSlip_condition {s : State} (hs : s.stc.records.length = 48) (t : SafetyTables) (f : Fusion) (c : Cause) :
    (s.judgeSlip t f).condition c =
      if c = .ropeSlip then
        if f.both ∧ t.qLim < (s.judgeSlip t f).rpu.q then true
        else if f.both ∧ (s.judgeSlip t f).rpu.q ≤ t.qLim / 2 then false
        else s.condition .ropeSlip
      else s.condition c := by
  rw [judgeSlip_rpu]
  unfold State.judgeSlip
  cases hb : f.both
  · simp only [Bool.false_eq_true, if_false, false_and]
    split
    · subst c; rfl
    · rfl
  · simp only [if_true, true_and]
    split
    · rw [judge_condition (by exact hs), setRpu_condition]
    · split
      · rw [judge_condition (by exact hs), setRpu_condition]
      · rw [setRpu_condition]
        split
        · subst c; rfl
        · rfl

theorem judgeChannels_condition {s : State} (hs : s.stc.records.length = 48) (f : Fusion) (c : Cause) :
    (s.judgeChannels f).condition c =
      if c = .tachDisagree then f.disagree
      else if c = .tachSingle then f.single
      else if c = .tachImplausible then !f.both
      else s.condition c := by
  unfold State.judgeChannels
  rw [judge_condition (by simpa using hs), judge_condition (by simpa using hs), judge_condition hs]

/-- The stages of a sample before its motion is judged, for what its channels show (R3 to R10, R13). -/
def State.takeFusion (s : State) (t : SafetyTables) (f : Fusion) (cA cB : Nat) : State :=
  ((((s.storeCounts f cA cB).judgeChannels f).judgeSlip t f).addTravel f.travel).updateSpeed t f.travel

theorem takeCounts_eq (s : State) (t : SafetyTables) (a b cA cB : Nat) :
    s.takeCounts t a b cA cB = (s.takeFusion t (fusionOf t (countDelta cA a) (countDelta cB b)) cA cB).judgeMotion := rfl

section
variable {s : State} (t : SafetyTables) (f : Fusion) (cA cB : Nat)

theorem takeFusion_rpu :
    (s.takeFusion t f cA cB).rpu =
      { s.rpu with
        prevA := some cA
        prevB := some cB
        implausibleA := if f.plausibleA then s.rpu.implausibleA else satInc s.rpu.implausibleA
        implausibleB := if f.plausibleB then s.rpu.implausibleB else satInc s.rpu.implausibleB
        q := if f.both then slipAfter s.rpu.q (f.travelA - f.travelB).natAbs else s.rpu.q
        odo := boundOdo (s.rpu.odo + (s.rpu.res + f.travel) / 1000)
        res := s.rpu.res + f.travel - 1000 * ((s.rpu.res + f.travel) / 1000)
        window := pushWindow s.rpu.window f.travel
        v := speedOf (pushWindow s.rpu.window f.travel) t.ts } := by
  simp [State.takeFusion, State.updateSpeed, State.addTravel, State.storeCounts]

@[simp] theorem takeFusion_tmb : (s.takeFusion t f cA cB).tmb = s.tmb := by
  simp [State.takeFusion, State.updateSpeed, State.addTravel, State.storeCounts]

@[simp] theorem takeFusion_safety : (s.takeFusion t f cA cB).tst.safety = s.tst.safety := by
  unfold State.takeFusion State.updateSpeed State.addTravel State.judgeSlip State.judgeChannels
  dsimp only
  repeat' split
  all_goals simp [State.storeCounts]

/-- The conditions that the channel stages judge (R3, R5, R6). -/
theorem takeFusion_condition (hs : s.stc.records.length = 48) {c : Cause} (hc : c ≠ .overspeed) :
    (s.takeFusion t f cA cB).condition c =
      if c = .ropeSlip then
        if f.both ∧ t.qLim < (s.takeFusion t f cA cB).rpu.q then true
        else if f.both ∧ (s.takeFusion t f cA cB).rpu.q ≤ t.qLim / 2 then false
        else s.condition .ropeSlip
      else if c = .tachDisagree then f.disagree
      else if c = .tachSingle then f.single
      else if c = .tachImplausible then !f.both
      else s.condition c := by
  rw [takeFusion_rpu]
  calc (s.takeFusion t f cA cB).condition c
      = (((s.storeCounts f cA cB).judgeChannels f).judgeSlip t f).condition c := judge_condition_ne _ hc _ _
    _ = _ := by
      have hst : (s.storeCounts f cA cB).stc.records.length = 48 := hs
      rw [judgeSlip_condition (by simpa using hst), judgeChannels_condition hst, judgeChannels_condition hst]
      simp [State.storeCounts]

end

@[simp] theorem judgeMotion_tmb (s : State) : s.judgeMotion.tmb = s.tmb :=
  (State.judgeMotion_does (m := 17301512) (Does.refl _ s) rfl).1 .tmb rfl

@[simp] theorem judgeMotion_safety (s : State) : s.judgeMotion.tst.safety = s.tst.safety :=
  ((State.judgeMotion_does (m := 17301512) (Does.refl _ s) rfl).1 .tables rfl).1

/-! ## Position updates and accepted samples (R1, R2, R8) -/

theorem positionUpdate_rpu_of_valid {s : State} {t : SafetyTables} (ht : s.tst.safety = some t) :
    s.positionUpdate.rpu = { s.rpu with record := s.positionRecord t } := by
  simp [State.positionUpdate, ht, State.updateRope, State.setRecord, State.positionRecord, State.now]

/-- An accepted sample of primed channels ends in a position update of its channel stages (R1, R8). -/
theorem acceptSample_of_primed {s : State} {t : SafetyTables} {a b : Nat} (seq cA cB : Nat) (ha : s.rpu.prevA = some a)
    (hb : s.rpu.prevB = some b) :
    s.acceptSample t seq cA cB =
      ((s.setRpu { s.rpu with seqPrev := some seq, tachLoss := some (s.after (5 * t.ts)) }).takeCounts t a b cA
        cB).positionUpdate := by
  simp [State.acceptSample, ha, hb]

theorem acceptSample_of_unprimed {s : State} {t : SafetyTables} (seq cA cB : Nat) (ha : s.rpu.prevA = none) :
    s.acceptSample t seq cA cB =
      ((s.setRpu { s.rpu with seqPrev := some seq, tachLoss := some (s.after (5 * t.ts)) }).primeChannels cA
        cB).positionUpdate := by
  simp [State.acceptSample, ha]

theorem takeSample_of_some {s : State} {t : SafetyTables} {seq p : Nat} (cA cB : Nat) (hp : s.rpu.seqPrev = some p) :
    s.takeSample t seq cA cB =
      if (seq + 256 - p) % 256 = 1 then s.acceptSample t seq cA cB
      else if 2 ≤ (seq + 256 - p) % 256 && (seq + 256 - p) % 256 ≤ 127 then
        (s.tachGap ((seq + 256 - p) % 256 - 1)).acceptSample t seq cA cB
      else s.setRpu { s.rpu with stale := satInc s.rpu.stale } := by
  unfold State.takeSample
  rw [hp]

/-- A sample in order, or after a gap, is accepted; after a gap the missed samples are counted first (R1). -/
theorem takeSample_of_accepted {s : State} {t : SafetyTables} {seq p : Nat} (cA cB : Nat) (hp : s.rpu.seqPrev = some p)
    (h1 : 1 ≤ (seq + 256 - p) % 256) (h127 : (seq + 256 - p) % 256 ≤ 127) :
    ∃ y : State, s.takeSample t seq cA cB = y.acceptSample t seq cA cB ∧
      y.rpu =
        { s.rpu with
          missed :=
            if (seq + 256 - p) % 256 = 1 then s.rpu.missed
            else satAdd s.rpu.missed ((seq + 256 - p) % 256 - 1) } ∧
      y.stc = s.stc ∧ y.tmb = s.tmb ∧ y.tst.safety = s.tst.safety := by
  rw [takeSample_of_some cA cB hp]
  by_cases h : (seq + 256 - p) % 256 = 1
  · exact ⟨s, if_pos h, by rw [if_pos h], rfl, rfl, rfl⟩
  · rw [if_neg h, if_pos (by simp only [Bool.and_eq_true, decide_eq_true_iff]; omega)]
    exact ⟨_, rfl, by simp [State.tachGap, h], by simp [State.tachGap], by simp [State.tachGap], by simp [State.tachGap]⟩

theorem takeSample_of_stale {s : State} {t : SafetyTables} {seq p : Nat} (cA cB : Nat) (hp : s.rpu.seqPrev = some p)
    (h : (seq + 256 - p) % 256 = 0 ∨ 128 ≤ (seq + 256 - p) % 256) :
    s.takeSample t seq cA cB = s.setRpu { s.rpu with stale := satInc s.rpu.stale } := by
  rw [takeSample_of_some cA cB hp, if_neg (by omega),
    if_neg (by simp only [Bool.and_eq_true, decide_eq_true_iff]; omega)]

theorem takeSample_of_first {s : State} {t : SafetyTables} (seq cA cB : Nat) (hp : s.rpu.seqPrev = none) :
    s.takeSample t seq cA cB = s.acceptSample t seq cA cB := by
  simp only [State.takeSample, hp]

section
variable {s : State} {t : SafetyTables} {seq a b p : Nat} (cA cB : Nat) (ha : s.rpu.prevA = some a)
  (hb : s.rpu.prevB = some b) (hp : s.rpu.seqPrev = some p) (h1 : 1 ≤ (seq + 256 - p) % 256)
  (h127 : (seq + 256 - p) % 256 ≤ 127)
include ha hb hp h1 h127

/-- The rope position unit after an accepted sample of primed channels, but for its motion and its record (R1 to R10). -/
theorem takeSample_rpu :
    ∃ m x r, (s.takeSample t seq cA cB).rpu =
      { ((s.setRpu
          { s.rpu with
            seqPrev := some seq
            tachLoss := some (s.after (5 * t.ts))
            missed :=
              if (seq + 256 - p) % 256 = 1 then s.rpu.missed
              else satAdd s.rpu.missed ((seq + 256 - p) % 256 - 1) }).takeFusion t
          (fusionOf t (countDelta cA a) (countDelta cB b)) cA cB).rpu with
        motion := m
        stillness := x
        record := r } := by
  obtain ⟨y, hy, hr, -, htmb, -⟩ := takeSample_of_accepted (t := t) cA cB hp h1 h127
  rw [hy, acceptSample_of_primed _ _ _ (by simpa [hr] using ha) (by simpa [hr] using hb), takeCounts_eq]
  obtain ⟨r, hpos⟩ := positionUpdate_rpu (State.judgeMotion (State.takeFusion (y.setRpu { y.rpu with
    seqPrev := some seq, tachLoss := some (y.after (5 * t.ts)) }) t (fusionOf t (countDelta cA a) (countDelta cB b)) cA cB))
  obtain ⟨m, x, hj⟩ := judgeMotion_rpu (State.takeFusion (y.setRpu { y.rpu with
    seqPrev := some seq, tachLoss := some (y.after (5 * t.ts)) }) t (fusionOf t (countDelta cA a) (countDelta cB b)) cA cB)
  exact ⟨m, x, r, by rw [hpos, hj]; simp [takeFusion_rpu, hr, State.after, State.now, htmb]⟩

/-- The conditions after an accepted sample of primed channels (R3, R5, R6). -/
theorem takeSample_condition (hs : s.stc.records.length = 48) {c : Cause} (hc : c ≠ .overspeed) (hb' : c ≠ .headBlocked) :
    (s.takeSample t seq cA cB).condition c =
      let f := fusionOf t (countDelta cA a) (countDelta cB b)
      if c = .ropeSlip then
        if f.both ∧ t.qLim < (s.takeSample t seq cA cB).rpu.q then true
        else if f.both ∧ (s.takeSample t seq cA cB).rpu.q ≤ t.qLim / 2 then false
        else s.condition .ropeSlip
      else if c = .tachDisagree then f.disagree
      else if c = .tachSingle then f.single
      else if c = .tachImplausible then !f.both
      else s.condition c := by
  obtain ⟨m, x, r, hrpu⟩ := takeSample_rpu (t := t) cA cB ha hb hp h1 h127
  obtain ⟨y, hy, hr, hstc, -, -⟩ := takeSample_of_accepted (t := t) cA cB hp h1 h127
  rw [hrpu]
  rw [hy, acceptSample_of_primed _ _ _ (by simpa [hr] using ha) (by simpa [hr] using hb), takeCounts_eq,
    positionUpdate_condition _ hb', judgeMotion_condition, takeFusion_condition _ _ _ _ (by simpa [hstc] using hs) hc]
  simp only [setRpu_condition, condition_of_stc hstc, takeFusion_rpu, State.setRpu_rpu, hr]

end

/-! ## Tach loss and stillness (R11, R14) -/

theorem exec_stillnessExpiry_of_fires {s : State} (h : s.Fires s.rpu.stillness) :
    exec .stillnessExpiry s = .next (s.becomeStopped.settle s) := by
  rw [show exec .stillnessExpiry s = execStillnessExpiry s from rfl, execStillnessExpiry, expiry_running h]

@[simp] theorem setMotion_safety (s : State) (m : Motion) : (s.setMotion m).tst.safety = s.tst.safety :=
  ((State.setMotion_does (m := 17301512) m (Does.refl _ s) rfl).1 .tables rfl).1

@[simp] theorem setMotion_tmb (s : State) (m : Motion) : (s.setMotion m).tmb = s.tmb :=
  (State.setMotion_does (m := 17301512) m (Does.refl _ s) rfl).1 .tmb rfl

@[simp] theorem setMotion_lgt (s : State) (m : Motion) : (s.setMotion m).lgt = s.lgt :=
  (State.setMotion_does (m := 17301512) m (Does.refl _ s) rfl).1 .lgt rfl

theorem setMotion_condition (s : State) (m : Motion) (c : Cause) : (s.setMotion m).condition c = s.condition c :=
  condition_of_stc (setMotion_stc s m) c

/-- The tach loss ends in a position update of a state whose channels are unprimed and whose motion is UNKNOWN (R14). -/
theorem loseTach_eq (s : State) :
    ∃ x : State, s.loseTach = x.positionUpdate ∧ x.tst.safety = s.tst.safety ∧ x.tmb = s.tmb ∧
      x.rpu =
        { s.rpu with
          window := [], v := 0, motion := .unknown, stillness := none, prevA := none, prevB := none, seqPrev := none
          tachLoss := none } ∧
      (s.stc.records.length = 48 → ∀ c, x.condition c =
        if c ∈ [Cause.overspeed, .tachDisagree, .tachSingle, .tachImplausible] then false
        else if c = .tachLost then true else s.condition c) := by
  refine ⟨_, rfl, by simp, by simp, by simp, fun hs c => ?_⟩
  rw [judge_condition (by simpa using hs), judge_condition (by simpa using hs), judge_condition (by simpa using hs),
    judge_condition (by simpa using hs), setMotion_condition, setRpu_condition, judge_condition hs]
  cases c <;> rfl

/-- A queued release that is withdrawn is pending no more (R27). -/
theorem withdrawRelease_of_queued {s : State} {p : PendingRelease} (hp : s.lgt.pending = some p)
    (hq : p.phase = .queued) (late : Bool) : (s.withdrawRelease late).lgt.pending = none := by
  unfold State.withdrawRelease State.countWithdrawal
  simp only [hp, hq]
  split <;> simp [State.setPendingRelease]

/-! ## The statements -/

/-- Settles O8: the motion is judged from the window and the speed that the channel stages form, and the position update
that ends the sample takes its record from the state they leave. -/
theorem tachSampleMovesThePosition : Obligations.TachSampleMovesThePosition := by
  intro s e rest t a b p hd ht ha hb hp h1 h127
  obtain ⟨y, hy, hr, -, htmb, hsafe⟩ :=
    takeSample_of_accepted (s := s.takeHead rest) (t := t) e.frame.countA e.frame.countB (by simpa using hp) h1 h127
  refine ⟨_, exec_tachSample_of_delivers hd ht, ?_⟩
  rw [takeHead_rpu] at hr
  rw [takeHead_tmb] at htmb
  rw [hy, acceptSample_of_primed _ _ _ (by simpa [hr] using ha) (by simpa [hr] using hb), settle_rpu, takeCounts_eq]
  generalize hz : State.takeFusion _ t _ _ _ = z
  have hzs : z.tst.safety = some t := by simpa [← hz, hsafe] using ht
  have hzm : z.rpu.motion = s.rpu.motion ∧ z.rpu.stillness = s.rpu.stillness ∧ z.tmb = s.tmb := by
    simp [← hz, takeFusion_rpu, hr, htmb]
  obtain ⟨hmotion, hstill, hztmb⟩ := hzm
  obtain ⟨m, x, hj⟩ := judgeMotion_rpu z
  have hm := judgeMotion_motion z
  rw [positionUpdate_rpu_of_valid (t := t) (by simpa using hzs)]
  simp only [hj, hmotion, hstill, State.after, State.now, hztmb, State.positionRecord, judgeMotion_tmb] at hm ⊢
  exact ⟨hm, by simp⟩

/-- Settles O7: an accepted sample by `takeFusion_rpu` and `takeFusion_condition`, a priming one by its position update,
and a stale one by `takeSample_of_stale`, which gathers nothing. -/
theorem tachSampleCarriesTravel : Obligations.TachSampleCarriesTravel := by
  refine ⟨?_, ?_, ?_⟩
  · intro s e rest t a b p hd ht ha hb hp ha' hb' _ h1 h127
    have ha1 : (s.takeHead rest).rpu.prevA = some a := by simpa using ha
    have hb1 : (s.takeHead rest).rpu.prevB = some b := by simpa using hb
    have hp1 : (s.takeHead rest).rpu.seqPrev = some p := by simpa using hp
    obtain ⟨m, x, r, hrpu⟩ := takeSample_rpu (t := t) e.frame.countA e.frame.countB ha1 hb1 hp1 h1 h127
    have hcond := fun hs c => takeSample_condition (t := t) e.frame.countA e.frame.countB ha1 hb1 hp1 h1 h127 hs (c := c)
    refine ⟨_, exec_tachSample_of_delivers hd ht, ?_⟩
    simp only [settle_rpu, settle_condition]
    have hA := countDelta_eq_bmod (c := e.frame.countA) (field_lt _ 16 16) ha'
    have hB := countDelta_eq_bmod (c := e.frame.countB) (field_lt _ 0 16) hb'
    rw [← hA, ← hB, ← fusionOf_travel]
    generalize countDelta e.frame.countA a = dA at *
    generalize countDelta e.frame.countB b = dB at *
    simp only [takeFusion_rpu, State.setRpu_rpu, takeHead_rpu] at hrpu
    simp only [hrpu]
    refine ⟨trivial, by simp [State.after, State.now], trivial, trivial, trivial, trivial, by simp [fusionOf, plausible],
      by simp [fusionOf, plausible], ?_, boundOdo_eq _, (Int.emod_def _ _).symm, pushWindow_eq _ _,
      speedOf_pushWindow _ _ _, trivial, trivial, trivial, fun hs => ?_⟩
    · simp only [fusionOf_both_iff, slipAfter_eq]
      rfl
    · have hs1 : (s.takeHead rest).stc.records.length = 48 := by simpa using hs
      refine ⟨?_, ?_, ?_, ?_, ?_⟩
      · rw [hcond hs1 _ (by decide) (by decide)]
        simp [← fusionOf_both_iff]
      · rw [hcond hs1 _ (by decide) (by decide), ← fusionOf_single_iff]
        simp
      · rw [hcond hs1 _ (by decide) (by decide), ← fusionOf_disagree_iff]
        simp
      · rw [hcond hs1 _ (by decide) (by decide)]
        simp
      · rw [hcond hs1 _ (by decide) (by decide)]
        simp [fusionOf_both_iff, hrpu, and_assoc]
  · intro s e rest t hd ht ha hb hp hs
    refine ⟨_, exec_tachSample_of_delivers hd ht, ?_⟩
    rw [takeSample_of_first _ _ _ (by simpa using hp), acceptSample_of_unprimed _ _ _ (by simpa using ha)]
    generalize hx : State.primeChannels _ _ _ = x
    have hxr : x.rpu = { s.rpu with
        seqPrev := some e.frame.tachSequence, tachLoss := some (s.after (5 * t.ts)), prevA := some e.frame.countA
        prevB := some e.frame.countB } := by simp [← hx, State.primeChannels, State.after, State.now]
    have hxt : x.tst.safety = some t := by simpa [← hx, State.primeChannels] using ht
    have hxn : x.tmb = s.tmb := by simp [← hx, State.primeChannels]
    have hxc : ∀ c, x.condition c = if c = .tachLost then false else s.condition c := fun c => by
      rw [← hx, State.primeChannels, judge_condition (by simpa using hs)]
      simp
    simp only [settle_rpu, settle_condition, positionUpdate_rpu_of_valid hxt, hxr]
    refine ⟨rfl, ?_, ?_, ?_, ?_, ?_⟩
    · simp [State.positionRecord, hxr]
    · simp [State.positionRecord, hxr]
    · simp [State.positionRecord, State.now, hxn]
    · rw [positionUpdate_condition _ (by decide), hxc, if_pos rfl]
    · simp [positionUpdate_condition, hxc]
  · intro s e rest t p hd ht hp hstale hg
    refine ⟨_, exec_tachSample_of_delivers hd ht, ?_⟩
    rw [takeSample_of_stale _ _ (by simpa using hp) hstale]
    rw [settle_of_quiet (by simpa [State.quiet] using hg) (by simp [wasReset])]
    simp

/-- Settles O9: the tach loss by `loseTach_eq` and the record of its position update, the stillness by the withdrawal that
ends it. -/
theorem ropeTimersStopTheRope : Obligations.RopeTimersStopTheRope := by
  constructor
  · intro s hf hs
    refine ⟨_, exec_tachLostExpiry_of_fires hf, ?_⟩
    obtain ⟨x, hx, hsafe, htmb, hrpu, hc⟩ := loseTach_eq s
    obtain ⟨r, hr⟩ := positionUpdate_rpu x
    simp only [hx, settle_rpu, settle_condition, positionUpdate_condition, hc hs, ne_eq, reduceCtorEq,
      not_false_eq_true]
    refine ⟨by rw [hr, hrpu], rfl, rfl, rfl, rfl, rfl, fun t ht => ?_⟩
    rw [positionUpdate_rpu_of_valid (hsafe.trans ht)]
    simp [State.positionRecord, hrpu, State.now, htmb]
  · intro s hf hg
    refine ⟨_, exec_stillnessExpiry_of_fires hf, by simp [State.becomeStopped, State.handMotion, State.setStillness],
      fun p hp hq => ?_⟩
    have hnone : s.becomeStopped.lgt.pending = none :=
      withdrawRelease_of_queued (by simpa [State.handMotion, State.setStillness] using hp) hq false
    rw [(settle_lgt_of_none hnone).1, hnone]

end Sys2Proof.Machine
end
section
/-!
PROOFS. What an operation keeps, part by part, and the launch gate's answers (chapter 2).
-/

namespace Sys2Proof.Machine

/-! ## What an operation keeps, by the parts of its mask -/

section
variable {m : Nat} {s t : State} (h : Does m s t)
include h

theorem Does.registry_eq (hm : m.testBit 2 = false := by decide) : t.registry = s.registry := h.1 .registry hm
theorem Does.rpu_eq (hm : m.testBit 3 = false := by decide) : t.rpu = s.rpu := h.1 .rpu hm
theorem Does.lgt_eq (hm : m.testBit 4 = false := by decide) : t.lgt = s.lgt := h.1 .lgt hm
theorem Does.queue_eq (hm : m.testBit 5 = false := by decide) : t.ctr.queue = s.ctr.queue := h.1 .queue hm
theorem Does.garage_eq (hm : m.testBit 6 = false := by decide) : t.ctr.garage = s.ctr.garage := h.1 .garage hm
theorem Does.uphill_eq (hm : m.testBit 7 = false := by decide) : t.ctr.uphill = s.ctr.uphill := (h.1 .lines hm).1
theorem Does.downhill_eq (hm : m.testBit 7 = false := by decide) : t.ctr.downhill = s.ctr.downhill := (h.1 .lines hm).2
theorem Does.summit_eq (hm : m.testBit 8 = false := by decide) : t.ctr.summit = s.ctr.summit := (h.1 .sets hm).1
theorem Does.unlocated_eq (hm : m.testBit 8 = false := by decide) : t.ctr.unlocated = s.ctr.unlocated := (h.1 .sets hm).2
theorem Does.slots_eq (hm : m.testBit 9 = false := by decide) : t.ctr.slots = s.ctr.slots := h.1 .slots hm
theorem Does.dsq_eq (hm : m.testBit 11 = false := by decide) : t.dsq = s.dsq := h.1 .dsq hm
theorem Does.rmn_eq (hm : m.testBit 12 = false := by decide) : t.rmn = s.rmn := h.1 .rmn hm
theorem Does.slk_eq (hm : m.testBit 13 = false := by decide) : t.slk = s.slk := h.1 .slk hm
theorem Does.stc_eq (hm : m.testBit 15 = false := by decide) : t.stc = s.stc := h.1 .stc hm
theorem Does.rng_eq (hm : m.testBit 16 = false := by decide) : t.rng = s.rng := h.1 .rng hm
theorem Does.safety_eq (hm : m.testBit 17 = false := by decide) : t.tst.safety = s.tst.safety := (h.1 .tables hm).1
theorem Does.restart_eq (hm : m.testBit 21 = false := by decide) : t.tst.restart = s.tst.restart := h.1 .restart hm
theorem Does.tmb_eq (hm : m.testBit 23 = false := by decide) : t.tmb = s.tmb := h.1 .tmb hm

/-- An operation that leaves every part of CTR leaves CTR. -/
theorem Does.ctr_eq (hq : m.testBit 5 = false := by decide) (hg : m.testBit 6 = false := by decide)
    (hl : m.testBit 7 = false := by decide) (hs : m.testBit 8 = false := by decide)
    (hk : m.testBit 9 = false := by decide) (ht : m.testBit 10 = false := by decide) : t.ctr = s.ctr :=
  Sys2Proof.Machine.ctr_eq (h.queue_eq hq) (h.garage_eq hg) (h.1 .lines hl) (h.1 .sets hs) (h.slots_eq hk) (h.1 .track ht)

end

theorem reg_congr {s t : State} (h : t.registry = s.registry) (i : Nat) : t.reg i = s.reg i := by
  unfold State.reg
  rw [h]

theorem slot_congr {s t : State} (h : t.ctr.slots = s.ctr.slots) (k : Nat) : t.slot k = s.slot k := by
  unfold State.slot
  rw [h]

@[simp] theorem settle_reg (s b : State) (i : Nat) : (s.settle b).reg i = s.reg i := reg_congr (settle_registry s b) i

@[simp] theorem takeHead_reg (s : State) (rest : List IngressEntry) (i : Nat) : (s.takeHead rest).reg i = s.reg i :=
  reg_congr (takeHead_registry s rest) i

/-! ## Slots and registry entries (R21, R61) -/

theorem setSlot_slot (s : State) (k j : Nat) (x : SlotState) :
    (s.setSlot k x).slot j = if k = j ∧ k < s.ctr.slots.length then x else s.slot j := by
  simp only [State.slot, State.setSlot, State.setCtr_ctr, List.getD_eq_getElem?_getD, List.getElem?_set]
  by_cases hk : k = j
  · subst hk
    by_cases hl : k < s.ctr.slots.length <;> simp [hl]
  · simp [hk]

theorem setSlot_slot_self {s : State} {k : Nat} (x : SlotState) (h : k < s.ctr.slots.length) :
    (s.setSlot k x).slot k = x := by simp [setSlot_slot, h]

/-- A slot that is not EMPTY is one of the table. -/
theorem lt_of_slot_ne_empty {s : State} {k : Nat} (h : s.slot k ≠ .empty) : k < s.ctr.slots.length := by
  by_contra hk
  exact h (by simp [State.slot, List.getD, List.getElem?_eq_none (Nat.le_of_not_lt hk)])

theorem freeSlotIf_of_eq {s : State} {k : Nat} {x : SlotState} (h : s.slot k = x) :
    s.freeSlotIf k x = s.setSlot k .empty := if_pos h

/-- A slot freed for its owner is EMPTY. -/
theorem freeSlotIf_slot_self {s : State} {k : Nat} {x : SlotState} (h : s.slot k = x) (hx : x ≠ .empty) :
    (s.freeSlotIf k x).slot k = .empty := by
  rw [freeSlotIf_of_eq h, setSlot_slot_self _ (lt_of_slot_ne_empty (h ▸ hx))]

theorem modReg_reg (s : State) (i j : Nat) (f : RegEntry → RegEntry) :
    (s.modReg i f).reg j = if i = j ∧ i < s.registry.length then f (s.reg i) else s.reg j := by
  simp only [State.reg, State.modReg, State.setRegistry_registry, List.getD_eq_getElem?_getD, List.getElem?_set]
  by_cases hk : i = j
  · subst hk
    by_cases hl : i < s.registry.length <;> simp [hl]
  · simp [hk]

theorem modReg_reg_self {s : State} {i : Nat} (f : RegEntry → RegEntry) (h : i < s.registry.length) :
    (s.modReg i f).reg i = f (s.reg i) := by simp [modReg_reg, h]

@[simp] theorem modReg_registry_length (s : State) (i : Nat) (f : RegEntry → RegEntry) :
    (s.modReg i f).registry.length = s.registry.length := by simp [State.modReg]

/-! ## The head of S6 reported with no release pending (R27, R36, R85) -/

theorem withdrawUnlessHead_of_none {s : State} (h : s.lgt.pending = none) : s.withdrawUnlessHead = s := by
  unfold State.withdrawUnlessHead
  rw [h]

/-- The counted head judged changes of LGT the count and its head. -/
theorem releaseCountedHead_lgt (s : State) :
    ∃ n k, s.releaseCountedHead.lgt = { s.lgt with blocked := n, countedHead := k } := by
  unfold State.releaseCountedHead
  split
  · split
    · exact ⟨_, _, rfl⟩
    · exact ⟨0, none, by simp⟩
  · exact ⟨_, _, rfl⟩

theorem releaseCountedHead_ctr (s : State) : s.releaseCountedHead.ctr = s.ctr := by
  unfold State.releaseCountedHead
  repeat' split
  all_goals simp

theorem reportHead_lgt_of_none {s : State} (h : s.lgt.pending = none) :
    ∃ n k, s.reportHead.lgt = { s.lgt with blocked := n, countedHead := k } := by
  unfold State.reportHead
  rw [withdrawUnlessHead_of_none h]
  exact releaseCountedHead_lgt s

theorem reportHead_ctr_of_none {s : State} (h : s.lgt.pending = none) : s.reportHead.ctr = s.ctr := by
  unfold State.reportHead
  rw [withdrawUnlessHead_of_none h, releaseCountedHead_ctr]

@[simp] theorem modEntry_lgt (s : State) (n : Nat) (f : StationEntry → StationEntry) : (s.modEntry n f).lgt = s.lgt := rfl
@[simp] theorem modEntry_ctr (s : State) (n : Nat) (f : StationEntry → StationEntry) :
    (s.modEntry n f).ctr = { s.ctr with queue := modSerial s.ctr.queue n f } := rfl
@[simp] theorem setSlot_lgt (s : State) (k : Nat) (x : SlotState) : (s.setSlot k x).lgt = s.lgt := rfl
@[simp] theorem setSlot_ctr (s : State) (k : Nat) (x : SlotState) :
    (s.setSlot k x).ctr = { s.ctr with slots := s.ctr.slots.set k x } := rfl
@[simp] theorem setSlot_rpu (s : State) (k : Nat) (x : SlotState) : (s.setSlot k x).rpu = s.rpu := rfl
@[simp] theorem setSlot_registry (s : State) (k : Nat) (x : SlotState) : (s.setSlot k x).registry = s.registry := rfl

theorem judgeSegments_does' (s : State) : Does 4292608 s s.judgeSegments := State.judgeSegments_does (Does.refl _ s) rfl

@[simp] theorem judgeSegments_lgt (s : State) : s.judgeSegments.lgt = s.lgt := (judgeSegments_does' s).lgt_eq
@[simp] theorem judgeSegments_ctr (s : State) : s.judgeSegments.ctr = s.ctr := (judgeSegments_does' s).ctr_eq
@[simp] theorem judgeSegments_rpu (s : State) : s.judgeSegments.rpu = s.rpu := (judgeSegments_does' s).rpu_eq
@[simp] theorem judgeSegments_registry (s : State) : s.judgeSegments.registry = s.registry :=
  (judgeSegments_does' s).registry_eq

section
variable {s : State} (e : StationEntry) (b : Bool) (h : s.lgt.pending = none)
include h

theorem headToS7_lgt_of_none : ∃ n k, (s.headToS7 e b).lgt = { s.lgt with blocked := n, countedHead := k } := by
  obtain ⟨n, k, hr⟩ := reportHead_lgt_of_none
    (s := ((s.modEntry e.serial fun x => { x with segment := .s7, slotless := b }).judgeSegments)) (by simpa using h)
  exact ⟨n, k, hr.trans (by simp)⟩

theorem headToS7_ctr_of_none :
    (s.headToS7 e b).ctr =
      { s.ctr with queue := modSerial s.ctr.queue e.serial fun x => { x with segment := .s7, slotless := b } } := by
  unfold State.headToS7
  rw [reportHead_ctr_of_none (by simpa using h), judgeSegments_ctr]
  rfl

end

@[simp] theorem headToS7_rpu (s : State) (e : StationEntry) (b : Bool) : (s.headToS7 e b).rpu = s.rpu :=
  (State.headToS7_does (m := 4293168) e b (Does.refl _ s) rfl).rpu_eq

/-! ## Gate reports (R29) -/

theorem sentRelease_of_sent {s : State} {p : PendingRelease} {d : Ms} {tag : Nat} (hp : s.lgt.pending = some p)
    (hd : p.phase = .sent d) (ht : tag = p.tag) : s.sentRelease tag = some p := by
  simp [State.sentRelease, hp, hd, ht]

theorem exec_gateReport_of_forward {s : State} {e : IngressEntry} {rest : List IngressEntry}
    (h : s.Delivers .gateReport e rest) (hf : e.frame.backward = false) :
    exec .gateReport s = .next (((s.takeHead rest).takeGateReport e.frame).settle s) := by
  rw [show exec .gateReport s = execGateReport s from rfl, execGateReport, deliver_running h, if_neg (by simp [hf])]

/-- A confirmed release is settled in a state that, but for an event report, is the one the report found (R29). -/
theorem confirmRelease_eq (s : State) (p : PendingRelease) (f : RingFrame) :
    ∃ y : State, s.confirmRelease p f = (y.settleRelease p).bookRelease p ∧ y.lgt = s.lgt ∧ y.ctr = s.ctr ∧ y.rpu = s.rpu := by
  unfold State.confirmRelease
  dsimp only
  split
  · exact ⟨_, rfl, by simp, by simp, by simp⟩
  · exact ⟨_, rfl, rfl, rfl, rfl⟩

theorem headS6_congr {s t : State} (h : t.ctr.queue = s.ctr.queue) : t.headS6 = s.headS6 := by
  unfold State.headS6 State.oldest State.inSegment
  rw [h]

/-- The pending cabin, still the head of S6 and the owner of its slot, is booked to it and watched (R29). -/
theorem bookRelease_of_head {s : State} {p : PendingRelease} {x : StationEntry} (hx : s.headS6 = some x)
    (hw : x.who = .cabin p.cabin) (hs : s.slot p.slot = .releasePending p.cabin) (hn : s.lgt.pending = none)
    (h8 : s.lgt.watch.length < 8) :
    (∃ n k, (s.bookRelease p).lgt =
      { s.lgt with
        blocked := n
        countedHead := k
        watch := s.lgt.watch ++ [{ cabin := p.cabin, slot := p.slot, oRelease := s.rpu.odo }] }) ∧
      (s.bookRelease p).slot p.slot = .releasing p.cabin ∧
      (s.bookRelease p).ctr.queue =
        modSerial s.ctr.queue x.serial fun y => { y with segment := .s7, slotless := false } := by
  obtain ⟨n, k, hl⟩ := headToS7_lgt_of_none x false hn
  have hc := headToS7_ctr_of_none x false hn
  have hb : s.bookRelease p = ((s.headToS7 x false).setSlot p.slot (.releasing p.cabin)).watchRelease p := by
    simp [State.bookRelease, hx, hw, hs]
  have hlen : ((s.headToS7 x false).setSlot p.slot (.releasing p.cabin)).lgt.watch.length < 8 := by
    simpa [State.setSlot, hl] using h8
  rw [hb, State.watchRelease, if_pos hlen]
  refine ⟨⟨n, k, by simp [State.setSlot, hl]⟩, ?_, by simp [State.setSlot, hc]⟩
  refine setSlot_slot_self _ ?_
  simpa [hc] using lt_of_slot_ne_empty (by rw [hs]; simp)

/-- Any other head goes on SLOTLESS, and the slot returns to EMPTY (R29). -/
theorem bookRelease_of_other {s : State} {p : PendingRelease} {x : StationEntry} (hx : s.headS6 = some x)
    (hw : x.who ≠ .cabin p.cabin) (hs : s.slot p.slot = .releasePending p.cabin) (hn : s.lgt.pending = none) :
    (∃ n k, (s.bookRelease p).lgt = { s.lgt with blocked := n, countedHead := k }) ∧
      (s.bookRelease p).slot p.slot = .empty ∧
      (s.bookRelease p).ctr.queue =
        modSerial s.ctr.queue x.serial fun y => { y with segment := .s7, slotless := true } := by
  obtain ⟨n, k, hl⟩ := headToS7_lgt_of_none x true hn
  have hc := headToS7_ctr_of_none x true hn
  have hslot : (s.headToS7 x true).slot p.slot = .releasePending p.cabin := by
    rw [slot_congr (s := s) (by rw [hc]), hs]
  have hb : s.bookRelease p =
      ((s.headToS7 x true).setSlot p.slot .empty).reportMismatch p := by
    simp [State.bookRelease, hx, hw, freeSlotIf_of_eq hslot]
  rw [hb]
  unfold State.reportMismatch
  refine ⟨⟨n, k, by simp [State.setSlot, hl]⟩, ?_, by simp [State.setSlot, hc]⟩
  rw [slot_congr (s := (s.headToS7 x true).setSlot p.slot .empty) (by simp)]
  exact setSlot_slot_self _ (lt_of_slot_ne_empty (by rw [hslot]; simp))

/-- Settles O13: the report confirms the release, which `bookRelease_of_head` and `bookRelease_of_other` book. -/
theorem gateReportBooksTheRelease : Obligations.GateReportBooksTheRelease := by
  intro s e rest p d x hd hf hp hsent htag hx hs
  obtain ⟨y, hy, hl, hc, hr⟩ := confirmRelease_eq (s.takeHead rest) p e.frame
  simp only [takeHead_lgt, takeHead_ctr, takeHead_rpu] at hl hc hr
  have htake : (s.takeHead rest).takeGateReport e.frame = (y.settleRelease p).bookRelease p := by
    simp only [State.takeGateReport, sentRelease_of_sent (s := s.takeHead rest) (by simpa using hp) hsent htag, hy]
  have hx' : (y.settleRelease p).headS6 = some x := by rw [headS6_congr (s := s) (by simp [State.settleRelease, hc]), hx]
  have hs' : (y.settleRelease p).slot p.slot = .releasePending p.cabin := by
    rw [slot_congr (s := s) (by simp [State.settleRelease, hc]), hs]
  have hn : (y.settleRelease p).lgt.pending = none := rfl
  refine ⟨fun hw h8 => ⟨_, exec_gateReport_of_forward hd hf, ?_⟩, fun hw => ⟨_, exec_gateReport_of_forward hd hf, ?_⟩⟩
  · obtain ⟨⟨n, k, hlgt⟩, hslot, hq⟩ := bookRelease_of_head hx' hw hs' hn (by simpa [State.settleRelease, hl] using h8)
    obtain ⟨hsl, hss⟩ := settle_lgt_of_none (b := s) (show ((y.settleRelease p).bookRelease p).lgt.pending = none by
      rw [hlgt]; rfl)
    rw [htake, hsl, slot_congr hss, settle_queue, hlgt, hslot, hq]
    exact ⟨rfl, rfl, by simp [State.settleRelease, hl, hr], rfl, by simp [State.settleRelease, hc, modSerial]⟩
  · obtain ⟨⟨n, k, hlgt⟩, hslot, hq⟩ := bookRelease_of_other hx' hw hs' hn
    obtain ⟨hsl, hss⟩ := settle_lgt_of_none (b := s) (show ((y.settleRelease p).bookRelease p).lgt.pending = none by
      rw [hlgt]; rfl)
    rw [htake, hsl, slot_congr hss, settle_queue, hlgt, hslot, hq]
    exact ⟨rfl, rfl, by simp [State.settleRelease, hl], rfl, by simp [State.settleRelease, hc, modSerial]⟩

/-! ## Failed releases (R30) -/

section
variable {s : State} (n : Nat)

@[simp] theorem countEmptySlot_ctr : s.countEmptySlot.ctr = s.ctr := rfl

theorem countFailure_lgt :
    (s.countFailure n).lgt = { s.lgt with failures := if s.lgt.failures + 1 < 3 then s.lgt.failures + 1 else 0 } := by
  unfold State.countFailure
  split <;> simp_all

@[simp] theorem countFailure_ctr : (s.countFailure n).ctr = s.ctr := by
  unfold State.countFailure
  split <;> simp

end

@[simp] theorem freeSlotIf_queue (s : State) (k : Nat) (x : SlotState) : (s.freeSlotIf k x).ctr.queue = s.ctr.queue := by
  unfold State.freeSlotIf
  split <;> rfl

/-- A failed release: none is pending, the failure is recorded and counted, and the slot is EMPTY if it was still its own
(R30). -/
theorem failRelease_lgt (s : State) (p : PendingRelease) :
    (s.failRelease p).lgt.pending = none ∧
      (s.failRelease p).lgt.lastFailed = some { tag := p.tag, slot := p.slot, cabin := p.cabin } ∧
      (s.failRelease p).lgt.failures = (if s.lgt.failures + 1 < 3 then s.lgt.failures + 1 else 0) ∧
      (s.slot p.slot = .releasePending p.cabin → (s.failRelease p).slot p.slot = .empty) ∧
      (s.failRelease p).ctr.queue = s.ctr.queue := by
  unfold State.failRelease
  dsimp only
  generalize hy : State.countFailure _ p.id = y
  have hl : y.lgt =
      { s.lgt with
        pending := none
        lastFailed := some { tag := p.tag, slot := p.slot, cabin := p.cabin }
        failures := if s.lgt.failures + 1 < 3 then s.lgt.failures + 1 else 0 } := by
    rw [← hy, countFailure_lgt]
    simp
  have hc : y.ctr = (s.freeSlotIf p.slot (.releasePending p.cabin)).ctr := by simp [← hy]
  have hslot : s.slot p.slot = .releasePending p.cabin → y.slot p.slot = .empty := fun h => by
    rw [slot_congr (s := s.freeSlotIf p.slot (.releasePending p.cabin)) (by rw [hc])]
    exact freeSlotIf_slot_self h (by simp)
  split
  · exact ⟨by simp [State.countEmptySlot, hl], by simp [State.countEmptySlot, hl], by simp [State.countEmptySlot, hl],
      hslot, by simp [hc]⟩
  · exact ⟨by rw [hl], by rw [hl], by rw [hl], hslot, by simp [hc]⟩

/-- A failed release stands so at the end of its command. -/
theorem failRelease_settle_lgt (s b : State) (p : PendingRelease) :
    ((s.failRelease p).settle b).lgt.pending = none ∧
      ((s.failRelease p).settle b).lgt.lastFailed = some { tag := p.tag, slot := p.slot, cabin := p.cabin } ∧
      ((s.failRelease p).settle b).lgt.failures = (if s.lgt.failures + 1 < 3 then s.lgt.failures + 1 else 0) ∧
      (s.slot p.slot = .releasePending p.cabin → ((s.failRelease p).settle b).slot p.slot = .empty) ∧
      ((s.failRelease p).settle b).ctr.queue = s.ctr.queue := by
  have h := failRelease_lgt s p
  obtain ⟨hl, hs⟩ := settle_lgt_of_none (b := b) h.1
  rw [hl, slot_congr hs, settle_queue]
  exact h

/-- Settles O14: both commands fail the release, by `failRelease_settle_lgt`. -/
theorem gateReleaseFails : Obligations.GateReleaseFails := by
  intro s p d hrun hp hd
  refine ⟨fun hdue => ?_, fun e rest hdel htag => ?_⟩
  · have hf : s.Fires s.releaseDeadline := ⟨hrun, by simp [State.releaseDeadline, hp, hd, State.expired, hdue]⟩
    refine ⟨(s.failRelease p).settle s, ?_, failRelease_settle_lgt s s p⟩
    rw [show exec .gateReportTimeout s = execGateReportTimeout s from rfl, execGateReportTimeout, expiry_running hf]
    simp only [State.timeoutRelease, hp]
  · refine ⟨((s.takeHead rest).failRelease p).settle s, ?_, ?_⟩
    · rw [show exec .nackGateRelease s = execNackGateRelease s from rfl, execNackGateRelease, deliver_running hdel]
      simp only [State.takeGateNack, sentRelease_of_sent (s := s.takeHead rest) (by simpa using hp) hd htag]
    · have h := failRelease_settle_lgt (s.takeHead rest) s p
      simp only [takeHead_lgt, takeHead_ctr, slot_congr (congrArg Ctr.slots (takeHead_ctr s rest))] at h
      exact h

end Sys2Proof.Machine
end
section
/-!
PROOFS. The attach passage (chapter 2), and the backward reports of R68.
-/

namespace Sys2Proof.Machine

/-! ## Attach (R32) -/

@[simp] theorem withdrawRelease_watch (s : State) (late : Bool) : (s.withdrawRelease late).lgt.watch = s.lgt.watch := by
  obtain ⟨p, l, w, h⟩ := withdrawRelease_lgt s late
  rw [h]

@[simp] theorem reportHead_watch (s : State) : s.reportHead.lgt.watch = s.lgt.watch := by
  unfold State.reportHead
  obtain ⟨n, k, h⟩ := releaseCountedHead_lgt s.withdrawUnlessHead
  rw [h]
  unfold State.withdrawUnlessHead
  repeat' split
  all_goals simp

/-- A cabin that is not watched leaves the attach watch. -/
theorem unwatch_of_not_watched {s : State} {i : Nat} (h : ∀ w ∈ s.lgt.watch, w.cabin ≠ i) : s.unwatch (.cabin i) = s := by
  have hnone : (s.lgt.watch.find? fun w => w.cabin = i) = none := by simpa using h
  simp [State.unwatch, hnone]

@[simp] theorem setHoldOpen_registry_length (s : State) (e : StationEntry) (b : Bool) :
    (s.setHoldOpen e b).registry.length = s.registry.length := by
  unfold State.setHoldOpen
  split
  · simp
  · rfl

@[simp] theorem doorDeparted_registry_length (s : State) (e : StationEntry) :
    (s.doorDeparted e).registry.length = s.registry.length := by
  unfold State.doorDeparted State.judgeObstruction
  rw [judge_registry]
  refine (setHoldOpen_registry_length _ e false).trans ?_
  rw [(State.withdrawAllFor_does (m := 67584) e.serial (Does.refl _ s) rfl).registry_eq]

@[simp] theorem freeSlotIf_slots_length (s : State) (k : Nat) (x : SlotState) :
    (s.freeSlotIf k x).ctr.slots.length = s.ctr.slots.length := by
  unfold State.freeSlotIf
  split <;> simp

@[simp] theorem withdrawRelease_slots_length (s : State) (late : Bool) :
    (s.withdrawRelease late).ctr.slots.length = s.ctr.slots.length := by
  have h : ∀ x : State, x.ctr = s.ctr → ∀ k y, (x.freeSlotIf k y).ctr.slots.length = s.ctr.slots.length := fun x hx k y => by
    rw [freeSlotIf_slots_length, hx]
  unfold State.withdrawRelease
  split
  · rename_i p _
    split
    · unfold State.countWithdrawal
      split
      · simp only [report_ctr]
        exact h (s.withdrawControl .gateRelease p.tag) rfl _ _
      · exact h (s.withdrawControl .gateRelease p.tag) rfl _ _
    · rfl
  · rfl

@[simp] theorem reportHead_slots_length (s : State) : s.reportHead.ctr.slots.length = s.ctr.slots.length := by
  unfold State.reportHead
  have h : s.withdrawUnlessHead.ctr.slots.length = s.ctr.slots.length := by
    unfold State.withdrawUnlessHead
    repeat' split
    all_goals simp
  rw [releaseCountedHead_ctr, h]

/-- The state in which the segments of the station have been judged after an entry has left the queue (R63). -/
theorem leaveStation_does' (s : State) (e : StationEntry) : Does 4296244 s (s.leaveStation e) :=
  State.leaveStation_does e (Does.refl _ s) rfl

/-- Where the cabin of an entry is not watched, its departure leaves the attach watch, and the sizes of the slot table and
of the registry. -/
theorem leaveStation_watch {s : State} {e : StationEntry} {i : Nat} (hwho : e.who = .cabin i)
    (h : ∀ w ∈ s.lgt.watch, w.cabin ≠ i) :
    (s.leaveStation e).lgt.watch = s.lgt.watch ∧ (s.leaveStation e).ctr.slots.length = s.ctr.slots.length ∧
      (s.leaveStation e).registry.length = s.registry.length := by
  unfold State.leaveStation
  dsimp only
  generalize hx : s.setQueue (s.ctr.queue.filter fun x => x.serial ≠ e.serial) = x
  have hl : x.lgt = s.lgt := hx ▸ rfl
  have hs : x.ctr.slots = s.ctr.slots := hx ▸ rfl
  have hr : x.registry = s.registry := hx ▸ rfl
  have hu : x.judgeSegments.unwatch e.who = x.judgeSegments := by
    rw [hwho]
    exact unwatch_of_not_watched (by simpa [hl] using h)
  generalize hy : ((x.judgeSegments.unwatch e.who).reportHead).doorDeparted e = y
  rw [hu] at hy
  have hd : Does 100356 x.judgeSegments.reportHead y := hy ▸ State.doorDeparted_does e (Does.refl _ _) rfl
  have hyl : y.lgt.watch = s.lgt.watch := by
    rw [hd.lgt_eq, reportHead_watch, judgeSegments_lgt, hl]
  have hys : y.ctr.slots.length = s.ctr.slots.length := by
    rw [hd.slots_eq, reportHead_slots_length, judgeSegments_ctr, hs]
  have hyr : y.registry.length = s.registry.length := by
    have hrep : x.judgeSegments.reportHead.registry = x.judgeSegments.registry :=
      (State.reportHead_does (Does.refl 4293136 x.judgeSegments) rfl).registry_eq
    rw [← hy, doorDeparted_registry_length, hrep, judgeSegments_registry, hr]
  have hsw : Does 4260864 y y.judgeSwitch := State.judgeSwitch_does (Does.refl _ _) rfl
  have hge : Does 66560 y.judgeSwitch y.judgeSwitch.judgeGarageExit := State.judgeGarageExit_does (Does.refl _ _) rfl
  split
  · rw [hge.lgt_eq, hge.slots_eq, hge.registry_eq, hsw.lgt_eq, hsw.slots_eq, hsw.registry_eq]
    exact ⟨hyl, hys, hyr⟩
  · rw [hsw.lgt_eq, hsw.slots_eq, hsw.registry_eq]
    exact ⟨hyl, hys, hyr⟩

@[simp] theorem modReg_ctr (s : State) (i : Nat) (f : RegEntry → RegEntry) : (s.modReg i f).ctr = s.ctr := rfl

/-- A watched cabin attached: its entry leaves the queue, and it joins the uphill tail with its slot (R32, R42). -/
theorem joinUphill_of_watched {s : State} {w : WatchEntry} {x : StationEntry} (err : Int)
    (hx : s.entryOfCabin w.cabin = some x) (hw : ∀ y ∈ s.lgt.watch, y.cabin ≠ w.cabin)
    (hreg : w.cabin < s.registry.length) (hslot : w.slot < s.ctr.slots.length) :
    let u := s.joinUphill w err
    u.lgt.watch = s.lgt.watch ∧ u.ctr.queue = s.ctr.queue.filter (fun y => y.serial ≠ x.serial) ∧
      u.ctr.uphill =
        s.ctr.uphill ++ [{ cabin := w.cabin, slot := w.slot, oRelease := w.oRelease, attachErr := some err }] ∧
      u.slot w.slot = .up w.cabin ∧ (u.reg w.cabin).location = .uphill ∧ (u.reg w.cabin).attachErr = some err ∧
      (u.reg w.cabin).door = .locked ∧ (u.reg w.cabin).verdict = .pass ∧ u.rpu = s.rpu := by
  have hwho : x.who = .cabin w.cabin := by simpa using List.find?_some hx
  obtain ⟨hl, hs, hr⟩ := leaveStation_watch hwho hw
  have hd := leaveStation_does' s x
  unfold State.joinUphill
  simp only [hx]
  generalize hy : s.leaveStation x = y at hl hs hr hd
  have hq : y.ctr.queue = s.ctr.queue.filter fun z => z.serial ≠ x.serial := hy ▸ State.leaveStation_queue s x
  refine ⟨hl, hq, by simp [hd.uphill_eq], ?_, ?_⟩
  · exact setSlot_slot_self _ (by simpa [hs] using hslot)
  · rw [reg_congr (setSlot_registry _ _ _), modReg_reg_self _ (by simpa [hr] using hreg)]
    exact ⟨rfl, rfl, rfl, rfl, hd.rpu_eq⟩

/-- Settles O15: the entry that is booked is `joinUphill_of_watched`'s, and what follows it in the command touches neither
the queue, the lists, the slots nor the registry. -/
theorem attachMovesTheCabinUphill : Obligations.AttachMovesTheCabinUphill := by
  intro s e rest t w others x hdel hfwd ht hwatch hothers hx hreg hslot
  have htab : s.tables = t := by simp [State.tables, ht]
  generalize hh : (s.takeHead rest).setLgt { s.lgt with watch := others } = y
  have hyrpu : y.rpu = s.rpu := by simp [← hh]
  have hytab : y.tables = t := by
    rw [← htab]
    simp [← hh, State.tables]
  rw [show exec .attach s = execAttach s from rfl, execAttach, deliver_running hdel]
  refine ⟨_, rfl, ?_⟩
  intro err
  have herr : y.attachError w.slot = err := by
    simp only [State.attachError, hyrpu, hytab]
    rfl
  clear_value err
  have hjoin := joinUphill_of_watched (s := y) (w := w) (x := x) err
    (by simpa [← hh, State.entryOfCabin] using hx) (by simpa [← hh] using hothers) (by simpa [← hh] using hreg)
    (by simpa [← hh] using hslot)
  simp only [hfwd, Bool.false_eq_true, if_false, State.takeAttach, takeHead_lgt, hwatch, State.attachWatched, hh,
    State.bookAttach, herr]
  revert hjoin
  generalize hj : y.joinUphill w err = j
  intro hjoin
  generalize hz : State.checkSpacing _ w err = z
  have hd : Does 4300800 j z := hz ▸ State.checkSpacing_does w err (by simp) rfl
  obtain ⟨p, l, wd, hlgt⟩ := settle_lgt z s
  have hzslot : z.slot w.slot = .up w.cabin := (slot_congr hd.slots_eq _).trans hjoin.2.2.2.1
  refine ⟨?_, ?_, ?_, ?_, ?_⟩
  · rw [hlgt]
    exact (congrArg Lgt.watch hd.lgt_eq).trans (hjoin.1.trans (by simp [← hh]))
  · rw [settle_queue, hd.queue_eq, hjoin.2.1]
    simp [← hh]
  · rw [settle_uphill, hd.uphill_eq, hjoin.2.2.1]
    simp [← hh]
  · rw [settle_slot _ _ _ (by simp [hzslot]), hzslot]
  · rw [settle_reg, reg_congr hd.registry_eq]
    obtain ⟨-, -, -, -, hloc, herr, hdoor, hverdict, -⟩ := hjoin
    exact ⟨hloc, herr, hdoor, hverdict⟩

/-! ## Backward reports (R68) -/

/-- A backward report: its fault is gathered and reported, and no entry moves (R68). -/
theorem reversePassage_moves_nothing {s : State} (b : State) (detector : Nat) (hs : s.stc.records.length = 48)
    (hg : s.stc.gathered = []) (hr : wasReset b s = false) :
    let u := (s.reversePassage detector).settle b
    u.ctr.queue = s.ctr.queue ∧ u.ctr.garage = s.ctr.garage ∧ u.ctr.uphill = s.ctr.uphill ∧
      u.ctr.downhill = s.ctr.downhill ∧ u.ctr.summit = s.ctr.summit ∧ u.ctr.unlocated = s.ctr.unlocated ∧
      u.ctr.unread = s.ctr.unread ∧ u.lgt.watch = s.lgt.watch ∧
      (u.cause .reversePassageFault).state = .latched ∧
      (u.cause .reversePassageFault).raises = satInc (s.cause .reversePassageFault).raises ∧
      (u.cause .reversePassageFault).lastTime = s.now := by
  generalize hx : s.reversePassage detector = x
  have hctr : x.ctr = s.ctr := by simp [← hx, State.reversePassage]
  have hlgt : x.lgt = s.lgt := by simp [← hx, State.reversePassage]
  have hnow : x.now = s.now := by simp [← hx, State.reversePassage, State.now]
  have hstc : x.stc = { s.stc with gathered := [{ cause := .reversePassageFault, change := .momentary none }] } := by
    simp [← hx, State.reversePassage, State.raise, State.gather, hg]
  have hxr : wasReset b x = false := by
    rw [← hr]
    simp [wasReset, ← hx, State.reversePassage]
  have hcause : x.cause .reversePassageFault = s.cause .reversePassageFault := by simp [State.cause, hstc]
  obtain ⟨p, l, w, hsl⟩ := settle_lgt x b
  have hc := settle_cause (s := x) (b := b) (by simpa [hstc] using hs) (by rw [hstc]) hxr .reversePassageFault
  rw [if_pos rfl] at hc
  dsimp only
  rw [hc, hcause, hnow]
  refine ⟨by simp [hctr], by simp [hctr], by simp [hctr], by simp [hctr], by simp [hctr], by simp [hctr], ?_, ?_, ?_⟩
  · exact (congrArg Ctr.unread (settle_track x b)).trans (by simp [Ctr.rest, hctr])
  · rw [hsl, hlgt]
  · exact ⟨rfl, rfl, rfl⟩

/-- Settles O16: each of the four commands is a backward report. -/
theorem backwardReportsMoveNoEntry : Obligations.BackwardReportsMoveNoEntry := by
  intro s e rest c hcase hs hg
  suffices h : ∃ d, exec c s = .next (((s.takeHead rest).reversePassage d).settle s) by
    obtain ⟨d, h⟩ := h
    have hm := reversePassage_moves_nothing (s := s.takeHead rest) s d (by simpa using hs) (by simpa using hg)
      (by simp [wasReset])
    exact ⟨_, h, by simpa [State.cause, State.now] using hm⟩
  rcases hcase with ⟨rfl, h⟩ | ⟨rfl, h⟩ | ⟨rfl, h, hb⟩ | ⟨rfl, h, hb⟩
  · exact ⟨1, by
      rw [show exec .arrivalBackward s = execArrivalBackward s from rfl, execArrivalBackward, deliver_running h]⟩
  · exact ⟨9, by
      rw [show exec .garageExitBackward s = execGarageExitBackward s from rfl, execGarageExitBackward,
        deliver_running h]⟩
  · exact ⟨7, by
      rw [show exec .gateReport s = execGateReport s from rfl, execGateReport, deliver_running h]
      simp [hb]⟩
  · exact ⟨8, by
      rw [show exec .attach s = execAttach s from rfl, execAttach, deliver_running h]
      simp [hb]⟩

end Sys2Proof.Machine
end
section
/-!
PROOFS. The release test inside the window of its passage (chapter 2).
-/

namespace Sys2Proof.Machine

/-! ## The CONTROL queue and the output category through the shared operations -/

@[simp] theorem placeReport_control (s : State) (f : EgressFrame) : (s.placeReport f).rng.control = s.rng.control := by
  unfold State.placeReport
  split <;> rfl

@[simp] theorem report_control (s : State) (k : EventKind) (c : Option Cause) (i : Option Nat) (d : List Int) :
    (s.report k c i d).rng.control = s.rng.control := by
  unfold State.report
  dsimp only
  split
  · unfold State.offerEvent
    repeat' split
    all_goals try rw [placeReport_control]
    all_goals rfl
  · rfl

@[simp] theorem raise_output (s : State) (c : Cause) (i : Option Nat) : (s.raise c i).stc.output = s.stc.output := rfl

@[simp] theorem judge_output (s : State) (c : Cause) (b : Bool) (i : Option Nat) :
    (s.judge c b i).stc.output = s.stc.output := by
  unfold State.judge
  split <;> rfl

theorem launchHeld_congr {s t : State} (h : t.stc.output = s.stc.output) : t.launchHeld = s.launchHeld := by
  unfold State.launchHeld
  rw [h]

theorem indicate_control_le (s : State) : s.rng.control.length ≤ s.indicate.rng.control.length := by
  unfold State.indicate State.placeControl
  dsimp only
  repeat' split
  · exact le_rfl
  · simp [State.setControl, State.setRng]
  · exact le_rfl

theorem setCall_control_le (s : State) (call : CallState) (b : Bool) (r : CallReason) (d : Nat) :
    s.rng.control.length ≤ (s.setCall call b r d).rng.control.length := by
  unfold State.setCall
  dsimp only
  have h := indicate_control_le (s.setIcm { s.icm with call := call, emergencyOpen := b })
  repeat' split
  · exact le_rfl
  · exact h
  · rw [report_control]
    exact h

theorem judgeEmergency_control_le (s : State) : s.rng.control.length ≤ s.judgeEmergency.rng.control.length := by
  have ht : ∀ b r d, s.rng.control.length ≤ (s.enterTalk b r d).rng.control.length := fun b r d =>
    setCall_control_le ((s.setIcm { s.icm with callTimer := none, talkEntry := s.now }).startJitter) _ _ _ _
  have hf : ∀ x : State, (x.sendCallFrame .accept).rng.control = x.rng.control := fun x => by
    unfold State.sendCallFrame
    split
    · rfl
    · rw [report_control]
      rfl
  unfold State.judgeEmergency
  repeat' split
  · exact le_rfl
  · exact setCall_control_le ..
  · rw [hf]
    exact ht ..
  · exact ht ..
  · exact setCall_control_le ..
  · exact le_rfl

@[simp] theorem takeCondition_control (s : State) (x : CauseReport) : (s.takeCondition x).rng.control = s.rng.control := by
  unfold State.takeCondition State.reportCauseState State.reportCauseCategory
  dsimp only
  split
  · exact report_control ..
  · split
    · exact report_control ..
    · rfl

@[simp] theorem takeCondition_output (s : State) (x : CauseReport) : (s.takeCondition x).stc.output = s.stc.output := by
  unfold State.takeCondition State.reportCauseState State.reportCauseCategory
  dsimp only
  split
  · exact (congrArg Stc.output (report_stc ..)).trans rfl
  · split
    · exact (congrArg Stc.output (report_stc ..)).trans rfl
    · rfl

theorem foldl_takeCondition_control (xs : List CauseReport) (s : State) :
    (xs.foldl State.takeCondition s).rng.control = s.rng.control ∧
      (xs.foldl State.takeCondition s).stc.output = s.stc.output := by
  induction xs generalizing s with
  | nil => exact ⟨rfl, rfl⟩
  | cons x xs ih =>
    rw [List.foldl_cons]
    exact ⟨(ih _).1.trans (takeCondition_control s x), (ih _).2.trans (takeCondition_output s x)⟩

/-! ## A queued release through a report of STC (R163, R164) -/

/-- No release of the state has been sent. -/
def State.unsent (s : State) : Prop := ∀ p, s.lgt.pending = some p → p.phase = .queued

/-- From one state to another an unsent release goes, or LGT and the slots stand, and launching is held only where it was. -/
def HoldsRelease (s t : State) : Prop :=
  s.unsent →
    t.lgt.pending = none ∨
      t.lgt = s.lgt ∧ t.ctr.slots = s.ctr.slots ∧ (s.launchHeld = false → t.launchHeld = false)

theorem HoldsRelease.trans {s t u : State} (h1 : HoldsRelease s t) (h2 : HoldsRelease t u) : HoldsRelease s u := by
  intro hs
  rcases h1 hs with h | ⟨hl, hc, hh⟩
  · rcases h2 (by simp [State.unsent, h]) with h' | ⟨hl', _, _⟩
    · exact .inl h'
    · exact .inl (by rw [hl', h])
  · rcases h2 (by simpa [State.unsent, hl] using hs) with h' | ⟨hl', hc', hh'⟩
    · exact .inl h'
    · exact .inr ⟨hl'.trans hl, hc'.trans hc, fun h => hh' (hh h)⟩

theorem holdsRelease_of_eq {s t : State} (hl : t.lgt = s.lgt) (hc : t.ctr.slots = s.ctr.slots)
    (ho : t.stc.output = s.stc.output) : HoldsRelease s t := fun _ =>
  .inr ⟨hl, hc, fun h => (launchHeld_congr ho).trans h⟩

theorem withdrawRelease_pending_of_unsent {s : State} (h : s.unsent) (late : Bool) :
    (s.withdrawRelease late).lgt.pending = none := by
  cases hp : s.lgt.pending with
  | none => rw [withdrawRelease_none hp, hp]
  | some p => exact withdrawRelease_of_queued hp (h p hp) late

theorem judgeEmergency_keeps (s : State) :
    s.judgeEmergency.lgt = s.lgt ∧ s.judgeEmergency.ctr.slots = s.ctr.slots ∧ s.judgeEmergency.stc = s.stc :=
  have hd := State.judgeEmergency_does (m := 268435455 - 2 ^ 4 - 2 ^ 9 - 2 ^ 15) (Does.refl _ s) rfl
  ⟨hd.1 .lgt rfl, hd.1 .slots rfl, hd.1 .stc rfl⟩

/-- Where the new output holds launching, LGT withdraws what it has queued as it is told. -/
theorem tellOutput_holdsRelease {s t : State} (hl : s.lgt = t.lgt) (hc : s.ctr.slots = t.ctr.slots) :
    HoldsRelease t s.tellOutput := by
  intro ht
  unfold State.tellOutput
  split
  · left
    rw [(judgeEmergency_keeps _).1]
    exact withdrawRelease_pending_of_unsent (by simpa [State.unsent, hl] using ht) false
  · rename_i hh
    obtain ⟨hl', hc', hs'⟩ := judgeEmergency_keeps s
    refine .inr ⟨hl'.trans hl, hc'.trans hc, fun _ => ?_⟩
    rw [launchHeld_congr (congrArg Stc.output hs')]
    simpa using hh

theorem takeTogether_holdsRelease (s : State) (xs : List CauseReport) : HoldsRelease s (s.takeTogether xs) := by
  have h := foldl_takeCondition_lgt xs s
  have ho := foldl_takeCondition_control xs s
  unfold State.takeTogether
  generalize (xs.foldl State.takeCondition s) = y at h ho
  unfold State.formOutput
  dsimp only
  split
  · exact holdsRelease_of_eq h.1 h.2 ho.2
  · refine tellOutput_holdsRelease ?_ ?_
    · simpa [State.reportOutput, State.setOutput] using h.1
    · simpa [State.reportOutput, State.setOutput] using h.2

theorem takeReport_holdsRelease (s : State) : HoldsRelease s s.takeReport := by
  unfold State.takeReport
  split
  · exact holdsRelease_of_eq rfl rfl rfl
  · have h : ∀ (xss : List (List CauseReport)) (t : State), HoldsRelease t (xss.foldl State.takeTogether t) := fun xss => by
      induction xss with
      | nil => exact fun _ => holdsRelease_of_eq rfl rfl rfl
      | cons xs xss ih => exact fun t => (takeTogether_holdsRelease t xs).trans (ih _)
    exact (holdsRelease_of_eq rfl rfl rfl : HoldsRelease s s.clearGathered).trans (h _ _)

theorem settle_holdsRelease (s b : State) : HoldsRelease s (s.settle b) := by
  have hkeep : ∀ x : State, (((x.transmit).staleIf b).countChanges b).lgt = x.lgt ∧
      (((x.transmit).staleIf b).countChanges b).ctr.slots = x.ctr.slots ∧
      (((x.transmit).staleIf b).countChanges b).stc.output = x.stc.output := fun x => by simp
  unfold State.settle
  split
  · exact holdsRelease_of_eq rfl rfl rfl
  · obtain ⟨hl, hc, ho⟩ := hkeep s.takeReport
    exact (takeReport_holdsRelease s).trans (holdsRelease_of_eq hl hc ho)

/-- With no release pending, a report of STC takes nothing out of CONTROL. -/
theorem takeReport_control_le {s : State} (h : s.lgt.pending = none) :
    s.rng.control.length ≤ s.takeReport.rng.control.length := by
  have hone : ∀ (xs : List CauseReport) (t : State), t.lgt.pending = none →
      t.rng.control.length ≤ (t.takeTogether xs).rng.control.length := fun xs t ht => by
    have hl := foldl_takeCondition_lgt xs t
    have hc := foldl_takeCondition_control xs t
    unfold State.takeTogether
    generalize (xs.foldl State.takeCondition t) = y at hl hc
    unfold State.formOutput
    dsimp only
    split
    · rw [hc.1]
    · have hno : ∀ z : State, z.lgt = y.lgt → z.rng.control = y.rng.control →
          t.rng.control.length ≤ z.tellOutput.rng.control.length := fun z hzl hzc => by
        have hw : z.withdrawRelease false = z := withdrawRelease_none (by rw [hzl, hl.1, ht]) _
        unfold State.tellOutput
        rw [hw, ite_self, ← hc.1, ← hzc]
        exact judgeEmergency_control_le z
      exact hno _ (by simp [State.reportOutput, State.setOutput]) (by simp [State.reportOutput, State.setOutput])
  have hall : ∀ (xss : List (List CauseReport)) (t : State), t.lgt.pending = none →
      t.rng.control.length ≤ (xss.foldl State.takeTogether t).rng.control.length := fun xss => by
    induction xss with
    | nil => exact fun t _ => le_rfl
    | cons xs xss ih =>
      intro t ht
      have hn : (t.takeTogether xs).lgt.pending = none := by
        rcases takeTogether_withdraws t xs with h1 | h1
        · rw [h1.1, ht]
        · rw [h1.1, withdrawRelease_none ht, ht]
      exact (hone xs t ht).trans (ih _ hn)
  unfold State.takeReport
  split
  · exact le_rfl
  · exact hall _ s.clearGathered h

/-! ## The passage of an update (R22, R23) -/

/-- What the release test reads beside the passage. -/
structure LaunchView where
  rpu : Rpu
  registry : List RegEntry
  ctr : Ctr
  output : Category
  control : List EgressFrame
  pending : Option PendingRelease
  tagSeq : Nat

/-- The state as the release test reads it beside the passage. -/
def State.launchView (s : State) : LaunchView :=
  { rpu := s.rpu, registry := s.registry, ctr := s.ctr, output := s.stc.output, control := s.rng.control,
    pending := s.lgt.pending, tagSeq := s.lgt.tagSeq }

section
variable {s t : State} (h : t.launchView = s.launchView)
include h

theorem rpu_of_view : t.rpu = s.rpu := congrArg LaunchView.rpu h
theorem registry_of_view : t.registry = s.registry := congrArg LaunchView.registry h
theorem ctr_of_view : t.ctr = s.ctr := congrArg LaunchView.ctr h
theorem output_of_view : t.stc.output = s.stc.output := congrArg LaunchView.output h
theorem control_of_view : t.rng.control = s.rng.control := congrArg LaunchView.control h
theorem pending_of_view : t.lgt.pending = s.lgt.pending := congrArg LaunchView.pending h
theorem tagSeq_of_view : t.lgt.tagSeq = s.lgt.tagSeq := congrArg LaunchView.tagSeq h

theorem readyHead_of_view : t.readyHead = s.readyHead := by
  have hr : ∀ e, t.ready e = s.ready e := fun e => by
    unfold State.ready State.reg
    rw [registry_of_view h]
  unfold State.readyHead State.headS6 State.oldest State.inSegment
  rw [ctr_of_view h]
  simp only [hr]

end

@[simp] theorem setPassage_view (s : State) (p : PassageRecord) : (s.setPassage p).launchView = s.launchView := rfl
@[simp] theorem setPassage_passage (s : State) (p : PassageRecord) : (s.setPassage p).lgt.passage = p := rfl
@[simp] theorem setBlocked_view (s : State) (n : Nat) (k : Option Nat) : (s.setBlocked n k).launchView = s.launchView := rfl
@[simp] theorem setBlocked_passage (s : State) (n : Nat) (k : Option Nat) :
    (s.setBlocked n k).lgt.passage = s.lgt.passage := rfl
@[simp] theorem countEmptySlot_view (s : State) : s.countEmptySlot.launchView = s.launchView := rfl
@[simp] theorem countEmptySlot_passage (s : State) : s.countEmptySlot.lgt.passage = s.lgt.passage := rfl

@[simp] theorem judge_view (s : State) (c : Cause) (b : Bool) (i : Option Nat) :
    (s.judge c b i).launchView = s.launchView := by
  unfold State.launchView
  simp

@[simp] theorem countHead_view (s : State) : s.countHead.launchView = s.launchView := by
  unfold State.countHead
  repeat' split
  all_goals simp

@[simp] theorem countHead_passage (s : State) : s.countHead.lgt.passage = s.lgt.passage := by
  unfold State.countHead
  repeat' split
  all_goals simp

/-- With no release pending, a window that closes leaves what the release test reads. -/
theorem closeWindow_view {s : State} (h : s.lgt.pending = none) : s.closeWindow.launchView = s.launchView := by
  have hm : s.markWindowClosed.launchView = s.launchView := by
    simp [State.launchView, State.markWindowClosed, State.setPendingRelease, h]
  unfold State.closeWindow State.countWindow
  repeat' split
  all_goals simp [hm]

@[simp] theorem closeWindow_passage (s : State) : s.closeWindow.lgt.passage = s.lgt.passage := by
  unfold State.closeWindow State.countWindow
  repeat' split
  all_goals simp [State.markWindowClosed, State.setPendingRelease]

theorem endPassage_view {s : State} (h : s.lgt.pending = none) : s.endPassage.launchView = s.launchView := by
  unfold State.endPassage State.countUnseen
  repeat' split
  all_goals simp [closeWindow_view h]
  all_goals rfl

/-- The passage of the update: the recorded one, or a new one of its slot (R22). -/
def State.passageBegun (s : State) : PassageRecord :=
  if s.lgt.passage.slot = some s.rpu.record.k then s.lgt.passage
  else { PassageRecord.initial with slot := some s.rpu.record.k }

theorem beginPassage_keeps {s : State} (h : s.lgt.pending = none) :
    s.beginPassage.launchView = s.launchView ∧ s.beginPassage.lgt.passage = s.passageBegun := by
  unfold State.beginPassage State.passageBegun
  split
  · exact ⟨rfl, rfl⟩
  · exact ⟨by simp [endPassage_view h], by simp⟩

theorem checkOccupied_keeps (s : State) (k : Nat) :
    (s.checkOccupied k).launchView = s.launchView ∧
      ∃ b, (s.checkOccupied k).lgt.passage = { s.lgt.passage with barred := b } ∧
        (s.lgt.passage.barred = true → b = true) := by
  unfold State.checkOccupied
  dsimp only
  split
  · exact ⟨rfl, s.lgt.passage.barred, rfl, id⟩
  · refine ⟨?_, true, by simp, fun _ => rfl⟩
    unfold State.launchView
    simp [State.setPassage]

/-- How an update moves the window phase: a passage that is open in the window afterwards was so with its launch window
start, or is opened by this update; and what has been made or barred stays so (R22, R23). -/
theorem movePhase_keeps {s : State} (t : SafetyTables) (h : s.lgt.pending = none) :
    (s.movePhase t).launchView = s.launchView ∧
      (s.movePhase t).lgt.passage.slot = s.lgt.passage.slot ∧
      (s.movePhase t).lgt.passage.releaseMade = s.lgt.passage.releaseMade ∧
      (s.lgt.passage.barred = true → (s.movePhase t).lgt.passage.barred = true) ∧
      ((s.movePhase t).lgt.passage.phase = .opened →
        t.inWindow s.rpu.record.o = true ∧ s.lgt.passage.phase ≠ .after ∧
          (s.lgt.passage.phase = .opened → (s.movePhase t) = s)) := by
  unfold State.movePhase State.openWindow
  dsimp only
  split
  · split
    · rename_i hphase hwin
      split
      · obtain ⟨hv, b, hp, hb⟩ :=
          checkOccupied_keeps (s.setPassage { s.lgt.passage with phase := .opened, launchWindow := true }) s.rpu.record.k
        rw [hv, hp]
        exact ⟨rfl, rfl, rfl, hb, fun _ => ⟨hwin, by simp [hphase], by simp [hphase]⟩⟩
      · exact ⟨rfl, rfl, rfl, id, fun _ => ⟨hwin, by simp [hphase], by simp [hphase]⟩⟩
    · rename_i hphase _
      exact ⟨rfl, rfl, rfl, id, by simp [hphase]⟩
  · split
    · rename_i hphase hwin
      exact ⟨rfl, rfl, rfl, id, fun _ => ⟨hwin, by simp [hphase], fun _ => rfl⟩⟩
    · exact ⟨closeWindow_view h, by simp, by simp, by simp, by simp⟩
  · rename_i hphase
    exact ⟨rfl, rfl, rfl, id, by simp [hphase]⟩

/-! ## The release test (R26) -/

/-- The state in which a position update makes its release test. -/
def State.atReleaseTest (s : State) (t : SafetyTables) : State :=
  ((s.beginPassage.movePhase t).noteRope).withdrawAtUpdate t

theorem launchUpdate_eq {s : State} {t : SafetyTables} (ht : s.tst.safety = some t) :
    s.launchUpdate = (s.atReleaseTest t).testRelease.checkWatch t (s.atReleaseTest t).testRelease.lgt.watch := by
  unfold State.launchUpdate
  rw [ht]
  rfl

/-- With no release pending, the release test reads what it read at the start of the update, and a passage open in the
window that was open, or has just begun to be. -/
theorem atReleaseTest_keeps {s : State} (t : SafetyTables) (h : s.lgt.pending = none) :
    let y := s.atReleaseTest t
    y.launchView = s.launchView ∧ y.lgt.passage.slot = some s.rpu.record.k ∧
      y.lgt.passage.releaseMade = s.passageBegun.releaseMade ∧
      (s.passageBegun.barred = true → y.lgt.passage.barred = true) ∧
      (y.lgt.passage.phase = .opened →
        t.inWindow s.rpu.record.o = true ∧ s.passageBegun.phase ≠ .after ∧
          (s.passageBegun.phase = .opened →
            y.lgt.passage = { s.passageBegun with forwardRef := s.launchRope })) := by
  obtain ⟨hbv, hbp⟩ := beginPassage_keeps h
  have hbn : s.beginPassage.lgt.pending = none := (pending_of_view hbv).trans h
  obtain ⟨hmv, hmslot, hmade, hmbar, hmopen⟩ := movePhase_keeps t hbn
  rw [hbp] at hmslot hmade hmbar hmopen
  rw [rpu_of_view hbv] at hmopen
  have hview : (s.beginPassage.movePhase t).launchView = s.launchView := hmv.trans hbv
  have hy : s.atReleaseTest t = (s.beginPassage.movePhase t).noteRope := by
    have hn : (s.beginPassage.movePhase t).noteRope.lgt.pending = none := (pending_of_view hview).trans h
    unfold State.atReleaseTest State.withdrawAtUpdate
    rw [hn]
  have hslot : s.passageBegun.slot = some s.rpu.record.k := by
    unfold State.passageBegun
    split
    · assumption
    · rfl
  have hrope : (s.beginPassage.movePhase t).launchRope = s.launchRope := by
    unfold State.launchRope
    rw [rpu_of_view hview]
  rw [hy]
  refine ⟨hview, hmslot.trans hslot, hmade, hmbar, fun ho => ?_⟩
  obtain ⟨hwin, hafter, hsame⟩ := hmopen ho
  refine ⟨hwin, hafter, fun hop => ?_⟩
  have hpass := congrArg (fun x : State => x.lgt.passage) (hsame hop)
  rw [State.noteRope, setPassage_passage, hrope, hpass, hbp]

theorem mayRelease_of_view {s y : State} (h : y.launchView = s.launchView) :
    y.mayRelease =
      (y.lgt.passage.phase = .opened && y.lgt.passage.launchWindow && !y.lgt.passage.releaseMade &&
        !y.lgt.passage.barred && s.lgt.pending.isNone && s.slot s.rpu.record.k = .empty && s.launchRope &&
        !s.launchHeld) := by
  unfold State.mayRelease State.launchRope State.launchHeld State.slot
  rw [rpu_of_view h, ctr_of_view h, pending_of_view h, output_of_view h]

/-- The release that the test makes of cabin `i` for slot `k`. -/
def State.releaseOf (s : State) (k i : Nat) : PendingRelease :=
  { slot := k, cabin := i, id := s.idOf i, tag := s.lgt.tagSeq, phase := .queued, windowClosed := false }

/-- The release test that passes queues its release. -/
theorem testRelease_of_may {y : State} {i : Nat} (hm : y.mayRelease = true) (hi : y.readyHead = some i)
    (hc : y.rng.control.length < 8) :
    y.testRelease.lgt.pending = some (y.releaseOf y.rpu.record.k i) ∧
      y.testRelease.lgt.passage = { y.lgt.passage with releaseMade := true } ∧
      y.testRelease.ctr.slots = y.ctr.slots.set y.rpu.record.k (.releasePending i) := by
  have hr : (y.setPassage { y.lgt.passage with releaseMade := true }).controlRoom = true := decide_eq_true hc
  unfold State.testRelease State.makeRelease
  simp only [hm, if_true, hi]
  rw [if_pos hr]
  have hp : ∀ f, ((y.setPassage { y.lgt.passage with releaseMade := true }).placeControl f).lgt =
      { y.lgt with passage := { y.lgt.passage with releaseMade := true } } := fun f => by
    unfold State.placeControl
    split <;> rfl
  have hs : ∀ f, ((y.setPassage { y.lgt.passage with releaseMade := true }).placeControl f).ctr = y.ctr := fun f => by
    unfold State.placeControl
    split <;> rfl
  refine ⟨rfl, ?_, ?_⟩
  · unfold State.queueRelease
    dsimp only
    simp [hp]
  · unfold State.queueRelease
    dsimp only
    simp [hs]

/-- A release that is pending after the test has been made by it, with room in CONTROL. -/
theorem testRelease_pending {y : State} {p : PendingRelease} (hn : y.lgt.pending = none)
    (hp : y.testRelease.lgt.pending = some p) :
    y.mayRelease = true ∧ y.readyHead = some p.cabin ∧ y.rng.control.length < 8 ∧
      p = y.releaseOf y.rpu.record.k p.cabin := by
  by_cases hm : y.mayRelease = true
  · cases hi : y.readyHead with
    | none => simp [State.testRelease, hm, hi, hn] at hp
    | some i =>
      by_cases hc : y.rng.control.length < 8
      · have h := (testRelease_of_may hm hi hc).1
        rw [h] at hp
        obtain rfl := Option.some.inj hp
        exact ⟨hm, rfl, hc, rfl⟩
      · have hr : (y.setPassage { y.lgt.passage with releaseMade := true }).controlRoom = false := decide_eq_false hc
        unfold State.testRelease State.makeRelease at hp
        simp only [hm, if_true, hi, hr, Bool.false_eq_true, if_false, State.refuseRelease, countFailure_lgt] at hp
        exact absurd (hn.symm.trans hp) (by simp)
  · simp [State.testRelease, hm, hn] at hp

theorem testRelease_output (s : State) : s.testRelease.stc.output = s.stc.output := by
  unfold State.testRelease State.makeRelease State.refuseRelease State.countFailure State.queueRelease State.placeControl
  dsimp only
  repeat' split
  all_goals rfl

theorem freeSlotIf_output (s : State) (k : Nat) (x : SlotState) : (s.freeSlotIf k x).stc.output = s.stc.output := by
  unfold State.freeSlotIf
  split <;> rfl

/-- The watch check leaves the pending release, the passage, the output and the slots of queued releases. -/
theorem checkWatch_keeps (t : SafetyTables) (ws : List WatchEntry) (s : State) :
    (s.checkWatch t ws).lgt.pending = s.lgt.pending ∧ (s.checkWatch t ws).lgt.passage = s.lgt.passage ∧
      (s.checkWatch t ws).stc.output = s.stc.output ∧
      ∀ k i, s.slot k = .releasePending i → (s.checkWatch t ws).slot k = .releasePending i := by
  induction ws generalizing s with
  | nil => exact ⟨rfl, rfl, rfl, fun _ _ h => h⟩
  | cons w ws ih =>
    unfold State.checkWatch
    split
    · have hf : ∀ (x : State) j c k i, x.slot k = .releasePending i →
          (x.freeSlotIf j (.releasing c)).slot k = .releasePending i := fun x j c k i h => by
        unfold State.freeSlotIf
        split
        · rename_i hj
          rw [setSlot_slot]
          split
          · rename_i hjk
            simp_all
          · exact h
        · exact h
      have hm : (s.missAttach w).lgt.pending = s.lgt.pending ∧ (s.missAttach w).lgt.passage = s.lgt.passage ∧
          (s.missAttach w).stc.output = s.stc.output ∧
          ∀ k i, s.slot k = .releasePending i → (s.missAttach w).slot k = .releasePending i := by
        unfold State.missAttach State.slotlessWatch
        dsimp only
        simp only [report_lgt, raise_lgt, report_stc, raise_output, State.setSlotless]
        change (State.freeSlotIf _ _ _).lgt.pending = _ ∧ (State.freeSlotIf _ _ _).lgt.passage = _ ∧
          (State.freeSlotIf _ _ _).stc.output = _ ∧ _
        rw [freeSlotIf_lgt, freeSlotIf_output]
        refine ⟨rfl, rfl, rfl, fun k i h => ?_⟩
        rw [slot_congr (s := State.freeSlotIf _ w.slot (.releasing w.cabin)) (by simp only [report_ctr, raise_ctr]; rfl)]
        exact hf _ _ _ _ _ h
      obtain ⟨h1, h2, h3, h4⟩ := hm
      obtain ⟨i1, i2, i3, i4⟩ := ih (s.missAttach w)
      exact ⟨i1.trans h1, i2.trans h2, i3.trans h3, fun k i h => i4 k i (h4 k i h)⟩
    · exact ih s

theorem markOverdue_output (s : State) (c : Cause) (k : EventKind) (i slot : Nat) (x : Int) :
    (s.markOverdue c k i slot x).stc.output = s.stc.output := by
  unfold State.markOverdue
  rw [report_stc]
  rfl

@[simp] theorem trackUpdate_output (s : State) : s.trackUpdate.stc.output = s.stc.output := by
  have hu : s.checkUphill.stc.output = s.stc.output := by
    unfold State.checkUphill
    dsimp only
    repeat' split
    all_goals simp only [markOverdue_output]
  have hd : ∀ x : State, x.checkDownhill.stc.output = x.stc.output := fun x => by
    unfold State.checkDownhill
    dsimp only
    repeat' split
    all_goals simp only [markOverdue_output]
  exact (hd _).trans hu

/-- What a release that a position update queues has passed: R26. -/
structure State.Released (s u : State) (t : SafetyTables) (p : PendingRelease) : Prop where
  slot : u.lgt.passage.slot = some p.slot
  phase : u.lgt.passage.phase = .opened
  launchWindow : u.lgt.passage.launchWindow = true
  barred : u.lgt.passage.barred = false
  releaseMade : u.lgt.passage.releaseMade = true
  passage : s.lgt.passage.slot = some p.slot →
    s.lgt.passage.releaseMade = false ∧ s.lgt.passage.barred = false ∧ s.lgt.passage.phase ≠ .after ∧
      (s.lgt.passage.phase = .opened → s.lgt.passage.launchWindow = true)
  motion : s.rpu.record.motion = .forward
  referenced : s.rpu.record.referenced = true
  place : p.slot = s.rpu.record.k
  opens : (t.A : Int) ≤ s.rpu.record.o
  closes : s.rpu.record.o < (t.A + t.W : Nat)
  empty : s.slot p.slot = .empty
  free : s.launchHeld = false
  room : s.rng.control.length < 8
  head : ∃ x, s.headS6 = some x ∧ x.who = .cabin p.cabin ∧ s.ready x = true
  release : p = s.releaseOf s.rpu.record.k p.cabin
  booked : p.slot < s.ctr.slots.length → u.slot p.slot = .releasePending p.cabin
  output : u.launchHeld = false

theorem readyHead_eq_some {s : State} {i : Nat} (h : s.readyHead = some i) :
    ∃ x, s.headS6 = some x ∧ x.who = .cabin i ∧ s.ready x = true := by
  unfold State.readyHead at h
  split at h
  · rename_i x hx
    split at h
    · rename_i hr
      refine ⟨x, hx, ?_, hr⟩
      cases hw : x.who with
      | cabin j => simpa [Who.index, hw] using h
      | anon a b c => simp [Who.index, hw] at h
    · cases h
  · cases h

/-- A position update queues a release only by the test of R26. -/
theorem launchUpdate_released {s : State} {t : SafetyTables} {p : PendingRelease} (ht : s.tst.safety = some t)
    (hn : s.lgt.pending = none) (hp : s.launchUpdate.lgt.pending = some p) : s.Released s.launchUpdate t p := by
  obtain ⟨hview, hslot, hmade, hbar, hopen⟩ := atReleaseTest_keeps t hn
  have hu := launchUpdate_eq ht
  generalize hy : s.atReleaseTest t = y at hview hslot hmade hbar hopen hu
  obtain ⟨hwp, hwpass, hwout, hwslot⟩ := checkWatch_keeps t y.testRelease.lgt.watch y.testRelease
  rw [hu] at hp ⊢
  rw [hwp] at hp
  obtain ⟨hmay, hhead, hroom, hrel⟩ := testRelease_pending ((pending_of_view hview).trans hn) hp
  obtain ⟨-, hpass, hslots⟩ := testRelease_of_may hmay hhead hroom
  rw [mayRelease_of_view hview] at hmay
  simp only [Bool.and_eq_true, decide_eq_true_iff, Bool.not_eq_true'] at hmay
  obtain ⟨⟨⟨⟨⟨⟨⟨hph, hlw⟩, hrm⟩, hb⟩, -⟩, hempty⟩, hrope⟩, hheld⟩ := hmay
  obtain ⟨hwin, hafter, hsame⟩ := hopen hph
  have hrel' : p = s.releaseOf s.rpu.record.k p.cabin := by
    refine hrel.trans ?_
    unfold State.releaseOf State.idOf State.reg
    rw [rpu_of_view hview, registry_of_view hview, tagSeq_of_view hview]
  have hk : p.slot = s.rpu.record.k := by rw [hrel']; rfl
  simp only [SafetyTables.inWindow, Bool.and_eq_true, decide_eq_true_iff] at hwin
  simp only [State.launchRope, Bool.and_eq_true, decide_eq_true_iff] at hrope
  have hpslot : y.testRelease.lgt.passage.slot = some p.slot := by rw [hpass, hk]; exact hslot
  refine ⟨by rw [hwpass]; exact hpslot, by rw [hwpass, hpass]; exact hph, by rw [hwpass, hpass]; exact hlw,
    by rw [hwpass, hpass]; exact hb, by rw [hwpass, hpass], fun hsp => ?_, hrope.1, hrope.2, hk, hwin.1, hwin.2,
    by rw [hk]; exact hempty, hheld, by rw [← control_of_view hview]; exact hroom,
    readyHead_eq_some ((readyHead_of_view hview).symm.trans hhead), hrel', fun hlt => hwslot _ _ ?_, ?_⟩
  · have hbegun : s.passageBegun = s.lgt.passage := if_pos (hk ▸ hsp)
    rw [hbegun] at hmade hbar hafter hsame
    refine ⟨hmade ▸ hrm, ?_, hafter, fun ho => ?_⟩
    · by_contra h
      exact absurd (hbar (by simpa using h)) (by simp [hb])
    · rw [hsame ho] at hlw
      exact hlw
  · simp only [State.slot, hslots, ctr_of_view hview, rpu_of_view hview]
    rw [hk] at hlt ⊢
    simp [List.getD, hlt]
  · rw [launchHeld_congr (hwout.trans ((testRelease_output y).trans (output_of_view hview))), hheld]

/-! ## The commands that make a position update -/

/-- Nothing that a position update reads of the launch has changed, beside the rope. -/
structure State.SameLaunch (s y : State) : Prop where
  lgt : y.lgt = s.lgt
  ctr : y.ctr = s.ctr
  registry : y.registry = s.registry
  control : y.rng.control = s.rng.control
  safety : y.tst.safety = s.tst.safety

/-- A release that stands at the end of a command which ends in a position update. -/
theorem positionUpdate_released {s y b : State} {t : SafetyTables} {p : PendingRelease} (h : s.SameLaunch y)
    (ht : s.tst.safety = some t) (hn : s.lgt.pending = none) (hp : (y.positionUpdate.settle b).lgt.pending = some p) :
    let u := y.positionUpdate.settle b
    ∃ x : State, x.Released u t p ∧ u.rpu = x.rpu ∧ x.ctr = s.ctr ∧ x.registry = s.registry ∧
      s.rng.control.length ≤ x.rng.control.length ∧ x.lgt.tagSeq = s.lgt.tagSeq := by
  have hty : y.tst.safety = some t := h.safety.trans ht
  have hyn : y.lgt.pending = none := h.lgt ▸ hn
  generalize hx : y.takeReport.setRecord t = x
  obtain ⟨htl, hts⟩ := takeReport_lgt_of_none hyn
  have hxl : x.lgt = s.lgt := by rw [← hx, ← h.lgt, ← htl]; rfl
  have hxc : x.ctr = s.ctr := by
    have hd := State.takeReport_does (m := 4317712) (Does.refl _ y) rfl
    have : y.takeReport.ctr = y.ctr := ctr_eq hd.queue_eq hd.garage_eq (hd.1 .lines rfl) (hd.1 .sets rfl) hts (hd.1 .track rfl)
    rw [← hx, ← h.ctr, ← this]
    rfl
  have hxr : x.registry = s.registry := by rw [← hx, ← h.registry, ← takeReport_registry y]; rfl
  have hxroom : s.rng.control.length ≤ x.rng.control.length := by
    rw [← hx, ← h.control]
    exact takeReport_control_le hyn
  have hxt : x.tst.safety = some t := by rw [← hx, ← hty, ← takeReport_safety y]; rfl
  have hxn : x.lgt.pending = none := hxl ▸ hn
  have hu : y.positionUpdate = ((x.launchUpdate.takeReport).trackUpdate).takeReport := by
    simp only [State.positionUpdate, hty, State.updateRope, hx]
  rw [hu] at hp ⊢
  generalize hz : x.launchUpdate = z at hp ⊢
  have hzz : HoldsRelease z (((z.takeReport.trackUpdate).takeReport).settle b) := by
    refine (takeReport_holdsRelease z).trans (HoldsRelease.trans ?_ ((takeReport_holdsRelease _).trans (settle_holdsRelease _ _)))
    exact holdsRelease_of_eq (by simp) (by simp) (by simp)
  have hrpu : (((z.takeReport.trackUpdate).takeReport).settle b).rpu = x.rpu := by
    simp [← hz]
  have hrel : ∀ q, z.lgt.pending = some q → x.Released z t q := fun q hq => hz ▸ launchUpdate_released hxt hxn (hz ▸ hq)
  have hunsent : z.unsent := fun q hq => by rw [(hrel q hq).release]; rfl
  rcases hzz hunsent with hnone | ⟨hl, hc, hh⟩
  · rw [hnone] at hp
    cases hp
  · have hzp : z.lgt.pending = some p := hl ▸ hp
    have r := hrel p hzp
    refine ⟨x, ?_, hrpu, hxc, hxr, hxroom, by rw [hxl]⟩
    exact
      { r with
        slot := by rw [hl]; exact r.slot
        phase := by rw [hl]; exact r.phase
        launchWindow := by rw [hl]; exact r.launchWindow
        barred := by rw [hl]; exact r.barred
        releaseMade := by rw [hl]; exact r.releaseMade
        booked := fun hlt => (slot_congr hc _).trans (r.booked hlt)
        output := hh r.output }

theorem State.SameLaunch.trans {s x y : State} (h : s.SameLaunch x) (h' : x.SameLaunch y) : s.SameLaunch y :=
  ⟨h'.lgt.trans h.lgt, h'.ctr.trans h.ctr, h'.registry.trans h.registry, h'.control.trans h.control,
    h'.safety.trans h.safety⟩

theorem setRpu_sameLaunch (s : State) (r : Rpu) : s.SameLaunch (s.setRpu r) := ⟨rfl, rfl, rfl, rfl, rfl⟩

theorem judge_sameLaunch (s : State) (c : Cause) (b : Bool) (i : Option Nat) : s.SameLaunch (s.judge c b i) :=
  ⟨by simp, by simp, by simp, by simp, by simp⟩

theorem report_sameLaunch (s : State) (k : EventKind) (c : Option Cause) (i : Option Nat) (d : List Int) :
    s.SameLaunch (s.report k c i d) :=
  ⟨by simp, by simp, by simp, by simp, by simp⟩

theorem takeCounts_sameLaunch (s : State) (t : SafetyTables) (a b cA cB : Nat) : s.SameLaunch (s.takeCounts t a b cA cB) :=
  have hd := State.takeCounts_does (m := 17334280) t a b cA cB (Does.refl _ s) rfl
  ⟨hd.lgt_eq, hd.ctr_eq, hd.registry_eq, by rw [hd.rng_eq], hd.safety_eq⟩

theorem acceptSample_sameLaunch (s : State) (t : SafetyTables) (seq cA cB : Nat) :
    ∃ y, s.SameLaunch y ∧ s.acceptSample t seq cA cB = y.positionUpdate := by
  unfold State.acceptSample
  dsimp only
  generalize hx : s.setRpu _ = x
  have hs : s.SameLaunch x := hx ▸ setRpu_sameLaunch ..
  refine ⟨_, hs.trans ?_, rfl⟩
  split
  · exact takeCounts_sameLaunch ..
  · exact (setRpu_sameLaunch _ _).trans (judge_sameLaunch ..)

theorem takeHead_control (s : State) (rest : List IngressEntry) : (s.takeHead rest).rng.control = s.rng.control := by
  unfold State.takeHead State.setHold
  dsimp only
  repeat' split
  all_goals rfl

/-- A sample ends in a position update, or leaves the launch as it was. -/
theorem takeSample_sameLaunch (s : State) (t : SafetyTables) (seq cA cB : Nat) :
    (∃ y, s.SameLaunch y ∧ s.takeSample t seq cA cB = y.positionUpdate) ∨ s.SameLaunch (s.takeSample t seq cA cB) := by
  unfold State.takeSample
  dsimp only
  repeat' split
  · exact .inl (acceptSample_sameLaunch ..)
  · exact .inl (acceptSample_sameLaunch ..)
  · obtain ⟨y, hy, he⟩ := acceptSample_sameLaunch (s.tachGap _) t seq cA cB
    exact .inl ⟨y, ((setRpu_sameLaunch s _).trans (report_sameLaunch ..)).trans hy, he⟩
  · exact .inr (setRpu_sameLaunch ..)

/-- A mark ends in a position update, or leaves the launch as it was. -/
theorem takeMark_sameLaunch (s : State) (t : SafetyTables) :
    (∃ y, s.SameLaunch y ∧ s.takeMark t = y.positionUpdate) ∨ s.SameLaunch (s.takeMark t) := by
  unfold State.takeMark State.laterMark
  dsimp only
  split
  · split
    · exact .inl ⟨_, ((setRpu_sameLaunch s _).trans (report_sameLaunch ..)).trans (judge_sameLaunch ..), rfl⟩
    · exact .inr (judge_sameLaunch ..)
  · exact .inl ⟨_, (setRpu_sameLaunch s _).trans (judge_sameLaunch ..), rfl⟩

/-- Settles O12: a position update queues a release by `launchUpdate_released` alone; the two ring reports end in one or
leave LGT, and what follows the update only withdraws. -/
theorem releaseOnlyInsideTheWindow : Obligations.ReleaseOnlyInsideTheWindow := by
  refine ⟨fun s t p ht hn hk hp => ?_, fun s t x i ht hn hslot hphase hlw hmade hbar hmot href ho hw he hh hc hx hi hr => ?_,
    fun c s e rest t hcase ht hn => ?_⟩
  · have r := launchUpdate_released ht hn hp
    have hlt : p.slot < s.ctr.slots.length := by rw [r.place]; exact hk
    exact ⟨r.slot, r.phase, r.launchWindow, r.barred, r.releaseMade, r.passage, r.motion, r.referenced, r.place, r.opens,
      r.closes, r.empty, r.free, r.room, r.head, by rw [r.release]; rfl, by rw [r.release]; rfl, by rw [r.release]; rfl,
      r.booked hlt⟩
  · obtain ⟨hview, -, -, -, -⟩ := atReleaseTest_keeps t hn
    have hwin : t.inWindow s.rpu.record.o = true := by
      simp only [SafetyTables.inWindow, ho, hw, decide_true, Bool.and_self]
    have hrope : s.launchRope = true := by simp [State.launchRope, hmot, href]
    have hpass : (s.atReleaseTest t).lgt.passage = { s.lgt.passage with forwardRef := true } := by
      have hb : s.beginPassage = s := by simp [State.beginPassage, hslot]
      have hm : s.movePhase t = s := by simp [State.movePhase, hphase, hwin]
      simp [State.atReleaseTest, hb, hm, State.noteRope, State.withdrawAtUpdate, State.setPassage, hn, hrope]
    rw [launchUpdate_eq ht]
    generalize s.atReleaseTest t = y at hview hpass
    have hhead : y.readyHead = some i := by
      rw [readyHead_of_view hview]
      simp [State.readyHead, hx, hr, hi, Who.index]
    have hmay : y.mayRelease = true := by
      rw [mayRelease_of_view hview, hpass]
      simp [hphase, hlw, hmade, hbar, hn, he, hrope, hh]
    rw [(checkWatch_keeps t _ _).1, (testRelease_of_may hmay hhead (by rw [control_of_view hview]; exact hc)).1]
    unfold State.releaseOf State.idOf State.reg
    rw [rpu_of_view hview, registry_of_view hview, tagSeq_of_view hview]
  · suffices h : ∃ y, exec c s = .next (y.settle s) ∧
        ((∃ z, s.SameLaunch z ∧ y = z.positionUpdate) ∨ s.SameLaunch y) by
      obtain ⟨y, hy, hcases⟩ := h
      refine ⟨_, hy, fun p hp => ?_⟩
      rcases hcases with ⟨z, hz, rfl⟩ | hz
      · obtain ⟨x, r, hrpu, hctr, hreg, hroom, htag⟩ := positionUpdate_released hz ht hn hp
        have hready : ∀ a, x.ready a = s.ready a := fun a => by
          unfold State.ready State.reg
          rw [hreg]
        have hhead : x.headS6 = s.headS6 := headS6_congr (by rw [hctr])
        obtain ⟨a, ha, haw, har⟩ := r.head
        have hid : ∀ j, x.idOf j = s.idOf j := fun j => by
          unfold State.idOf
          rw [reg_congr hreg]
        rw [hrpu]
        refine ⟨r.motion, r.referenced, r.place, r.opens, r.closes, ?_, r.output, hroom.trans_lt r.room,
          ⟨a, hhead ▸ ha, haw, hready a ▸ har⟩, by rw [r.release]; rfl, ?_, ?_, r.slot, r.phase, r.launchWindow, r.barred,
          r.releaseMade, fun hlt => r.booked (by rw [hctr]; exact hlt)⟩
        · rw [← slot_congr (congrArg Ctr.slots hctr)]
          exact r.empty
        · rw [← htag, r.release]; rfl
        · rw [← hid, r.release]; rfl
      · have hno := (settle_lgt_of_none (b := s) (hz.lgt ▸ hn : y.lgt.pending = none)).1
        rw [hno, hz.lgt, hn] at hp
        cases hp
    have hth : s.SameLaunch (s.takeHead rest) := ⟨by simp, by simp, by simp, takeHead_control s rest, by simp⟩
    have hcomp : ∀ (f : State → State), (∀ x : State, (∃ y, x.SameLaunch y ∧ f x = y.positionUpdate) ∨ x.SameLaunch (f x)) →
        (∃ z, s.SameLaunch z ∧ f (s.takeHead rest) = z.positionUpdate) ∨ s.SameLaunch (f (s.takeHead rest)) :=
      fun f hf => (hf (s.takeHead rest)).imp (fun ⟨y, hy, he⟩ => ⟨y, hth.trans hy, he⟩) hth.trans
    rcases hcase with ⟨rfl, hdel⟩ | ⟨rfl, hdel⟩
    · refine ⟨(s.takeHead rest).takeSample t e.frame.tachSequence e.frame.countA e.frame.countB, ?_,
        hcomp (fun x => x.takeSample t _ _ _) fun x => takeSample_sameLaunch ..⟩
      rw [show exec .tachSample s = execTachSample s from rfl, execTachSample, deliver_running hdel]
      simp [withSafety, ht]
    · refine ⟨(s.takeHead rest).takeMark t, ?_, hcomp (fun x => x.takeMark t) fun x => takeMark_sameLaunch ..⟩
      rw [show exec .refMark s = execRefMark s from rfl, execRefMark, deliver_running hdel]
      simp [withSafety, ht]

end Sys2Proof.Machine
end
section
/-!
PROOFS. The state after reset (O2), the protection flag and the resets (chapter 11).
-/

namespace Sys2Proof.Machine

/-! ## The state after reset -/

/-- A power-on reset over a blank store brings up the state after reset. -/
theorem powerOn_reset : State.reset.powerOn = State.reset := by decide

theorem reset_inv : State.reset.Inv := by
  have hstore : State.reset.cutShort.store.bounded := by
    constructor <;> intro _ h <;> cases h
  rw [← powerOn_reset]
  exact (resetPart_live _ _ hstore).inv (resetPart_quiet _ _)

theorem reset_members (l : Location) : State.reset.members l = [] := by cases l <;> rfl

theorem reset_reg (i : Nat) : State.reset.reg i = RegEntry.initial FleetStatic.blank := by
  simp only [State.reg, State.reset]
  rw [List.getD_eq_getElem?_getD, List.getElem?_replicate]
  split <;> rfl

/-- After reset no cabin is in service and every collection is empty. -/
theorem reset_fleetKept : State.reset.fleetKept := by
  have hslot : State.reset.ctr.slots = [] := rfl
  have hwatch : State.reset.lgt.watch = [] := rfl
  refine ⟨⟨fun l => ?_, fun i _ => ?_⟩, ⟨?_, ?_, ?_, ?_, ?_⟩, ⟨?_, ?_, ?_⟩, ?_, ⟨?_, ?_, ?_, ?_⟩, ?_⟩
  · simp [reset_members]
  · rw [reset_reg]
    rfl
  · simp [hslot]
  · exact fun u hu => absurd hu (List.not_mem_nil)
  · exact fun d hd => absurd hd (List.not_mem_nil)
  · simp [hwatch]
  · simp [hslot]
  · exact List.nodup_nil
  · simp [hwatch]
  · simp [hwatch]
  · simp [State.uphillReady, reset_members]
  · intro t ht
    cases ht
  · intro t ht
    cases ht
  · decide
  · intro w hw
    cases hw
  · intro f hf
    cases hf

/-- Settles O2: a reset meets the bounds whatever the store holds, and over a blank store no cabin is in service. -/
theorem resetMeetsTheInvariant : Obligations.ResetMeetsTheInvariant :=
  ⟨reset_inv, reset_fleetKept⟩

/-! ## LOCKED_TO_POWER_CYCLE (R187) -/

theorem lock_of_does {m : Nat} {s t : State} (h : Does m s t) (hm : m.testBit 20 = false := by decide) :
    t.tst.lockedToPowerCycle = s.tst.lockedToPowerCycle := h.1 .lock hm

/-- Every part but the protection flag. -/
def allButLock : Nat := 267386879

/-- A reset sets the flag as it is told. -/
theorem resetPart_lock (s : State) (locked : Bool) : (s.resetPart locked).tst.lockedToPowerCycle = locked := by
  have h : Does allButLock (s.blocksReset locked) (s.resetPart locked) := by
    unfold State.resetPart
    exact State.resetReport_does (State.tryRestore_does (State.startWatching_does (Does.refl _ _) rfl) rfl) rfl
  rw [lock_of_does h]
  rfl

theorem restartPart_lock (s : State) : s.restartPart.tst.lockedToPowerCycle = s.tst.lockedToPowerCycle :=
  resetPart_lock s _

theorem reportInsertion_lock (s : State) (f : EgressFrame) :
    (s.reportInsertion f).tst.lockedToPowerCycle = s.tst.lockedToPowerCycle := by
  have key : ∀ t : State, Does allButLock s t → t.tst.lockedToPowerCycle = s.tst.lockedToPowerCycle := fun t h =>
    lock_of_does h
  unfold State.reportInsertion
  cases f.kind
  case gateRelease => exact key _ (State.releaseInserted_does _ (Does.refl _ s) rfl)
  case doorOpen | doorClose | doorLock => exact key _ (State.doorInserted_does _ _ (Does.refl _ s) rfl)
  case scanRequest => exact key _ (State.scanInserted_does _ _ (Does.refl _ s) rfl)
  case garageExitCommand => exact key _ (State.exitInserted_does _ (Does.refl _ s) rfl)
  case mgmtReply =>
    dsimp only
    split
    · exact restartPart_lock s
    · exact key _ (State.offerEvent_does (Does.refl _ s) rfl)
  case event => exact key _ (State.offerEvent_does (Does.refl _ s) rfl)
  all_goals rfl

theorem fillSlot_lock (s : State) (n : Nat) : (s.fillSlot n).tst.lockedToPowerCycle = s.tst.lockedToPowerCycle := by
  have hgo : ∀ (x : State) o, (x.letGo o).tst.lockedToPowerCycle = x.tst.lockedToPowerCycle := fun x o =>
    lock_of_does (State.letGo_does o (Does.refl 65536 x) rfl)
  unfold State.fillSlot
  split
  · rw [hgo, reportInsertion_lock]
    rfl
  · rw [hgo]
    rfl

/-- A passing slot leaves the flag, and a RESTART that it completes does too. -/
theorem passSlot_lock (s : State) (n : Nat) (w0 w1 : Word) (payload : List Word) :
    (s.passSlot n w0 w1 payload).tst.lockedToPowerCycle = s.tst.lockedToPowerCycle := by
  have hfill : ∀ t : State, Does allButLock s t →
      (t.fillSlot n).tst.lockedToPowerCycle = s.tst.lockedToPowerCycle := fun t h =>
    (fillSlot_lock t n).trans (lock_of_does h)
  have hrec : Does allButLock s (s.recordTaken (s.rng.slotRecords.getD n none)) :=
    State.recordTaken_does _ (Does.refl _ s) rfl
  unfold State.passSlot
  dsimp only
  split
  · exact lock_of_does (State.purgeSlot_does n w0 (Does.refl allButLock s) rfl)
  split
  · exact hfill _ hrec
  split
  · unfold State.removeMarked
    split
    · exact hfill _ (State.countOrphan_does _ _ (Does.refl _ s) rfl)
    · exact hfill _ (State.filterOut_does _ _ (Does.refl _ s) rfl)
  · unfold State.firstPass
    split
    · exact hfill _ (State.filterOut_does _ _ hrec rfl)
    · unfold State.acceptFrame
      have hclear := State.clearMisses_does (frameOfWords w0 w1 payload).source hrec rfl
      have hcopy : Does allButLock s
          (if bitOf (frameOfWords w0 w1 payload).mask 0 then
            ((s.recordTaken (s.rng.slotRecords.getD n none)).clearMisses (frameOfWords w0 w1 payload).source).copyFrame
              { frameOfWords w0 w1 payload with mark := true }
          else (s.recordTaken (s.rng.slotRecords.getD n none)).clearMisses (frameOfWords w0 w1 payload).source) := by
        split
        · exact State.copyFrame_does _ hclear rfl
        · exact hclear
      dsimp only
      split
      · exact hfill _ hcopy
      · exact lock_of_does (State.passFrame_does n _ _ hcopy rfl)

theorem takeProtection_lock {s : State} (f : RingFrame) (h : s.tst.lockedToPowerCycle = true) :
    (takeProtection f s).tst.lockedToPowerCycle = true := by
  have hreply : ∀ x d, (s.reply f.replyTo x d).tst.lockedToPowerCycle = true := fun x d => by simp [h]
  unfold takeProtection
  split
  · rw [if_pos h]
    exact hreply ..
  · exact h
  · simp
  · exact hreply ..

/-- A command body that keeps a set flag keeps it as the whole command. -/
theorem whole_lock {body : State → State} {s : State} (h : (body s).tst.lockedToPowerCycle = s.tst.lockedToPowerCycle) :
    (whole body s).tst.lockedToPowerCycle = s.tst.lockedToPowerCycle := by
  unfold whole
  split
  · rfl
  · rw [settle_lockedToPowerCycle, h]

theorem deliver_lock {r : Row} {body : IngressEntry → State → State} {s : State}
    (h : ∀ e x, x.tst.lockedToPowerCycle = s.tst.lockedToPowerCycle →
      (body e x).tst.lockedToPowerCycle = s.tst.lockedToPowerCycle) :
    (deliver r body s).tst.lockedToPowerCycle = s.tst.lockedToPowerCycle := by
  have hmal : ∀ (x : State) f, (x.discardMalformed f).tst.lockedToPowerCycle = x.tst.lockedToPowerCycle := fun x f =>
    lock_of_does (State.discardMalformed_does f (Does.refl allButLock x) rfl)
  unfold deliver
  split
  · split
    · refine whole_lock ?_
      dsimp only
      split
      · rw [hmal]
        simp
      · exact h _ _ (by simp)
    · rfl
  · rfl

theorem manage_lock {r : Row} {body : RingFrame → State → State} {s : State}
    (h : ∀ f x, x.tst.lockedToPowerCycle = s.tst.lockedToPowerCycle →
      (body f x).tst.lockedToPowerCycle = s.tst.lockedToPowerCycle) :
    (manage r body s).tst.lockedToPowerCycle = s.tst.lockedToPowerCycle := by
  unfold manage
  split
  · rfl
  · refine deliver_lock fun e x hx => ?_
    unfold judgeRequest
    split
    · simpa using hx
    · exact h _ _ hx

/-- The commands that `touched` lists the protection flag for. -/
def touchesLock : Instr → Bool
  | .powerOnReset | .setProtection _ | .restart _ | .restartOfferTimeout | .ringSlotPass .. => true
  | _ => false

theorem lock_mem_touched (c : Instr) : decide (Part.lock ∈ touched c) = touchesLock c := by
  cases c <;> rfl

/-- A set flag stands through every command but a power-on reset. -/
theorem exec_lock {c : Instr} {s t : State} (h : s.tst.lockedToPowerCycle = true) (ht : exec c s = .next t)
    (hc : c ≠ .powerOnReset) : t.tst.lockedToPowerCycle = true := by
  have hframe : touchesLock c = false → t.tst.lockedToPowerCycle = true := fun hl => by
    obtain ⟨u, hu, hsame⟩ := commandsKeepTheirFrame c s
    obtain rfl : u = t := Host.Outcome.next.inj (hu.symm.trans ht)
    rw [← h]
    exact hsame .lock (by simpa [hl] using lock_mem_touched c)
  cases c
  case setProtection key =>
    obtain rfl := Host.Outcome.next.inj ht
    rw [← h]
    exact manage_lock fun f x hx => (takeProtection_lock (s := x.setKey key) f (hx.trans h)).trans h.symm
  case restart key =>
    obtain rfl := Host.Outcome.next.inj ht
    have hm : (manage .restart (fun f x => takeRestart f (x.setKey key)) s).tst.lockedToPowerCycle = true := by
      rw [← h]
      exact manage_lock fun f x hx =>
        (lock_of_does (takeRestart_does f (Does.refl allButLock (x.setKey key)) rfl)).trans hx
    split
    · exact (restartPart_lock _).trans hm
    · exact hm
  case restartOfferTimeout =>
    obtain rfl := Host.Outcome.next.inj ht
    unfold expiry
    split
    · exact (whole_lock (restartPart_lock s)).trans h
    · exact h
  case ringSlotPass =>
    obtain rfl := Host.Outcome.next.inj ht
    exact (whole_lock (passSlot_lock s _ _ _ _)).trans h
  case powerOnReset => exact absurd rfl hc
  all_goals exact hframe rfl

/-! ## Replies -/

/-- A reply with room in REPORT stands there at the end of the command (R180, R185). -/
theorem reply_replied {s : State} (f : RingFrame) (x : Status) (data : List Word) (b : State)
    (h : s.rng.report.length < 32) : ((s.reply f.replyTo x data).settle b).Replied f x data := by
  refine (settle_report _ b).mem ?_
  simp [State.reply, State.placeReport, h, State.setReport]

@[simp] theorem takeHead_report (s : State) (rest : List IngressEntry) : (s.takeHead rest).rng.report = s.rng.report := by
  unfold State.takeHead State.setHold
  dsimp only
  repeat' split
  all_goals rfl

@[simp] theorem takeHead_store (s : State) (rest : List IngressEntry) : (s.takeHead rest).store = s.store := by
  unfold State.takeHead State.setHold
  dsimp only
  repeat' split
  all_goals rfl

@[simp] theorem setKey_tst (s : State) (k : KeyPosition) : (s.setKey k).tst = s.tst := rfl
@[simp] theorem setKey_rng (s : State) (k : KeyPosition) : (s.setKey k).rng = s.rng := rfl
@[simp] theorem setKey_store (s : State) (k : KeyPosition) : (s.setKey k).store = s.store := rfl
@[simp] theorem setKey_key (s : State) (k : KeyPosition) : (s.setKey k).pins.key = k := rfl

/-- With no store write in flight, the end of a command starts none. -/
theorem settle_write_of_none {s : State} (b : State) (h : s.tst.write = none) : (s.settle b).tst.write = none := by
  have hst : ∀ x : State, x.tst.write = none → (x.staleIf b).tst.write = none := fun x hx => by
    unfold State.staleIf
    rw [hx]
    split <;> simp_all
  unfold State.settle
  split
  · exact h
  · rw [countChanges_write]
    exact hst _ (by simpa using h)

/-- Settles O5: the flag stands by `exec_lock`, a power-on reset clears it by `resetPart_lock`, and the gate of a COMMIT
looks at it first. -/
theorem lockStandsUntilPowerOn : Obligations.LockStandsUntilPowerOn := by
  refine ⟨fun c s t h ht => ?_, fun s e rest key g hreq hg hfleet hlock hroom => ?_⟩
  · by_cases hc : c = .powerOnReset
    · subst hc
      obtain rfl := Host.Outcome.next.inj ht
      exact resetPart_lock _ _
    · rw [exec_lock h ht hc]
      simp [hc]
  · refine ⟨_, (by rw [show exec (.commit key) s = execCommit key s from rfl, execCommit, manage_running hreq]), ?_⟩
    have hgate : ((s.takeHead rest).setKey key).commitGate g = some .refusedLocked := by
      simp [State.commitGate, State.commitBarred, hlock]
    have htake : takeCommit e.frame ((s.takeHead rest).setKey key) =
        ((s.takeHead rest).setKey key).reply e.frame.replyTo .refusedLocked [] := by
      unfold takeCommit
      rw [hg]
      cases g <;> simp_all
    rw [htake]
    refine ⟨reply_replied _ _ _ _ (by simpa using hroom), settle_write_of_none _ (by simpa using hreq.2.2), by simp⟩

end Sys2Proof.Machine
end
section
/-!
PROOFS. What a reset brings up and what it restores of a park record (chapter 11).
-/

namespace Sys2Proof.Machine

/-! ## A position update of a rope that stands (R18, R19) -/

@[simp] theorem judge_watch (s : State) (c : Cause) (b : Bool) (i : Option Nat) :
    (s.judge c b i).lgt.watch = s.lgt.watch := by simp

theorem countHead_watch (s : State) : s.countHead.lgt.watch = s.lgt.watch := by
  unfold State.countHead State.setBlocked
  repeat' split
  all_goals simp

theorem closeWindow_watch (s : State) : s.closeWindow.lgt.watch = s.lgt.watch := by
  unfold State.closeWindow
  split
  · rw [countHead_watch]
    unfold State.countWindow State.markWindowClosed State.setPendingRelease State.countEmptySlot
    repeat' split
    all_goals simp
  · rfl

theorem beginPassage_watch (s : State) : s.beginPassage.lgt.watch = s.lgt.watch := by
  unfold State.beginPassage State.endPassage State.countUnseen State.setPassage State.countEmptySlot
  repeat' split
  all_goals simp [closeWindow_watch]

theorem movePhase_watch (s : State) (t : SafetyTables) : (s.movePhase t).lgt.watch = s.lgt.watch := by
  unfold State.movePhase State.openWindow State.checkOccupied State.setPassage
  dsimp only
  repeat' split
  all_goals simp [closeWindow_watch]

theorem atReleaseTest_watch (s : State) (t : SafetyTables) : (s.atReleaseTest t).lgt.watch = s.lgt.watch := by
  have h : ((s.beginPassage.movePhase t).noteRope).lgt.watch = s.lgt.watch := by
    unfold State.noteRope State.setPassage
    simpa using (movePhase_watch _ t).trans (beginPassage_watch s)
  unfold State.atReleaseTest State.withdrawAtUpdate
  repeat' split
  all_goals simpa using h

/-- Of a rope that may not be launched onto, with nothing pending or watched, LGT changes the passage and its counters. -/
theorem launchUpdate_of_still {s : State} (hn : s.lgt.pending = none) (hw : s.lgt.watch = []) (hr : s.launchRope = false) :
    s.launchUpdate.ctr = s.ctr ∧ s.launchUpdate.lgt.pending = none ∧ s.launchUpdate.lgt.watch = [] := by
  cases ht : s.tst.safety with
  | none =>
    have h : s.launchUpdate = s := by simp only [State.launchUpdate, ht]
    rw [h]
    exact ⟨rfl, hn, hw⟩
  | some t =>
    obtain ⟨hview, -⟩ := atReleaseTest_keeps t hn
    have hyw : (s.atReleaseTest t).lgt.watch = [] := (atReleaseTest_watch s t).trans hw
    rw [launchUpdate_eq ht]
    generalize s.atReleaseTest t = y at hview hyw
    have htest : y.testRelease = y := by
      have hmay : y.mayRelease = false := by
        rw [mayRelease_of_view hview]
        simp [hr]
      simp [State.testRelease, hmay]
    rw [htest, hyw]
    exact ⟨ctr_of_view hview, (pending_of_view hview).trans hn, hyw⟩

/-- The registry but for the OVERDUE flags. -/
def SameCabins (s u : State) : Prop :=
  u.registry.length = s.registry.length ∧ ∀ i, ∃ b, u.reg i = { s.reg i with overdue := b }

theorem sameCabins_of_eq {s u : State} (h : u.registry = s.registry) : SameCabins s u :=
  ⟨by rw [h], fun i => ⟨(s.reg i).overdue, by rw [reg_congr h]⟩⟩

theorem SameCabins.trans {s t u : State} (h : SameCabins s t) (h' : SameCabins t u) : SameCabins s u := by
  refine ⟨h'.1.trans h.1, fun i => ?_⟩
  obtain ⟨b, hb⟩ := h.2 i
  obtain ⟨b', hb'⟩ := h'.2 i
  exact ⟨b', by rw [hb', hb]⟩

theorem markOverdue_sameCabins (s : State) (c : Cause) (k : EventKind) (i slot : Nat) (x : Int) :
    SameCabins s (s.markOverdue c k i slot x) ∧ (s.markOverdue c k i slot x).ctr = s.ctr := by
  have h : SameCabins s (s.modReg i fun r => { r with overdue := true }) := by
    refine ⟨by simp, fun j => ?_⟩
    rw [modReg_reg]
    split
    · rename_i hj
      exact ⟨true, by rw [hj.1]⟩
    · exact ⟨_, rfl⟩
  unfold State.markOverdue
  exact ⟨h.trans (sameCabins_of_eq (by simp)), by simp⟩

theorem trackUpdate_sameCabins (s : State) : SameCabins s s.trackUpdate ∧ s.trackUpdate.ctr = s.ctr := by
  have hu : SameCabins s s.checkUphill ∧ s.checkUphill.ctr = s.ctr := by
    unfold State.checkUphill
    dsimp only
    repeat' split
    all_goals first | exact markOverdue_sameCabins .. | exact ⟨sameCabins_of_eq rfl, rfl⟩
  have hd : ∀ x : State, SameCabins x x.checkDownhill ∧ x.checkDownhill.ctr = x.ctr := fun x => by
    unfold State.checkDownhill
    dsimp only
    repeat' split
    all_goals first | exact markOverdue_sameCabins .. | exact ⟨sameCabins_of_eq rfl, rfl⟩
  exact ⟨hu.1.trans (hd _).1, (hd _).2.trans hu.2⟩

/-- What the first position update of a reset leaves: LGT has nothing pending or watched, and the collections stand. -/
theorem quietUpdate_of_still {s : State} (hn : s.lgt.pending = none) (hw : s.lgt.watch = [])
    (hm : s.rpu.motion = .unknown) :
    s.quietUpdate.ctr = s.ctr ∧ s.quietUpdate.lgt.pending = none ∧ s.quietUpdate.lgt.watch = [] ∧
      SameCabins s s.quietUpdate ∧ ∃ r, s.quietUpdate.rpu = { s.rpu with record := r } := by
  unfold State.quietUpdate
  split
  · exact ⟨rfl, hn, hw, sameCabins_of_eq rfl, s.rpu.record, rfl⟩
  · rename_i t ht
    have hrope : (s.setRecord t).launchRope = false := by
      simp [State.launchRope, State.setRecord, State.positionRecord, hm]
    obtain ⟨hc, hp, hwt⟩ := launchUpdate_of_still (s := s.setRecord t) hn hw hrope
    obtain ⟨hreg, hctr⟩ := trackUpdate_sameCabins (s.setRecord t).launchUpdate
    have hl : SameCabins s (s.setRecord t).launchUpdate := sameCabins_of_eq (by rw [launchUpdate_registry]; rfl)
    refine ⟨hctr.trans (hc.trans rfl), ?_, ?_, hl.trans hreg, s.positionRecord t, ?_⟩
    · rw [trackUpdate_lgt, hp]
    · rw [trackUpdate_lgt, hwt]
    · rw [trackUpdate_rpu, launchUpdate_rpu]
      rfl

/-! ## The blocks of a reset (R192, steps 1 to 3) -/

/-- The state of a reset before the park record is looked at. -/
def State.blocksUp (s : State) (locked : Bool) : State := (s.blocksReset locked).startWatching

/-- The blocks come up with nothing pending or watched and every collection empty but for the unlocated set. -/
theorem blocksUp_spec (s : State) (locked : Bool) :
    let u := s.blocksUp locked
    u.ctr = Ctr.initial (loadedSlots s.store.safety) (inServiceIndices s.store.loadedRegistry) ∧
      u.lgt.pending = none ∧ u.lgt.watch = [] ∧ SameCabins (s.blocksReset locked) u ∧
      ∃ x r, u.rpu = { Rpu.initial with tachLoss := x, record := r } := by
  unfold State.blocksUp State.startWatching
  split
  · rename_i t ht
    dsimp only
    generalize hb : s.blocksReset locked = b at ht ⊢
    have hbctr : b.ctr = Ctr.initial (loadedSlots s.store.safety) (inServiceIndices s.store.loadedRegistry) := hb ▸ rfl
    have hblgt : b.lgt = Lgt.initial := hb ▸ rfl
    have hbrpu : b.rpu = Rpu.initial := hb ▸ rfl
    generalize hy : State.setRmn (b.startTachLoss t) _ = y
    have hyctr : y.ctr = b.ctr := hy ▸ rfl
    have hylgt : y.lgt = b.lgt := hy ▸ rfl
    have hyreg : y.registry = b.registry := hy ▸ rfl
    have hyrpu : ∃ x, y.rpu = { Rpu.initial with tachLoss := x } := ⟨some (b.after (5 * t.ts)), by rw [← hbrpu, ← hy]; rfl⟩
    have hd : Does 69632 y y.startTowers := State.startTowers_does (Does.refl _ y) rfl
    obtain ⟨x, hyrpu⟩ := hyrpu
    obtain ⟨hc, hp, hw, hreg, r, hr⟩ := quietUpdate_of_still (s := y.startTowers) (by rw [hd.lgt_eq, hylgt, hblgt]; rfl)
      (by rw [hd.lgt_eq, hylgt, hblgt]; rfl) (by rw [hd.rpu_eq, hyrpu]; rfl)
    refine ⟨?_, hp, hw, (sameCabins_of_eq (hd.registry_eq.trans hyreg)).trans hreg, x, r, ?_⟩
    · rw [hc, hd.ctr_eq, hyctr, hbctr]
    · rw [hr, hd.rpu_eq, hyrpu]
  · exact ⟨rfl, rfl, rfl, sameCabins_of_eq rfl, none, _, rfl⟩

/-! ## The registry of a restore (R59, R87, R112) -/

/-- Registry edits made one after the other. -/
def State.editRegs (s : State) (edits : List (Nat × (RegEntry → RegEntry))) : State :=
  edits.foldl (fun x e => x.modReg e.1 e.2) s

theorem editRegs_keeps (edits : List (Nat × (RegEntry → RegEntry))) (s : State) :
    ∃ rs, rs.length = s.registry.length ∧ s.editRegs edits = s.setRegistry rs := by
  induction edits generalizing s with
  | nil => exact ⟨s.registry, rfl, rfl⟩
  | cons e es ih =>
    obtain ⟨rs, hl, h⟩ := ih (s.modReg e.1 e.2)
    exact ⟨rs, by rw [hl]; simp, h⟩

theorem editRegs_reg_of_not_mem {edits : List (Nat × (RegEntry → RegEntry))} {i : Nat} (s : State)
    (h : i ∉ edits.map Prod.fst) : (s.editRegs edits).reg i = s.reg i := by
  induction edits generalizing s with
  | nil => rfl
  | cons e es ih =>
    simp only [List.map_cons, List.mem_cons, not_or] at h
    refine (ih _ h.2).trans ?_
    rw [modReg_reg, if_neg (fun hc => h.1 hc.1.symm)]

/-- Where each entry is edited once, an edit stands. -/
theorem editRegs_reg_of_mem {edits : List (Nat × (RegEntry → RegEntry))} {i : Nat} {f : RegEntry → RegEntry} (s : State)
    (hn : (edits.map Prod.fst).Nodup) (h : (i, f) ∈ edits) (hi : i < s.registry.length) :
    (s.editRegs edits).reg i = f (s.reg i) := by
  induction edits generalizing s with
  | nil => cases h
  | cons e es ih =>
    simp only [List.map_cons, List.nodup_cons] at hn
    rcases List.mem_cons.mp h with rfl | h
    · refine (editRegs_reg_of_not_mem _ hn.1).trans ?_
      exact modReg_reg_self f hi
    · have hne : e.1 ≠ i := fun hc => hn.1 (List.mem_map.mpr ⟨_, h, hc.symm⟩)
      refine (ih (s.modReg e.1 e.2) hn.2 h (by simpa using hi)).trans ?_
      rw [modReg_reg, if_neg (fun hc => hne hc.1)]

/-- The registry's record of a restored entry of the queue or the stack. -/
def ParkEntry.editAs (l : Location) (e : ParkEntry) (r : RegEntry) : RegEntry :=
  { r with location := l, door := e.door.restored, verdict := e.verdict, force := e.force }

/-- The edits of the entries of the queue or the stack that name a cabin. -/
def editsOf (l : Location) (es : List ParkEntry) : List (Nat × (RegEntry → RegEntry)) :=
  es.filterMap fun e => e.index.map fun i => (i, e.editAs l)

/-- The edits of a restore, in the order of `ParkRecord.named`. -/
def ParkRecord.edits (p : ParkRecord) : List (Nat × (RegEntry → RegEntry)) :=
  editsOf .station p.queue ++ editsOf .garage p.garage ++
    p.uphill.map (fun u => (u.cabin, fun r => { r with location := .uphill, door := .locked, verdict := .pass })) ++
    p.downhill.map (fun d => (d.cabin, fun r => { r with location := .downhill })) ++
    p.summit.map fun i => (i, fun r => { r with location := .summit })

theorem editsOf_fst (l : Location) (es : List ParkEntry) : (editsOf l es).map Prod.fst = es.filterMap ParkEntry.index := by
  unfold editsOf
  rw [List.map_filterMap]
  congr 1
  funext e
  cases e.index <;> rfl

theorem edits_fst (p : ParkRecord) : p.edits.map Prod.fst = p.named := by
  unfold ParkRecord.edits ParkRecord.named
  simp [editsOf_fst, Function.comp_def]

theorem editRegs_append (s : State) (xs ys : List (Nat × (RegEntry → RegEntry))) :
    s.editRegs (xs ++ ys) = (s.editRegs xs).editRegs ys := List.foldl_append

theorem foldl_restoreDynamic (l : Location) (es : List ParkEntry) (s : State) :
    es.foldl (restoreDynamic l) s = s.editRegs (editsOf l es) := by
  induction es generalizing s with
  | nil => rfl
  | cons e es ih =>
    rw [List.foldl_cons, ih]
    unfold restoreDynamic editsOf
    cases h : e.index with
    | none => simp [h]
    | some i => simp [h, State.editRegs]; rfl

theorem restoreRegistry_eq (s : State) (p : ParkRecord) : s.restoreRegistry p = s.editRegs p.edits := by
  unfold State.restoreRegistry ParkRecord.edits
  simp only [editRegs_append, ← foldl_restoreDynamic]
  simp only [State.editRegs, List.foldl_map]
  rfl

/-- What an edit of the registry leaves. -/
theorem editRegs_registry {s t : State} (h : t.registry = s.registry) (edits : List (Nat × (RegEntry → RegEntry))) :
    (t.editRegs edits).registry = (s.editRegs edits).registry := by
  induction edits generalizing s t with
  | nil => exact h
  | cons e es ih =>
    refine ih ?_
    simp [State.modReg, h, reg_congr h]

/-! ## The door records of a restore (R112) -/

/-- The timers that a restore starts in the record of an entry. -/
def State.timersOf (s : State) (e : StationEntry) (r : DoorRecord) : DoorRecord :=
  if 4 ≤ e.segment.num then r
  else match s.doorOf e.who, s.profile e.who.index with
    | .opened, some p =>
      if r.beyondReach then { r with dwell := none, dwellDone := false }
      else { r with dwell := some (s.after p.tDwell), dwellDone := false }
    | .opened, none => { r with dwell := none, dwellDone := false }
    | .closed, some p => if r.beyondReach then r else { r with settle := some (s.after p.tSettle) }
    | _, _ => r

theorem modRecord_of_id (s : State) (n : Nat) (f : DoorRecord → DoorRecord) (h : ∀ r, f r = r) : s.modRecord n f = s := by
  have hmap : (s.dsq.records.map fun r => if r.serial = n then f r else r) = s.dsq.records := by
    conv_rhs => rw [← List.map_id s.dsq.records]
    exact List.map_congr_left fun r _ => by simp [h]
  unfold State.modRecord
  rw [hmap]
  rfl

theorem restoreDoorTimers_eq (s : State) (e : StationEntry) :
    s.restoreDoorTimers e = s.modRecord e.serial (s.timersOf e) := by
  unfold State.restoreDoorTimers State.timersOf
  split
  · exact (modRecord_of_id _ _ _ fun _ => rfl).symm
  · unfold State.startDwell State.startSettle
    cases s.doorOf e.who <;> cases s.profile e.who.index
    all_goals first | rfl | exact (modRecord_of_id _ _ _ fun _ => rfl).symm

theorem timersOf_serial (s : State) (e : StationEntry) (r : DoorRecord) : (s.timersOf e r).serial = r.serial := by
  unfold State.timersOf
  repeat' split
  all_goals rfl

theorem modRecord_doorRecord (s : State) (n k : Nat) (f : DoorRecord → DoorRecord) (hf : ∀ r, (f r).serial = r.serial) :
    (s.modRecord n f).doorRecord k = (s.doorRecord k).map fun r => if n = k then f r else r := by
  unfold State.doorRecord State.modRecord State.setDoorRecords
  rw [show (s.setDsq _).dsq.records = s.dsq.records.map fun r => if r.serial = n then f r else r from rfl, List.find?_map]
  have hp : ((fun r : DoorRecord => decide (r.serial = k)) ∘ fun r => if r.serial = n then f r else r) =
      fun r => decide (r.serial = k) := by
    funext r
    simp only [Function.comp_apply]
    split <;> simp [hf]
  rw [hp]
  refine Option.map_congr fun r hr => ?_
  have hk : r.serial = k := by simpa using List.find?_some hr
  rw [hk]
  simp [eq_comm]

theorem timersOf_modRecord (s : State) (n : Nat) (f : DoorRecord → DoorRecord) (e : StationEntry) :
    (s.modRecord n f).timersOf e = s.timersOf e := rfl

/-- What the restored timers leave of a record. -/
theorem timersOf_keeps (s : State) (e : StationEntry) (r : DoorRecord) :
    (s.timersOf e r).closeRequested = r.closeRequested ∧ (s.timersOf e r).beyondReach = r.beyondReach ∧
      (s.timersOf e r).lockMode = r.lockMode ∧ (s.timersOf e r).reopens = r.reopens ∧
      (s.timersOf e r).reopened = r.reopened ∧ (s.timersOf e r).held = r.held ∧
      (s.timersOf e r).reopenWait = r.reopenWait := by
  unfold State.timersOf
  repeat' split
  all_goals exact ⟨rfl, rfl, rfl, rfl, rfl, rfl, rfl⟩

/-- The timers that a restored record within reach takes from the profile in force. -/
theorem timersOf_restored {s : State} {e : StationEntry} {q : DoorProfile} (hseg : e.segment.num < 4)
    (hq : s.profile e.who.index = some q) :
    (s.doorOf e.who = .opened → (s.timersOf e (DoorRecord.restored e)).dwell = some (s.after q.tDwell)) ∧
      (s.doorOf e.who = .closed → (s.timersOf e (DoorRecord.restored e)).settle = some (s.after q.tSettle)) := by
  have hreach : (DoorRecord.restored e).beyondReach = false := by
    simp [DoorRecord.restored, hseg]
  unfold State.timersOf
  rw [if_neg (by omega), hq]
  constructor
  · intro h
    rw [h]
    simp [hreach]
  · intro h
    rw [h]
    simp [hreach]

theorem foldl_restoreDoorTimers_of_not_mem {n : Nat} (es : List StationEntry) (s : State)
    (h : n ∉ es.map StationEntry.serial) : (es.foldl State.restoreDoorTimers s).doorRecord n = s.doorRecord n := by
  induction es generalizing s with
  | nil => rfl
  | cons x xs ih =>
    simp only [List.map_cons, List.mem_cons, not_or] at h
    rw [List.foldl_cons, ih _ h.2, restoreDoorTimers_eq, modRecord_doorRecord _ _ _ _ (timersOf_serial s x)]
    simp [Ne.symm h.1]

theorem restoreDoorTimers_units (es : List StationEntry) (s : State) :
    (es.foldl State.restoreDoorTimers s).dsq.openUnit = s.dsq.openUnit ∧
      (es.foldl State.restoreDoorTimers s).dsq.closeUnit = s.dsq.closeUnit := by
  induction es generalizing s with
  | nil => exact ⟨rfl, rfl⟩
  | cons x xs ih =>
    rw [List.foldl_cons, restoreDoorTimers_eq]
    exact ih _

/-- The record made for an entry of a queue whose serials differ. -/
theorem find_restoredRecord {es : List StationEntry} {e : StationEntry} (hn : (es.map StationEntry.serial).Nodup)
    (he : e ∈ es) :
    ((es.map DoorRecord.restored).find? fun r => r.serial = e.serial) = some (DoorRecord.restored e) := by
  induction es with
  | nil => cases he
  | cons x xs ih =>
    simp only [List.map_cons, List.nodup_cons] at hn
    rcases List.mem_cons.mp he with rfl | he
    · simp [DoorRecord.restored, DoorRecord.fresh]
    · have hne : x.serial ≠ e.serial := fun hc => hn.1 (hc ▸ List.mem_map_of_mem he)
      rw [List.map_cons, List.find?_cons_of_neg (by rw [decide_eq_true_iff]; exact hne)]
      exact ih hn.2 he

/-- The restored timers of each entry stand in its own record. -/
theorem foldl_restoreDoorTimers (es : List StationEntry) (s : State) (hn : (es.map StationEntry.serial).Nodup) {e : StationEntry}
    {r : DoorRecord} (he : e ∈ es) (hr : s.doorRecord e.serial = some r) :
    (es.foldl State.restoreDoorTimers s).doorRecord e.serial = some (s.timersOf e r) := by
  induction es generalizing s r with
  | nil => cases he
  | cons x xs ih =>
    simp only [List.map_cons, List.nodup_cons] at hn
    have hx : (s.restoreDoorTimers x).doorRecord e.serial =
        some (if x.serial = e.serial then s.timersOf x r else r) := by
      rw [restoreDoorTimers_eq, modRecord_doorRecord _ _ _ _ (timersOf_serial s x), hr]
      rfl
    rw [List.foldl_cons]
    rcases List.mem_cons.mp he with rfl | he
    · rw [foldl_restoreDoorTimers_of_not_mem _ _ hn.1, hx, if_pos rfl]
    · have hne : x.serial ≠ e.serial := fun hc => hn.1 (hc ▸ List.mem_map_of_mem he)
      rw [if_neg hne] at hx
      rw [ih _ hn.2 he hx, restoreDoorTimers_eq, timersOf_modRecord]

/-- The record of an entry after the restore of the doors. -/
theorem restoreDoors_doorRecord {s : State} {e : StationEntry} (hn : (s.ctr.queue.map StationEntry.serial).Nodup)
    (he : e ∈ s.ctr.queue) : s.restoreDoors.doorRecord e.serial = some (s.timersOf e (DoorRecord.restored e)) :=
  foldl_restoreDoorTimers s.ctr.queue (s.setDoorRecords (s.ctr.queue.map DoorRecord.restored)) hn he
    (find_restoredRecord hn he)

/-! ## The park record restored (R192, step 4) -/

@[simp] theorem setDoorRecords_doorRecord (s : State) (rs : List DoorRecord) (n : Nat) :
    (s.setDoorRecords rs).doorRecord n = rs.find? fun r => r.serial = n := rfl

/-- The state of a restore whose doors come up. -/
def State.placesRestored (s : State) (p : ParkRecord) : State :=
  ((((s.setLgt Lgt.initial).restoreRpu p).restoreCtr p).restoreRegistry p)

theorem placesRestored_eq (s : State) (p : ParkRecord) :
    ∃ rs, s.placesRestored p = ((((s.setLgt Lgt.initial).restoreRpu p).restoreCtr p).setRegistry rs) ∧
      rs = (s.editRegs p.edits).registry := by
  obtain ⟨rs, -, h⟩ := editRegs_keeps p.edits (((s.setLgt Lgt.initial).restoreRpu p).restoreCtr p)
  refine ⟨rs, ?_, ?_⟩
  · rw [← h, ← restoreRegistry_eq]
    rfl
  · have hc := editRegs_registry (s := s) (t := ((s.setLgt Lgt.initial).restoreRpu p).restoreCtr p) rfl p.edits
    rw [← hc, h]
    rfl

/-- What a restore makes of the state in which it begins. -/
structure State.ParkPlaced (s u : State) (p : ParkRecord) : Prop where
  queue : u.ctr.queue = p.stationQueue.map p.settle
  garage : u.ctr.garage = p.garageStack
  uphill : u.ctr.uphill = p.uphill
  downhill : u.ctr.downhill = p.downhill
  summit : u.ctr.summit = p.summit
  unlocated : u.ctr.unlocated = s.ctr.unlocated.filter fun i => i ∉ p.named
  slots : u.ctr.slots = p.slots.map SlotState.restored
  odo : u.rpu.odo = p.odo
  res : u.rpu.res = p.res
  odoRef : u.rpu.odoRef = p.odoRef
  referenced : u.rpu.referenced = p.referenced
  cabins : SameCabins (s.editRegs p.edits) u
  doors : u.dsq = ((s.placesRestored p).restoreDoors).dsq
  pending : u.lgt.pending = none
  watch : u.lgt.watch = []
  operations : u.tst.operations = s.tst.operations
  tmb : u.tmb = s.tmb
  write : u.tst.write = s.tst.write

theorem restorePark_placed {s : State} (p : ParkRecord) (hm : s.rpu.motion = .unknown) : s.ParkPlaced (s.restorePark p) p := by
  obtain ⟨rs, hpl, hrs⟩ := placesRestored_eq s p
  have hd : Does 2048 (s.placesRestored p) (s.placesRestored p).restoreDoors := State.restoreDoors_does (Does.refl _ _) rfl
  generalize hx : (s.placesRestored p).restoreDoors.reportRestored.judgeSegments.judgeSwitch = x
  have hxd : Does 4293632 (s.placesRestored p).restoreDoors x :=
    hx ▸ State.judgeSwitch_does (State.judgeSegments_does (State.reportRestored_does (Does.refl _ _) rfl) rfl) rfl
  have hlgt : x.lgt = Lgt.initial := by rw [hxd.lgt_eq, hd.lgt_eq, hpl]; rfl
  have hrpu : x.rpu = (s.restoreRpu p).rpu := by rw [hxd.rpu_eq, hd.rpu_eq, hpl]; rfl
  have hreg : x.registry = (s.editRegs p.edits).registry := by rw [hxd.registry_eq, hd.registry_eq, hpl, hrs]; rfl
  obtain ⟨hc, hp, hw, hcab, r, hr⟩ := quietUpdate_of_still (s := x) (by rw [hlgt]; rfl) (by rw [hlgt]; rfl)
    (by rw [hrpu]; exact hm)
  have hu : s.restorePark p = x.quietUpdate := by rw [← hx]; rfl
  have hq : Does 4293180 x x.quietUpdate := State.quietUpdate_does (Does.refl _ _) rfl
  rw [hu]
  constructor
  · rw [hc, hxd.queue_eq, hd.queue_eq, hpl]; rfl
  · rw [hc, hxd.garage_eq, hd.garage_eq, hpl]; rfl
  · rw [hc, hxd.uphill_eq, hd.uphill_eq, hpl]; rfl
  · rw [hc, hxd.downhill_eq, hd.downhill_eq, hpl]; rfl
  · rw [hc, hxd.summit_eq, hd.summit_eq, hpl]; rfl
  · rw [hc, hxd.unlocated_eq, hd.unlocated_eq, hpl]; rfl
  · rw [hc, hxd.slots_eq, hd.slots_eq, hpl]; rfl
  · rw [hr, hrpu]; rfl
  · rw [hr, hrpu]; rfl
  · rw [hr, hrpu]; rfl
  · rw [hr, hrpu]; rfl
  · exact (sameCabins_of_eq hreg).trans hcab
  · rw [hq.dsq_eq, hxd.dsq_eq]
  · exact hp
  · exact hw
  · rw [(hq.1 .tables rfl).2.1, (hxd.1 .tables rfl).2.1, (hd.1 .tables rfl).2.1, hpl]; rfl
  · rw [hq.tmb_eq, hxd.tmb_eq, hd.tmb_eq, hpl]; rfl
  · rw [(hq.1 .write rfl).1, (hxd.1 .write rfl).1, (hd.1 .write rfl).1, hpl]; rfl

/-! ## The reset report (R172) -/

/-- With nothing pending, the reset report leaves LGT and the slots. -/
theorem resetReport_of_none {s : State} (h : s.lgt.pending = none) :
    s.resetReport.lgt = s.lgt ∧ s.resetReport.ctr.slots = s.ctr.slots := by
  have htog : ∀ (x : State) xs, x.lgt = s.lgt → x.ctr.slots = s.ctr.slots →
      (x.takeTogether xs).lgt = s.lgt ∧ (x.takeTogether xs).ctr.slots = s.ctr.slots := fun x xs hl hc => by
    rcases takeTogether_withdraws x xs with h1 | h1
    · exact ⟨h1.1.trans hl, h1.2.trans hc⟩
    · rw [withdrawRelease_none (by rw [hl, h])] at h1
      exact ⟨h1.1.trans hl, h1.2.trans hc⟩
  unfold State.resetReport
  dsimp only
  generalize hx : State.takeTogether _ _ = x
  have hxl : x.lgt = s.lgt ∧ x.ctr.slots = s.ctr.slots := by
    rw [← hx]
    refine htog _ _ ?_ ?_ <;> simp [State.clearGathered]
  have hn : (x.setStc { x.stc with gathered := s.stc.gathered }).lgt.pending = none := hxl.1 ▸ h
  obtain ⟨hl, hc⟩ := takeReport_lgt_of_none hn
  exact ⟨hl.trans hxl.1, hc.trans hxl.2⟩

theorem resetReport_does' (s : State) : Does 4317712 s s.resetReport := State.resetReport_does (Does.refl _ _) rfl

/-! ## What stands after the blocks (R18, R37, R58, R86, R112) -/

theorem loadedRegistry_getD (st : Store) (i : Nat) (h : i < 128) :
    st.loadedRegistry.getD i (RegEntry.initial FleetStatic.blank) =
      RegEntry.initial ((st.fleet.getD []).getD i FleetStatic.blank) := by
  simp [Store.loadedRegistry, List.getD, h]

theorem blocksReset_reg (s : State) (locked : Bool) (i : Nat) (h : i < 128) :
    (s.blocksReset locked).reg i = RegEntry.initial ((s.store.fleet.getD []).getD i FleetStatic.blank) :=
  loadedRegistry_getD s.store i h

theorem mem_inServiceIndices (st : Store) (i : Nat) :
    i ∈ inServiceIndices st.loadedRegistry ↔
      i < 128 ∧ ((st.fleet.getD []).getD i FleetStatic.blank).inService = true := by
  unfold inServiceIndices
  rw [List.mem_filter, List.mem_range]
  refine and_congr_right fun h => ?_
  rw [loadedRegistry_getD _ _ h]
  rfl

/-- A reset that restores nothing comes up empty. -/
theorem resetPart_unrestored (s : State) (locked : Bool)
    (h : ∃ y, (s.blocksUp locked).tryRestore = y ∧ Does 4259840 (s.blocksUp locked) y) :
    (s.resetPart locked).unrestored (s.store.fleet.getD []) := by
  obtain ⟨y, hy, hd⟩ := h
  obtain ⟨hctr, hp, hw, hcab, x, r, hrpu⟩ := blocksUp_spec s locked
  have hr := resetReport_does' y
  have hu : s.resetPart locked = y.resetReport := by rw [← hy]; rfl
  obtain ⟨hl, hs⟩ := resetReport_of_none (s := y) (by rw [hd.lgt_eq, hp])
  have hdsq : (s.blocksUp locked).dsq = Dsq.initial :=
    (State.startWatching_does (m := 4297276) (Does.refl _ (s.blocksReset locked)) rfl).dsq_eq
  have hreg : ∀ i, y.resetReport.reg i = (s.blocksUp locked).reg i := fun i => by
    rw [reg_congr hr.registry_eq, reg_congr hd.registry_eq]
  rw [hu]
  refine ⟨?_, ?_, ?_, ?_, ?_, ?_, ?_, ?_, ?_, ?_, fun i => ?_, fun z hz => ?_, fun i hi => ?_⟩
  · rw [hr.rpu_eq, hd.rpu_eq, hrpu]; rfl
  · rw [hr.rpu_eq, hd.rpu_eq, hrpu]; rfl
  · rw [hr.queue_eq, hd.queue_eq, hctr]; rfl
  · rw [hr.garage_eq, hd.garage_eq, hctr]; rfl
  · rw [hr.uphill_eq, hd.uphill_eq, hctr]; rfl
  · rw [hr.downhill_eq, hd.downhill_eq, hctr]; rfl
  · rw [hr.summit_eq, hd.summit_eq, hctr]; rfl
  · rw [hr.dsq_eq, hd.dsq_eq, hdsq]; rfl
  · rw [hl, hd.lgt_eq, hp]
  · rw [hl, hd.lgt_eq, hw]
  · rw [hr.unlocated_eq, hd.unlocated_eq, hctr]
    exact mem_inServiceIndices s.store i
  · rw [hs, hd.slots_eq, hctr] at hz
    revert hz
    simp only [Ctr.initial, loadedSlots]
    split
    · exact fun hz => (List.mem_replicate.mp hz).2
    · exact fun hz => absurd hz List.not_mem_nil
  · obtain ⟨b, hb⟩ := hcab.2 i
    rw [hreg, hb, blocksReset_reg s locked i hi]
    exact ⟨rfl, rfl⟩

theorem blocksUp_safety (s : State) (locked : Bool) : (s.blocksUp locked).tst.safety = s.store.safety :=
  (State.startWatching_does (m := 4297276) (Does.refl _ (s.blocksReset locked)) rfl).safety_eq

theorem blocksUp_fleetValid (s : State) (locked : Bool) : (s.blocksUp locked).tst.fleetValid = s.store.fleet.isSome :=
  ((State.startWatching_does (m := 4297276) (Does.refl _ (s.blocksReset locked)) rfl).1 .tables rfl).2.2

theorem blocksUp_store (s : State) (locked : Bool) : (s.blocksUp locked).store = s.store :=
  (State.startWatching_does (m := 4297276) (Does.refl _ (s.blocksReset locked)) rfl).1 .store rfl

/-- Where no record is valid, or it fails a condition, nothing of it is restored (R192). -/
theorem tryRestore_of_failed (s : State) (locked : Bool)
    (h : s.store.park = none ∨ s.store.safety = none ∨ s.store.fleet = none ∨
      ∃ t p, s.store.safety = some t ∧ s.store.park = some p ∧ (p.L ≠ t.L ∨ p.S ≠ t.S)) :
    ∃ y, (s.blocksUp locked).tryRestore = y ∧ Does 4259840 (s.blocksUp locked) y := by
  refine ⟨_, rfl, ?_⟩
  unfold State.tryRestore
  rw [blocksUp_store]
  split
  · exact Does.refl _ _
  · rename_i p hp
    split
    · rename_i hf
      unfold State.restoreFailure at hf
      rw [blocksUp_safety, blocksUp_fleetValid] at hf
      rcases h with h | h | h | ⟨t, q, ht, hq, hne⟩
      · simp [h] at hp
      · simp [h] at hf
      · simp only [h, Option.isSome_none, Bool.not_false, if_true] at hf
        split at hf <;> cases hf
      · obtain rfl : q = p := by simpa [hq] using hp
        rw [ht] at hf
        dsimp only at hf
        have hor : (decide (q.L ≠ t.L) || decide (q.S ≠ t.S)) = true := by simpa using hne
        rw [hor] at hf
        split at hf <;> cases hf
    · exact State.report_does _ _ _ _ (Does.refl _ _) rfl

/-- A valid record is restored (R192). -/
theorem tryRestore_of_restores {s : State} {t : SafetyTables} {f : List FleetStatic} {p : ParkRecord} (locked : Bool)
    (h : s.store.restores t f p) : (s.blocksUp locked).tryRestore = (s.blocksUp locked).restorePark p := by
  obtain ⟨hsafety, hfleet, hpark, hL, hS, -, -⟩ := h
  have hf : (s.blocksUp locked).restoreFailure p = none := by
    simp [State.restoreFailure, blocksUp_safety, blocksUp_fleetValid, hsafety, hfleet, hL, hS]
  unfold State.tryRestore
  rw [blocksUp_store, hpark]
  dsimp only
  rw [hf]

/-! ## The restored entries -/

@[simp] theorem settle_entry_serial (p : ParkRecord) (e : StationEntry) : (p.settle e).serial = e.serial := by
  unfold ParkRecord.settle
  repeat' split
  all_goals rfl

@[simp] theorem settle_entry_who (p : ParkRecord) (e : StationEntry) : (p.settle e).who = e.who := by
  unfold ParkRecord.settle
  repeat' split
  all_goals simp_all

@[simp] theorem settle_entry_segment (p : ParkRecord) (e : StationEntry) : (p.settle e).segment = e.segment := by
  unfold ParkRecord.settle
  repeat' split
  all_goals rfl

@[simp] theorem settle_entry_route (p : ParkRecord) (e : StationEntry) : (p.settle e).route = e.route := by
  unfold ParkRecord.settle
  repeat' split
  all_goals rfl

theorem mem_releasing (p : ParkRecord) (i : Nat) :
    i ∈ p.releasing ↔ SlotState.releasePending i ∈ p.slots ∨ SlotState.releasing i ∈ p.slots := by
  unfold ParkRecord.releasing
  rw [List.mem_filterMap]
  constructor
  · rintro ⟨x, hx, h⟩
    cases x <;> simp only [Option.some.injEq, reduceCtorEq] at h
    · exact .inl (h ▸ hx)
    · exact .inr (h ▸ hx)
  · rintro (h | h)
    · exact ⟨_, h, rfl⟩
    · exact ⟨_, h, rfl⟩

theorem settle_entry_slotless (p : ParkRecord) (e : StationEntry) :
    (p.settle e).slotless = true ↔
      e.slotless = true ∨ (e.segment = .s7 ∧ ∃ i, e.who = .cabin i ∧ i ∈ p.releasing) := by
  unfold ParkRecord.settle
  split
  · rename_i i hi
    split
    · rename_i h
      simp only [Bool.and_eq_true, decide_eq_true_iff] at h
      exact ⟨fun _ => .inr ⟨h.1, i, hi, h.2⟩, fun _ => rfl⟩
    · rename_i h
      simp only [Bool.and_eq_true, decide_eq_true_iff, not_and] at h
      refine ⟨.inl, fun hor => hor.resolve_right ?_⟩
      rintro ⟨hseg, j, hj, hmem⟩
      obtain rfl : i = j := by simpa using hi.symm.trans hj
      exact h hseg hmem
  · rename_i d v f hi
    refine ⟨.inl, fun hor => hor.resolve_right ?_⟩
    rintro ⟨-, j, hj, -⟩
    exact absurd (hi.symm.trans hj) (by simp)

/-- The queue entry of a record's `n`th (R87). -/
def ParkEntry.station (e : ParkEntry) (n : Nat) : StationEntry :=
  { serial := n, who := e.who, segment := e.segment, route := e.route, slotless := e.slotless }

theorem stationQueue_getElem? (p : ParkRecord) (n : Nat) :
    p.stationQueue[n]? = (p.queue[n]?).map fun e => e.station n := by
  unfold ParkRecord.stationQueue
  rw [List.getElem?_map, List.getElem?_zipIdx]
  cases p.queue[n]? <;> simp [ParkEntry.station]

theorem garageStack_getElem? (p : ParkRecord) (n : Nat) :
    p.garageStack[n]? = (p.garage[n]?).map fun e => { serial := p.queue.length + n, who := e.who } := by
  unfold ParkRecord.garageStack
  rw [List.getElem?_map, List.getElem?_zipIdx]
  cases p.garage[n]? <;> simp

theorem stationQueue_serials (p : ParkRecord) : p.stationQueue.map StationEntry.serial = List.range p.queue.length := by
  unfold ParkRecord.stationQueue
  rw [List.map_map, List.range_eq_range', ← List.zipIdx_map_snd 0 p.queue]
  rfl

theorem entry_who_index (e : ParkEntry) : e.who.index = e.index := by
  unfold ParkEntry.who
  cases h : e.index <;> rfl

/-- The restored queue, entry by entry. -/
theorem restoredQueue_getElem? {p : ParkRecord} {n : Nat} {e : ParkEntry} (h : p.queue[n]? = some e) :
    (p.stationQueue.map p.settle)[n]? = some (p.settle (e.station n)) := by
  rw [List.getElem?_map, stationQueue_getElem?, h]
  rfl

theorem mem_editsOf {l : Location} {es : List ParkEntry} {e : ParkEntry} {i : Nat} (he : e ∈ es) (hi : e.index = some i) :
    (i, e.editAs l) ∈ editsOf l es :=
  List.mem_filterMap.mpr ⟨e, he, by simp [hi]⟩

section
variable {s : State} {p : ParkRecord} (locked : Bool)

/-- The state in which the restore of a reset ends. -/
def State.restoredPart (s : State) (locked : Bool) (p : ParkRecord) : State := (s.blocksUp locked).restorePark p

theorem restoredPart_placed : (s.blocksUp locked).ParkPlaced (s.restoredPart locked p) p := by
  obtain ⟨-, -, -, -, x, r, hrpu⟩ := blocksUp_spec s locked
  exact restorePark_placed p (by rw [hrpu]; rfl)

theorem editedReg {i : Nat} {g : RegEntry → RegEntry} (hn : p.named.Nodup) (hi : i < 128) (h : (i, g) ∈ p.edits) :
    ∃ b, ((s.blocksUp locked).editRegs p.edits).reg i =
      g { RegEntry.initial ((s.store.fleet.getD []).getD i FleetStatic.blank) with overdue := b } := by
  obtain ⟨-, -, -, hcab, -⟩ := blocksUp_spec s locked
  obtain ⟨b, hb⟩ := hcab.2 i
  have hlen : (s.blocksUp locked).registry.length = 128 := by
    rw [hcab.1]
    simp [State.blocksReset, Store.loadedRegistry]
  refine ⟨b, ?_⟩
  rw [editRegs_reg_of_mem _ (by rw [edits_fst]; exact hn) h (by rw [hlen]; exact hi), hb, blocksReset_reg s locked i hi]

/-- The registry's record of a restored cabin, but for its OVERDUE flag. -/
theorem restoredPart_reg {i : Nat} {g : RegEntry → RegEntry} (hn : p.named.Nodup) (hi : i < 128) (h : (i, g) ∈ p.edits) :
    ∃ b b', (s.restoredPart locked p).reg i =
      { g { RegEntry.initial ((s.store.fleet.getD []).getD i FleetStatic.blank) with overdue := b } with overdue := b' } := by
  obtain ⟨b', hb'⟩ := (restoredPart_placed (s := s) (p := p) locked).cabins.2 i
  obtain ⟨b, hb⟩ := editedReg (s := s) locked hn hi h
  exact ⟨b, b', by rw [hb', hb]⟩

end

/-! ## The restored part (R192) -/

section
variable {s : State} {p : ParkRecord} {f : List FleetStatic} (locked : Bool)

theorem restoredPart_places (hfleet : s.store.fleet = some f) : (s.restoredPart locked p).restoredPlaces p f := by
  have h := restoredPart_placed (s := s) (p := p) locked
  obtain ⟨hctr, -⟩ := blocksUp_spec s locked
  refine ⟨h.odo, h.res, h.odoRef, h.referenced, h.uphill, h.downhill, h.summit, fun i => ?_, ?_, ?_, ?_,
    fun n e hn => ⟨p.settle (e.station n), ?_, ?_⟩, fun n e hn => ?_⟩
  · rw [h.unlocated, hctr]
    simp only [Ctr.initial, List.mem_filter, mem_inServiceIndices, hfleet, Option.getD_some, decide_eq_true_iff]
    tauto
  · rw [h.slots]
    refine List.map_congr_left fun x _ => ?_
    cases x <;> rfl
  · rw [h.queue, List.length_map, ParkRecord.stationQueue, List.length_map, List.length_zipIdx]
  · rw [h.garage, ParkRecord.garageStack, List.length_map, List.length_zipIdx]
  · rw [h.queue]
    exact restoredQueue_getElem? hn
  · refine ⟨by simp [ParkEntry.station], by simp [ParkEntry.station]; rfl, by simp [ParkEntry.station],
      by simp [ParkEntry.station], ?_⟩
    rw [settle_entry_slotless]
    refine or_congr Iff.rfl (and_congr_right fun _ => exists_congr fun i => ?_)
    rw [mem_releasing]
    refine and_congr ?_ Iff.rfl
    unfold ParkEntry.station ParkEntry.who
    cases e.index <;> simp
  · rw [h.garage, garageStack_getElem?, hn]
    rfl

theorem restoredPart_cabins (hn : p.named.Nodup) (hi : ∀ i ∈ p.named, i < 128) :
    (s.restoredPart locked p).restoredCabins p := by
  have key : ∀ i g, (i, g) ∈ p.edits → ∃ b b', (s.restoredPart locked p).reg i =
      { g { RegEntry.initial ((s.store.fleet.getD []).getD i FleetStatic.blank) with overdue := b } with overdue := b' } :=
    fun i g h => restoredPart_reg locked hn (hi i (by rw [← edits_fst]; exact List.mem_map_of_mem h)) h
  refine ⟨fun e he i hei => ?_, fun e he i hei => ?_, fun x hx => ?_, fun x hx => ?_, fun i hx => ?_⟩
  · obtain ⟨b, b', h⟩ := key i (e.editAs .station) (by simp [ParkRecord.edits, mem_editsOf he hei])
    rw [h]
    exact ⟨rfl, rfl, rfl, rfl⟩
  · obtain ⟨b, b', h⟩ := key i (e.editAs .garage) (by simp [ParkRecord.edits, mem_editsOf he hei])
    rw [h]
    exact ⟨rfl, rfl, rfl, rfl⟩
  · obtain ⟨b, b', h⟩ := key x.cabin (fun r => { r with location := .uphill, door := .locked, verdict := .pass }) (by
      simp only [ParkRecord.edits, List.mem_append]
      exact .inl (.inl (.inr (List.mem_map_of_mem hx))))
    rw [h]
    exact ⟨rfl, rfl, rfl⟩
  · obtain ⟨b, b', h⟩ := key x.cabin (fun r => { r with location := .downhill }) (by
      simp only [ParkRecord.edits, List.mem_append]
      exact .inl (.inr (List.mem_map_of_mem hx)))
    rw [h]
    exact ⟨rfl, rfl, rfl⟩
  · obtain ⟨b, b', h⟩ := key i (fun r => { r with location := .summit }) (by
      simp only [ParkRecord.edits, List.mem_append]
      exact .inr (List.mem_map_of_mem hx))
    rw [h]
    exact ⟨rfl, rfl, rfl⟩

/-- The state in which the door records of a restore are made. -/
theorem placesRestored_blocks :
    let t := (s.blocksUp locked).placesRestored p
    t.ctr.queue = p.stationQueue.map p.settle ∧ t.registry = ((s.blocksUp locked).editRegs p.edits).registry ∧
      t.tst.operations = s.store.operations ∧ t.tmb = Tmb.initial ∧ t.dsq = Dsq.initial := by
  obtain ⟨rs, hpl, hrs⟩ := placesRestored_eq (s.blocksUp locked) p
  have hd : Does 4297276 (s.blocksReset locked) (s.blocksUp locked) := State.startWatching_does (Does.refl _ _) rfl
  dsimp only
  rw [hpl]
  exact ⟨rfl, hrs, (hd.1 .tables rfl).2.1.trans rfl, hd.tmb_eq.trans rfl, hd.dsq_eq.trans rfl⟩

theorem restoredPart_doors (hfleet : s.store.fleet = some f) (hn : p.named.Nodup) (hi : ∀ i ∈ p.named, i < 128) :
    (s.restoredPart locked p).restoredDoors p f := by
  have h := restoredPart_placed (s := s) (p := p) locked
  obtain ⟨hq, hreg, hop, htmb, hdsq⟩ := placesRestored_blocks (s := s) (p := p) locked
  have hd := h.doors
  generalize (s.blocksUp locked).placesRestored p = t at hq hreg hop htmb hdsq hd
  have hdoors : ∀ n, (s.restoredPart locked p).doorRecord n = t.restoreDoors.doorRecord n := fun n => by
    unfold State.doorRecord
    rw [hd]
  have hblk : Does 4297276 (s.blocksReset locked) (s.blocksUp locked) := State.startWatching_does (Does.refl _ _) rfl
  have hbt : (s.blocksUp locked).tmb = Tmb.initial := hblk.tmb_eq.trans rfl
  have hbo : (s.blocksUp locked).tst.operations = s.store.operations := (hblk.1 .tables rfl).2.1.trans rfl
  have hserial : (t.ctr.queue.map StationEntry.serial).Nodup := by
    rw [hq, List.map_map, show StationEntry.serial ∘ p.settle = StationEntry.serial from funext (settle_entry_serial p),
      stationQueue_serials]
    exact List.nodup_range
  refine ⟨?_, ?_, fun n e he => ?_⟩
  · rw [hd, State.restoreDoors, (restoreDoorTimers_units _ _).1]
    simp [State.setDoorRecords, hdsq, Dsq.initial, DoorUnit.initial]
  · rw [hd, State.restoreDoors, (restoreDoorTimers_units _ _).2]
    simp [State.setDoorRecords, hdsq, Dsq.initial, DoorUnit.initial]
  · have hy := restoredQueue_getElem? he
    generalize hys : p.settle (e.station n) = y at hy
    have hyserial : y.serial = n := by rw [← hys, settle_entry_serial]; rfl
    have hywho : y.who = e.who := by rw [← hys, settle_entry_who]; rfl
    have hyseg : y.segment = e.segment := by rw [← hys, settle_entry_segment]; rfl
    have hrec := restoreDoors_doorRecord hserial (hq ▸ List.mem_of_getElem? hy)
    rw [hyserial] at hrec
    refine ⟨_, (hdoors n).trans hrec, ?_⟩
    obtain ⟨hclose, hreach, hmode, hcount, hreopened, hheld, hwait⟩ := timersOf_keeps t y (DoorRecord.restored y)
    rw [hclose, hreach, hmode, hcount, hreopened, hheld, hwait]
    refine ⟨by rw [← hyseg]; rfl, by rw [← hyseg]; rfl, rfl, rfl, rfl, rfl, rfl, fun o ho hseg => ?_⟩
    intro number profile
    have hafter : ∀ d, (s.restoredPart locked p).after d = t.after d := fun d => by
      unfold State.after State.now
      rw [h.tmb, hbt, htmb]
    have hmem : ∀ i, e.index = some i → i < 128 ∧ ∃ b, t.reg i =
        { e.editAs .station { RegEntry.initial (f.getD i FleetStatic.blank) with overdue := b } with overdue := b } := by
      intro i hei
      have hed : (i, e.editAs .station) ∈ p.edits := by
        simp [ParkRecord.edits, mem_editsOf (List.mem_of_getElem? he) hei]
      have hlt : i < 128 := hi i (by rw [← edits_fst]; exact List.mem_map_of_mem hed)
      obtain ⟨b, hb⟩ := editedReg (s := s) locked hn hlt hed
      refine ⟨hlt, b, ?_⟩
      rw [reg_congr hreg, hb, hfleet]
      rfl
    have hprofile : t.profile y.who.index = some profile := by
      have hto : t.tst.operations = some o := by rw [hop, ← hbo, ← h.operations, ho]
      rw [hywho, entry_who_index]
      simp only [State.profile, hto, profile, number]
      cases hei : e.index with
      | none => rfl
      | some i =>
        obtain ⟨-, b, hb⟩ := hmem i hei
        change some (o.profiles.getD (t.reg i).stat.profile DoorProfile.zero) = _
        rw [hb]
        rfl
    have hdoor : t.doorOf y.who = e.door.restored := by
      rw [hywho]
      unfold ParkEntry.who
      cases hei : e.index with
      | none => rfl
      | some i =>
        obtain ⟨-, b, hb⟩ := hmem i hei
        simp only [State.doorOf, hb]
        rfl
    obtain ⟨hdwell, hsettle⟩ := timersOf_restored (by rw [hyseg]; exact hseg) hprofile
    rw [hdoor] at hdwell hsettle
    rw [hafter, hafter]
    exact ⟨fun ho => hdwell (by rw [ho]; rfl), fun hc => hsettle (by rw [hc]; rfl)⟩

end

/-- The reset report leaves a restored part restored. -/
theorem resetReport_restored {y : State} {p : ParkRecord} {f : List FleetStatic} (h : y.restored p f) :
    y.resetReport.restored p f := by
  obtain ⟨hplaces, hcabins, hdoors, hpend, hwatch⟩ := h
  have hr := resetReport_does' y
  obtain ⟨hl, hs⟩ := resetReport_of_none hpend
  have hafter : ∀ d, y.resetReport.after d = y.after d := fun d => by
    unfold State.after State.now
    rw [hr.tmb_eq]
  have hrec : ∀ n, y.resetReport.doorRecord n = y.doorRecord n := fun n => by
    unfold State.doorRecord
    rw [hr.dsq_eq]
  refine ⟨?_, ?_, ?_, by rw [hl, hpend], by rw [hl, hwatch]⟩
  · unfold State.restoredPlaces at hplaces ⊢
    rw [hr.rpu_eq, hr.uphill_eq, hr.downhill_eq, hr.summit_eq, hr.unlocated_eq, hs, hr.queue_eq, hr.garage_eq]
    exact hplaces
  · unfold State.restoredCabins at hcabins ⊢
    simp only [reg_congr hr.registry_eq]
    exact hcabins
  · unfold State.restoredDoors at hdoors ⊢
    simp only [hr.dsq_eq, hrec, hafter, (hr.1 .tables rfl).2.1]
    exact hdoors

/-- What a reset makes of the store. -/
theorem resetPart_broughtUpFrom (s : State) (locked : Bool) : (s.resetPart locked).broughtUpFrom s.store := by
  refine ⟨fun t f p h => ?_, fun h => resetPart_unrestored s locked (tryRestore_of_failed s locked h)⟩
  obtain ⟨hsafety, hfleet, hpark, hL, hS, hn, hi⟩ := id h
  have hu : s.resetPart locked = (s.restoredPart locked p).resetReport := by
    unfold State.restoredPart
    rw [← tryRestore_of_restores locked h]
    rfl
  have hplaced := restoredPart_placed (s := s) (p := p) locked
  rw [hu]
  exact resetReport_restored
    ⟨restoredPart_places locked hfleet, restoredPart_cabins locked hn hi, restoredPart_doors locked hfleet hn hi,
      hplaced.pending, hplaced.watch⟩

/-! ## What every reset leaves (R187, R192, R195) -/

/-- The parts that a reset loads or starts and does not touch again. -/
theorem resetPart_loads (s : State) (locked : Bool) :
    let u := s.resetPart locked
    u.pending = s.pending ∧ u.pins = { s.pins with held := false } ∧ u.tst.safety = s.store.safety ∧
      u.tst.operations = s.store.operations ∧ u.tst.fleetValid = s.store.fleet.isSome ∧
      u.tst.stageSafety = s.store.safety.getD SafetyTables.default ∧ u.tst.safetyChanged = false ∧
      u.tst.stageOperations = s.store.operations.getD OperationsTables.default ∧ u.tst.operationsChanged = false ∧
      u.tst.lockedToPowerCycle = locked ∧ u.tst.restart = none ∧
      u.tmb = { counter := 0, selection := .reference, lastWindow := none, switches := 0 } ∧ u.store = s.store := by
  have h : Does 4849660 (s.blocksReset locked) (s.resetPart locked) := by
    unfold State.resetPart
    exact State.resetReport_does (State.tryRestore_does (State.startWatching_does (Does.refl _ _) rfl) rfl) rfl
  obtain ⟨hs, ho, hf⟩ := h.1 .tables rfl
  obtain ⟨hss, hsc, hso, hoc⟩ := h.1 .staging rfl
  exact ⟨h.1 .pending rfl, h.1 .pins rfl, hs, ho, hf, hss, hsc, hso, hoc, h.1 .lock rfl, h.restart_eq, h.tmb_eq,
    h.1 .store rfl⟩

/-- No write is in flight after a reset. -/
theorem resetPart_write (s : State) (locked : Bool) : (s.resetPart locked).tst.write = none := by
  have hb : (s.blocksUp locked).tst.write = none :=
    ((State.startWatching_does (m := 4297276) (Does.refl _ (s.blocksReset locked)) rfl).1 .write rfl).1
  have ht : (s.blocksUp locked).tryRestore.tst.write = none := by
    unfold State.tryRestore
    split
    · exact hb
    · split
      · exact (restoredPart_placed locked).write.trans hb
      · simpa using hb
  rw [← ht]
  exact ((resetReport_does' (s.blocksUp locked).tryRestore).1 .write rfl).1

/-! ## The stop chain of a reset without SAFETY tables (R170, R172) -/

/-- The cause records after a report is taken at an instant. -/
def takeRecords (now : Ms) (records : List CauseRecord) (xs : List CauseReport) : List CauseRecord :=
  xs.foldl
    (fun rs x =>
      rs.set x.cause.num ((rs.getD x.cause.num (CauseRecord.initial x.cause.defaultCategory)).take x.change now))
    records

theorem takeCondition_stc (s : State) (x : CauseReport) :
    (s.takeCondition x).stc =
      { s.stc with records := s.stc.records.set x.cause.num ((s.cause x.cause).take x.change s.now) } := by
  unfold State.takeCondition State.reportCauseState State.reportCauseCategory
  dsimp only
  repeat' split
  all_goals first | exact report_stc .. | rfl

theorem foldl_takeCondition_stc (xs : List CauseReport) (s : State) :
    (xs.foldl State.takeCondition s).stc = { s.stc with records := takeRecords s.now s.stc.records xs } := by
  induction xs generalizing s with
  | nil => rfl
  | cons x xs ih =>
    have hnow : (s.takeCondition x).now = s.now := by
      unfold State.now
      rw [(takeCondition_does' s x).tmb_eq]
    rw [List.foldl_cons, ih, hnow, takeCondition_stc]
    rfl

@[simp] theorem tellOutput_stc (s : State) : s.tellOutput.stc = s.stc := by
  unfold State.tellOutput
  rw [(judgeEmergency_keeps _).2.2]
  split
  · exact (State.withdrawRelease_does (m := 4260368) false (Does.refl _ s) rfl).stc_eq
  · rfl

/-- The output formed is the highest category that stands, with its permits, and the records stand (R163). -/
theorem formOutput_output (s : State) (rs : List Riser) :
    (s.formOutput rs).stc.output = highestStanding s.stc.records ∧ (s.formOutput rs).stc.records = s.stc.records ∧
      (s.stc.permitsAgree → (s.formOutput rs).stc.permitsAgree) := by
  unfold State.formOutput
  dsimp only
  split
  · rename_i h
    exact ⟨h.symm, rfl, id⟩
  · rw [tellOutput_stc, State.reportOutput, report_stc]
    exact ⟨rfl, rfl, fun _ => ⟨rfl, rfl⟩⟩

theorem takeTogether_output (s : State) (xs : List CauseReport) :
    (s.takeTogether xs).stc.output = highestStanding (takeRecords s.now s.stc.records xs) ∧
      (s.takeTogether xs).stc.records = takeRecords s.now s.stc.records xs ∧
      (s.stc.permitsAgree → (s.takeTogether xs).stc.permitsAgree) := by
  unfold State.takeTogether
  have h := formOutput_output (xs.foldl State.takeCondition s) (risersOf xs)
  rwa [foldl_takeCondition_stc] at h

theorem judge_stc_congr {s t : State} (h : t.stc = s.stc) (c : Cause) (b : Bool) (i : Option Nat) :
    (t.judge c b i).stc = (s.judge c b i).stc := by
  unfold State.judge State.condition State.cause State.holdCondition State.gather State.cause
  simp only [h]
  split <;> simp [h]

theorem raise_stc_congr {s t : State} (h : t.stc = s.stc) (c : Cause) (i : Option Nat) :
    (t.raise c i).stc = (s.raise c i).stc := by
  simp [State.raise, State.gather, h]

/-- What the reset report takes together, for a level of the loop, with REFERENCED and a table group missing. -/
def State.resetConditions (s : State) (loop : LoopLevel) (referenced invalid : Bool) : State :=
  (((s.clearGathered.raise .powerOn none).judge .estopLoop (loop = .loopOpen)).judge .ropeUnreferenced
    (!referenced)).judge .tablesInvalid invalid

theorem resetConditions_stc_congr {s t : State} (h : t.stc = s.stc) (loop : LoopLevel) (r i : Bool) :
    (t.resetConditions loop r i).stc = (s.resetConditions loop r i).stc :=
  judge_stc_congr (judge_stc_congr (judge_stc_congr (raise_stc_congr (by simp [State.clearGathered, h]) ..) ..) ..) ..

/-- The state after reset with its stop chain as the blocks load it without SAFETY tables. -/
def blankChain : State := { State.reset with stc := Stc.initial (loadedCauses none) }

/-- The records and the output that the reset report makes of that chain. -/
theorem blankChain_report (loop : LoopLevel) :
    let y := (blankChain.resetConditions loop false true).stc
    let rs := takeRecords 0 y.records y.gathered
    (rs.getD Cause.powerOn.num (CauseRecord.initial Cause.powerOn.defaultCategory)).state = .latched ∧
      (rs.getD Cause.tablesInvalid.num (CauseRecord.initial Cause.tablesInvalid.defaultCategory)).state = .active ∧
      highestStanding rs = (if loop = .loopClosed then .serviceStop else .emergencyStop) ∧ y.permitsAgree := by
  cases loop <;> exact ⟨by decide, by decide, by decide, ⟨by decide, by decide⟩⟩

theorem takeReport_of_gathered_nil {s : State} (h : s.stc.gathered = []) : s.takeReport = s := by
  unfold State.takeReport
  rw [h]

/-- With nothing else gathered, the reset report is the one report of its conditions. -/
theorem resetReport_eq {s : State} (h : s.stc.gathered = []) :
    s.resetReport =
      State.setStc
        ((s.resetConditions s.pins.loop s.rpu.referenced s.tablesInvalid).clearGathered.takeTogether
          (s.resetConditions s.pins.loop s.rpu.referenced s.tablesInvalid).stc.gathered)
        { ((s.resetConditions s.pins.loop s.rpu.referenced s.tablesInvalid).clearGathered.takeTogether
            (s.resetConditions s.pins.loop s.rpu.referenced s.tablesInvalid).stc.gathered).stc with gathered := [] } := by
  unfold State.resetReport
  dsimp only
  rw [h]
  exact takeReport_of_gathered_nil rfl

theorem resetReport_blank {s : State} (hstc : s.stc = Stc.initial (loadedCauses none)) (hr : s.rpu.referenced = false)
    (hi : s.tablesInvalid = true) (hnow : s.now = 0) :
    (s.resetReport.cause .powerOn).state = .latched ∧ (s.resetReport.cause .tablesInvalid).state = .active ∧
      s.resetReport.stc.output = (if s.pins.loop = .loopClosed then .serviceStop else .emergencyStop) ∧
      s.resetReport.stc.permitsAgree := by
  rw [resetReport_eq (by rw [hstc]; rfl), hr, hi]
  have hystc := resetConditions_stc_congr (s := blankChain) hstc s.pins.loop false true
  have hynow : (s.resetConditions s.pins.loop false true).now = 0 := by
    rw [← hnow]
    simp [State.resetConditions, State.clearGathered, State.now]
  obtain ⟨hpower, htables, houtput, hpermits⟩ := blankChain_report s.pins.loop
  rw [← hystc] at hpower htables houtput hpermits
  generalize s.resetConditions s.pins.loop false true = y at hynow hpower htables houtput hpermits
  obtain ⟨ho, hrec, hp⟩ := takeTogether_output y.clearGathered y.stc.gathered
  have hn : y.clearGathered.now = 0 := hynow
  rw [hn] at ho hrec
  generalize y.clearGathered.takeTogether y.stc.gathered = z at ho hrec hp
  refine ⟨?_, ?_, ho.trans houtput, hp hpermits⟩
  · unfold State.cause
    change (z.stc.records.getD _ _).state = _
    rw [hrec]
    exact hpower
  · unfold State.cause
    change (z.stc.records.getD _ _).state = _
    rw [hrec]
    exact htables

/-! ## The resets (O6) -/

theorem cutShort_keeps (s : State) :
    s.cutShort.pending = s.pending ∧ s.cutShort.pins = s.pins ∧ s.cutShort.store.safety = s.store.safety ∧
      s.cutShort.store.operations = s.store.operations ∧ s.cutShort.store.fleet = s.store.fleet ∧
      s.cutShort.tst.write = none := by
  unfold State.cutShort
  split
  · rename_i h
    exact ⟨rfl, rfl, rfl, rfl, rfl, h⟩
  · unfold State.parkCutShort
    repeat' split
    all_goals exact ⟨rfl, rfl, rfl, rfl, rfl, rfl⟩

/-- Without SAFETY tables nothing of the stop chain, the rope or the counter is touched before the reset report. -/
theorem tryRestore_of_no_safety {s : State} (locked : Bool) (h : s.store.safety = none) :
    let y := (s.blocksUp locked).tryRestore
    y.stc = Stc.initial (loadedCauses none) ∧ y.rpu.referenced = false ∧ y.tablesInvalid = true ∧ y.now = 0 ∧
      y.pins.loop = s.pins.loop := by
  obtain ⟨y, hy, hd⟩ := tryRestore_of_failed s locked (.inr (.inl h))
  have hb : s.blocksUp locked = s.blocksReset locked := by
    have ht : (s.blocksReset locked).tst.safety = none := h
    simp only [State.blocksUp, State.startWatching, ht]
  rw [hb] at hd
  rw [hy]
  refine ⟨?_, ?_, ?_, ?_, ?_⟩
  · rw [hd.stc_eq]
    simp [State.blocksReset, h]
  · rw [hd.rpu_eq]
    rfl
  · have hsafe : y.tst.safety = none := by rw [hd.safety_eq]; exact h
    simp [State.tablesInvalid, State.safetyValid, hsafe]
  · unfold State.now
    rw [hd.tmb_eq]
    rfl
  · rw [hd.1 .pins rfl]
    rfl

/-- Settles O6: a power-on reset is `resetPart` over the store as the loss of supply leaves it, and a part that is held
takes no other command by the `Settled` of each. -/
theorem resetsBringThePartUp : Obligations.ResetsBringThePartUp := by
  refine ⟨fun s => ⟨s.powerOn, rfl, ?_⟩, fun s => ⟨_, rfl, ?_⟩, fun c s hheld hpower hreset hestop => ?_⟩
  · obtain ⟨hpend, hpins, hsafe, hop, hfleet, -⟩ := cutShort_keeps s
    obtain ⟨h1, h2, h3, h4, h5, h6, h7, h8, h9, h10, h11, h12, -⟩ := resetPart_loads s.cutShort false
    rw [hpend] at h1
    rw [hpins] at h2
    rw [hsafe] at h3 h6
    rw [hop] at h4 h8
    rw [hfleet] at h5
    refine ⟨h1, h2, h3, h4, h5, h6, h7, h8, h9, h10, resetPart_write _ _, h11, h12, fun hw => ?_, fun hnone => ?_⟩
    · have hcut : s.cutShort = s := by simp only [State.cutShort, hw]
      unfold State.powerOn
      rw [hcut]
      exact resetPart_broughtUpFrom s false
    · obtain ⟨b1, b2, b3, b4, b5⟩ := tryRestore_of_no_safety (s := s.cutShort) false (hsafe.trans hnone)
      obtain ⟨hp, ht, ho, hpermits⟩ := resetReport_blank b1 b2 b3 b4
      rw [b5, hpins] at ho
      refine ⟨hp, ht, ho, ?_, ?_⟩
      · refine hpermits.1.trans ?_
        rw [ho]
        split <;> rfl
      · refine hpermits.2.trans ?_
        rw [ho]
        split <;> simp_all
        all_goals rfl
  · obtain ⟨-, hpins, -, -, -, hw⟩ := cutShort_keeps s
    refine ⟨by rw [hpins]; rfl, by rw [cutShort_stc]; rfl, hw, fun m r h => ?_⟩
    have hcut : s.cutShort = (s.setStore { s.store with protection := .locked }).endWrite := by
      simp only [State.cutShort, h]
    rw [hcut]
    rfl
  · have hw : wakesHeld c = false := by
      cases c <;> simp_all [wakesHeld]
    obtain ⟨t, ht, hsettled⟩ := exec_settled c s hw
    rw [ht, hsettled.held hheld]

end Sys2Proof.Machine
end
section
/-!
PROOFS. RESTART (chapter 11).
-/

namespace Sys2Proof.Machine

/-! ## The ingress queue through a reset -/

@[simp] theorem placeReport_ingress (s : State) (f : EgressFrame) : (s.placeReport f).rng.ingress = s.rng.ingress := by
  unfold State.placeReport
  split <;> rfl

@[simp] theorem placeControl_ingress (s : State) (f : EgressFrame) : (s.placeControl f).rng.ingress = s.rng.ingress := by
  unfold State.placeControl
  split <;> rfl

@[simp] theorem placePoll_ingress (s : State) (f : EgressFrame) : (s.placePoll f).rng.ingress = s.rng.ingress := by
  unfold State.placePoll
  split <;> rfl

@[simp] theorem report_ingress (s : State) (k : EventKind) (c : Option Cause) (i : Option Nat) (d : List Int) :
    (s.report k c i d).rng.ingress = s.rng.ingress := by
  unfold State.report State.offerEvent
  dsimp only
  split
  · split
    · rfl
    · split
      · split
        · rfl
        · exact placeReport_ingress ..
      · rfl
  · rfl

theorem freeSlotIf_rng (s : State) (k : Nat) (x : SlotState) : (s.freeSlotIf k x).rng = s.rng := by
  unfold State.freeSlotIf
  split <;> rfl

@[simp] theorem withdrawRelease_ingress (s : State) (late : Bool) :
    (s.withdrawRelease late).rng.ingress = s.rng.ingress := by
  unfold State.withdrawRelease State.countWithdrawal
  split
  · split
    · split
      · rw [report_ingress]
        change (State.freeSlotIf _ _ _).rng.ingress = s.rng.ingress
        rw [freeSlotIf_rng]
        rfl
      · change (State.freeSlotIf _ _ _).rng.ingress = s.rng.ingress
        rw [freeSlotIf_rng]
        rfl
    · rfl
  · rfl

@[simp] theorem indicate_ingress (s : State) : s.indicate.rng.ingress = s.rng.ingress := by
  unfold State.indicate
  dsimp only
  split
  · rfl
  · split
    · exact placeControl_ingress ..
    · rfl

@[simp] theorem setCall_ingress (s : State) (call : CallState) (b : Bool) (r : CallReason) (d : Nat) :
    (s.setCall call b r d).rng.ingress = s.rng.ingress := by
  unfold State.setCall
  dsimp only
  split
  · rfl
  · split
    · exact indicate_ingress _
    · rw [report_ingress]
      exact indicate_ingress _

@[simp] theorem enterTalk_ingress (s : State) (b : Bool) (r : CallReason) (d : Nat) :
    (s.enterTalk b r d).rng.ingress = s.rng.ingress := by
  unfold State.enterTalk
  rw [setCall_ingress]
  rfl

@[simp] theorem sendCallFrame_ingress (s : State) (f : CallFrame) : (s.sendCallFrame f).rng.ingress = s.rng.ingress := by
  unfold State.sendCallFrame
  split
  · rfl
  · rw [report_ingress]
    rfl

@[simp] theorem judgeEmergency_ingress (s : State) : s.judgeEmergency.rng.ingress = s.rng.ingress := by
  unfold State.judgeEmergency
  repeat' split
  all_goals simp

@[simp] theorem tellOutput_ingress (s : State) : s.tellOutput.rng.ingress = s.rng.ingress := by
  unfold State.tellOutput
  rw [judgeEmergency_ingress]
  split
  · exact withdrawRelease_ingress ..
  · rfl

@[simp] theorem takeTogether_ingress (s : State) (xs : List CauseReport) :
    (s.takeTogether xs).rng.ingress = s.rng.ingress := by
  have hcond : ∀ (x : State) c, (x.takeCondition c).rng.ingress = x.rng.ingress := fun x c => by
    unfold State.takeCondition State.reportCauseState State.reportCauseCategory
    dsimp only
    split
    · exact report_ingress ..
    · split
      · exact report_ingress ..
      · rfl
  have hfold : ∀ (x : State), (xs.foldl State.takeCondition x).rng.ingress = x.rng.ingress := by
    induction xs with
    | nil => exact fun _ => rfl
    | cons c cs ih => exact fun x => (ih _).trans (hcond x c)
  unfold State.takeTogether State.formOutput
  dsimp only
  split
  · exact hfold s
  · rw [tellOutput_ingress, State.reportOutput, report_ingress]
    exact hfold s

@[simp] theorem takeReport_ingress (s : State) : s.takeReport.rng.ingress = s.rng.ingress := by
  have hfold : ∀ (xss : List (List CauseReport)) (x : State),
      (xss.foldl State.takeTogether x).rng.ingress = x.rng.ingress := fun xss => by
    induction xss with
    | nil => exact fun _ => rfl
    | cons c cs ih => exact fun x => (ih _).trans (takeTogether_ingress x c)
  unfold State.takeReport
  split
  · rfl
  · exact hfold _ _

@[simp] theorem judgeSwitch_ingress (s : State) : s.judgeSwitch.rng.ingress = s.rng.ingress := by
  unfold State.judgeSwitch State.commandSwitch State.advanceTrackTag
  repeat' split
  all_goals simp

@[simp] theorem judgeSegments_ingress (s : State) : s.judgeSegments.rng.ingress = s.rng.ingress := by
  unfold State.judgeSegments
  dsimp only
  split <;> simp

@[simp] theorem startTowers_ingress (s : State) : s.startTowers.rng.ingress = s.rng.ingress := by
  have hqueue : ∀ (x : State) i, (x.queueScan i).rng.ingress = x.rng.ingress := fun x i => by
    unfold State.queueScan State.offerScan
    split
    · split
      · split
        · exact placeControl_ingress ..
        · exact placePoll_ingress ..
      · rfl
    · rfl
  have hone : ∀ (x : State) i, (x.startTower i).rng.ingress = x.rng.ingress := fun x i => by
    unfold State.startTower
    split
    · exact hqueue x i
    · rfl
  have hfold : ∀ (is : List Nat) (x : State), (is.foldl State.startTower x).rng.ingress = x.rng.ingress := fun is => by
    induction is with
    | nil => exact fun _ => rfl
    | cons c cs ih => exact fun x => (ih _).trans (hone x c)
  exact hfold _ s

@[simp] theorem launchUpdate_ingress (s : State) : s.launchUpdate.rng.ingress = s.rng.ingress := by
  have hclose : ∀ x : State, x.closeWindow.rng = x.rng := fun x =>
    (State.closeWindow_does (m := 32784) (Does.refl _ x) rfl).rng_eq
  have hbegin : s.beginPassage.rng = s.rng := (State.beginPassage_does (m := 32784) (Does.refl _ s) rfl).rng_eq
  have hmove : ∀ (x : State) t, (x.movePhase t).rng.ingress = x.rng.ingress := fun x t => by
    unfold State.movePhase State.openWindow State.checkOccupied
    dsimp only
    repeat' split
    all_goals simp [State.setPassage, hclose]
  have htest : ∀ x : State, x.testRelease.rng.ingress = x.rng.ingress := fun x => by
    unfold State.testRelease State.makeRelease State.refuseRelease State.countFailure State.queueRelease
    dsimp only
    split
    · split
      · split
        · exact placeControl_ingress ..
        · split <;> rfl
      · rfl
    · rfl
  have hwatch : ∀ t (ws : List WatchEntry) (x : State), (x.checkWatch t ws).rng.ingress = x.rng.ingress := fun t ws => by
    induction ws with
    | nil => exact fun _ => rfl
    | cons w ws ih =>
      intro x
      unfold State.checkWatch
      rw [ih]
      split
      · unfold State.missAttach State.slotlessWatch
        simp only [report_ingress, raise_rng]
        exact congrArg Rng.ingress (freeSlotIf_rng ..)
      · rfl
  unfold State.launchUpdate
  split
  · rfl
  · dsimp only
    rw [hwatch, htest]
    unfold State.withdrawAtUpdate
    repeat' split
    all_goals simp [hmove, hbegin, State.noteRope, State.setPassage]

@[simp] theorem trackUpdate_ingress (s : State) : s.trackUpdate.rng.ingress = s.rng.ingress := by
  have hm : ∀ (x : State) c k i j y, (x.markOverdue c k i j y).rng.ingress = x.rng.ingress := fun x c k i j y => by
    unfold State.markOverdue
    rw [report_ingress, raise_rng]
    rfl
  unfold State.trackUpdate State.checkUphill State.checkDownhill
  dsimp only
  repeat' split
  all_goals simp only [hm]

@[simp] theorem quietUpdate_ingress (s : State) : s.quietUpdate.rng.ingress = s.rng.ingress := by
  unfold State.quietUpdate
  split
  · rfl
  · rw [trackUpdate_ingress, launchUpdate_ingress]
    rfl

theorem reportRestored_ingress (s : State) : s.reportRestored.rng.ingress = s.rng.ingress := by
  unfold State.reportRestored
  split
  · rfl
  · exact report_ingress ..

theorem restorePark_ingress (s : State) (p : ParkRecord) : (s.restorePark p).rng.ingress = s.rng.ingress := by
  obtain ⟨rs, hpl, -⟩ := placesRestored_eq s p
  have hd : (s.placesRestored p).restoreDoors.rng = (s.placesRestored p).rng :=
    (State.restoreDoors_does (m := 2048) (Does.refl _ _) rfl).rng_eq
  have hr : (s.placesRestored p).rng = s.rng := by rw [hpl]; rfl
  have hu : s.restorePark p = (s.placesRestored p).restoreDoors.reportRestored.judgeSegments.judgeSwitch.quietUpdate := rfl
  rw [hu, quietUpdate_ingress, judgeSwitch_ingress, judgeSegments_ingress, reportRestored_ingress, hd, hr]

theorem resetReport_ingress (s : State) : s.resetReport.rng.ingress = s.rng.ingress := by
  unfold State.resetReport
  dsimp only
  rw [takeReport_ingress, State.setStc_rng, takeTogether_ingress]
  simp [State.clearGathered]

theorem blocksUp_ingress (s : State) (locked : Bool) : (s.blocksUp locked).rng.ingress = [] := by
  unfold State.blocksUp State.startWatching
  split
  · rw [quietUpdate_ingress, startTowers_ingress]
    rfl
  · rfl

/-- A reset comes up with nothing received. -/
theorem resetPart_ingress (s : State) (locked : Bool) : (s.resetPart locked).rng.ingress = [] := by
  have hu : s.resetPart locked = (s.blocksUp locked).tryRestore.resetReport := rfl
  rw [hu, resetReport_ingress, ← blocksUp_ingress s locked]
  unfold State.tryRestore
  split
  · rfl
  · split
    · exact restorePark_ingress ..
    · exact report_ingress ..

/-! ## RESTART (R187, R192) -/

/-- What a RESTART brings up, whenever it begins. -/
theorem restartPart_bringsUp {s : State} (h : s.pins.held = false) :
    let u := s.restartPart
    u.tst.restart = none ∧ u.tst.lockedToPowerCycle = s.tst.lockedToPowerCycle ∧ u.tst.safety = s.store.safety ∧
      u.tst.operations = s.store.operations ∧ u.tst.fleetValid = s.store.fleet.isSome ∧ u.rng.ingress = [] ∧
      u.pins = s.pins ∧ u.broughtUpFrom s.store ∧
      u.tmb = { counter := 0, selection := .reference, lastWindow := none, switches := 0 } := by
  obtain ⟨-, hpins, hs, ho, hf, -, -, -, -, hl, hr, ht, -⟩ := resetPart_loads s s.tst.lockedToPowerCycle
  have hsame : s.pins = { s.pins with held := false } := by rw [← h]
  exact ⟨hr, hl, hs, ho, hf, resetPart_ingress _ _, hpins.trans hsame.symm, resetPart_broughtUpFrom _ _, ht⟩

/-- A reset is not followed by the end of a command. -/
theorem settle_of_reset {s b : State} (hb : b.tst.restart.isSome = true) (h : s.tst.restart = none) : s.settle b = s := by
  unfold State.settle
  rw [if_pos (by simp [wasReset, hb, h])]

/-- A free slot that takes the reply of a RESTART begins the reset (R192). -/
theorem passSlot_of_restartReply {s : State} {n : Nat} {f : EgressFrame} {q : List EgressFrame}
    (hpurge : s.rng.purge.getD n false = false) (hrec : s.rng.slotRecords.getD n none = none) (hc : s.rng.control = [])
    (hv : s.rng.voice = []) (hp : s.rng.poll = []) (hr : s.rng.report = f :: q) (hk : f.kind = .mgmtReply)
    (hf : f.restartReply = true) :
    s.passSlot n 0 0 [] =
      (((s.setRng { s.rng with report := q }).setSlotRecord n (some f.mask)).restartPart).letGo (s.insertedSlot n f) := by
  have hnext : s.nextEgress = some (f, { s.rng with report := q }) := by
    unfold State.nextEgress
    simp [hc, hv, hp, hr]
  have hfull : slotFull 0 = false := by decide
  unfold State.passSlot
  simp only [hpurge, hrec, hfull, State.recordTaken, Bool.false_eq_true, if_false, Bool.not_false, if_true]
  unfold State.fillSlot
  rw [hnext]
  simp only [State.reportInsertion, hk, hf, if_true]

/-- A RESTART taken, and done at once where its reply finds no room (R192). -/
theorem exec_restart_running {s : State} {e : IngressEntry} {rest : List IngressEntry} {key : KeyPosition}
    (h : s.Requests .restart e rest) :
    exec (.restart key) s =
      .next
        (if ((takeRestart e.frame ((s.takeHead rest).setKey key)).settle s).restartRefused then
          ((takeRestart e.frame ((s.takeHead rest).setKey key)).settle s).restartPart
        else (takeRestart e.frame ((s.takeHead rest).setKey key)).settle s) := by
  have hm : s.tst.restart.isNone = true := by simp [h.2.1]
  rw [show exec (.restart key) s = execRestart key s from rfl]
  unfold execRestart
  simp only [manage_running h, hm, Bool.true_and]

theorem mem_placeReport {s : State} {f : EgressFrame} (h : s.rng.report.length < 32) : f ∈ (s.placeReport f).rng.report := by
  simp [State.placeReport, h, State.setReport]

theorem placeReport_tst (s : State) (f : EgressFrame) : (s.placeReport f).tst = s.tst := by
  unfold State.placeReport
  split <;> rfl

/-- Settles O59: the request is judged by motion and key, and each of the two ends of the wait is a `restartPart`. -/
theorem restartWaitsForItsReply : Obligations.RestartWaitsForItsReply := by
  refine ⟨fun s e rest key hreq hroom => ?_, fun s c n f q hheld hrestart hcase => ?_⟩
  · have hm : s.tst.restart = none := hreq.2.1
    have hexec := exec_restart_running (key := key) hreq
    generalize hx : (s.takeHead rest).setKey key = x at hexec
    have hxm : x.rpu.motion = s.rpu.motion := by simp [← hx, State.setKey]
    have hxk : x.pins.key = key := by rw [← hx, setKey_key]
    have hxr : x.tst = s.tst := by rw [← hx, setKey_tst, takeHead_tst]
    have hxt : x.tmb = s.tmb := by simp [← hx, State.setKey]
    have hxroom : x.rng.report.length < 32 := by simpa [← hx] using hroom
    have htmb : ((takeRestart e.frame x).settle s).tmb = s.tmb := by
      rw [settle_tmb, (takeRestart_does (m := 136380416) e.frame (Does.refl _ x) rfl).tmb_eq, hxt]
    have hrefused : ∀ st, takeRestart e.frame x = x.reply e.frame.replyTo st [] →
        exec (.restart key) s = .next ((takeRestart e.frame x).settle s) ∧
          ((takeRestart e.frame x).settle s).Replied e.frame st [] ∧
          ((takeRestart e.frame x).settle s).tst.restart = none := fun st h => by
      have hnone : ((takeRestart e.frame x).settle s).tst.restart = none := by
        rw [settle_restart, h]
        simp [hxr, hm]
      have hgo : ((takeRestart e.frame x).settle s).restartRefused = false := by
        unfold State.restartRefused
        rw [hnone]
        rfl
      refine ⟨by rw [hexec, hgo]; rfl, ?_, hnone⟩
      rw [h]
      exact reply_replied _ _ _ _ hxroom
    by_cases hmot : s.rpu.motion = .stopped
    · by_cases hkey : key = .maint
      · have htake : takeRestart e.frame x =
            (x.setTst { x.tst with restart := some (x.after 100) }).placeReport (mgmtReply e.frame.replyTo .ok [] true) := by
          unfold takeRestart
          rw [if_neg (by rw [hxm]; simp [hmot]), if_neg (by rw [hxk]; simp [hkey])]
        have hmem : mgmtReply e.frame.replyTo .ok [] true ∈ ((takeRestart e.frame x).settle s).rng.report := by
          refine (settle_report _ s).mem ?_
          rw [htake]
          exact mem_placeReport hxroom
        have hsome : ((takeRestart e.frame x).settle s).tst.restart = some (s.after 100) := by
          rw [settle_restart, htake, placeReport_tst]
          simp [State.after, State.now, hxt]
        refine ⟨_, ?_, htmb, fun h => absurd hmot h, fun _ h => absurd hkey h, fun _ _ => ⟨hsome, hmem⟩⟩
        rw [hexec]
        have hany : ((takeRestart e.frame x).settle s).rng.report.any EgressFrame.restartReply = true :=
          List.any_eq_true.mpr ⟨_, hmem, rfl⟩
        simp [State.restartRefused, hany]
      · obtain ⟨hu, hrep, hnone⟩ := hrefused .refusedKey (by
          unfold takeRestart
          rw [if_neg (by rw [hxm]; simp [hmot]), if_pos (by rw [hxk]; exact hkey)])
        exact ⟨_, hu, htmb, fun h => absurd hmot h, fun _ _ => ⟨hrep, hnone⟩, fun _ h => absurd h hkey⟩
    · obtain ⟨hu, hrep, hnone⟩ := hrefused .refusedMotion (by
        unfold takeRestart
        rw [if_pos (by rw [hxm]; exact hmot)])
      exact ⟨_, hu, htmb, fun _ => ⟨hrep, hnone⟩, fun h => absurd h hmot, fun h => absurd h hmot⟩
  · rcases hcase with ⟨rfl, hexp⟩ | ⟨rfl, hpurge, hrec, hc, hv, hp, hr, hk, hf⟩
    · obtain ⟨h1, h2⟩ := restartPart_bringsUp hheld
      refine ⟨s.restartPart, ?_, h1, h2⟩
      rw [show exec .restartOfferTimeout s = execRestartOfferTimeout s from rfl, execRestartOfferTimeout,
        expiry_running ⟨hheld, hexp⟩, settle_of_reset hrestart h1]
    · generalize hx : (s.setRng { s.rng with report := q }).setSlotRecord n (some f.mask) = x
      have hxs : x.store = s.store := hx ▸ rfl
      have hxp : x.pins = s.pins := hx ▸ rfl
      have hxl : x.tst = s.tst := hx ▸ rfl
      obtain ⟨h1, h2⟩ := restartPart_bringsUp (s := x) (by rw [hxp, hheld])
      rw [hxs, hxp, hxl] at h2
      refine ⟨x.restartPart.letGo (s.insertedSlot n f), ?_, h1, h2⟩
      rw [show exec (.ringSlotPass n 0 0 []) s = execRingSlotPass n 0 0 [] s from rfl, execRingSlotPass, whole_running hheld,
        passSlot_of_restartReply hpurge hrec hc hv hp hr hk hf, hx,
        settle_of_reset (s := x.restartPart.letGo (s.insertedSlot n f)) hrestart h1]

end Sys2Proof.Machine
end
section
/-!
PROOFS. Event reports through the end of a command, the timebase window, and the writes of the store that change no table
in force: COMMIT's gates, protection and the park record (chapter 11).
-/

namespace Sys2Proof.Machine

/-! ## Event reports that stand stay so (R193) -/

/-- From one state to another the EVENT frames keep their mask, and no event report is lost while there is one. -/
structure CarriesReports (s t : State) : Prop where
  safety : t.tst.safety = s.tst.safety
  provisional : t.rng.provisional = s.rng.provisional
  reported : s.eventMask ≠ 0 → ∀ k d, s.Reported k d → t.Reported k d

theorem CarriesReports.mask {s t : State} (h : CarriesReports s t) : t.eventMask = s.eventMask :=
  eventMask_congr h.safety h.provisional

theorem CarriesReports.trans {s t u : State} (h : CarriesReports s t) (h' : CarriesReports t u) : CarriesReports s u :=
  ⟨h'.safety.trans h.safety, h'.provisional.trans h.provisional, fun hm k d hr =>
    h'.reported (h.mask ▸ hm) k d (h.reported hm k d hr)⟩

theorem carriesReports_of_eq {s t : State} (hs : t.tst.safety = s.tst.safety) (hp : t.rng.provisional = s.rng.provisional)
    (he : t.tst.events = s.tst.events) (hr : t.rng.report = s.rng.report) : CarriesReports s t := by
  refine ⟨hs, hp, fun _ k d h => ?_⟩
  unfold State.Reported
  rw [he, hr, eventMask_congr hs hp]
  exact h

theorem offerEvent_carries (s : State) : CarriesReports s s.offerEvent := by
  have hs : s.offerEvent.tst.safety = s.tst.safety := by
    unfold State.offerEvent State.placeReport
    dsimp only
    repeat' split
    all_goals rfl
  have hp : s.offerEvent.rng.provisional = s.rng.provisional := by
    unfold State.offerEvent State.placeReport
    dsimp only
    repeat' split
    all_goals rfl
  refine ⟨hs, hp, fun hm k d h => ?_⟩
  obtain ⟨x, hk, hd, hin⟩ := h
  rcases hin with hx | hx
  · have := offerEvent_reported hx hm
    rwa [hk, hd] at this
  · refine ⟨x, hk, hd, .inr ?_⟩
    rw [eventMask_congr hs hp]
    unfold State.offerEvent
    dsimp only
    split
    · exact hx
    · split
      · unfold State.placeReport
        split
        · exact List.mem_append_left _ hx
        · exact hx
      · exact hx

theorem report_carries (s : State) (k : EventKind) (c : Option Cause) (i : Option Nat) (d : List Int) :
    CarriesReports s (s.report k c i d) := by
  unfold State.report
  dsimp only
  split
  · generalize hy : s.setTst _ = y
    have hsy : CarriesReports s y := by
      rw [← hy]
      refine ⟨rfl, rfl, fun _ k' d' h => ?_⟩
      obtain ⟨x, hk, hd, hin⟩ := h
      exact ⟨x, hk, hd, hin.imp (List.mem_append_left _) id⟩
    exact hsy.trans (offerEvent_carries y)
  · exact carriesReports_of_eq rfl rfl rfl rfl

theorem placeControl_carries (s : State) (f : EgressFrame) : CarriesReports s (s.placeControl f) := by
  unfold State.placeControl
  split <;> exact carriesReports_of_eq rfl rfl rfl rfl

theorem withdrawRelease_carries (s : State) (late : Bool) : CarriesReports s (s.withdrawRelease late) := by
  have h : ∀ (p : PendingRelease), CarriesReports s
      (((s.withdrawControl .gateRelease p.tag).freeSlotIf p.slot (.releasePending p.cabin)).setPendingRelease none) := fun p => by
    unfold State.freeSlotIf
    split <;> exact carriesReports_of_eq rfl rfl rfl rfl
  unfold State.withdrawRelease State.countWithdrawal
  split
  · rename_i p _
    split
    · split
      · refine ((h p).trans ?_).trans (report_carries ..)
        exact carriesReports_of_eq rfl rfl rfl rfl
      · exact (h p).trans (carriesReports_of_eq rfl rfl rfl rfl)
    · exact carriesReports_of_eq rfl rfl rfl rfl
  · exact carriesReports_of_eq rfl rfl rfl rfl

theorem indicate_carries (s : State) : CarriesReports s s.indicate := by
  unfold State.indicate
  dsimp only
  split
  · exact carriesReports_of_eq rfl rfl rfl rfl
  · split
    · exact placeControl_carries ..
    · exact carriesReports_of_eq rfl rfl rfl rfl

theorem setCall_carries (s : State) (call : CallState) (b : Bool) (r : CallReason) (d : Nat) :
    CarriesReports s (s.setCall call b r d) := by
  have h : CarriesReports s (s.setIcm { s.icm with call := call, emergencyOpen := b }).indicate :=
    CarriesReports.trans (t := s.setIcm { s.icm with call := call, emergencyOpen := b })
      (carriesReports_of_eq rfl rfl rfl rfl) (indicate_carries _)
  unfold State.setCall
  dsimp only
  split
  · exact carriesReports_of_eq rfl rfl rfl rfl
  · split
    · exact h
    · exact h.trans (report_carries ..)

theorem enterTalk_carries (s : State) (b : Bool) (r : CallReason) (d : Nat) : CarriesReports s (s.enterTalk b r d) :=
  CarriesReports.trans (t := (s.setIcm { s.icm with callTimer := none, talkEntry := s.now }).startJitter)
    (carriesReports_of_eq rfl rfl rfl rfl) (setCall_carries ..)

theorem sendCallFrame_carries (s : State) (f : CallFrame) : CarriesReports s (s.sendCallFrame f) := by
  unfold State.sendCallFrame
  split
  · exact carriesReports_of_eq rfl rfl rfl rfl
  · generalize hy : s.setIcm _ = y
    have hsy : CarriesReports s y := hy ▸ carriesReports_of_eq rfl rfl rfl rfl
    exact hsy.trans (report_carries y ..)

theorem judgeEmergency_carries (s : State) : CarriesReports s s.judgeEmergency := by
  unfold State.judgeEmergency
  repeat' split
  · exact carriesReports_of_eq rfl rfl rfl rfl
  · exact setCall_carries ..
  · exact (enterTalk_carries ..).trans (sendCallFrame_carries ..)
  · exact enterTalk_carries ..
  · exact setCall_carries ..
  · exact carriesReports_of_eq rfl rfl rfl rfl

theorem takeCondition_carries (s : State) (x : CauseReport) : CarriesReports s (s.takeCondition x) := by
  have h : ∀ r, CarriesReports s (s.setCause x.cause r) := fun r => carriesReports_of_eq rfl rfl rfl rfl
  unfold State.takeCondition
  dsimp only
  split
  · exact (h _).trans (report_carries ..)
  · split
    · exact (h _).trans (report_carries ..)
    · exact h _

theorem formOutput_carries (s : State) (rs : List Riser) : CarriesReports s (s.formOutput rs) := by
  have htell : ∀ x : State, CarriesReports x x.tellOutput := fun x => by
    unfold State.tellOutput
    split
    · exact (withdrawRelease_carries ..).trans (judgeEmergency_carries _)
    · exact judgeEmergency_carries _
  unfold State.formOutput
  dsimp only
  split
  · exact carriesReports_of_eq rfl rfl rfl rfl
  · refine CarriesReports.trans (CarriesReports.trans (t := s.setOutput _ _) ?_ (report_carries ..)) (htell _)
    exact carriesReports_of_eq rfl rfl rfl rfl

theorem takeTogether_carries (s : State) (xs : List CauseReport) : CarriesReports s (s.takeTogether xs) := by
  have h : ∀ x : State, CarriesReports x (xs.foldl State.takeCondition x) := by
    induction xs with
    | nil => exact fun _ => carriesReports_of_eq rfl rfl rfl rfl
    | cons c cs ih => exact fun x => (takeCondition_carries x c).trans (ih _)
  exact (h s).trans (formOutput_carries _ _)

/-- STC's report loses no event report. -/
theorem takeReport_carries (s : State) : CarriesReports s s.takeReport := by
  have h : ∀ (xss : List (List CauseReport)) (x : State), CarriesReports x (xss.foldl State.takeTogether x) := fun xss => by
    induction xss with
    | nil => exact fun _ => carriesReports_of_eq rfl rfl rfl rfl
    | cons c cs ih => exact fun x => (takeTogether_carries x c).trans (ih _)
  unfold State.takeReport
  split
  · exact carriesReports_of_eq rfl rfl rfl rfl
  · exact CarriesReports.trans (t := s.clearGathered) (carriesReports_of_eq rfl rfl rfl rfl) (h _ _)

/-- The end of a command loses no event report. -/
theorem settle_carries (s b : State) : CarriesReports s (s.settle b) := by
  have h : ∀ x : State, CarriesReports x (((x.transmit).staleIf b).countChanges b) := fun x => by
    refine carriesReports_of_eq (by simp) (by simp) ?_ (by simp)
    calc (((x.transmit).staleIf b).countChanges b).tst.events
        = (x.transmit.staleIf b).tst.events := rfl
      _ = x.transmit.tst.events := congrArg Prod.fst (staleIf_part_keeps x.transmit b .events rfl)
      _ = x.tst.events := congrArg Prod.fst (transmit_part_keeps x .events rfl)
  unfold State.settle
  split
  · exact carriesReports_of_eq rfl rfl rfl rfl
  · exact (takeReport_carries s).trans (h _)

/-! ## The timebase window (R194) -/

/-- Settles O52: a good window and one on BACKUP set the count alone, and any other is `switchToBackup`. -/
theorem timebaseWindowIsJudged : Obligations.TimebaseWindowIsJudged := by
  intro s edges hheld hg
  have hexec : exec (.timebaseWindowEnd edges) s = .next ((s.takeWindow edges).settle s) := by
    rw [show exec (.timebaseWindowEnd edges) s = execTimebaseWindowEnd edges s from rfl, execTimebaseWindowEnd,
      whole_running hheld]
  refine ⟨fun h => ⟨_, hexec, ?_⟩, fun h href hrec hroom hmask => ⟨_, hexec, ?_⟩⟩
  · have hkeep : s.takeWindow edges = s.setTmb { s.tmb with lastWindow := some edges } := by
      unfold State.takeWindow
      refine if_neg ?_
      rcases h with h | h
      · simp [goodWindow, h]
      · simp [h]
    have hq : (s.setTmb { s.tmb with lastWindow := some edges }).quiet := hg
    rw [hkeep]
    exact ⟨by simp, settle_keeps_of_quiet hq (by simp [wasReset]) .stc rfl⟩
  · have hbad : (s.tmb.selection = .reference && !goodWindow edges) = true := by
      simp only [href, goodWindow]
      simp
      omega
    have htake : s.takeWindow edges = (s.setTmb { s.tmb with lastWindow := some edges }).switchToBackup edges := by
      unfold State.takeWindow
      exact if_pos hbad
    rw [htake]
    generalize hx : (s.setTmb { s.tmb with lastWindow := some edges }).switchToBackup edges = x
    have hxt : x.tmb = { s.tmb with lastWindow := some edges, selection := .backup, switches := satInc s.tmb.switches } := by
      simp [← hx, State.switchToBackup]
    have hxs : x.stc = { s.stc with gathered := [{ cause := .timebaseDegraded, change := .momentary none }] } := by
      simp [← hx, State.switchToBackup, State.raise, State.gather, hg]
    have hxr : wasReset s x = false := by simp [wasReset, ← hx, State.switchToBackup]
    have hrep : x.Reported .timebaseBackup [(edges : Int)] := by
      rw [← hx]
      refine report_reported _ _ _ _ hroom ?_
      rw [eventMask_congr (s := s) (by simp) (by simp)]
      exact hmask
    have hxm : x.eventMask = s.eventMask := by
      rw [← hx]
      exact (report_carries ..).mask.trans (eventMask_congr rfl rfl)
    have hc := settle_cause (s := x) (b := s) (by rw [hxs]; exact hrec) (by rw [hxs]) hxr .timebaseDegraded
    rw [if_pos rfl] at hc
    have hcause : x.cause .timebaseDegraded = s.cause .timebaseDegraded := by simp [State.cause, hxs]
    refine ⟨by rw [settle_tmb, hxt], by rw [hc]; rfl, by rw [hc, hcause]; rfl, ?_⟩
    exact (settle_carries x s).reported (hxm ▸ hmask) _ _ hrep

/-! ## COMMIT's gates (R187, R188) -/

@[simp] theorem takeHead_pins (s : State) (rest : List IngressEntry) : (s.takeHead rest).pins = s.pins := by
  obtain ⟨r, h⟩ := takeHead_eq_setRng s rest
  rw [h]
  rfl

/-- A store write that a command starts stands at its end. -/
theorem settle_write_of_before {s b : State} (h : b.tst.write = none) : (s.settle b).tst.write = s.tst.write := by
  have hst : ∀ x : State, x.staleIf b = x := fun x => by
    unfold State.staleIf
    rw [h]
  unfold State.settle
  split
  · rfl
  · rw [countChanges_write, hst]
    simp

theorem takeCommit_of_refused {s : State} {f : RingFrame} {g : TableGroup} {x : Status}
    (hg : TableGroup.ofCode (f.word 1).toNat = some g) (hf : g ≠ .fleet) (h : s.commitGate g = some x) :
    takeCommit f s = s.reply f.replyTo x [] := by
  unfold takeCommit
  rw [hg]
  cases g <;> simp_all

theorem takeCommit_of_passed {s : State} {f : RingFrame} {g : TableGroup}
    (hg : TableGroup.ofCode (f.word 1).toNat = some g) (hf : g ≠ .fleet) (h : s.commitGate g = none) :
    takeCommit f s = if s.commitIdle g then s.reply f.replyTo .ok [] else s.beginCommit g f.replyTo := by
  unfold takeCommit
  rw [hg]
  cases g <;> simp_all

/-- The gate of a commit, in the terms of R187 and R188. -/
theorem commitGate_eq (s : State) (g : TableGroup) (hf : g ≠ .fleet) :
    s.commitGate g =
      if s.store.protection = .locked ∨ s.tst.lockedToPowerCycle = true then some .refusedLocked
      else if s.pins.key ≠ .maint then some .refusedKey
      else if g = .safety ∧ s.tst.safety.isSome ∧ s.rpu.motion ≠ .stopped then some .refusedMotion
      else if g = .safety then
        ([1, 2, 3, 4, 5, 6, 7].find? fun n => !s.tst.stageSafety.passes n).map Status.inconsistent
      else none := by
  unfold State.commitGate State.commitBarred State.ropeBars State.failedCheck State.safetyValid
  cases g
  case fleet => exact absurd rfl hf
  all_goals simp [SafetyTables.firstFailure]

/-- Whether a commit has nothing to write (R189). -/
theorem commitIdle_iff (s : State) {g : TableGroup} (hf : g ≠ .fleet) :
    s.commitIdle g = true ↔
      (g = .safety ∧ s.tst.safety.isSome ∧ s.tst.safetyChanged = false) ∨
        (g = .operations ∧ s.tst.operations.isSome ∧ s.tst.operationsChanged = false) := by
  cases g
  case fleet => exact absurd rfl hf
  all_goals simp [State.commitIdle, State.safetyValid, State.operationsValid]

/-- What a commit changes beside its reply and its write: nothing staged, and of the pins the key as read. -/
theorem takeCommit_keeps (f : RingFrame) (s : State) :
    (takeCommit f s).pins = s.pins ∧ (takeCommit f s).tst.stageSafety = s.tst.stageSafety ∧
      (takeCommit f s).tst.stageOperations = s.tst.stageOperations := by
  have h := takeCommit_does (m := 151584768) f (Does.refl _ s) rfl
  exact ⟨h.1 .pins rfl, (h.1 .staging rfl).1, (h.1 .staging rfl).2.2.1⟩

/-- Settles O54: the gate is `commitGate_eq`, and each way out of `takeCommit` a reply or the start of the write. -/
theorem commitPassesItsGates : Obligations.CommitPassesItsGates := by
  intro s e rest key hreq hroom hg g refusal idle
  have hexec : exec (.commit key) s = .next ((takeCommit e.frame ((s.takeHead rest).setKey key)).settle s) := by
    rw [show exec (.commit key) s = execCommit key s from rfl, execCommit, manage_running hreq]
  refine ⟨_, hexec, ?_⟩
  have hw : s.tst.write = none := hreq.2.2
  generalize hx : (s.takeHead rest).setKey key = x
  have hxt : x.tst = s.tst := by rw [← hx, setKey_tst, takeHead_tst]
  have hxs : x.store = s.store := by rw [← hx, setKey_store, takeHead_store]
  have hxp : x.pins = { s.pins with key := key } := by simp [← hx, State.setKey]
  have hxm : x.rpu.motion = s.rpu.motion := by simp [← hx, State.setKey]
  have hxroom : x.rng.report.length < 32 := by simpa [← hx] using hroom
  obtain ⟨hpins, hss, hso⟩ := takeCommit_keeps e.frame x
  refine ⟨by rw [settle_pins, hpins, hxp], by rw [settle_stageSafety, hss, hxt], by rw [settle_stageOperations, hso, hxt],
    ?_⟩
  have hreplied : ∀ st, takeCommit e.frame x = x.reply e.frame.replyTo st [] →
      ((takeCommit e.frame x).settle s).Replied e.frame st [] ∧ ((takeCommit e.frame x).settle s).tst.write = none ∧
        ((takeCommit e.frame x).settle s).store = s.store := fun st h => by
    rw [h]
    exact ⟨reply_replied _ _ _ _ hxroom, settle_write_of_none _ (by simpa [hxt] using hw), by simp [hxs]⟩
  by_cases hnone : g = none ∨ g = some .fleet
  · have href : refusal = some .badEntry := if_pos hnone
    rw [href]
    have htake : takeCommit e.frame x = x.reply e.frame.replyTo .badEntry [] := by
      unfold takeCommit
      rcases hnone with h | h <;> rw [show TableGroup.ofCode (e.frame.word 1).toNat = _ from h]
    exact ⟨fun st h => Option.some.inj h ▸ hreplied _ htake, fun h => absurd h (by simp), fun h => absurd h (by simp)⟩
  · obtain ⟨group, hgroup⟩ : ∃ group, g = some group := Option.ne_none_iff_exists'.mp fun h => hnone (.inl h)
    have hfleet : group ≠ .fleet := fun h => hnone (.inr (h ▸ hgroup))
    have hgate : x.commitGate group = refusal := by
      rw [commitGate_eq x group hfleet, hxs, hxt, hxp, hxm]
      simp only [refusal, if_neg hnone, hgroup, Option.some.injEq]
    have hidle : x.commitIdle group = true ↔ idle := by
      rw [commitIdle_iff x hfleet, hxt]
      simp only [idle, hgroup, Option.some.injEq]
    refine ⟨fun st h => hreplied _ (takeCommit_of_refused hgroup hfleet (hgate.trans h)), fun h hi => ?_,
      fun h hi group' hgroup' => ?_⟩
    · refine hreplied _ ?_
      rw [takeCommit_of_passed hgroup hfleet (hgate.trans h), if_pos (hidle.mpr hi)]
    · obtain rfl : group = group' := Option.some.inj (hgroup.symm.trans hgroup')
      rw [takeCommit_of_passed hgroup hfleet (hgate.trans h), if_neg (fun hc => hi (hidle.mp hc)), settle_write_of_before hw,
        settle_store]
      refine ⟨rfl, fun hs => ?_, fun ho => ?_⟩
      · subst hs
        simp [State.beginCommit, State.beginWrite, hxs]
      · subst ho
        simp [State.beginCommit, State.beginWrite, hxs]

/-! ## Writes that complete (R189) -/

/-- A completion of the write in flight, and the invalidation that follows it (R189). -/
theorem complete_running {s : State} {w : StoreWrite} {act : WriteKind → Option (Option ReplyTo → State → State)}
    {effect : Option ReplyTo → State → State} (hheld : s.pins.held = false) (hw : s.tst.write = some w)
    (ha : act w.kind = some effect) :
    complete act s = ((effect w.reply s.endWrite).followQueued).settle s := by
  unfold complete
  simp only [hw, ha, whole_running hheld]

theorem followQueued_of_not {s : State} (h : s.tst.invalidationQueued = false) : s.followQueued = s := by
  simp [State.followQueued, h]

/-- The end of a command leaves the kind of a write in flight, but that a fresh park snapshot may become stale. -/
theorem settle_write (s b : State) :
    (s.settle b).tst.write = s.tst.write ∨
      ∃ p r, s.tst.write = some { kind := .park p false, reply := r } := by
  have hst : ∀ x : State, (x.staleIf b).tst.write = x.tst.write ∨
      ∃ p r, x.tst.write = some { kind := .park p false, reply := r } := fun x => by
    unfold State.staleIf
    split
    · rename_i a w ha hw
      split
      · rename_i p hk
        exact .inr ⟨p, w.reply, by rw [hw, ← hk]⟩
      · exact .inl rfl
    · exact .inl rfl
  unfold State.settle
  split
  · exact .inl rfl
  · have h := hst s.takeReport.transmit
    rw [countChanges_write]
    simpa using h

theorem settle_invalidationQueued (s b : State) : (s.settle b).tst.invalidationQueued = s.tst.invalidationQueued := by
  have hst : ∀ x : State, (x.staleIf b).tst.invalidationQueued = x.tst.invalidationQueued := fun x => by
    unfold State.staleIf
    repeat' split
    all_goals rfl
  unfold State.settle
  split
  · rfl
  · rw [countChanges_invalidationQueued, hst]
    simp

/-! ## Protection (R187) -/

/-- Settles O57: the table of SET_PROTECTION by the mode of the request, and the completion of its write. -/
theorem protectionIsWritten : Obligations.ProtectionIsWritten := by
  refine ⟨fun s e rest key hreq hroom hg => ?_, fun s m r hheld hw hq hroom => ?_⟩
  · have hexec : exec (.setProtection key) s =
        .next ((takeProtection e.frame ((s.takeHead rest).setKey key)).settle s) := by
      rw [show exec (.setProtection key) s = execSetProtection key s from rfl, execSetProtection, manage_running hreq]
    have hw : s.tst.write = none := hreq.2.2
    generalize hx : (s.takeHead rest).setKey key = x at hexec
    have hxt : x.tst = s.tst := by rw [← hx, setKey_tst, takeHead_tst]
    have hxs : x.store = s.store := by rw [← hx, setKey_store, takeHead_store]
    have hxk : x.pins.key = key := by rw [← hx, setKey_key]
    have hxroom : x.rng.report.length < 32 := by simpa [← hx] using hroom
    have hreply : ∀ y st, y.rng = x.rng → takeProtection e.frame x = State.reply y e.frame.replyTo st [] →
        ((takeProtection e.frame x).settle s).Replied e.frame st [] ∧
          ((takeProtection e.frame x).settle s).tst.write = y.tst.write := fun y st hy h => by
      rw [h]
      exact ⟨reply_replied _ _ _ _ (by rw [hy]; exact hxroom), by rw [settle_write_of_before hw]; simp⟩
    have hstore : (takeProtection e.frame x).store = x.store := by
      unfold takeProtection State.beginWrite
      repeat' split
      all_goals simp
    refine ⟨_, hexec, by rw [settle_store, hstore, hxs], fun h1 => ?_, fun h0 => ?_, fun h2 => ?_⟩
    · have htake : takeProtection e.frame x = x.beginWrite (.protection .locked) (some e.frame.replyTo) := by
        simp only [takeProtection, h1]
      rw [htake, settle_write_of_before hw, settle_lockedToPowerCycle]
      exact ⟨rfl, by simp [State.beginWrite, hxt]⟩
    · have htake : takeProtection e.frame x =
          if s.tst.lockedToPowerCycle then x.reply e.frame.replyTo .refusedLocked []
          else if key ≠ .maint then x.reply e.frame.replyTo .refusedKey []
          else x.beginWrite (.protection .unlocked) (some e.frame.replyTo) := by
        simp only [takeProtection, h0, hxt, hxk]
      refine ⟨?_, fun hl => ?_, fun hl hk => ?_, fun hl hk => ?_⟩
      · rw [settle_lockedToPowerCycle, htake]
        split_ifs <;> simp [State.beginWrite, hxt]
      · rw [if_pos hl] at htake
        obtain ⟨hr, hwr⟩ := hreply x _ rfl htake
        exact ⟨hr, hwr.trans (by rw [hxt, hw])⟩
      · rw [if_neg (by simp [hl]), if_pos hk] at htake
        obtain ⟨hr, hwr⟩ := hreply x _ rfl htake
        exact ⟨hr, hwr.trans (by rw [hxt, hw])⟩
      · rw [if_neg (by simp [hl]), if_neg (by simp [hk])] at htake
        rw [htake, settle_write_of_before hw]
        rfl
    · have htake : takeProtection e.frame x =
          (x.setTst { x.tst with lockedToPowerCycle := true }).reply e.frame.replyTo .ok [] := by
        simp only [takeProtection, h2]
      obtain ⟨hr, hwr⟩ := hreply (x.setTst { x.tst with lockedToPowerCycle := true }) _ rfl htake
      refine ⟨hr, ?_, hwr.trans (by simp [hxt, hw])⟩
      rw [settle_lockedToPowerCycle, htake]
      simp
  · have hexec : exec .protectionWriteComplete s =
        .next ((((s.endWrite).completeProtection m (some r)).followQueued).settle s) := by
      rw [show exec .protectionWriteComplete s = execProtectionWriteComplete s from rfl, execProtectionWriteComplete,
        complete_running hheld hw rfl]
    rw [followQueued_of_not (by simpa [State.completeProtection, State.replyIf, State.endWrite] using hq)] at hexec
    refine ⟨_, hexec, ?_, ?_, ?_⟩
    · simp [State.completeProtection, State.replyIf, State.endWrite]
    · exact settle_write_of_none _ (by simp [State.completeProtection, State.replyIf, State.endWrite])
    · refine (settle_report _ s).mem ?_
      exact mem_placeReport (s := (s.endWrite).setStore _) hroom

/-! ## PARK (R191) -/

theorem takeHead_snapshot (s : State) (rest : List IngressEntry) (t : SafetyTables) :
    (s.takeHead rest).snapshot t = s.snapshot t := by
  obtain ⟨r, h⟩ := takeHead_eq_setRng s rest
  rw [h]
  rfl

theorem report_length_le (s : State) (k : EventKind) (c : Option Cause) (i : Option Nat) (d : List Int) :
    (s.report k c i d).rng.report.length ≤ s.rng.report.length + 1 := by
  unfold State.report State.offerEvent State.placeReport
  dsimp only
  repeat' split
  all_goals simp [State.setReport, State.dropReport]

theorem placeReport_carries (s : State) (f : EgressFrame) : CarriesReports s (s.placeReport f) := by
  unfold State.placeReport
  split
  · refine ⟨rfl, rfl, fun _ k d h => ?_⟩
    obtain ⟨x, hk, hd, hin⟩ := h
    exact ⟨x, hk, hd, hin.imp id (List.mem_append_left _)⟩
  · exact carriesReports_of_eq rfl rfl rfl rfl

/-- What follows a completion: the invalidation that was queued, if the park flag then stands (R189). -/
theorem followQueued_eq (s : State) :
    s.followQueued.rng = s.rng ∧ s.followQueued.tst.invalidationQueued = false ∧
      s.followQueued.store = { s.store with park := if s.tst.invalidationQueued then none else s.store.park } ∧
      s.followQueued.tst.write =
        (if s.tst.invalidationQueued && s.store.park.isSome then some { kind := .invalidation, reply := none }
        else s.tst.write) ∧
      s.followQueued.tst.safety = s.tst.safety ∧ s.followQueued.tst.events = s.tst.events ∧
      s.followQueued.stc = s.stc := by
  unfold State.followQueued State.startInvalidation
  cases hq : s.tst.invalidationQueued with
  | false => simp [hq]
  | true =>
    cases hp : s.store.park with
    | none =>
      have hs : s.store = { s.store with park := none } := by rw [← hp]
      simp [hp, ← hs]
    | some p => simp [hp]

/-- Settles O58: PARK by motion and validity, the completion of its write fresh or stale, and the invalidation. -/
theorem parkIsWritten : Obligations.ParkIsWritten := by
  refine ⟨fun s e rest hreq hroom hg => ?_, fun s p r stale hheld hw hroom => ⟨fun hstale => ?_, fun hstale hpark hev hm hg => ?_⟩,
    fun s r hheld hw => ?_⟩
  · have hexec : exec .park s = .next ((takePark e.frame (s.takeHead rest)).settle s) := by
      rw [show exec .park s = execPark s from rfl, execPark, manage_running hreq]
    have hw : s.tst.write = none := hreq.2.2
    have hreply : ∀ st, takePark e.frame (s.takeHead rest) = (s.takeHead rest).reply e.frame.replyTo st [] →
        ((takePark e.frame (s.takeHead rest)).settle s).Replied e.frame st [] ∧
          ((takePark e.frame (s.takeHead rest)).settle s).tst.write = none ∧
          ((takePark e.frame (s.takeHead rest)).settle s).store = s.store := fun st h => by
      rw [h]
      exact ⟨reply_replied _ _ _ _ (by simpa using hroom), settle_write_of_none _ (by simpa using hw), by simp⟩
    refine ⟨_, hexec, fun h => hreply _ ?_, fun h hno => hreply _ ?_, fun t h ht hf => ?_⟩
    · simp [takePark, h]
    · rcases hno with hno | hno
      · simp [takePark, h, hno]
      · cases hs : s.tst.safety <;> simp [takePark, h, hno, hs]
    · have htake : takePark e.frame (s.takeHead rest) = (s.takeHead rest).beginPark t e.frame.replyTo := by
        simp [takePark, h, ht, hf]
      rw [htake, settle_write_of_before hw, settle_store]
      simp [State.beginPark, State.beginWrite, takeHead_snapshot]
  · subst hstale
    have hexec : exec .parkWriteComplete s = .next ((((s.endWrite).completePark p false (some r)).followQueued).settle s) := by
      rw [show exec .parkWriteComplete s = execParkWriteComplete s from rfl, execParkWriteComplete,
        complete_running hheld hw rfl]
    generalize hx : (s.endWrite).completePark p false (some r) = x at hexec
    have hxs : x.store = { s.store with park := some p } := by
      simp [← hx, State.completePark, State.replyIf, State.endWrite]
    have hxq : x.tst.invalidationQueued = s.tst.invalidationQueued := by
      simp [← hx, State.completePark, State.replyIf, State.endWrite]
    have hxw : x.tst.write = none := by simp [← hx, State.completePark, State.replyIf, State.endWrite]
    have hxr : mgmtReply r .ok [] false ∈ x.rng.report := by
      rw [← hx]
      exact mem_placeReport (s := (s.endWrite).setStore _) (Nat.lt_of_lt_of_le hroom (by decide))
    obtain ⟨hfr, hfq, hfs, hfw, -, -, -⟩ := followQueued_eq x
    refine ⟨_, hexec, ?_, ?_, ?_, ?_⟩
    · rw [settle_store, hfs, hxs, hxq]
    · exact (settle_report _ s).mem (by rw [hfr]; exact hxr)
    · rw [settle_invalidationQueued, hfq]
    · have hwr : x.followQueued.tst.write =
          (if s.tst.invalidationQueued then some { kind := .invalidation, reply := none } else none) := by
        rw [hfw, hxq, hxs, hxw]
        simp
      rcases settle_write x.followQueued s with h | ⟨q, y, h⟩
      · rw [h, hwr]
      · rw [hwr] at h
        split at h <;> simp at h
  · subst hstale
    have hexec : exec .parkWriteComplete s = .next ((((s.endWrite).completePark p true (some r)).followQueued).settle s) := by
      rw [show exec .parkWriteComplete s = execParkWriteComplete s from rfl, execParkWriteComplete,
        complete_running hheld hw rfl]
    generalize hx : (s.endWrite).completePark p true (some r) = x at hexec
    have hxeq : x = (s.endWrite.report .parkStale none none []).placeReport (mgmtReply r .notAllowed [] false) := by
      rw [← hx]
      rfl
    have hxs : x.store = s.store := by
      simp [← hx, State.completePark, State.replyIf, State.endWrite]
    have hxw : x.tst.write = none := by simp [← hx, State.completePark, State.replyIf, State.endWrite]
    have hmask : s.endWrite.eventMask = s.eventMask := eventMask_congr rfl rfl
    have hxm : x.eventMask = s.eventMask := by
      rw [hxeq, (placeReport_carries ..).mask, (report_carries ..).mask, hmask]
    have hrep : x.Reported .parkStale [] := by
      have h0 : (s.endWrite.report .parkStale none none []).Reported .parkStale [] :=
        report_reported _ _ _ _ (by simp [State.endWrite, hev]) (hmask ▸ hm)
      rw [hxeq]
      exact (placeReport_carries ..).reported (by rw [(report_carries ..).mask, hmask]; exact hm) _ _ h0
    have hxr : mgmtReply r .notAllowed [] false ∈ x.rng.report := by
      rw [hxeq]
      refine mem_placeReport ?_
      have := report_length_le s.endWrite .parkStale none none []
      have he : s.endWrite.rng = s.rng := rfl
      rw [he] at this
      omega
    obtain ⟨hfr, hfq, hfs, hfw, hfsafe, hfe, -⟩ := followQueued_eq x
    have hfc : CarriesReports x x.followQueued := carriesReports_of_eq hfsafe (by rw [hfr]) hfe (by rw [hfr])
    refine ⟨_, hexec, ?_, ?_, ?_, settle_write_of_none _ ?_⟩
    · rw [settle_store, hfs, hxs]
      simp [← hpark]
    · exact (settle_report _ s).mem (by rw [hfr]; exact hxr)
    · exact (hfc.trans (settle_carries _ s)).reported (hxm ▸ hm) _ _ hrep
    · rw [hfw, hxs, hpark, hxw]
      simp
  · have hexec : exec .invalidationWriteComplete s =
        .next (((s.endWrite.setStore { s.store with park := none }).followQueued).settle s) := by
      rw [show exec .invalidationWriteComplete s = execInvalidationWriteComplete s from rfl, execInvalidationWriteComplete,
        complete_running hheld hw rfl]
      rfl
    obtain ⟨-, -, hfs, hfw, -, -, -⟩ := followQueued_eq (s.endWrite.setStore { s.store with park := none })
    refine ⟨_, hexec, ?_, settle_write_of_none _ ?_⟩
    · rw [settle_store, hfs, State.setStore_store, ite_self]
    · rw [hfw]
      simp [State.endWrite]

end Sys2Proof.Machine
end
section
/-!
PROOFS. Commits that come into force (chapter 11).
-/

namespace Sys2Proof.Machine

/-! ## The lines cleared into the unlocated set (R60) -/

theorem mem_insertIndex (i j : Nat) (xs : List Nat) : j ∈ insertIndex i xs ↔ j = i ∨ j ∈ xs := by
  induction xs with
  | nil => simp [insertIndex]
  | cons x xs ih =>
    unfold insertIndex
    split
    · simp
    · split
      · rename_i h
        simp [h]
      · simp only [List.mem_cons, ih]
        tauto

theorem lt_of_location {s : State} {i : Nat} (h : (s.reg i).location ≠ .outOfService) : i < s.registry.length := by
  by_contra hc
  refine h ?_
  simp only [State.reg, List.getD_eq_getElem?_getD, List.getElem?_eq_none (Nat.le_of_not_lt hc)]
  rfl

/-- One cabin of a line, or of the unlocated set, moved to the unlocated set. -/
theorem takeOut_joinUnlocated_spec {s : State} {i : Nat}
    (h : (s.reg i).location = .uphill ∨ (s.reg i).location = .downhill ∨ (s.reg i).location = .unlocated) :
    let u := (s.takeOut i).joinUnlocated i
    (∀ y ∈ u.ctr.uphill, y ∈ s.ctr.uphill ∧ ((s.reg i).location = .uphill → y.cabin ≠ i)) ∧
      (∀ y ∈ u.ctr.downhill, y ∈ s.ctr.downhill ∧ ((s.reg i).location = .downhill → y.cabin ≠ i)) ∧
      (∀ j, j ≠ i → (u.reg j).location = (s.reg j).location) ∧ (u.reg i).location = .unlocated ∧
      i ∈ u.ctr.unlocated ∧ (∀ j ∈ s.ctr.unlocated, j ∈ u.ctr.unlocated) ∧ u.lgt = s.lgt := by
  have hlen : i < s.registry.length := lt_of_location (by rcases h with h | h | h <;> simp [h])
  have hout : (s.takeOut i).registry = s.registry ∧
      (∀ y ∈ (s.takeOut i).ctr.uphill, y ∈ s.ctr.uphill ∧ ((s.reg i).location = .uphill → y.cabin ≠ i)) ∧
      (∀ y ∈ (s.takeOut i).ctr.downhill, y ∈ s.ctr.downhill ∧ ((s.reg i).location = .downhill → y.cabin ≠ i)) ∧
      (∀ j ∈ s.ctr.unlocated, j ≠ i → j ∈ (s.takeOut i).ctr.unlocated) ∧ (s.takeOut i).lgt = s.lgt := by
    unfold State.takeOut
    rcases h with h | h | h
    · simp only [h]
      unfold State.leaveUphill
      split
      · refine ⟨rfl, fun y hy => ?_, fun y hy => ⟨hy, by simp⟩, fun j hj _ => hj, rfl⟩
        have hy' : y ∈ s.ctr.uphill.filter fun x => x.cabin ≠ i := hy
        simpa using hy'
      · rename_i hnone
        refine ⟨rfl, fun y hy => ⟨hy, fun _ => ?_⟩, fun y hy => ⟨hy, by simp⟩, fun j hj _ => hj, rfl⟩
        simpa using (List.find?_eq_none.mp hnone) y hy
    · simp only [h]
      unfold State.leaveDownhill
      split
      · refine ⟨rfl, fun y hy => ⟨hy, by simp⟩, fun y hy => ?_, fun j hj _ => hj, rfl⟩
        have hy' : y ∈ s.ctr.downhill.filter fun x => x.cabin ≠ i := hy
        simpa using hy'
      · rename_i hnone
        refine ⟨rfl, fun y hy => ⟨hy, by simp⟩, fun y hy => ⟨hy, fun _ => ?_⟩, fun j hj _ => hj, rfl⟩
        simpa using (List.find?_eq_none.mp hnone) y hy
    · simp only [h]
      refine ⟨rfl, fun y hy => ⟨hy, by simp⟩, fun y hy => ⟨hy, by simp⟩, fun j hj hne => ?_, rfl⟩
      exact List.mem_filter.mpr ⟨hj, by simpa using hne⟩
  obtain ⟨hreg, hup, hdown, hun, hlgt⟩ := hout
  refine ⟨hup, hdown, fun j hj => ?_, ?_, (mem_insertIndex ..).mpr (.inl rfl), fun j hj => ?_, hlgt⟩
  · unfold State.joinUnlocated State.setLocation
    rw [modReg_reg, if_neg (fun hc => hj hc.1.symm)]
    exact congrArg RegEntry.location (reg_congr hreg j)
  · unfold State.joinUnlocated State.setLocation
    rw [modReg_reg_self _ (by simpa [hreg] using hlen)]
  · refine (mem_insertIndex ..).mpr ?_
    by_cases hji : j = i
    · exact .inl hji
    · exact .inr (hun j hj hji)

/-- Cabins of the lines moved to the unlocated set one after the other. -/
theorem moveToUnlocated_spec (cs : List Nat) (s : State)
    (hup : ∀ y ∈ s.ctr.uphill, y.cabin ∈ cs ∧ (s.reg y.cabin).location = .uphill)
    (hdown : ∀ y ∈ s.ctr.downhill, y.cabin ∈ cs ∧ (s.reg y.cabin).location = .downhill)
    (hcs : ∀ i ∈ cs, (s.reg i).location = .uphill ∨ (s.reg i).location = .downhill ∨ (s.reg i).location = .unlocated) :
    let u := s.moveToUnlocated cs
    u.ctr.uphill = [] ∧ u.ctr.downhill = [] ∧ (∀ i ∈ cs, i ∈ u.ctr.unlocated) ∧
      (∀ j ∈ s.ctr.unlocated, j ∈ u.ctr.unlocated) ∧ u.lgt = s.lgt := by
  induction cs generalizing s with
  | nil =>
    refine ⟨?_, ?_, fun _ h => absurd h List.not_mem_nil, fun _ h => h, rfl⟩
    · exact List.eq_nil_iff_forall_not_mem.mpr fun y hy => absurd (hup y hy).1 List.not_mem_nil
    · exact List.eq_nil_iff_forall_not_mem.mpr fun y hy => absurd (hdown y hy).1 List.not_mem_nil
  | cons i cs ih =>
    obtain ⟨h1, h2, h3, h4, h5, h6, h7⟩ := takeOut_joinUnlocated_spec (hcs i List.mem_cons_self)
    have hstep := ih ((s.takeOut i).joinUnlocated i) (fun y hy => ?_) (fun y hy => ?_) (fun j hj => ?_)
    · obtain ⟨hu, hd, hin, hkeep, hl⟩ := hstep
      refine ⟨hu, hd, fun j hj => ?_, fun j hj => hkeep j (h6 j hj), hl.trans h7⟩
      rcases List.mem_cons.mp hj with rfl | hj
      · exact hkeep j h5
      · exact hin j hj
    · obtain ⟨hy, hne⟩ := h1 y hy
      obtain ⟨hmem, hloc⟩ := hup y hy
      have hyi : y.cabin ≠ i := fun hc => hne (hc ▸ hloc) hc
      exact ⟨(List.mem_cons.mp hmem).resolve_left hyi, (h3 _ hyi).trans hloc⟩
    · obtain ⟨hy, hne⟩ := h2 y hy
      obtain ⟨hmem, hloc⟩ := hdown y hy
      have hyi : y.cabin ≠ i := fun hc => hne (hc ▸ hloc) hc
      exact ⟨(List.mem_cons.mp hmem).resolve_left hyi, (h3 _ hyi).trans hloc⟩
    · by_cases hji : j = i
      · exact .inr (.inr (hji ▸ h4))
      · rw [h3 j hji]
        exact hcs j (List.mem_cons_of_mem _ hj)

/-! ## A commit that changes L or S (R20, R39, R60) -/

theorem resetLaunch_keeps (s : State) :
    s.resetLaunch.lgt.pending = none ∧ s.resetLaunch.lgt.watch = [] ∧ s.resetLaunch.ctr.uphill = s.ctr.uphill ∧
      s.resetLaunch.ctr.downhill = s.ctr.downhill ∧ s.resetLaunch.registry = s.registry ∧ s.resetLaunch.rpu = s.rpu := by
  have h : Does 65584 s s.resetLaunch := State.resetLaunch_does (Does.refl _ _) rfl
  exact ⟨rfl, rfl, h.uphill_eq, h.downhill_eq, h.registry_eq, h.rpu_eq⟩

/-- What a change of L or S leaves: UNREFERENCED, no line, every cabin of the lines unlocated, N EMPTY slots, and LGT with
nothing pending or watched. -/
theorem commitGeometry_spec {s : State} (t : SafetyTables) (wasValid : Bool)
    (hup : ∀ y ∈ s.ctr.uphill, (s.reg y.cabin).location = .uphill)
    (hdown : ∀ y ∈ s.ctr.downhill, (s.reg y.cabin).location = .downhill) :
    let u := s.commitGeometry t wasValid
    u.rpu.referenced = false ∧ u.ctr.uphill = [] ∧ u.ctr.downhill = [] ∧
      (∀ y ∈ s.ctr.uphill, y.cabin ∈ u.ctr.unlocated) ∧ (∀ y ∈ s.ctr.downhill, y.cabin ∈ u.ctr.unlocated) ∧
      u.ctr.slots = List.replicate t.N .empty ∧ u.lgt.pending = none ∧ u.lgt.watch = [] := by
  unfold State.commitGeometry
  dsimp only
  generalize hx : (if wasValid then s.loseReference else s.loseReference.startTachLoss t) = x
  have hxc : x.ctr = s.ctr := by
    rw [← hx]
    split <;> simp [State.loseReference, State.startTachLoss]
  have hxr : x.registry = s.registry := by
    rw [← hx]
    split <;> simp [State.loseReference, State.startTachLoss]
  have hxp : x.rpu.referenced = false := by
    rw [← hx]
    split <;> simp [State.loseReference, State.startTachLoss]
  obtain ⟨hp, hw, hu, hd, hr, hrpu⟩ := resetLaunch_keeps x
  generalize x.resetLaunch = y at hp hw hu hd hr hrpu
  have hloc : ∀ i, (y.reg i).location = (s.reg i).location := fun i =>
    congrArg RegEntry.location ((reg_congr hr i).trans (reg_congr hxr i))
  have hyu : y.ctr.uphill = s.ctr.uphill := hu.trans (by rw [hxc])
  have hyd : y.ctr.downhill = s.ctr.downhill := hd.trans (by rw [hxc])
  obtain ⟨h1, h2, h3, -, h5⟩ := moveToUnlocated_spec
    (y.ctr.uphill.map UphillEntry.cabin ++ y.ctr.downhill.map DownhillEntry.cabin) y
    (fun z hz => ⟨List.mem_append_left _ (List.mem_map_of_mem hz), (hloc _).trans (hup z (hyu ▸ hz))⟩)
    (fun z hz => ⟨List.mem_append_right _ (List.mem_map_of_mem hz), (hloc _).trans (hdown z (hyd ▸ hz))⟩)
    (fun i hi => by
      rw [hloc]
      rcases List.mem_append.mp hi with hi | hi
      · obtain ⟨z, hz, rfl⟩ := List.mem_map.mp hi
        exact .inl (hup z (hyu ▸ hz))
      · obtain ⟨z, hz, rfl⟩ := List.mem_map.mp hi
        exact .inr (.inl (hdown z (hyd ▸ hz))))
  have hm : (y.moveToUnlocated (y.ctr.uphill.map UphillEntry.cabin ++ y.ctr.downhill.map DownhillEntry.cabin)).rpu = y.rpu :=
    (State.moveToUnlocated_does (m := 268435455 - 8) _ (Does.refl _ y) rfl).rpu_eq
  unfold State.clearLines State.rebuildSlots
  dsimp only
  generalize y.moveToUnlocated _ = z at h1 h2 h3 h5 hm
  refine ⟨?_, ?_, ?_, fun a ha => ?_, fun a ha => ?_, rfl, ?_, ?_⟩
  · simp [hm, hrpu, hxp]
  · simpa using h1
  · simpa using h2
  · have := h3 a.cabin (List.mem_append_left _ (List.mem_map_of_mem (hyu ▸ ha)))
    simpa using this
  · have := h3 a.cabin (List.mem_append_right _ (List.mem_map_of_mem (hyd ▸ ha)))
    simpa using this
  · simp [h5, hp]
  · simp [h5, hw]

/-! ## The blocks act on the new tables (R172, R184, R189) -/

/-- What the blocks do at a SAFETY commit after the change of geometry, if there is one. -/
def State.followTables (s : State) (oldTowers : List (Option TowerEntry)) (oldNodes : List NodeEntry) (t : SafetyTables)
    (wasValid : Bool) : State :=
  ((((s.commitTension wasValid).commitTowers oldTowers t.towers).commitMatrix t.matrix).commitNodes oldNodes
    t.nodes).commitUpdate t |>.judgeGarageExit

theorem applySafety_eq (s : State) (t : SafetyTables) :
    ∃ towers nodes, s.applySafety t =
      (if s.geometryChanges then
        (s.setTst { s.tst with safety := some t, stageSafety := t, safetyChanged := false }).commitGeometry t s.safetyValid
      else s.setTst { s.tst with safety := some t, stageSafety := t, safetyChanged := false }).followTables towers nodes t
        s.safetyValid := ⟨_, _, rfl⟩

theorem followTables_does (s : State) (towers : List (Option TowerEntry)) (nodes : List NodeEntry) (t : SafetyTables)
    (b : Bool) : Does 4322876 s (s.followTables towers nodes t b) :=
  State.judgeGarageExit_does
    (State.commitUpdate_does t
      (State.commitNodes_does _ _
        (State.commitMatrix_does _ (State.commitTowers_does _ _ (State.commitTension_does _ (Does.refl _ s) rfl) rfl) rfl)
        rfl)
      rfl)
    rfl

/-- What comes before the position update of a commit: RMN, STC and RNG take the tables. -/
theorem beforeUpdate_does (s : State) (towers : List (Option TowerEntry)) (nodes : List NodeEntry) (t : SafetyTables)
    (b : Bool) : Does 4321808 s
      ((((s.commitTension b).commitTowers towers t.towers).commitMatrix t.matrix).commitNodes nodes t.nodes) :=
  State.commitNodes_does _ _
    (State.commitMatrix_does _ (State.commitTowers_does _ _ (State.commitTension_does _ (Does.refl _ s) rfl) rfl) rfl) rfl

theorem commitUpdate_rpu (s : State) (t : SafetyTables) : ∃ r, (s.commitUpdate t).rpu = { s.rpu with record := r } := by
  refine ⟨s.takeReport.positionRecord t, ?_⟩
  unfold State.commitUpdate State.updateRope
  rw [takeReport_rpu, trackUpdate_rpu, judgeSegments_rpu, takeReport_rpu, launchUpdate_rpu]
  simp [State.setRecord]

theorem followTables_referenced (s : State) (towers : List (Option TowerEntry)) (nodes : List NodeEntry) (t : SafetyTables)
    (b : Bool) : (s.followTables towers nodes t b).rpu.referenced = s.rpu.referenced := by
  unfold State.followTables
  obtain ⟨r, hr⟩ := commitUpdate_rpu
    ((((s.commitTension b).commitTowers towers t.towers).commitMatrix t.matrix).commitNodes nodes t.nodes) t
  rw [(State.judgeGarageExit_does (m := 66560) (Does.refl _ _) rfl).rpu_eq, hr, (beforeUpdate_does s towers nodes t b).rpu_eq]

/-- With nothing pending, the new matrix leaves LGT and the slots. -/
theorem commitMatrix_of_none {s : State} (matrix : List Category) (h : s.lgt.pending = none) :
    (s.commitMatrix matrix).lgt = s.lgt ∧ (s.commitMatrix matrix).ctr.slots = s.ctr.slots := by
  have hfold : Does 4292608 s (Cause.all.foldl (State.recategorise matrix) s) :=
    Does.foldl _ _ (Does.refl _ _) fun x c hx => State.recategorise_does matrix c hx rfl
  unfold State.commitMatrix
  dsimp only
  generalize Cause.all.foldl (State.recategorise matrix) s = y at hfold
  have hout : ∀ (z : State), z.lgt = s.lgt → z.ctr.slots = s.ctr.slots →
      z.tellOutput.lgt = s.lgt ∧ z.tellOutput.ctr.slots = s.ctr.slots := fun z hl hc => by
    unfold State.tellOutput
    rw [withdrawRelease_none (by rw [hl, h]), ite_self, (judgeEmergency_keeps z).1, (judgeEmergency_keeps z).2.1]
    exact ⟨hl, hc⟩
  unfold State.formOutput
  dsimp only
  split
  · exact ⟨hfold.lgt_eq, hfold.slots_eq⟩
  · refine hout _ ?_ ?_
    · simpa [State.reportOutput, State.setOutput] using hfold.lgt_eq
    · simpa [State.reportOutput, State.setOutput] using hfold.slots_eq

/-- The position update of a commit that leaves the part UNREFERENCED makes no release. -/
theorem commitUpdate_slots {s : State} (t : SafetyTables) (hn : s.lgt.pending = none) (hw : s.lgt.watch = [])
    (hr : s.rpu.referenced = false) :
    (s.commitUpdate t).lgt.pending = none ∧ (s.commitUpdate t).ctr.slots = s.ctr.slots := by
  obtain ⟨htl, hts⟩ := takeReport_lgt_of_none hn
  have hrope : (s.takeReport.setRecord t).launchRope = false := by
    simp [State.launchRope, State.setRecord, State.positionRecord, hr]
  obtain ⟨hc, hp, -⟩ := launchUpdate_of_still (s := s.takeReport.setRecord t) (by simpa [State.setRecord, htl] using hn)
    (by simpa [State.setRecord, htl] using hw) hrope
  have hlast : ∀ x : State, x.lgt.pending = none → x.takeReport.lgt.pending = none ∧
      x.takeReport.ctr.slots = x.ctr.slots := fun x hx =>
    ⟨by rw [(takeReport_lgt_of_none hx).1, hx], (takeReport_lgt_of_none hx).2⟩
  unfold State.commitUpdate State.updateRope
  generalize (s.takeReport.setRecord t).launchUpdate = y at hc hp
  obtain ⟨h1, h2⟩ := hlast y hp
  have h3 : y.takeReport.judgeSegments.trackUpdate.lgt.pending = none := by
    rw [trackUpdate_lgt, judgeSegments_lgt, h1]
  refine ⟨(hlast _ h3).1, ?_⟩
  rw [(hlast _ h3).2, (trackUpdate_sameCabins _).2, judgeSegments_ctr, h2, hc]
  exact hts

theorem followTables_slots {s : State} (towers : List (Option TowerEntry)) (nodes : List NodeEntry) (t : SafetyTables)
    (b : Bool) (hn : s.lgt.pending = none) (hw : s.lgt.watch = []) (hr : s.rpu.referenced = false) :
    (s.followTables towers nodes t b).lgt.pending = none ∧
      (s.followTables towers nodes t b).ctr.slots = s.ctr.slots := by
  have h1 : Does 102400 s ((s.commitTension b).commitTowers towers t.towers) :=
    State.commitTowers_does _ _ (State.commitTension_does _ (Does.refl _ s) rfl) rfl
  obtain ⟨hml, hms⟩ := commitMatrix_of_none (s := (s.commitTension b).commitTowers towers t.towers) t.matrix
    (by rw [h1.lgt_eq, hn])
  have h2 : Does 4292608 (((s.commitTension b).commitTowers towers t.towers).commitMatrix t.matrix)
      ((((s.commitTension b).commitTowers towers t.towers).commitMatrix t.matrix).commitNodes nodes t.nodes) :=
    State.commitNodes_does _ _ (Does.refl _ _) rfl
  have h3 : ∀ y : State, Does 66560 y y.judgeGarageExit := fun y => State.judgeGarageExit_does (Does.refl _ _) rfl
  unfold State.followTables
  rw [(h3 _).slots_eq, (h3 _).lgt_eq, ← hms.trans h1.slots_eq, ← h2.slots_eq]
  refine commitUpdate_slots t ?_ ?_ ?_
  · rw [h2.lgt_eq, hml, h1.lgt_eq, hn]
  · rw [h2.lgt_eq, hml, h1.lgt_eq, hw]
  · rw [(beforeUpdate_does s towers nodes t b).rpu_eq, hr]

/-! ## The commits (O55) -/

theorem exec_commitWriteComplete {s : State} {g : TableGroup} {r : ReplyTo} (hheld : s.pins.held = false)
    (hw : s.tst.write = some { kind := .commit g, reply := some r }) :
    exec .commitWriteComplete s = .next (((s.endWrite.applyCommit g (some r)).followQueued).settle s) := by
  rw [show exec .commitWriteComplete s = execCommitWriteComplete s from rfl, execCommitWriteComplete,
    complete_running hheld hw rfl]

/-- The end of a commit that has done `x`: TABLES_INVALID is judged and reported, the reply placed, and the command ends. -/
def State.commitEnd (x b : State) (r : ReplyTo) : State := ((x.judgeTables.takeReport).replyIf (some r) .ok).settle b

theorem commitEnd_does (x b : State) (r : ReplyTo) : Does 139059728 x (x.commitEnd b r) :=
  State.settle_does b
    (State.replyIf_does _ _ (State.takeReport_does (State.judgeTables_does (Does.refl _ _) rfl) rfl) rfl) rfl

theorem commitEnd_replied {x : State} (b : State) (r : ReplyTo) (h : x.rng.report.length < 32) :
    mgmtReply r .ok [] false ∈ (x.commitEnd b r).rng.report := by
  have hd : Does 4317712 x x.judgeTables.takeReport :=
    State.takeReport_does (State.judgeTables_does (Does.refl _ _) rfl) rfl
  exact (settle_report _ b).mem (mem_placeReport (hd.2.2.1 rfl h))

theorem commitEnd_write {x b : State} (r : ReplyTo) (h : x.tst.write = none) : (x.commitEnd b r).tst.write = none := by
  refine settle_write_of_none b ?_
  simpa [State.replyIf, State.judgeTables] using h

theorem commitEnd_slots {x b : State} (r : ReplyTo) (h : x.lgt.pending = none) : (x.commitEnd b r).ctr.slots = x.ctr.slots := by
  have h0 : x.judgeTables.lgt.pending = none := by simpa [State.judgeTables] using h
  obtain ⟨hl, hs⟩ := takeReport_lgt_of_none h0
  have h1 : ((x.judgeTables.takeReport).replyIf (some r) .ok).lgt.pending = none := by
    simp [State.replyIf, hl, h0]
  unfold State.commitEnd
  have h2 : ((x.judgeTables.takeReport).replyIf (some r) .ok).ctr.slots = x.judgeTables.takeReport.ctr.slots := by
    simp [State.replyIf]
  rw [(settle_lgt_of_none h1).2, h2, hs]
  simp [State.judgeTables]

/-- A commit with no invalidation queued ends so. -/
theorem exec_commit_of_unqueued {s x : State} {g : TableGroup} {r : ReplyTo} (hheld : s.pins.held = false)
    (hw : s.tst.write = some { kind := .commit g, reply := some r }) (hx : x.tst.invalidationQueued = false)
    (h : s.endWrite.applyCommit g (some r) = (x.judgeTables.takeReport).replyIf (some r) .ok) :
    exec .commitWriteComplete s = .next (x.commitEnd s r) := by
  rw [exec_commitWriteComplete hheld hw, h, followQueued_of_not]
  · rfl
  · simpa [State.replyIf, State.judgeTables] using hx

/-- The state in which the blocks begin to act on the new SAFETY tables (R189). -/
def State.safetyLoaded (s : State) : State :=
  let y := s.endWrite.storeSafety s.tst.stageSafety s.geometryChanges
  y.setTst { y.tst with safety := some s.tst.stageSafety, stageSafety := s.tst.stageSafety, safetyChanged := false }

/-- That state after the change of geometry, if there is one. -/
def State.geometryLoaded (s : State) : State :=
  if s.geometryChanges then s.safetyLoaded.commitGeometry s.tst.stageSafety s.safetyValid else s.safetyLoaded

theorem geometryLoaded_does (s : State) : Does 4296700 s.safetyLoaded s.geometryLoaded := by
  unfold State.geometryLoaded
  split
  · exact State.commitGeometry_does _ _ (Does.refl _ _) rfl
  · exact Does.refl _ _

theorem applySafety_of_commit (s : State) :
    ∃ towers nodes,
      (s.endWrite.storeSafety s.tst.stageSafety s.geometryChanges).applySafety s.tst.stageSafety =
        s.geometryLoaded.followTables towers nodes s.tst.stageSafety s.safetyValid := by
  obtain ⟨towers, nodes, h⟩ :=
    applySafety_eq (s.endWrite.storeSafety s.tst.stageSafety s.geometryChanges) s.tst.stageSafety
  exact ⟨towers, nodes, h⟩

/-- Settles O55: an OPERATIONS commit loads the copy; a SAFETY commit is `applySafety`, whose change of geometry is
`commitGeometry_spec` and whose blocks keep what it leaves. -/
theorem commitComesIntoForce : Obligations.CommitComesIntoForce := by
  intro s r g hheld hw hq hroom
  refine ⟨fun hg => ?_, fun hg => ?_⟩
  · subst hg
    generalize hx : s.endWrite.applyOperations s.tst.stageOperations = x
    have hexec := exec_commit_of_unqueued (x := x) hheld hw (by simpa [← hx, State.applyOperations, State.endWrite] using hq)
      (by rw [← hx]; rfl)
    have hd := commitEnd_does x s r
    refine ⟨_, hexec, ?_, ?_, ?_, ?_, commitEnd_write r (by simp [← hx, State.applyOperations, State.endWrite]),
      commitEnd_replied s r (by simp [← hx, State.applyOperations, State.endWrite]; omega), ?_⟩
    · rw [(hd.1 .tables rfl).2.1, ← hx]; rfl
    · rw [hd.1 .store rfl, ← hx]; rfl
    · rw [(hd.1 .staging rfl).2.2.1, ← hx]; rfl
    · rw [(hd.1 .staging rfl).2.2.2, ← hx]; rfl
    · rw [hd.safety_eq, ← hx]; rfl
  · subst hg
    obtain ⟨towers, nodes, happly⟩ := applySafety_of_commit s
    generalize hx : s.geometryLoaded.followTables towers nodes s.tst.stageSafety s.safetyValid = x at happly
    have hgx : Does 4322876 s.geometryLoaded x := hx ▸ followTables_does ..
    have hlx : Does 4325372 s.safetyLoaded x := ((geometryLoaded_does s).mono rfl).trans (hgx.mono rfl)
    have hexec := exec_commit_of_unqueued (x := x) hheld hw ((hlx.1 .write rfl).2.trans hq) (by rw [← happly]; rfl)
    have hd := commitEnd_does x s r
    have hstore : (x.commitEnd s r).store.park = if s.geometryChanges then none else s.store.park := by
      rw [hd.1 .store rfl, hlx.1 .store rfl]
      rfl
    have href : (x.commitEnd s r).rpu.referenced = s.geometryLoaded.rpu.referenced := by
      rw [hd.rpu_eq, ← hx, followTables_referenced]
    refine ⟨_, hexec, ?_, ?_, ?_, ?_, commitEnd_write r ((hlx.1 .write rfl).1.trans rfl), ?_,
      commitEnd_replied s r (hlx.2.2.1 rfl ?_), fun t ht hne hup hdown => ?_, fun t ht hL hS => ?_⟩
    · rw [hd.safety_eq, hlx.safety_eq]; rfl
    · rw [hd.1 .store rfl, hlx.1 .store rfl]; rfl
    · rw [(hd.1 .staging rfl).1, (hlx.1 .staging rfl).1]; rfl
    · rw [(hd.1 .staging rfl).2.1, (hlx.1 .staging rfl).2.1]; rfl
    · rw [(hd.1 .tables rfl).2.1, (hlx.1 .tables rfl).2.1]; rfl
    · exact Nat.lt_of_lt_of_le hroom (by decide)
    · have hch : s.geometryChanges = true := by simpa [State.geometryChanges, ht] using hne
      obtain ⟨h1, h2, h3, h4, h5, h6, h7, h8⟩ :=
        commitGeometry_spec (s := s.safetyLoaded) s.tst.stageSafety s.safetyValid hup hdown
      rw [← show s.geometryLoaded = _ from if_pos hch] at h1 h2 h3 h4 h5 h6 h7 h8
      refine ⟨href.trans h1, ?_, ?_, fun y hy => ?_, fun y hy => ?_, ?_, hstore.trans (if_pos hch)⟩
      · rw [hd.uphill_eq, hgx.uphill_eq, h2]
      · rw [hd.downhill_eq, hgx.downhill_eq, h3]
      · rw [hd.unlocated_eq, hgx.unlocated_eq]
        exact h4 y hy
      · rw [hd.unlocated_eq, hgx.unlocated_eq]
        exact h5 y hy
      · obtain ⟨hpend, hslots⟩ := followTables_slots towers nodes s.tst.stageSafety s.safetyValid h7 h8 h1
        rw [commitEnd_slots r (hx ▸ hpend), ← hx, hslots, h6]
    · have hch : s.geometryChanges = false := by simp [State.geometryChanges, ht, hL, hS]
      have hgl : s.geometryLoaded = s.safetyLoaded := if_neg (by simp [hch])
      exact ⟨href.trans (by rw [hgl]; rfl), hstore.trans (if_neg (by simp [hch]))⟩

end Sys2Proof.Machine
end
section
/-!
PROOFS. Fleet entries (chapter 11).
-/

namespace Sys2Proof.Machine

/-! ## The judgement (R190) -/

theorem judgeFleetWrite_congr {s t : State} (hr : t.registry = s.registry) (hq : t.ctr.queue = s.ctr.queue) (i : Nat)
    (f : FleetStatic) : t.judgeFleetWrite i f = s.judgeFleetWrite i f := by
  simp only [State.judgeFleetWrite, State.idTaken, State.mayRetire, State.entryOfCabin, reg_congr hr, hq]
  rfl

theorem judgeFleetWrite_badEntry {s : State} {i : Nat} {w : Word} (h : 128 ≤ i ∨ (staticOfWord w).id = 0) :
    s.judgeFleetWrite i (staticOfWord w) = some .badEntry := by
  unfold State.judgeFleetWrite
  rw [if_pos]
  rcases h with h | h <;> simp [h]

/-- The bit fields of a static word leave no wrong value but an ID of 0. -/
theorem judgeFleetWrite_of_fields {s : State} {i : Nat} {w : Word} (hi : i < 128) (h0 : (staticOfWord w).id ≠ 0) :
    s.judgeFleetWrite i (staticOfWord w) =
      if (s.reg i).stat.inService && (s.reg i).stat.id ≠ (staticOfWord w).id then some .notAllowed
      else if (staticOfWord w).inService && s.idTaken i (staticOfWord w).id then some .notAllowed
      else if (s.reg i).stat.inService && !(staticOfWord w).inService && !s.mayRetire i then some .notAllowed
      else none := by
  have h1 : (staticOfWord w).id < 4096 := field_lt w 0 12
  have h2 : (staticOfWord w).profile < 4 := field_lt w 12 2
  have h3 : (staticOfWord w).gripClass < 4 := field_lt w 16 2
  exact if_neg (by simp [h0]; omega)

theorem idTaken_iff (s : State) (i id : Nat) :
    s.idTaken i id = true ↔ ∃ j, j < 128 ∧ j ≠ i ∧ (s.reg j).stat.inService = true ∧ (s.reg j).stat.id = id := by
  simp [State.idTaken, and_assoc]

theorem judgeFleetWrite_notAllowed {s : State} {i : Nat} {w : Word} (hi : i < 128) (h0 : (staticOfWord w).id ≠ 0)
    (h : ((s.reg i).stat.inService = true ∧ (s.reg i).stat.id ≠ (staticOfWord w).id) ∨
      ((staticOfWord w).inService = true ∧
        ∃ j, j < 128 ∧ j ≠ i ∧ (s.reg j).stat.inService = true ∧ (s.reg j).stat.id = (staticOfWord w).id) ∨
      ((s.reg i).stat.inService = true ∧ (staticOfWord w).inService = false ∧
        (s.reg i).location ∈ [Location.uphill, .downhill, .summit])) :
    s.judgeFleetWrite i (staticOfWord w) = some .notAllowed := by
  rw [judgeFleetWrite_of_fields hi h0]
  rcases h with ⟨h1, h2⟩ | ⟨h1, h2⟩ | ⟨h1, h2, h3⟩
  · rw [if_pos (by simp [h1, h2])]
  · rw [if_pos (c := ((staticOfWord w).inService && s.idTaken i (staticOfWord w).id) = true)
      (by simp [h1, (idTaken_iff s i _).mpr h2]), ite_self]
  · have hr : s.mayRetire i = false := by
      unfold State.mayRetire
      rcases (by simpa using h3) with h | h | h <;> rw [h]
    rw [if_pos (c := ((s.reg i).stat.inService && !(staticOfWord w).inService && !s.mayRetire i) = true)
      (by simp [h1, h2, hr]), ite_self, ite_self]

theorem judgeFleetWrite_passes {s : State} {i : Nat} {w : Word} (hi : i < 128) (h0 : (staticOfWord w).id ≠ 0)
    (hid : (s.reg i).stat.inService = true → (s.reg i).stat.id = (staticOfWord w).id)
    (hfree : ∀ j, j < 128 → j ≠ i → (s.reg j).stat.inService = true → (s.reg j).stat.id ≠ (staticOfWord w).id)
    (hout : (staticOfWord w).inService = false → (s.reg i).location = .unlocated) :
    s.judgeFleetWrite i (staticOfWord w) = none := by
  have htaken : s.idTaken i (staticOfWord w).id = false := by
    refine Bool.eq_false_iff.mpr fun h => ?_
    obtain ⟨j, hj, hne, hin, heq⟩ := (idTaken_iff s i _).mp h
    exact hfree j hj hne hin heq
  have hretire : (staticOfWord w).inService = false → s.mayRetire i = true := fun h => by
    simp [State.mayRetire, hout h]
  rw [judgeFleetWrite_of_fields hi h0, if_neg (by simpa using hid), if_neg (by simp [htaken]), if_neg]
  intro h
  simp only [Bool.and_eq_true, Bool.not_eq_true'] at h
  obtain ⟨⟨-, hx⟩, hr⟩ := h
  rw [hretire hx] at hr
  cases hr

/-! ## The application (R190) -/

theorem placeFleet_registry_length (s : State) (i : Nat) (f : FleetStatic)
    (h : f.inService = false → (s.reg i).location = .unlocated) :
    (s.placeFleet i f).registry.length = s.registry.length := by
  unfold State.placeFleet State.takeOutOfService State.joinUnlocated State.setLocation
  dsimp only
  split_ifs with h1 h2
  · simp [State.takeOut, h (by simpa using (by simpa using h1 : _ ∧ f.inService = false).2)]
  · simp
  · rfl

theorem joinUnlocated_reg (s : State) (i j : Nat) :
    (s.joinUnlocated i).reg j =
      if i = j ∧ i < s.registry.length then { s.reg i with location := .unlocated } else s.reg j :=
  modReg_reg (s.setCtr { s.ctr with unlocated := insertIndex i s.ctr.unlocated }) i j _

theorem takeOutOfService_reg (s : State) (i j : Nat) :
    (s.takeOutOfService i).reg j =
      if i = j ∧ i < (s.takeOut i).registry.length then
        { (s.takeOut i).reg i with
          stat := { ((s.takeOut i).reg i).stat with inService := false }, location := .outOfService }
      else (s.takeOut i).reg j :=
  modReg_reg (s.takeOut i) i j _

/-- What the change of place leaves in the registry, and in the unlocated set. -/
theorem placeFleet_spec {s : State} {i : Nat} {f : FleetStatic} (hi : i < s.registry.length)
    (hact : (s.reg i).stat.inService = true ∨ f.inService = true)
    (h : f.inService = false → (s.reg i).location = .unlocated) :
    (∀ j, j ≠ i → (s.placeFleet i f).reg j = s.reg j) ∧
    ((s.reg i).stat.inService = true → f.inService = true → s.placeFleet i f = s) ∧
    ((s.reg i).stat.inService = false →
      (s.placeFleet i f).reg i = { (s.reg i).enterService with location := .unlocated } ∧
        i ∈ (s.placeFleet i f).ctr.unlocated) ∧
    (f.inService = false →
      ((s.placeFleet i f).reg i).location = .outOfService ∧ i ∉ (s.placeFleet i f).ctr.unlocated) := by
  cases hold : (s.reg i).stat.inService <;> cases hnew : f.inService
  · simp [hold, hnew] at hact
  · have hp : s.placeFleet i f = (s.modReg i RegEntry.enterService).joinUnlocated i := by
      simp [State.placeFleet, hold, hnew]
    rw [hp]
    refine ⟨fun j hj => ?_, by simp, fun _ => ⟨?_, ?_⟩, by simp⟩
    · rw [joinUnlocated_reg, if_neg (by simp [Ne.symm hj]), modReg_reg, if_neg (by simp [Ne.symm hj])]
    · rw [joinUnlocated_reg, if_pos ⟨rfl, by simpa using hi⟩, modReg_reg_self _ hi]
    · exact (mem_insertIndex i i _).mpr (.inl rfl)
  · have hp : s.placeFleet i f = s.takeOutOfService i := by simp [State.placeFleet, hold, hnew]
    have ht : s.takeOut i = s.setCtr { s.ctr with unlocated := s.ctr.unlocated.filter fun x => x ≠ i } := by
      simp [State.takeOut, h hnew]
    have hreg : ∀ j, (s.takeOut i).reg j = s.reg j := reg_congr (by rw [ht]; rfl)
    have hlen : i < (s.takeOut i).registry.length := by rw [ht]; exact hi
    refine ⟨fun j hj => ?_, by simp, by simp, fun _ => ⟨?_, ?_⟩⟩
    · rw [hp, takeOutOfService_reg, if_neg (by simp [Ne.symm hj]), hreg]
    · rw [hp, takeOutOfService_reg, if_pos ⟨rfl, hlen⟩]
    · rw [hp, State.takeOutOfService, ht]
      exact fun hmem => by simpa using (List.mem_filter.mp hmem).2
  · have hp : s.placeFleet i f = s := by simp [State.placeFleet, hold, hnew]
    simp [hp]

theorem applyFleet_unlocated (s : State) (i : Nat) (f : FleetStatic) :
    (s.applyFleet i f).ctr.unlocated = (s.placeFleet i f).ctr.unlocated := by
  simp [State.applyFleet]

theorem applyFleet_reg (s : State) (i j : Nat) (f : FleetStatic) :
    (s.applyFleet i f).reg j =
      if i = j ∧ i < (s.placeFleet i f).registry.length then { (s.placeFleet i f).reg i with stat := f }
      else (s.placeFleet i f).reg j := by
  refine Eq.trans ?_ (modReg_reg (s.placeFleet i f) i j fun r => { r with stat := f })
  exact reg_congr (by simp [State.applyFleet]) j

/-! ## The request and its completion (O56) -/

theorem exec_writeFleetEntry {s : State} {e : IngressEntry} {rest : List IngressEntry}
    (h : s.Requests .writeFleetEntry e rest) :
    exec .writeFleetEntry s = .next ((takeWriteFleet e.frame (s.takeHead rest)).settle s) := by
  rw [show exec .writeFleetEntry s = execWriteFleetEntry s from rfl, execWriteFleetEntry, manage_running h]

theorem exec_fleetWriteComplete {s : State} {i : Nat} {r : ReplyTo} (hheld : s.pins.held = false)
    (hw : s.tst.write = some { kind := .fleet i, reply := some r }) (hq : s.tst.invalidationQueued = false) :
    exec .fleetWriteComplete s = .next ((s.endWrite.completeFleet (some r)).settle s) := by
  rw [show exec .fleetWriteComplete s = execFleetWriteComplete s from rfl, execFleetWriteComplete,
    complete_running hheld hw rfl, followQueued_of_not]
  simpa [State.completeFleet, State.replyIf, State.judgeTables, State.endWrite] using hq

theorem completeFleet_replied {s : State} (r : ReplyTo) (b : State) (h : s.rng.report.length < 32) :
    mgmtReply r .ok [] false ∈ ((s.completeFleet (some r)).settle b).rng.report := by
  refine (settle_report _ b).mem (mem_placeReport ?_)
  refine (State.takeReport_does (m := 4317712) (State.judgeTables_does (Does.refl _ _) rfl) rfl).2.2.1 rfl ?_
  exact h

/-- The end of a fleet write that is begun. -/
def State.fleetBegun (s b : State) (i : Nat) (f : FleetStatic) (r : ReplyTo) : State :=
  ((s.applyFleet i f).beginFleet i r).settle b

theorem fleetBegun_reg (s b : State) (i j : Nat) (f : FleetStatic) (r : ReplyTo) :
    (s.fleetBegun b i f r).reg j =
      if i = j ∧ i < (s.placeFleet i f).registry.length then { (s.placeFleet i f).reg i with stat := f }
      else (s.placeFleet i f).reg j :=
  (settle_reg _ b j).trans (applyFleet_reg s i j f)

theorem fleetBegun_unlocated (s b : State) (i : Nat) (f : FleetStatic) (r : ReplyTo) :
    (s.fleetBegun b i f r).ctr.unlocated = (s.placeFleet i f).ctr.unlocated :=
  (settle_unlocated _ b).trans (applyFleet_unlocated s i f)

theorem fleetBegun_write {s b : State} (i : Nat) (f : FleetStatic) (r : ReplyTo) (h : b.tst.write = none) :
    (s.fleetBegun b i f r).tst.write = some { kind := .fleet i, reply := some r } :=
  settle_write_of_before h

theorem fleetBegun_store (s b : State) (i : Nat) (f : FleetStatic) (r : ReplyTo) :
    (s.fleetBegun b i f r).store = { s.store with fleet := none } := by
  have hs : (s.applyFleet i f).store = s.store :=
    (State.applyFleet_does (m := 4296692) i f (Does.refl _ s) rfl).1 .store rfl
  unfold State.fleetBegun
  rw [settle_store]
  simp [State.beginFleet, State.beginWrite, hs]

/-- What a fleet write that passes leaves (R190). -/
theorem fleetBegun_spec {s b : State} {i : Nat} {f : FleetStatic} (r : ReplyTo) (hi : i < s.registry.length)
    (hact : (s.reg i).stat.inService = true ∨ f.inService = true)
    (h : f.inService = false → (s.reg i).location = .unlocated) :
    ((s.fleetBegun b i f r).reg i).stat = f ∧ (∀ j, j ≠ i → (s.fleetBegun b i f r).reg j = s.reg j) ∧
    ((s.reg i).stat.inService = true → f.inService = true → (s.fleetBegun b i f r).reg i = { s.reg i with stat := f }) ∧
    ((s.reg i).stat.inService = false →
      (s.fleetBegun b i f r).reg i = { (s.reg i).enterService with location := .unlocated, stat := f } ∧
        i ∈ (s.fleetBegun b i f r).ctr.unlocated) ∧
    (f.inService = false →
      ((s.fleetBegun b i f r).reg i).location = .outOfService ∧ i ∉ (s.fleetBegun b i f r).ctr.unlocated) := by
  obtain ⟨hothers, hsame, henter, hleave⟩ := placeFleet_spec hi hact h
  have hlen : i < (s.placeFleet i f).registry.length := by rwa [placeFleet_registry_length s i f h]
  have hself := fleetBegun_reg s b i i f r
  rw [if_pos ⟨rfl, hlen⟩] at hself
  rw [hself, fleetBegun_unlocated]
  refine ⟨rfl, fun j hj => ?_, fun ho hn => by rw [hsame ho hn], fun ho => ?_, hleave⟩
  · rw [fleetBegun_reg, if_neg (by simp [Ne.symm hj]), hothers j hj]
  · obtain ⟨hr, hmem⟩ := henter ho
    exact ⟨by rw [hr], hmem⟩

theorem exec_writeFleetEntry_refused {s : State} {e : IngressEntry} {rest : List IngressEntry} {st : Status}
    (hreq : s.Requests .writeFleetEntry e rest) (hroom : s.rng.report.length < 32)
    (h : s.judgeFleetWrite (e.frame.word 1).toNat (staticOfWord (e.frame.word 2)) = some st) :
    ∃ u, exec .writeFleetEntry s = .next u ∧ u.Replied e.frame st [] ∧ u.registry = s.registry ∧
      u.tst.write = none ∧ u.store = s.store := by
  have htake : takeWriteFleet e.frame (s.takeHead rest) = (s.takeHead rest).reply e.frame.replyTo st [] := by
    have hj := judgeFleetWrite_congr (s := s) (t := s.takeHead rest) (by simp) (by simp) (e.frame.word 1).toNat
      (staticOfWord (e.frame.word 2))
    simp only [takeWriteFleet, hj, h]
  refine ⟨_, (exec_writeFleetEntry hreq).trans (by rw [htake]), reply_replied _ _ _ _ (by simpa using hroom), by simp,
    settle_write_of_none _ ?_, by simp⟩
  simpa using hreq.2.2

theorem exec_writeFleetEntry_passed {s : State} {e : IngressEntry} {rest : List IngressEntry}
    (hreq : s.Requests .writeFleetEntry e rest)
    (h : s.judgeFleetWrite (e.frame.word 1).toNat (staticOfWord (e.frame.word 2)) = none) :
    exec .writeFleetEntry s =
      .next ((s.takeHead rest).fleetBegun s (e.frame.word 1).toNat (staticOfWord (e.frame.word 2)) e.frame.replyTo) := by
  have hj := judgeFleetWrite_congr (s := s) (t := s.takeHead rest) (by simp) (by simp) (e.frame.word 1).toNat
    (staticOfWord (e.frame.word 2))
  rw [exec_writeFleetEntry hreq, State.fleetBegun]
  simp only [takeWriteFleet, hj, h]

/-- Settles O56: the judgement of the entry decides between the refusals and the application; the completion stores
the entries in force. -/
theorem fleetEntryIsWritten : Obligations.FleetEntryIsWritten := by
  refine ⟨fun s e rest i x old hreq hi hx hold hroom hg hlen => ?_, fun s r i hheld hw hq hroom => ?_⟩
  · subst hi hx hold
    refine ⟨fun h => exec_writeFleetEntry_refused hreq hroom (judgeFleetWrite_badEntry h),
      fun hi h0 h => exec_writeFleetEntry_refused hreq hroom (judgeFleetWrite_notAllowed hi h0 h),
      fun hi h0 hact hid hfree hout => ?_⟩
    have hexec := exec_writeFleetEntry_passed hreq (judgeFleetWrite_passes hi h0 hid hfree hout)
    generalize staticOfWord (e.frame.word 2) = x at hact hout hexec ⊢
    generalize (e.frame.word 1).toNat = i at hi hact hout hexec ⊢
    have hreg : ∀ j, (s.takeHead rest).reg j = s.reg j := reg_congr (by simp)
    obtain ⟨hstat, hothers, hsame, henter, hleave⟩ :=
      fleetBegun_spec (s := s.takeHead rest) (b := s) (f := x) e.frame.replyTo (i := i) (by simp; omega)
        (by rwa [hreg]) (by rwa [hreg])
    refine ⟨_, hexec, hstat, fleetBegun_write i x _ hreq.2.2, by rw [fleetBegun_store, takeHead_store],
      fun j hj => (hothers j hj).trans (hreg j), fun ho hn => ?_, fun ho => ?_, hleave⟩
    · rw [hsame (by rwa [hreg]) hn, hreg]
    · obtain ⟨hr, hmem⟩ := henter (by rwa [hreg])
      rw [hr]
      exact ⟨rfl, rfl, rfl, rfl, rfl, rfl, rfl, rfl, rfl, hmem⟩
  · refine ⟨_, exec_fleetWriteComplete hheld hw hq, ?_, ?_, settle_write_of_none _ ?_,
      completeFleet_replied r s (by simp [State.endWrite]; omega)⟩
    · simp [State.completeFleet, State.replyIf, State.judgeTables, State.endWrite]
    · simp [State.completeFleet, State.replyIf, State.judgeTables]
    · simp [State.completeFleet, State.replyIf, State.judgeTables, State.endWrite]

end Sys2Proof.Machine
end
section
/-!
PROOFS. Staging (chapter 11).
-/

namespace Sys2Proof.Machine

/-! ## What is made of a value (R159, R186) -/

theorem ranged_of_mem {α : Type} {v lo hi : Nat} (copy : α) (h1 : lo ≤ v) (h2 : v ≤ hi) :
    ranged v lo hi copy = .taken copy := if_pos (by simp [h1, h2])

theorem ranged_of_not_mem {α : Type} {v lo hi : Nat} (copy : α) (h : v < lo ∨ hi < v) :
    ranged v lo hi copy = .refused := if_neg (by simp; omega)

theorem stage_of_number {n lo hi : Nat} {put : SafetyTables → Nat → SafetyTables}
    (h : (n, lo, hi, put) ∈ SafetyTables.numbers) (t : SafetyTables) (w w2 : Word) :
    t.stage n w w2 = ranged w.toNat lo hi (put t w.toNat) := by
  have hall : ∀ x ∈ SafetyTables.numbers, t.stage x.1 w w2 = ranged w.toNat x.2.1 x.2.2.1 (x.2.2.2 t w.toNat) := by
    simp only [SafetyTables.numbers, List.range, List.range.loop, List.map_cons, List.map_nil, List.cons_append,
      List.nil_append, List.forall_mem_cons]
    repeat' apply And.intro
    all_goals try rfl
    exact fun x hx => absurd hx List.not_mem_nil
  exact hall _ h

/-- The entries past the numbers: the stop matrix, the node table and the towers. -/
theorem stage_of_ge {n : Nat} (h : 30 ≤ n) (t : SafetyTables) (w w2 : Word) :
    t.stage n w w2 =
      if 32 ≤ n && n ≤ 79 then
        match Cause.all[n - 32]? with
        | some c => t.stageMatrix c w.toNat
        | none => .refused
      else if 96 ≤ n && n ≤ 191 then t.stageNode (n - 96) w
      else if 192 ≤ n && n ≤ 215 then t.stageTower (n - 192) w
      else .refused := by
  unfold SafetyTables.stage
  dsimp only
  split
  all_goals try omega
  rw [if_neg (by simp; omega)] <;> rfl

theorem stage_of_cause (t : SafetyTables) (c : Cause) (w w2 : Word) :
    t.stage (32 + c.num) w w2 = t.stageMatrix c w.toNat := by
  cases c <;> rfl

theorem stage_of_node {n : Nat} (h1 : 96 ≤ n) (h2 : n ≤ 191) (t : SafetyTables) (w w2 : Word) :
    t.stage n w w2 = t.stageNode (n - 96) w := by
  rw [stage_of_ge (by omega), if_neg (by simp; omega), if_pos (by simp [h1, h2])]

theorem stage_of_tower {n : Nat} (h1 : 192 ≤ n) (h2 : n ≤ 215) (t : SafetyTables) (w w2 : Word) :
    t.stage n w w2 = t.stageTower (n - 192) w := by
  rw [stage_of_ge (by omega), if_neg (by simp; omega), if_neg (by simp; omega), if_pos (by simp [h1, h2])]

theorem stage_of_unknown {n : Nat} (h : n = 30 ∨ n = 31 ∨ (80 ≤ n ∧ n ≤ 95) ∨ 216 ≤ n) (t : SafetyTables)
    (w w2 : Word) : t.stage n w w2 = .refused := by
  rw [stage_of_ge (by omega), if_neg (by simp; omega), if_neg (by simp; omega), if_neg (by simp; omega)]

/-! ## What a staged value leaves of the copy, and its answer (R186) -/

/-- The SAFETY copy and the answer in `u` are what the judgement of a value in `s` says. -/
def State.SafetyJudged (s u : State) (f : RingFrame) : Staged SafetyTables → Prop
  | .taken x => u.Replied f .ok [] ∧ u.tst.safetyChanged = true ∧ u.tst.stageSafety = x
  | .clamped x b => u.Replied f .clamped [b] ∧ u.tst.safetyChanged = true ∧ u.tst.stageSafety = x
  | .refused =>
    u.Replied f .badEntry [] ∧ u.tst.safetyChanged = s.tst.safetyChanged ∧ u.tst.stageSafety = s.tst.stageSafety

/-- The same of the OPERATIONS copy. -/
def State.OperationsJudged (s u : State) (f : RingFrame) : Staged OperationsTables → Prop
  | .taken x => u.Replied f .ok [] ∧ u.tst.operationsChanged = true ∧ u.tst.stageOperations = x
  | .clamped x b => u.Replied f .clamped [b] ∧ u.tst.operationsChanged = true ∧ u.tst.stageOperations = x
  | .refused =>
    u.Replied f .badEntry [] ∧ u.tst.operationsChanged = s.tst.operationsChanged ∧
      u.tst.stageOperations = s.tst.stageOperations

theorem give_replied {a : Answer} (f : RingFrame) (b : State) (h : a.state.rng.report.length < 32) :
    ((a.give f).settle b).Replied f a.status a.data :=
  reply_replied f a.status a.data b h

theorem takeStage_safety {s : State} {w : Word} (v w2 : Word) (f : RingFrame) (b : State)
    (hroom : s.rng.report.length < 32) (hg : entryGroup w = some .safety) :
    s.SafetyJudged (((s.takeStage w v w2).give f).settle b) f (s.tst.stageSafety.stage (entryNumber w) v w2) := by
  have htake : s.takeStage w v w2 =
      s.answerStaged (s.tst.stageSafety.stage (entryNumber w) v w2) State.setStageSafety := by
    simp only [State.takeStage, hg]
  rw [htake]
  cases s.tst.stageSafety.stage (entryNumber w) v w2 <;>
    exact ⟨give_replied f b hroom, by simp [Answer.give]; rfl, by simp [Answer.give]; rfl⟩

theorem takeStage_operations {s : State} {w : Word} (v w2 : Word) (f : RingFrame) (b : State)
    (hroom : s.rng.report.length < 32) (hg : entryGroup w = some .operations) :
    s.OperationsJudged (((s.takeStage w v w2).give f).settle b) f (s.tst.stageOperations.stage (entryNumber w) v) := by
  have htake : s.takeStage w v w2 =
      s.answerStaged (s.tst.stageOperations.stage (entryNumber w) v) State.setStageOperations := by
    simp only [State.takeStage, hg]
  rw [htake]
  cases s.tst.stageOperations.stage (entryNumber w) v <;>
    exact ⟨give_replied f b hroom, by simp [Answer.give]; rfl, by simp [Answer.give]; rfl⟩

theorem safetyJudged_congr {s t u : State} {f : RingFrame} {x : Staged SafetyTables} (h : t.tst = s.tst)
    (hj : t.SafetyJudged u f x) : s.SafetyJudged u f x := by
  cases x <;> simpa only [State.SafetyJudged, h] using hj

theorem operationsJudged_congr {s t u : State} {f : RingFrame} {x : Staged OperationsTables} (h : t.tst = s.tst)
    (hj : t.OperationsJudged u f x) : s.OperationsJudged u f x := by
  cases x <;> simpa only [State.OperationsJudged, h] using hj

/-! ## The clauses of O53 -/

/-- A taken value leaves this of the SAFETY copy. -/
def State.CopyTaken (u : State) (f : RingFrame) (x : SafetyTables) : Prop :=
  u.Replied f .ok [] ∧ u.tst.safetyChanged = true ∧ u.tst.stageSafety = x

/-- A value replaced by a bound leaves this. -/
def State.CopyClamped (u : State) (f : RingFrame) (x : SafetyTables) (b : Word) : Prop :=
  u.Replied f .clamped [b] ∧ u.tst.safetyChanged = true ∧ u.tst.stageSafety = x

/-- A refused value leaves this. -/
def State.CopyRefused (s u : State) (f : RingFrame) : Prop :=
  u.Replied f .badEntry [] ∧ u.tst.safetyChanged = s.tst.safetyChanged ∧ u.tst.stageSafety = s.tst.stageSafety

section
variable {s u : State} {f : RingFrame} {n : Nat} {v w2 : Word}

theorem judged_of_number {lo hi : Nat} {put : SafetyTables → Nat → SafetyTables}
    (h : s.SafetyJudged u f (s.tst.stageSafety.stage n v w2)) (hm : (n, lo, hi, put) ∈ SafetyTables.numbers) :
    (lo ≤ v.toNat → v.toNat ≤ hi → u.CopyTaken f (put s.tst.stageSafety v.toNat)) ∧
      (v.toNat < lo ∨ hi < v.toNat → s.CopyRefused u f) := by
  rw [stage_of_number hm] at h
  exact ⟨fun h1 h2 => by rwa [ranged_of_mem _ h1 h2] at h, fun h1 => by rwa [ranged_of_not_mem _ h1] at h⟩

theorem judged_of_bands (h : s.SafetyJudged u f (s.tst.stageSafety.stageBands v w2)) :
    (field v 16 16 < field v 0 16 → field v 0 16 < field w2 16 16 → field w2 16 16 < field w2 0 16 →
      u.CopyTaken f { s.tst.stageSafety with
        stopLo := field v 16 16, warnLo := field v 0 16, warnHi := field w2 16 16, stopHi := field w2 0 16 }) ∧
    (field v 0 16 ≤ field v 16 16 ∨ field w2 16 16 ≤ field v 0 16 ∨ field w2 0 16 ≤ field w2 16 16 →
      s.CopyRefused u f) := by
  refine ⟨fun h1 h2 h3 => ?_, fun h1 => ?_⟩
  · rwa [SafetyTables.stageBands, if_pos (by simp [h1, h2, h3])] at h
  · rwa [SafetyTables.stageBands, if_neg (by simp; omega)] at h

theorem stageMatrix_refused (t : SafetyTables) (c : Cause) {m : Nat} (h : Category.ofCode m = none) :
    t.stageMatrix c m = .refused := by
  simp only [SafetyTables.stageMatrix, h]

theorem stageMatrix_of_category {t : SafetyTables} {m : Nat} {x : Category} (c : Cause) (h : Category.ofCode m = some x) :
    t.stageMatrix c m =
      if c = .summitStop then .clamped t 255#32
      else if c.fixed then
        if x = c.defaultCategory then .taken (t.setMatrix c x)
        else .clamped (t.setMatrix c c.defaultCategory) (natWord c.defaultCategory.code)
      else if x.atLeast c.minCategory then .taken (t.setMatrix c x)
      else .clamped (t.setMatrix c c.minCategory) (natWord c.minCategory.code) := by
  simp only [SafetyTables.stageMatrix, h]

theorem judged_of_cause (c : Cause) (h : s.SafetyJudged u f (s.tst.stageSafety.stage (32 + c.num) v w2)) :
    (Category.ofCode v.toNat = none → s.CopyRefused u f) ∧
    (∀ x, Category.ofCode v.toNat = some x →
      (c = .summitStop → u.CopyClamped f s.tst.stageSafety 255) ∧
      (c.fixed = true →
        (x = c.defaultCategory → u.CopyTaken f (s.tst.stageSafety.setMatrix c x)) ∧
        (x ≠ c.defaultCategory →
          u.CopyClamped f (s.tst.stageSafety.setMatrix c c.defaultCategory) (natWord c.defaultCategory.code))) ∧
      (c.fixed = false → c ≠ .summitStop →
        (c.minCategory.code ≤ x.code → u.CopyTaken f (s.tst.stageSafety.setMatrix c x)) ∧
        (x.code < c.minCategory.code →
          u.CopyClamped f (s.tst.stageSafety.setMatrix c c.minCategory) (natWord c.minCategory.code)))) := by
  rw [stage_of_cause] at h
  refine ⟨fun hn => by rwa [stageMatrix_refused _ c hn] at h, fun x hx => ?_⟩
  rw [stageMatrix_of_category c hx] at h
  refine ⟨fun hc => by rwa [if_pos hc] at h, fun hf => ?_, fun hf hc => ?_⟩
  · rw [if_neg (by rintro rfl; cases hf), if_pos hf] at h
    exact ⟨fun hd => by rwa [if_pos hd] at h, fun hd => by rwa [if_neg hd] at h⟩
  · rw [if_neg hc, if_neg (by simp [hf])] at h
    exact ⟨fun hd => by rwa [if_pos (by simpa [Category.atLeast] using hd)] at h,
      fun hd => by rwa [if_neg (by simpa [Category.atLeast] using hd)] at h⟩

theorem judged_of_node (h : s.SafetyJudged u f (s.tst.stageSafety.stage n v w2)) (h1 : 96 ≤ n) (h2 : n ≤ 191) :
    let x := s.tst.stageSafety.nodes.getD ((n - 96) / 3) NodeEntry.unused
    let put := fun y => { s.tst.stageSafety with nodes := s.tst.stageSafety.nodes.set ((n - 96) / 3) y }
    ((n - 96) % 3 = 0 →
      (∀ r, Role.ofCode (field v 0 8) = some r → u.CopyTaken f (put { x with role := r, critical := bitOf v 8 })) ∧
      (Role.ofCode (field v 0 8) = none → s.CopyRefused u f)) ∧
    ((n - 96) % 3 = 1 →
      (bitOf v 0 = false → field v 28 4 = 0 → u.CopyTaken f (put { x with kinds := v })) ∧
      (bitOf v 0 = true ∨ field v 28 4 ≠ 0 → s.CopyRefused u f)) ∧
    ((n - 96) % 3 = 2 → u.CopyTaken f (put { x with dests := v })) := by
  rw [stage_of_node h1 h2, SafetyTables.stageNode] at h
  refine ⟨fun hp => ?_, fun hp => ?_, fun hp => ?_⟩ <;> rw [hp] at h <;> simp only [NodeEntry.withWord] at h
  · exact ⟨fun r hr => by rw [hr] at h; exact h, fun hr => by rw [hr] at h; exact h⟩
  · refine ⟨fun hb hk => ?_, fun hb => ?_⟩
    · rwa [if_neg (by simp [hb, hk])] at h
    · rwa [if_pos (by simpa using hb)] at h
  · exact h

theorem judged_of_tower (h : s.SafetyJudged u f (s.tst.stageSafety.stage n v w2)) (h1 : 192 ≤ n) (h2 : n ≤ 215) :
    let x : TowerEntry :=
      { node := field v 24 5, number := field v 16 8, trains := field v 13 3, interval := field v 0 13 }
    let legal :=
      1 ≤ x.node ∧ 1 ≤ x.number ∧ 1 ≤ x.trains ∧ x.trains ≤ 4 ∧ 100 ≤ x.interval ∧ x.interval ≤ 5000
    let put := fun y => { s.tst.stageSafety with towers := s.tst.stageSafety.towers.set (n - 192) y }
    (v = 0 → u.CopyTaken f (put none)) ∧ (legal → u.CopyTaken f (put (some x))) ∧
      (v ≠ 0 → ¬legal → s.CopyRefused u f) := by
  intro x legal put
  rw [stage_of_tower h1 h2, SafetyTables.stageTower] at h
  have hlegal : ∀ hv : v ≠ 0, towerOfWord v = if legal then some (some x) else none := fun hv => by
    rw [towerOfWord, if_neg hv]
    simp only [legal, x, Bool.and_eq_true, decide_eq_true_eq, and_assoc]
  refine ⟨fun hv => ?_, fun hl => ?_, fun hv hl => ?_⟩
  · rwa [towerOfWord, if_pos hv] at h
  · have hv : v ≠ 0 := by
      rintro rfl
      exact absurd hl.1 (by simp [x, field])
    rwa [hlegal hv, if_pos hl] at h
  · rwa [hlegal hv, if_neg hl] at h

theorem judged_of_unknown (h : s.SafetyJudged u f (s.tst.stageSafety.stage n v w2))
    (hn : n = 30 ∨ n = 31 ∨ (80 ≤ n ∧ n ≤ 95) ∨ 216 ≤ n) : s.CopyRefused u f := by
  rwa [stage_of_unknown hn] at h

theorem judged_of_operations (h : s.OperationsJudged u f (s.tst.stageOperations.stage n v)) :
    let top := if n % 7 = 6 then 3 else 65535
    let bounds : GripClass := { fMin := field v 16 16, fMax := field v 0 16 }
    let refused := s.OperationsJudged u f .refused
    (n ≤ 27 → v.toNat ≤ top →
      s.OperationsJudged u f (.taken { s.tst.stageOperations with
        profiles :=
          s.tst.stageOperations.profiles.set (n / 7)
            ((s.tst.stageOperations.profiles.getD (n / 7) DoorProfile.zero).withField (n % 7) v.toNat) })) ∧
    (n ≤ 27 → top < v.toNat → refused) ∧
    (28 ≤ n → n ≤ 31 → bounds.fMin ≤ bounds.fMax →
      s.OperationsJudged u f (.taken { s.tst.stageOperations with
        classes := s.tst.stageOperations.classes.set (n - 28) bounds })) ∧
    (28 ≤ n → n ≤ 31 → bounds.fMax < bounds.fMin → refused) ∧ (31 < n → refused) := by
  unfold OperationsTables.stage at h
  refine ⟨fun h1 h2 => ?_, fun h1 h2 => ?_, fun h1 h2 h3 => ?_, fun h1 h2 h3 => ?_, fun h1 => ?_⟩
  · rwa [if_pos h1, ranged_of_mem _ (Nat.zero_le _) h2] at h
  · rwa [if_pos h1, ranged_of_not_mem _ (.inr h2)] at h
  · rwa [if_neg (by omega), if_pos h2, if_pos h3] at h
  · rwa [if_neg (by omega), if_pos h2, if_neg (Nat.not_le.mpr h3)] at h
  · rwa [if_neg (by omega), if_neg (by omega)] at h

end

theorem takeStage_keeps (s : State) (w v w2 : Word) :
    (s.takeStage w v w2).state.tst.safety = s.tst.safety ∧ (s.takeStage w v w2).state.tst.operations = s.tst.operations ∧
      (s.takeStage w v w2).state.store = s.store ∧
      (entryGroup w ≠ some .operations →
        (s.takeStage w v w2).state.tst.stageOperations = s.tst.stageOperations ∧
          (s.takeStage w v w2).state.tst.operationsChanged = s.tst.operationsChanged) ∧
      (entryGroup w ≠ some .safety →
        (s.takeStage w v w2).state.tst.stageSafety = s.tst.stageSafety ∧
          (s.takeStage w v w2).state.tst.safetyChanged = s.tst.safetyChanged) := by
  unfold State.takeStage State.answerStaged
  repeat' split
  all_goals
    refine ⟨rfl, rfl, rfl, fun h => ?_, fun h => ?_⟩
    all_goals first | exact ⟨rfl, rfl⟩ | exact absurd (by assumption) h

/-- Settles O53: each entry's judgement is its row of `SafetyTables.stage` or `OperationsTables.stage`, and
`SafetyJudged` and `OperationsJudged` say what the copy and the reply then are. -/
theorem stagingIsJudged : Obligations.StagingIsJudged := by
  intro s e rest hroom
  have hroom' : (s.takeHead rest).rng.report.length < 32 := by simpa using hroom
  refine ⟨fun w v hreq hw hv => ?_, fun g hreq hg => ?_⟩
  · subst hw hv
    have hexec : exec .stageEntry s = .next ((((s.takeHead rest).takeStage (e.frame.word 1) (e.frame.word 2)
        (e.frame.word 3)).give e.frame).settle s) := by
      rw [show exec .stageEntry s = execStageEntry s from rfl, execStageEntry, manage_running hreq]
    generalize hy : s.takeHead rest = y at hexec hroom'
    have ht : y.tst = s.tst := by rw [← hy, takeHead_tst]
    have hst : y.store = s.store := by rw [← hy, takeHead_store]
    obtain ⟨hsaf, hop, hstore, hops, hsafs⟩ := takeStage_keeps y (e.frame.word 1) (e.frame.word 2) (e.frame.word 3)
    have hsj := fun hg => safetyJudged_congr ht
      (takeStage_safety (e.frame.word 2) (e.frame.word 3) e.frame s hroom' (w := e.frame.word 1) hg)
    have hoj := fun hg => operationsJudged_congr ht
      (takeStage_operations (e.frame.word 2) (e.frame.word 3) e.frame s hroom' (w := e.frame.word 1) hg)
    rw [ht] at hsaf hop hops hsafs hsj hoj
    have hbad : entryGroup (e.frame.word 1) = some .fleet ∨ entryGroup (e.frame.word 1) = none →
        (y.takeStage (e.frame.word 1) (e.frame.word 2) (e.frame.word 3)) = y.answer .badEntry := fun h => by
      rcases h with h | h <;> simp only [State.takeStage, h]
    refine ⟨_, hexec, by simp [Answer.give, hsaf], by simp [Answer.give, hstore, hst], by simp [Answer.give, hop],
      fun hg => ?_, fun hg => ⟨?_, ?_, judged_of_operations (hoj hg)⟩, fun hg => ?_, fun hg => ?_⟩
    · obtain ⟨h1, h2⟩ := hops hg
      exact ⟨by simp [Answer.give, h1], by simp [Answer.give, h2]⟩
    · simp [Answer.give, (hsafs (by simp [hg])).1]
    · simp [Answer.give, (hsafs (by simp [hg])).2]
    · have h := hsj hg
      exact ⟨fun lo hi put hm => judged_of_number h hm,
        fun hn => judged_of_bands (by rw [hn] at h; exact h),
        fun c hn => judged_of_cause c (by rw [hn] at h; exact h),
        fun h1 h2 => judged_of_node h h1 h2, fun h1 h2 => judged_of_tower h h1 h2, judged_of_unknown h⟩
    · rw [hbad hg]
      exact ⟨give_replied e.frame s hroom', by simp [Answer.give, State.answer, ht],
        by simp [Answer.give, State.answer, ht]⟩
  · subst hg
    have hexec : exec .discardStage s =
        .next ((((s.takeHead rest).takeDiscard (e.frame.word 1).toNat).give e.frame).settle s) := by
      rw [show exec .discardStage s = execDiscardStage s from rfl, execDiscardStage, manage_running hreq]
    generalize hy : s.takeHead rest = y at hexec hroom'
    have ht : y.tst = s.tst := by rw [← hy, takeHead_tst]
    have hbad : TableGroup.ofCode (e.frame.word 1).toNat = some .fleet ∨ TableGroup.ofCode (e.frame.word 1).toNat = none →
        y.takeDiscard (e.frame.word 1).toNat = y.answer .badEntry := fun h => by
      rcases h with h | h <;> simp only [State.takeDiscard, h]
    refine ⟨_, hexec, ?_, ?_, fun hg => ?_, fun hg => ?_, fun hg => ?_⟩
    · unfold State.takeDiscard
      split <;> simp [Answer.give, State.answer, ht]
    · unfold State.takeDiscard
      split <;> simp [Answer.give, State.answer, ht]
    · simp only [State.takeDiscard, hg]
      exact ⟨give_replied e.frame s hroom', by simp [Answer.give, State.answer],
        by simp [Answer.give, State.answer, ht], by simp [Answer.give, State.answer, ht]⟩
    · simp only [State.takeDiscard, hg]
      exact ⟨give_replied e.frame s hroom', by simp [Answer.give, State.answer],
        by simp [Answer.give, State.answer, ht], by simp [Answer.give, State.answer, ht]⟩
    · rw [hbad hg]
      exact ⟨give_replied e.frame s hroom', by simp [Answer.give, State.answer, ht],
        by simp [Answer.give, State.answer, ht]⟩

end Sys2Proof.Machine
end
section
/-!
PROOFS. Requests that read, and requests during a write (chapter 11).
-/

namespace Sys2Proof.Machine

/-! ## The end of a command that changed no collection (R191) -/

theorem parkChanged_of_eq {s t : State} (hc : t.ctr = s.ctr) (hg : t.registry = s.registry) (hp : t.rpu = s.rpu) :
    parkChanged s t = false := by
  have hentry : t.parkEntry = s.parkEntry := funext fun e => by
    simp only [State.parkEntry, State.doorOf, State.verdictOf, State.forceOf, reg_congr hg]
  have hgarage : t.parkGarage = s.parkGarage := funext fun e => by
    simp only [State.parkGarage, State.doorOf, State.verdictOf, State.forceOf, reg_congr hg]
  simp [parkChanged, queueChanged, stackChanged, hc, hp, hentry, hgarage]

theorem staleIf_of_same {s b : State} (h : parkChanged b s = false) : s.staleIf b = s := by
  unfold State.staleIf
  simp only [h, Bool.false_eq_true, if_false]
  repeat' split
  all_goals rfl

theorem settle_write_of_same {s b : State} (hq : s.quiet) (hr : wasReset b s = false) (hc : s.ctr = b.ctr)
    (hg : s.registry = b.registry) (hp : s.rpu = b.rpu) : (s.settle b).tst.write = s.tst.write := by
  rw [settle_of_quiet hq hr, staleIf_of_same, countChanges_write, transmit_write]
  exact parkChanged_of_eq (by simp [hc]) (by simp [hg]) (by simp [hp])

theorem settle_tstRest_of_quiet {s b : State} (hq : s.quiet) (hr : wasReset b s = false) :
    (s.settle b).tst.eventDropped = s.tst.eventDropped ∧
      (s.settle b).tst.malformedRequests = s.tst.malformedRequests := by
  rw [settle_of_quiet hq hr]
  have h : (s.transmit.staleIf b).tst.rest = s.tst.rest :=
    (staleIf_part_keeps s.transmit b .events rfl).trans (transmit_part_keeps s .events rfl)
  simp only [Tst.rest, Prod.mk.injEq] at h
  obtain ⟨-, -, hdropped, -, hmalformed, -⟩ := h
  exact ⟨hdropped, hmalformed⟩

theorem wasReset_of_none {b : State} (s : State) (h : b.tst.restart = none) : wasReset b s = false := by
  simp [wasReset, h]

/-! ## A request during a write (R185) -/

theorem manage_busy {row : Row} {body : RingFrame → State → State} {s : State} {e : IngressEntry}
    {rest : List IngressEntry} (h : s.Delivers row e rest) (hr : s.tst.restart = none) (hw : s.tst.write.isSome = true)
    (hrow : row ≠ .readStatus) :
    manage row body s = ((s.takeHead rest).reply e.frame.replyTo .busy []).settle s := by
  unfold manage
  rw [if_neg (by simp [hr]), deliver_running h, judgeRequest, if_pos (by simp [hw, hrow])]

theorem manage_readStatus {body : RingFrame → State → State} {s : State} {e : IngressEntry}
    {rest : List IngressEntry} (h : s.Delivers .readStatus e rest) (hr : s.tst.restart = none) :
    manage .readStatus body s = (body e.frame (s.takeHead rest)).settle s := by
  unfold manage
  rw [if_neg (by simp [hr]), deliver_running h, judgeRequest, if_neg (by simp)]

@[simp] theorem takeHead_icm (s : State) (rest : List IngressEntry) : (s.takeHead rest).icm = s.icm := by
  obtain ⟨r, h⟩ := takeHead_eq_setRng s rest
  rw [h, State.setRng_icm]

@[simp] theorem takeHead_slk (s : State) (rest : List IngressEntry) : (s.takeHead rest).slk = s.slk := by
  obtain ⟨r, h⟩ := takeHead_eq_setRng s rest
  rw [h, State.setRng_slk]

theorem takeHead_page (s : State) (rest : List IngressEntry) (c : Collection) : (s.takeHead rest).page c = s.page c := by
  obtain ⟨r, h⟩ := takeHead_eq_setRng s rest
  rw [h]
  cases c <;> rfl

/-- The commands of the management requests but READ_STATUS, with the row of each. -/
def managedRows (key : KeyPosition) : List (Instr × Row) :=
  [(Instr.readEntry, Row.readEntry), (.readCollection, .readCollection), (.stageEntry, .stageEntry),
    (.discardStage, .discardStage), (.commit key, .commit), (.writeFleetEntry, .writeFleetEntry),
    (.setProtection key, .setProtection), (.park, .park), (.restart key, .restart),
    (.resetCauses key, .resetCauses), (.setDoorMode, .setDoorMode), (.holdOpen, .holdOpen),
    (.releaseHold, .releaseHold), (.doorRetry, .doorRetry), (.garageNext, .garageNext),
    (.garageRelease, .garageRelease), (.removeCabin, .removeCabin), (.locateCabin, .locateCabin),
    (.linkRestart, .linkRestart), (.call, .call), (.answer, .answer), (.hangUp, .hangUp)]

theorem managedRows_ne {key : KeyPosition} {p : Instr × Row} (h : p ∈ managedRows key) : p.2 ≠ .readStatus := by
  revert p
  simp only [managedRows, List.forall_mem_cons]
  repeat' apply And.intro
  all_goals first | exact Row.noConfusion | exact fun p hp => absurd hp List.not_mem_nil

/-- A request but RESTART is handed to `manage`. -/
theorem exec_managed {key : KeyPosition} {p : Instr × Row} (h : p ∈ managedRows key) (s : State) (hp : p.2 ≠ .restart) :
    ∃ body, exec p.1 s = .next (manage p.2 body s) := by
  revert p
  simp only [managedRows, List.forall_mem_cons]
  repeat' apply And.intro
  all_goals first
    | exact fun _ => ⟨_, rfl⟩
    | exact fun h => absurd rfl h
    | exact fun p hp => absurd hp List.not_mem_nil

theorem restart_of_managedRows {key : KeyPosition} {c : Instr} (h : (c, Row.restart) ∈ managedRows key) :
    c = .restart key := by
  simpa [managedRows] using h

/-- The end of a request that is answered BUSY. -/
def State.busyEnd (s : State) (e : IngressEntry) (rest : List IngressEntry) : State :=
  ((s.takeHead rest).reply e.frame.replyTo .busy []).settle s

theorem exec_busy {key : KeyPosition} {c : Instr} {row : Row} {s : State} {e : IngressEntry} {rest : List IngressEntry}
    (hmem : (c, row) ∈ managedRows key) (h : s.Delivers row e rest) (hr : s.tst.restart = none)
    (hw : s.tst.write.isSome = true) : exec c s = .next (s.busyEnd e rest) := by
  have hbusy : ∀ body, manage row body s = s.busyEnd e rest := fun body =>
    manage_busy h hr hw (managedRows_ne hmem)
  by_cases hrow : row = .restart
  · subst hrow
    rw [restart_of_managedRows hmem, show exec (.restart key) s = execRestart key s from rfl, execRestart, hbusy]
    have hnone : (s.busyEnd e rest).tst.restart = none := by simp [State.busyEnd, hr]
    have href : (s.busyEnd e rest).restartRefused = false := by simp [State.restartRefused, hnone]
    simp [href]
  · obtain ⟨body, hbody⟩ := exec_managed hmem s hrow
    rw [hbody, hbusy]

/-- Settles O60: what each read answers, and the answer BUSY to a request during a write. -/
theorem requestsAreReadOrBusy : Obligations.RequestsAreReadOrBusy := by
  refine ⟨fun s e rest hrestart hroom hg => ?_, fun s e rest key c row hdel hrestart hw hroom hg hmem => ?_⟩
  · have hroom' : (s.takeHead rest).rng.report.length < 32 := by simpa using hroom
    refine ⟨fun key hdel => ?_, fun n hdel hw hn => ?_, fun hdel hw => ?_, fun hdel => ?_⟩
    · have hexec : exec (.readStatus key) s =
          .next ((takeReadStatus e.frame ((s.takeHead rest).setKey key)).settle s) := by
        rw [show exec (.readStatus key) s = execReadStatus key s from rfl, execReadStatus,
          manage_readStatus hdel hrestart]
      have hquiet : (takeReadStatus e.frame ((s.takeHead rest).setKey key)).quiet := by
        simpa [State.quiet, takeReadStatus, State.clearDropped, State.setKey] using hg
      have hreset := wasReset_of_none (takeReadStatus e.frame ((s.takeHead rest).setKey key)) hrestart
      refine ⟨_, _, hexec, ?_, reply_replied e.frame .ok _ s hroom', ?_, ?_, ?_, ?_⟩
      · simp
      · rw [(settle_tstRest_of_quiet hquiet hreset).1]
        simp [takeReadStatus, State.reply, placeReport_tst, State.clearDropped]
      · rw [settle_rng_of_quiet hquiet hreset]
        simp [takeReadStatus, State.reply, State.placeReport, State.clearDropped, hroom, State.setReport]
      · rw [settle_write_of_same hquiet hreset] <;> simp [takeReadStatus, State.clearDropped, State.setKey]
      · rw [settle_pins]
        simp [takeReadStatus, State.clearDropped, State.setKey]
    · have hexec : exec .readEntry s =
          .next ((((s.takeHead rest).readEntry (e.frame.word 1)).give e.frame).settle s) := by
        rw [show exec .readEntry s = execReadEntry s from rfl, execReadEntry, manage_running ⟨hdel, hrestart, hw⟩]
      have hanswer : ∀ words ws, words = some ws → (s.takeHead rest).readEntry (e.frame.word 1) =
          (s.takeHead rest).answerEntry words →
          ((((s.takeHead rest).readEntry (e.frame.word 1)).give e.frame).settle s).Replied e.frame .ok ws :=
        fun words ws hws h => by
          rw [h, hws]
          exact give_replied e.frame s hroom'
      subst hn
      refine ⟨_, hexec, fun hgroup hstage => ⟨fun ws hws => ?_, fun hnone => ?_⟩, fun t ws hgroup hstage ht hws => ?_,
        fun hgroup hstage hlen => ?_⟩
      · refine hanswer _ ws hws ?_
        simp only [State.readEntry, hgroup, hstage, takeHead_tst]
      · have h : (s.takeHead rest).readEntry (e.frame.word 1) = (s.takeHead rest).answer .badEntry := by
          simp only [State.readEntry, hgroup, hstage, takeHead_tst, hnone, State.answerEntry]
        rw [h]
        exact give_replied e.frame s hroom'
      · refine hanswer _ ws hws ?_
        simp only [State.readEntry, hgroup, hstage, takeHead_tst, ht]
      · refine hanswer ((s.takeHead rest).fleetWords (entryNumber (e.frame.word 1))) _ ?_ ?_
        · simp only [State.fleetWords, takeHead_registry, State.reg, List.getD_eq_getElem?_getD,
            List.getElem?_eq_getElem hlen, Option.map_some, Option.getD_some]
        · simp only [State.readEntry, hgroup, hstage]
    · have hexec : exec .readCollection s =
          .next ((((s.takeHead rest).readPage (e.frame.word 1)).give e.frame).settle s) := by
        rw [show exec .readCollection s = execReadCollection s from rfl, execReadCollection,
          manage_running ⟨hdel, hrestart, hw⟩]
      refine ⟨_, hexec, ?_⟩
      unfold State.readPage
      cases Config.collectionOfCode (field (e.frame.word 1) 24 8) with
      | none => exact give_replied e.frame s hroom'
      | some c =>
        simp only [takeHead_page, takeHead_tst]
        exact give_replied e.frame s hroom'
    · have hexec : exec .mgmtRequestUnknownKind s =
          .next ((takeUnknownRequest e.frame (s.takeHead rest)).settle s) := by
        rw [show exec .mgmtRequestUnknownKind s = execMgmtRequestUnknownKind s from rfl, execMgmtRequestUnknownKind,
          if_neg (by simp [hrestart]), deliver_running hdel]
      refine ⟨_, hexec, fun hm => ?_, fun hm => ?_⟩
      · rw [takeUnknownRequest, if_pos hm]
        have hquiet : ((s.takeHead rest).setTst
            { (s.takeHead rest).tst with
              malformedRequests := satInc (s.takeHead rest).tst.malformedRequests }).quiet := by
          simpa [State.quiet] using hg
        have hreset := wasReset_of_none ((s.takeHead rest).setTst
            { (s.takeHead rest).tst with malformedRequests := satInc (s.takeHead rest).tst.malformedRequests }) hrestart
        rw [(settle_tstRest_of_quiet hquiet hreset).2, settle_rng_of_quiet hquiet hreset]
        simp
      · rw [takeUnknownRequest, if_neg (by simp [hm])]
        exact reply_replied e.frame .badEntry [] s hroom'
  · have hroom' : (s.takeHead rest).rng.report.length < 32 := by simpa using hroom
    have hquiet : ((s.takeHead rest).reply e.frame.replyTo .busy []).quiet := by simpa [State.quiet] using hg
    have hreset := wasReset_of_none ((s.takeHead rest).reply e.frame.replyTo .busy []) hrestart
    refine ⟨_, exec_busy hmem hdel hrestart hw, reply_replied e.frame .busy [] s hroom', ?_, ?_, ?_, ?_, ?_, ?_, ?_, ?_, ?_, ?_⟩
    · simp [State.busyEnd]
    · simp [State.busyEnd, settle_ctr_of_quiet hquiet hreset]
    · simp [State.busyEnd]
    · simp [State.busyEnd, settle_of_quiet hquiet hreset]
    · simp [State.busyEnd, settle_of_quiet hquiet hreset]
    · simp [State.busyEnd]
    · rw [State.busyEnd, settle_write_of_same hquiet hreset] <;> simp
    · simp [State.busyEnd]
    · simp [State.busyEnd]
    · simp [State.busyEnd, hrestart]

end Sys2Proof.Machine
end
section
/-!
PROOFS. The door units and records: what their operations leave (chapter 5).
-/

namespace Sys2Proof.Machine

/-! ## A unit set (R92) -/

theorem setDoorUnit_doorUnit (s : State) (u v : DoorUnitName) (x : DoorUnit) :
    (s.setDoorUnit u x).doorUnit v = if u = v then x else s.doorUnit v := by
  cases u <;> cases v <;> rfl

@[simp] theorem setDoorUnit_self (s : State) (u : DoorUnitName) (x : DoorUnit) : (s.setDoorUnit u x).doorUnit u = x := by
  rw [setDoorUnit_doorUnit, if_pos rfl]

theorem setDoorUnit_other (s : State) {u v : DoorUnitName} (x : DoorUnit) (h : u ≠ v) :
    (s.setDoorUnit u x).doorUnit v = s.doorUnit v := by
  rw [setDoorUnit_doorUnit, if_neg h]

@[simp] theorem setDoorUnit_doorRecord (s : State) (u : DoorUnitName) (x : DoorUnit) (n : Nat) :
    (s.setDoorUnit u x).doorRecord n = s.doorRecord n := by cases u <;> rfl

@[simp] theorem setDoorUnit_tagSeq (s : State) (u : DoorUnitName) (x : DoorUnit) :
    (s.setDoorUnit u x).dsq.tagSeq = s.dsq.tagSeq := by cases u <;> rfl

@[simp] theorem setDoorUnit_mode (s : State) (u : DoorUnitName) (x : DoorUnit) :
    (s.setDoorUnit u x).dsq.mode = s.dsq.mode := by cases u <;> rfl

@[simp] theorem setDoorUnit_rng (s : State) (u : DoorUnitName) (x : DoorUnit) : (s.setDoorUnit u x).rng = s.rng := by
  cases u <;> rfl

@[simp] theorem setDoorUnit_registry (s : State) (u : DoorUnitName) (x : DoorUnit) :
    (s.setDoorUnit u x).registry = s.registry := by cases u <;> rfl

@[simp] theorem setDoorUnit_now (s : State) (u : DoorUnitName) (x : DoorUnit) : (s.setDoorUnit u x).now = s.now := by
  cases u <;> rfl

@[simp] theorem setDoorUnit_controlRoom (s : State) (u : DoorUnitName) (x : DoorUnit) :
    (s.setDoorUnit u x).controlRoom = s.controlRoom := by cases u <;> rfl

theorem doorUnit_congr {s t : State} (h : t.dsq = s.dsq) (u : DoorUnitName) : t.doorUnit u = s.doorUnit u := by
  cases u
  · exact congrArg Dsq.openUnit h
  · exact congrArg Dsq.closeUnit h

theorem doorRecord_congr {s t : State} (h : t.dsq.records = s.dsq.records) (n : Nat) : t.doorRecord n = s.doorRecord n := by
  simp only [State.doorRecord, h]

theorem maySend_congr {s t : State} {c : DoorCommand} (h : t.doorRecord c.serial = s.doorRecord c.serial) :
    t.maySend c = s.maySend c := by simp only [State.maySend, h]

@[simp] theorem modRecord_doorUnit (s : State) (n : Nat) (f : DoorRecord → DoorRecord) (u : DoorUnitName) :
    (s.modRecord n f).doorUnit u = s.doorUnit u := by cases u <;> rfl

theorem after_congr {s t : State} (h : t.tmb = s.tmb) (n : Nat) : t.after n = s.after n := by
  simp only [State.after, State.now, h]

@[simp] theorem placeControl_dsq (s : State) (f : EgressFrame) : (s.placeControl f).dsq = s.dsq :=
  (State.placeControl_does f (Does.refl 65536 s) rfl).dsq_eq

@[simp] theorem placeControl_doorUnit (s : State) (f : EgressFrame) (u : DoorUnitName) :
    (s.placeControl f).doorUnit u = s.doorUnit u := doorUnit_congr (placeControl_dsq s f) u

@[simp] theorem advanceDoorTag_doorUnit (s : State) (u : DoorUnitName) : s.advanceDoorTag.doorUnit u = s.doorUnit u := by
  cases u <;> rfl

@[simp] theorem advanceDoorTag_rng (s : State) : s.advanceDoorTag.rng = s.rng := rfl

@[simp] theorem advanceDoorTag_controlRoom (s : State) : s.advanceDoorTag.controlRoom = s.controlRoom := rfl

/-! ## Commands offered (R93, R103) -/

/-- A command offered with room in CONTROL is QUEUED under DSQ's tag. -/
theorem offerFirst_of_room {s : State} (u : DoorUnitName) (c : DoorCommand) (h : s.controlRoom = true) :
    (s.offerFirst u c).doorUnit u = { s.doorUnit u with state := busyWith c s.dsq.tagSeq 0 .queued } ∧
      (s.offerFirst u c).dsq.tagSeq = (s.dsq.tagSeq + 1) % 8 := by
  unfold State.offerFirst State.setUnitState
  simp [h]
  rfl

/-- An offered command is not yet sent. -/
theorem offerFirst_unit (s : State) (u : DoorUnitName) (c : DoorCommand) :
    ∃ b : BusyCommand, b.cmd = c ∧ (s.offerFirst u c).doorUnit u = { s.doorUnit u with state := .busy b } := by
  unfold State.offerFirst State.setUnitState busyWith
  dsimp only
  have hunit : ∀ (y : State) (b : BusyCommand), b.cmd = c → y.doorUnit u = s.doorUnit u →
      ∃ b' : BusyCommand, b'.cmd = c ∧
        (y.setDoorUnit u { y.doorUnit u with state := .busy b }).doorUnit u = { s.doorUnit u with state := .busy b' } :=
    fun y b hb hy => ⟨b, hb, by rw [setDoorUnit_self, hy]⟩
  split
  · exact hunit _ _ rfl (by simp)
  · exact hunit _ _ rfl (by simp)

theorem offerFirst_other (s : State) {u v : DoorUnitName} (c : DoorCommand) (h : u ≠ v) :
    (s.offerFirst u c).doorUnit v = s.doorUnit v := by
  unfold State.offerFirst State.setUnitState
  dsimp only
  split <;> simp [setDoorUnit_other _ _ h]

theorem offerFirst_records (s : State) (u : DoorUnitName) (c : DoorCommand) :
    (s.offerFirst u c).dsq.records = s.dsq.records := by
  unfold State.offerFirst State.setUnitState State.setDoorUnit
  cases u <;> dsimp only <;> split <;> simp <;> rfl

theorem offerAgain_of_room {s : State} (u : DoorUnitName) (c : DoorCommand) (n : Nat) (h : s.controlRoom = true) :
    (s.offerAgain u c n).doorUnit u = { s.doorUnit u with state := busyWith c s.dsq.tagSeq n .queued } ∧
      (s.offerAgain u c n).dsq.tagSeq = (s.dsq.tagSeq + 1) % 8 := by
  unfold State.offerAgain State.setUnitState
  simp [h]
  rfl

/-! ## A unit that becomes IDLE (R91, R92) -/

theorem unitToIdle_of_none {s : State} {u : DoorUnitName} (h : (s.doorUnit u).pending = none) :
    s.unitToIdle u = s.setUnitState u .idle := by simp only [State.unitToIdle, h]

theorem unitToIdle_of_send {s : State} {u : DoorUnitName} {c : DoorCommand} (h : (s.doorUnit u).pending = some c)
    (hs : s.maySend c = true) :
    s.unitToIdle u = (s.setDoorUnit u { s.doorUnit u with state := .idle, pending := none }).offerFirst u c := by
  simp only [State.unitToIdle, h, hs, if_true]

theorem unitToIdle_of_held {s : State} {u : DoorUnitName} {c : DoorCommand} (h : (s.doorUnit u).pending = some c)
    (hs : s.maySend c = false) :
    s.unitToIdle u = s.setDoorUnit u { s.doorUnit u with state := .idle, pending := none } := by
  simp only [State.unitToIdle, h, hs, Bool.false_eq_true, if_false]

/-- After it the unit holds nothing pending, and is IDLE or BUSY with what was pending. -/
theorem unitToIdle_unit (s : State) (u : DoorUnitName) :
    ((s.unitToIdle u).doorUnit u).pending = none ∧
      (((s.unitToIdle u).doorUnit u).state = .idle ∨
        ∃ b, ((s.unitToIdle u).doorUnit u).state = .busy b ∧ (s.doorUnit u).pending = some b.cmd ∧ s.maySend b.cmd = true) := by
  cases h : (s.doorUnit u).pending with
  | none => rw [unitToIdle_of_none h]; simp [State.setUnitState, h]
  | some c =>
    cases hs : s.maySend c with
    | false => rw [unitToIdle_of_held h hs]; simp
    | true =>
      rw [unitToIdle_of_send h hs]
      obtain ⟨b, hb, hu⟩ :=
        offerFirst_unit (s.setDoorUnit u { s.doorUnit u with state := .idle, pending := none }) u c
      rw [hu]
      exact ⟨by simp, .inr ⟨b, rfl, by rw [hb], by rw [hb, hs]⟩⟩

theorem unitToIdle_records (s : State) (u : DoorUnitName) : (s.unitToIdle u).dsq.records = s.dsq.records := by
  have hset : ∀ x, (s.setDoorUnit u x).dsq.records = s.dsq.records := fun x => by cases u <;> rfl
  unfold State.unitToIdle
  dsimp only
  repeat' split
  · exact hset _
  · rw [offerFirst_records, hset]
  · exact hset _

/-! ## Commands withdrawn (R106, R108 to R111) -/

/-- A unit holds a command of which `p` holds and that is not yet sent. -/
def DoorUnit.Owes (x : DoorUnit) (p : DoorCommand → Bool) : Prop :=
  (∃ c, x.pending = some c ∧ p c = true) ∨ ∃ b, x.state = .busy b ∧ b.phase.unsent = true ∧ p b.cmd = true

theorem withdrawControl_dsq (s : State) (k : RingKind) (tag : Nat) : (s.withdrawControl k tag).dsq = s.dsq := rfl

theorem withdrawPending_unit (s : State) (u : DoorUnitName) (p : DoorCommand → Bool) :
    ((s.withdrawPending u p).doorUnit u).state = (s.doorUnit u).state ∧
      ((s.withdrawPending u p).doorUnit u).pending = (s.doorUnit u).pending.filter fun c => !p c := by
  unfold State.withdrawPending
  split
  · rename_i c hc
    split <;> simp [*, Option.filter]
  · rename_i hc
    simp [hc]

theorem withdrawBusy_unit {s : State} {u : DoorUnitName} {p : DoorCommand → Bool} {b : BusyCommand}
    (h : (s.doorUnit u).state = .busy b) (hs : b.phase.unsent = true) (hp : p b.cmd = true) :
    ∃ x : State, s.withdrawBusy u p = x.unitToIdle u ∧ x.dsq = s.dsq := by
  unfold State.withdrawBusy
  simp only [h, hs, hp, Bool.and_self, if_true]
  split
  · exact ⟨_, rfl, withdrawControl_dsq ..⟩
  · exact ⟨_, rfl, rfl⟩

theorem withdrawBusy_of_not {s : State} {u : DoorUnitName} {p : DoorCommand → Bool}
    (h : ∀ b, (s.doorUnit u).state = .busy b → b.phase.unsent = true → p b.cmd = false) : s.withdrawBusy u p = s := by
  unfold State.withdrawBusy
  split
  · rename_i b hb
    rw [if_neg]
    intro hc
    simp only [Bool.and_eq_true] at hc
    rw [h b hb hc.1] at hc
    cases hc.2
  · rfl

/-- Nothing of which `p` holds waits to be sent after its withdrawal. -/
theorem withdrawUnsent_owes (s : State) (u : DoorUnitName) (p : DoorCommand → Bool) :
    ¬ ((s.withdrawUnsent u p).doorUnit u).Owes p := by
  obtain ⟨hstate, hpend⟩ := withdrawPending_unit s u p
  have hnot : ∀ c, ((s.withdrawPending u p).doorUnit u).pending = some c → p c = false := fun c hc => by
    rw [hpend] at hc
    simpa using (Option.filter_eq_some_iff.mp hc).2
  unfold State.withdrawUnsent
  generalize s.withdrawPending u p = y at hnot
  by_cases hex : ∃ b, (y.doorUnit u).state = .busy b ∧ b.phase.unsent = true ∧ p b.cmd = true
  · obtain ⟨b, hb, hs, hp⟩ := hex
    obtain ⟨x, hx, hdsq⟩ := withdrawBusy_unit hb hs hp
    obtain ⟨hnone, hidle⟩ := unitToIdle_unit x u
    rw [hx]
    rintro (⟨c, hc, -⟩ | ⟨b', hb', -, hp'⟩)
    · rw [hnone] at hc
      cases hc
    · rcases hidle with hi | ⟨b'', hb'', hc, -⟩
      · rw [hi] at hb'
        cases hb'
      · rw [hb''] at hb'
        cases hb'
        rw [doorUnit_congr hdsq] at hc
        rw [hnot _ hc] at hp'
        cases hp'
  · have hno : ∀ b, (y.doorUnit u).state = .busy b → b.phase.unsent = true → p b.cmd = false := fun b hb hs =>
      Bool.eq_false_iff.mpr fun hp => hex ⟨b, hb, hs, hp⟩
    rw [withdrawBusy_of_not hno]
    rintro (⟨c, hc, hp⟩ | ⟨b, hb, hs, hp⟩)
    · rw [hnot c hc] at hp
      cases hp
    · exact hex ⟨b, hb, hs, hp⟩

theorem closeIssued_iff (s : State) (n : Nat) :
    s.closeIssued n = true ↔ (s.doorUnit .closeUnit).Owes fun c => c.serial = n && c.action.isClose := by
  unfold State.closeIssued DoorUnit.Owes State.doorUnit
  dsimp only
  rw [Bool.or_eq_true]
  refine or_congr ?_ ?_
  · cases s.dsq.closeUnit.pending <;> simp
  · cases s.dsq.closeUnit.state <;> simp [and_assoc]

theorem withdrawClose_closeIssued (s : State) (n : Nat) : (s.withdrawClose n).closeIssued n = false := by
  refine Bool.eq_false_iff.mpr fun h => ?_
  exact withdrawUnsent_owes s .closeUnit _ ((closeIssued_iff _ n).mp h)

/-! ## A door state changed (R42, R89) -/

@[simp] theorem changeDoor_dsq (s : State) (e : StationEntry) (d : DoorState) : (s.changeDoor e d).dsq = s.dsq :=
  (State.changeDoor_does e d (Does.refl 4293172 s) rfl).dsq_eq

@[simp] theorem changeDoor_doorUnit (s : State) (e : StationEntry) (d : DoorState) (u : DoorUnitName) :
    (s.changeDoor e d).doorUnit u = s.doorUnit u := doorUnit_congr (changeDoor_dsq s e d) u

@[simp] theorem changeDoor_doorRecord (s : State) (e : StationEntry) (d : DoorState) (n : Nat) :
    (s.changeDoor e d).doorRecord n = s.doorRecord n := by simp only [State.doorRecord, changeDoor_dsq]

/-- The door of a registered entry is changed, but not between D7 and D8 after a confirmed release. -/
theorem changeDoor_reg {s : State} {e : StationEntry} {i : Nat} (d : DoorState) (he : e.who = .cabin i)
    (hi : i < s.registry.length) :
    (s.changeDoor e d).reg i = { s.reg i with door := if s.launched e then (s.reg i).door else d } := by
  unfold State.changeDoor
  split
  · rfl
  · refine (reg_congr (reportHead_registry _) i).trans ?_
    rw [State.setDoor, he]
    exact modReg_reg_self _ hi

theorem changeDoor_profile {s : State} {e : StationEntry} {i : Nat} (d : DoorState) (he : e.who = .cabin i)
    (hi : i < s.registry.length) : (s.changeDoor e d).profile (some i) = s.profile (some i) := by
  have hop : (s.changeDoor e d).tst.operations = s.tst.operations :=
    ((State.changeDoor_does e d (Does.refl 4293172 s) rfl).1 .tables rfl).2.1
  simp only [State.profile, hop, changeDoor_reg d he hi]

theorem changeDoor_after (s : State) (e : StationEntry) (d : DoorState) (n : Nat) :
    (s.changeDoor e d).after n = s.after n :=
  after_congr (State.changeDoor_does e d (Does.refl 4293172 s) rfl).tmb_eq n

theorem profile_congr {s t : State} {c : Option Nat} (hr : t.registry = s.registry)
    (ho : t.tst.operations = s.tst.operations) : t.profile c = s.profile c := by
  simp only [State.profile, ho, reg_congr hr]

/-! ## Commands issued (R92) -/

theorem issueDoor_of_idle {s : State} {u : DoorUnitName} (c : DoorCommand) (hs : (s.doorUnit u).state = .idle)
    (hp : (s.doorUnit u).pending = none) : s.issueDoor u c = s.offerFirst u c := by
  simp only [State.issueDoor, hs, hp]

theorem issueDoor_of_busy {s : State} {u : DoorUnitName} (c : DoorCommand) (hs : (s.doorUnit u).state ≠ .idle)
    (hp : (s.doorUnit u).pending = none) :
    s.issueDoor u c = s.setDoorUnit u { s.doorUnit u with pending := some c } := by
  unfold State.issueDoor
  split
  · exact absurd ‹_› hs
  · rfl
  · rename_i h
    rw [hp] at h
    cases h

/-- The backlog of R94. -/
theorem issueDoor_of_full {s : State} {u : DoorUnitName} (c : DoorCommand) {p : DoorCommand}
    (hp : (s.doorUnit u).pending = some p) :
    s.issueDoor u c = ((s.driveFault u c .backlog).markDropped c).withdrawHeld u := by
  unfold State.issueDoor
  split
  · rename_i h
    rw [hp] at h
    cases h
  · rename_i h _
    rw [hp] at h
    cases h
  · rfl

theorem withdrawBusy_records (s : State) (u : DoorUnitName) (p : DoorCommand → Bool) :
    (s.withdrawBusy u p).dsq.records = s.dsq.records := by
  unfold State.withdrawBusy
  split
  · split
    · rw [unitToIdle_records]
      split <;> rfl
    · rfl
  · rfl

@[simp] theorem driveFault_dsq (s : State) (u : DoorUnitName) (c : DoorCommand) (r : DriveReason) :
    (s.driveFault u c r).dsq = s.dsq := (State.driveFault_does u c r (Does.refl 4292608 s) rfl).dsq_eq

theorem issueDoor_records (s : State) (u : DoorUnitName) (c : DoorCommand) :
    (s.issueDoor u c).dsq.records = s.dsq.records ∨ (s.issueDoor u c).dsq.records = (s.markDropped c).dsq.records := by
  cases hp : (s.doorUnit u).pending with
  | none =>
    left
    by_cases hs : (s.doorUnit u).state = .idle
    · rw [issueDoor_of_idle c hs hp, offerFirst_records]
    · rw [issueDoor_of_busy c hs hp]
      cases u <;> rfl
  | some p =>
    right
    rw [issueDoor_of_full c hp, State.withdrawHeld, withdrawBusy_records]
    unfold State.markDropped State.modRecord State.setDoorRecords
    cases c.action <;> simp

theorem maySend_of_free {s : State} {c : DoorCommand}
    (h : c.action = .openDoor ∨ ∀ r, s.doorRecord c.serial = some r → r.held = .notHeld) : s.maySend c = true := by
  unfold State.maySend
  rcases h with h | h
  · simp [h]
  · cases hr : s.doorRecord c.serial with
    | none => simp
    | some r => simp [h r hr]

theorem maySend_of_held {s : State} {c : DoorCommand} {r : DoorRecord} (ha : c.action ≠ .openDoor)
    (hr : s.doorRecord c.serial = some r) (hh : r.held ≠ .notHeld) : s.maySend c = false := by
  simp [State.maySend, ha, hr, hh]

/-! ## The timers of the units (O33) -/

theorem settle_doorUnit (s b : State) (u : DoorUnitName) : (s.settle b).doorUnit u = s.doorUnit u :=
  doorUnit_congr (settle_dsq s b) u

theorem settle_doorRecord (s b : State) (n : Nat) : (s.settle b).doorRecord n = s.doorRecord n :=
  doorRecord_congr (congrArg Dsq.records (settle_dsq s b)) n

theorem exec_unitRecoverExpiry {s : State} {u : DoorUnitName} {d : Ms} (h : s.Fires (some d))
    (hs : (s.doorUnit u).state = .recover d) :
    exec (.unitRecoverExpiry u) s = .next ((s.unitToIdle u).settle s) := by
  have hf : s.Fires (s.doorUnit u).state.recoverTimer := by rw [hs]; exact h
  rw [show exec (.unitRecoverExpiry u) s = execUnitRecoverExpiry u s from rfl, execUnitRecoverExpiry, expiry_running hf]

theorem exec_doorRetryTimerExpiry {s : State} {u : DoorUnitName} {d : Ms} {b : BusyCommand} (h : s.Fires (some d))
    (hs : (s.doorUnit u).state = .busy b) (hb : b.phase = .retryWait d) :
    exec (.doorRetryTimerExpiry u) s =
      .next ((if s.maySend b.cmd then s.offerAgain u b.cmd b.retries else s.unitToIdle u).settle s) := by
  have hf : s.Fires (s.doorUnit u).state.retryTimer := by
    rw [hs, UnitState.retryTimer, hb]
    exact h
  rw [show exec (.doorRetryTimerExpiry u) s = execDoorRetryTimerExpiry u s from rfl, execDoorRetryTimerExpiry,
    expiry_running hf]
  simp only [State.retryUnit, hs]

/-- Settles O33: the unit that becomes IDLE, by what it holds pending, and the command offered again. -/
theorem doorUnitOffersItsCommand : Obligations.DoorUnitOffersItsCommand := by
  intro s name d hf hroom
  refine ⟨fun hs hp => ?_, fun c hs hp hfree => ?_, fun c r hs hp ha hr hh => ?_, fun b hs hb hfree => ?_,
    fun b r hs hb ha hr hh hp => ?_⟩
  · refine ⟨_, exec_unitRecoverExpiry hf hs, ?_⟩
    rw [settle_doorUnit, unitToIdle_of_none hp, State.setUnitState, setDoorUnit_self]
  · refine ⟨_, exec_unitRecoverExpiry hf hs, ?_⟩
    rw [settle_doorUnit, settle_dsq, unitToIdle_of_send hp (maySend_of_free hfree)]
    obtain ⟨hu, ht⟩ :=
      offerFirst_of_room (s := s.setDoorUnit name { s.doorUnit name with state := .idle, pending := none }) name c
        (by rwa [setDoorUnit_controlRoom])
    rw [hu, ht, setDoorUnit_self, setDoorUnit_tagSeq]
    exact ⟨rfl, rfl, rfl⟩
  · refine ⟨_, exec_unitRecoverExpiry hf hs, ?_⟩
    rw [settle_doorUnit, settle_dsq, unitToIdle_of_held hp (maySend_of_held ha hr hh), setDoorUnit_self, setDoorUnit_tagSeq]
    exact ⟨rfl, rfl, rfl⟩
  · refine ⟨_, exec_doorRetryTimerExpiry hf hs hb, ?_⟩
    obtain ⟨hu, ht⟩ := offerAgain_of_room name b.cmd b.retries hroom
    rw [settle_doorUnit, settle_dsq, if_pos (maySend_of_free hfree), hu, ht]
    exact ⟨rfl, rfl⟩
  · refine ⟨_, exec_doorRetryTimerExpiry hf hs hb, ?_⟩
    rw [settle_doorUnit, settle_dsq, if_neg (by simp [maySend_of_held ha hr hh]), unitToIdle_of_none hp,
      State.setUnitState, setDoorUnit_self, setDoorUnit_tagSeq]
    exact ⟨rfl, rfl⟩

/-! ## The timers of a record (O34, O35) -/

theorem doorCommand_of_cabin {s : State} {e : StationEntry} {i : Nat} (a : DoorAction) (he : e.who = .cabin i) :
    s.doorCommand e a = { serial := e.serial, cabin := some i, field := s.idOf i, action := a } := by
  simp [State.doorCommand, he, Who.index, State.cabinField, State.whoId]

theorem modRecord_self {s : State} {n : Nat} {r : DoorRecord} (f : DoorRecord → DoorRecord)
    (hf : ∀ r, (f r).serial = r.serial) (hr : s.doorRecord n = some r) : (s.modRecord n f).doorRecord n = some (f r) := by
  rw [modRecord_doorRecord s n n f hf, hr]
  simp

theorem modRecord_bind {α : Type} (s : State) (n k : Nat) (f : DoorRecord → DoorRecord) (g : DoorRecord → Option α)
    (hf : ∀ r, (f r).serial = r.serial) (hg : ∀ r, g (f r) = g r) :
    ((s.modRecord n f).doorRecord k).bind g = (s.doorRecord k).bind g := by
  rw [modRecord_doorRecord s n k f hf]
  cases s.doorRecord k with
  | none => rfl
  | some r =>
    by_cases h : n = k
    · simp [h, hg]
    · simp [h]

theorem markDropped_settle (s : State) (c : DoorCommand) (n : Nat) :
    ((s.markDropped c).doorRecord n).bind DoorRecord.settle = (s.doorRecord n).bind DoorRecord.settle := by
  unfold State.markDropped
  split
  · exact modRecord_bind s _ n _ _ (fun _ => rfl) fun _ => rfl
  · exact modRecord_bind s _ n _ _ (fun _ => rfl) fun _ => rfl

/-- The close test that finds every close condition met (R99). -/
theorem closeTest_of_ready {s : State} {e : StationEntry} {r : DoorRecord} (he : s.entry e.serial = some e)
    (hr : s.doorRecord e.serial = some r) (h : s.closeReady e r = true) :
    s.closeTest e.serial =
      (s.modRecord e.serial fun x => { x with lockMode := r.closeMode }).issueDoor .closeUnit
        (s.doorCommand e (.closeDoor r.closeMode)) := by
  simp only [State.closeTest, he, hr, h, if_true]

/-- The close of an idle CLOSE unit with room in CONTROL. -/
theorem closeTest_issued {s : State} {e : StationEntry} {r : DoorRecord} (he : s.entry e.serial = some e)
    (hr : s.doorRecord e.serial = some r) (h : s.closeReady e r = true) (hs : s.dsq.closeUnit.state = .idle)
    (hp : s.dsq.closeUnit.pending = none) (hroom : s.controlRoom = true) :
    (s.closeTest e.serial).doorRecord e.serial = some { r with lockMode := r.closeMode } ∧
      (s.closeTest e.serial).dsq.closeUnit.state =
        busyWith (s.doorCommand e (.closeDoor r.closeMode)) s.dsq.tagSeq 0 .queued := by
  rw [closeTest_of_ready he hr h, issueDoor_of_idle _ (by exact hs) (by exact hp)]
  refine ⟨?_, ?_⟩
  · rw [doorRecord_congr (offerFirst_records ..)]
    exact modRecord_self _ (fun _ => rfl) hr
  · exact congrArg DoorUnit.state (offerFirst_of_room (s := s.modRecord e.serial _) .closeUnit _ hroom).1

theorem closeReady_of {s : State} {e : StationEntry} {r : DoorRecord} {i : Nat} {t : SafetyTables} {o : OperationsTables}
    (hw : e.who = .cabin i) (hd : (s.reg i).door = .opened) (hh : (s.reg i).holdOpen = false)
    (hc : r.closeRequested = true) (hdone : r.dwellDone = true) (hwait : r.reopenWait = none) (hheld : r.held = .notHeld)
    (hb : r.beyondReach = false) (ht : s.tst.safety = some t) (ho : s.tst.operations = some o)
    (hs : s.dsq.closeUnit.state = .idle) (hp : s.dsq.closeUnit.pending = none) : s.closeReady e r = true := by
  have hissued : s.closeIssued e.serial = false := by simp [State.closeIssued, hs, hp]
  simp [State.closeReady, State.doorOf, State.holdOpenOf, hw, hd, hh, hc, hdone, hwait, hheld, hb, hissued,
    State.doorsServed, State.safetyValid, State.operationsValid, ht, ho]

/-- Settles O34: either timer's expiry leaves a record that meets the close test. -/
theorem doorClosesWhenTheTimersAreDone : Obligations.DoorClosesWhenTheTimersAreDone := by
  intro s x i r d t o hf he hw hr hd hh hc hheld hb ht ho hs hp hroom mode cmd
  refine ⟨fun hdw hwait => ?_, fun hwait hdone => ?_⟩
  · have hfire : s.Fires ((s.doorRecord x.serial).bind DoorRecord.dwell) := by
      rw [hr, Option.bind_some, hdw]
      exact hf
    have hexec : exec (.dwellExpiry x.serial) s = .next ((s.dwellOver x.serial).settle s) := by
      rw [show exec (.dwellExpiry x.serial) s = execDwellExpiry x.serial s from rfl, execDwellExpiry, expiry_running hfire]
    have hrec := modRecord_self (s := s) (fun r => { r with dwell := none, dwellDone := true }) (fun _ => rfl) hr
    obtain ⟨h1, h2⟩ := closeTest_issued (s := s.modRecord x.serial _) he hrec
      (closeReady_of hw hd hh hc rfl hwait hheld hb ht ho hs hp) hs hp hroom
    refine ⟨_, hexec, ?_, ?_⟩
    · rw [settle_doorRecord]
      exact h1
    · rw [settle_dsq]
      rw [doorCommand_of_cabin _ hw] at h2
      exact h2
  · have hfire : s.Fires ((s.doorRecord x.serial).bind DoorRecord.reopenWait) := by
      rw [hr, Option.bind_some, hwait]
      exact hf
    have hexec : exec (.reopenWaitExpiry x.serial) s = .next ((s.reopenWaitOver x.serial).settle s) := by
      rw [show exec (.reopenWaitExpiry x.serial) s = execReopenWaitExpiry x.serial s from rfl, execReopenWaitExpiry,
        expiry_running hfire]
    have hrec := modRecord_self (s := s) (fun r => { r with reopenWait := none }) (fun _ => rfl) hr
    obtain ⟨h1, h2⟩ := closeTest_issued (s := s.modRecord x.serial _) he hrec
      (closeReady_of hw hd hh hc hdone rfl hheld hb ht ho hs hp) hs hp hroom
    refine ⟨_, hexec, ?_, ?_⟩
    · rw [settle_doorRecord]
      exact h1
    · rw [settle_dsq]
      rw [doorCommand_of_cabin _ hw] at h2
      exact h2

/-- Settles O35: the settle timer's expiry, by the lock mode that the record keeps. -/
theorem doorLocksAfterTheSettleTime : Obligations.DoorLocksAfterTheSettleTime := by
  intro s x i r d hf he hw hi hr hset hd
  have hfire : s.Fires ((s.doorRecord x.serial).bind DoorRecord.settle) := by
    rw [hr, Option.bind_some, hset]
    exact hf
  generalize hy : s.modRecord x.serial (fun r => { r with settle := none }) = y
  have hrec : y.doorRecord x.serial = some { r with settle := none } :=
    hy ▸ modRecord_self (fun r => { r with settle := none }) (fun _ => rfl) hr
  have hent : y.entry x.serial = some x := hy ▸ he
  have hreg : y.registry = s.registry := hy ▸ rfl
  have hunit : y.dsq.closeUnit = s.dsq.closeUnit := hy ▸ rfl
  have hdoor : y.doorOf x.who = .closed := by rw [hw, State.doorOf, reg_congr hreg, hd]
  have hover : s.settleOver x.serial = y.lockAfterSettle x { r with settle := none } := by
    simp only [State.settleOver, hy, hent, hrec, hdoor, if_true]
  have hexec : exec (.settleExpiry x.serial) s =
      .next ((y.lockAfterSettle x { r with settle := none }).settle s) := by
    rw [show exec (.settleExpiry x.serial) s = execSettleExpiry x.serial s from rfl, execSettleExpiry,
      expiry_running hfire, hover]
  have hnone : ∀ c : DoorCommand, ((y.issueDoor .closeUnit c).doorRecord x.serial).bind DoorRecord.settle = none := fun c => by
    rcases issueDoor_records y .closeUnit c with h | h
    · rw [doorRecord_congr h, hrec]
      rfl
    · rw [doorRecord_congr h, markDropped_settle, hrec]
      rfl
  have hauto : r.lockMode = .auto → y.lockAfterSettle x { r with settle := none } = y.changeDoor x .locking := fun h => by
    simp only [State.lockAfterSettle, h]
  have hsep : r.lockMode = .separate → y.lockAfterSettle x { r with settle := none } =
      if r.held = .notHeld && !r.beyondReach && y.doorsServed then y.issueDoor .closeUnit (y.doorCommand x .lockDoor)
      else y := fun h => by
    simp only [State.lockAfterSettle, h]
  refine ⟨_, hexec, ?_, fun hmode => ?_, fun hmode hheld hb hserved hs hp hroom => ?_⟩
  · rw [settle_doorRecord]
    rcases (show r.lockMode = .auto ∨ r.lockMode = .separate by cases r.lockMode <;> simp) with hmode | hmode
    · rw [hauto hmode, changeDoor_doorRecord, hrec]
      rfl
    · rw [hsep hmode]
      split
      · exact hnone _
      · rw [hrec]; rfl
  · rw [settle_reg, settle_dsq, hauto hmode, changeDoor_dsq, changeDoor_reg .locking hw (by rwa [hreg])]
    exact ⟨by rw [reg_congr hreg, hd, show y.launched x = s.launched x from hy ▸ rfl], hunit⟩
  · rw [settle_reg, settle_dsq, hsep hmode, if_pos (by simp [hheld, hb, show y.doorsServed = true from hy ▸ hserved]),
      issueDoor_of_idle _ (by rw [← hs, ← hunit]; rfl) (by rw [← hp, ← hunit]; rfl), doorCommand_of_cabin _ hw]
    refine ⟨?_, ?_⟩
    · rw [reg_congr (State.offerFirst_does (m := 67584) _ _ (Does.refl _ y) rfl).registry_eq, reg_congr hreg, hd]
    · rw [show s.idOf i = y.idOf i from hy ▸ rfl, show s.dsq.tagSeq = y.dsq.tagSeq from hy ▸ rfl]
      exact congrArg DoorUnit.state (offerFirst_of_room .closeUnit _ (show y.controlRoom = true from hy ▸ hroom)).1

end Sys2Proof.Machine
end
section
/-!
PROOFS. Door reports, refusals and deadlines (chapter 5).
-/

namespace Sys2Proof.Machine

/-! ## What the record operations leave of the units -/

@[simp] theorem startDwell_doorUnit (s : State) (e : StationEntry) (u : DoorUnitName) :
    (s.startDwell e).doorUnit u = s.doorUnit u := by
  unfold State.startDwell
  split <;> simp

@[simp] theorem startSettle_doorUnit (s : State) (e : StationEntry) (u : DoorUnitName) :
    (s.startSettle e).doorUnit u = s.doorUnit u := by
  unfold State.startSettle
  split <;> simp

@[simp] theorem startReopenWait_doorUnit (s : State) (e : StationEntry) (u : DoorUnitName) :
    (s.startReopenWait e).doorUnit u = s.doorUnit u := by
  unfold State.startReopenWait
  split <;> simp

@[simp] theorem report_doorUnit (s : State) (k : EventKind) (c : Option Cause) (i : Option Nat) (d : List Int)
    (u : DoorUnitName) : (s.report k c i d).doorUnit u = s.doorUnit u := doorUnit_congr (report_dsq ..) u

@[simp] theorem judge_doorUnit (s : State) (c : Cause) (b : Bool) (i : Option Nat) (u : DoorUnitName) :
    (s.judge c b i).doorUnit u = s.doorUnit u :=
  doorUnit_congr (State.judge_does c b i (Does.refl 32768 s) rfl).dsq_eq u

@[simp] theorem holdObstructed_doorUnit (s : State) (e : StationEntry) (p : DoorProfile) (u : DoorUnitName) :
    (s.holdObstructed e p).doorUnit u = s.doorUnit u := by
  unfold State.holdObstructed State.judgeObstruction
  repeat' split
  all_goals simp

theorem closeIssued_congr {s t : State} (h : t.doorUnit .closeUnit = s.doorUnit .closeUnit) (n : Nat) :
    t.closeIssued n = s.closeIssued n := by
  rw [Bool.eq_iff_iff, closeIssued_iff, closeIssued_iff, h]

theorem enterOpen_closeIssued (s : State) (e : StationEntry) : (s.enterOpen e).closeIssued e.serial = false :=
  withdrawClose_closeIssued _ _

theorem reopenDoor_closeIssued (s : State) (e : StationEntry) (p : DoorProfile) :
    (s.reopenDoor e p).closeIssued e.serial = false := by
  have h : ∀ y : State, (((y.enterOpen e).startReopenWait e).holdObstructed e p).closeIssued e.serial = false := fun y => by
    rw [closeIssued_congr (s := y.enterOpen e) (by simp)]
    exact enterOpen_closeIssued y e
  exact h _

/-- A unit that recovers owes less than before. -/
theorem closeIssued_setRecover {s : State} {n : Nat} (u : DoorUnitName) (t : Ms) (h : s.closeIssued n = false) :
    (s.setUnitState u (.recover t)).closeIssued n = false := by
  refine Bool.eq_false_iff.mpr fun hc => ?_
  rw [closeIssued_iff, State.setUnitState, setDoorUnit_doorUnit] at hc
  refine absurd ((closeIssued_iff s n).mpr ?_) (by simp [h])
  split at hc
  · subst u
    rcases hc with hc | ⟨b, hb, -⟩
    · exact .inl hc
    · cases hb
  · exact hc

/-! ## A unit whose action is complete (R95) -/

theorem completeUnit_of_profile {s : State} {u : DoorUnitName} {c : Option Nat} {p : DoorProfile}
    (h : s.profile c = some p) : s.completeUnit u c = s.setUnitState u (.recover (s.after p.tRecover)) := by
  simp only [State.completeUnit, h]

/-- What lies between a state and the completion of an action at it: the door is changed, and then nothing of the
registry, the tables or the time. -/
structure AfterDoor (s : State) (x : StationEntry) (d : DoorState) (y : State) : Prop where
  registry : y.registry = (s.changeDoor x d).registry
  operations : y.tst.operations = (s.changeDoor x d).tst.operations
  tmb : y.tmb = (s.changeDoor x d).tmb

theorem afterDoor_of_does {s y : State} {x : StationEntry} {d : DoorState} (h : Does 4294656 (s.changeDoor x d) y) :
    AfterDoor s x d y :=
  ⟨h.registry_eq, (h.1 .tables rfl).2.1, h.tmb_eq⟩

theorem AfterDoor.complete {s y : State} {x : StationEntry} {d : DoorState} {i : Nat} {p : DoorProfile}
    (h : AfterDoor s x d y) (u : DoorUnitName) (hw : x.who = .cabin i) (hi : i < s.registry.length)
    (hp : s.profile (some i) = some p) :
    y.completeUnit u (some i) = y.setUnitState u (.recover (s.after p.tRecover)) := by
  have hy : y.profile (some i) = some p := by
    rw [profile_congr h.registry h.operations, changeDoor_profile d hw hi, hp]
  rw [completeUnit_of_profile hy, after_congr h.tmb, changeDoor_after]

theorem AfterDoor.after {s y : State} {x : StationEntry} {d : DoorState} (h : AfterDoor s x d y) (n : Nat) :
    y.after n = s.after n := by rw [after_congr h.tmb, changeDoor_after]

/-- A matched report's end: the entry's door, and the unit. -/
theorem AfterDoor.ends {s y : State} {x : StationEntry} {d : DoorState} {i : Nat} (h : AfterDoor s x d y)
    (u : DoorUnitName) (t : UnitState) (b : State) (hw : x.who = .cabin i) (hi : i < s.registry.length) :
    (((y.setUnitState u t).settle b).reg i).door = (if s.launched x then (s.reg i).door else d) ∧
      (((y.setUnitState u t).settle b).doorUnit u).state = t := by
  rw [settle_reg, settle_doorUnit, State.setUnitState, setDoorUnit_self]
  refine ⟨?_, rfl⟩
  rw [reg_congr ((setDoorUnit_registry ..).trans h.registry), changeDoor_reg d hw hi]

theorem settle_closeIssued (s b : State) (n : Nat) : (s.settle b).closeIssued n = s.closeIssued n :=
  closeIssued_congr (settle_doorUnit ..) n

/-! ## A matched report (O29) -/

theorem exec_doorReport_matched {s : State} {e : IngressEntry} {rest : List IngressEntry} {name : DoorUnitName}
    {b : BusyCommand} {sent : Ms} {x : StationEntry} {p : DoorProfile} {r : DoorResult}
    (hdel : s.Delivers .doorReport e rest) (hname : doorUnitOf e.role = name)
    (hr : DoorResult.ofCode (field (e.frame.word 0) 16 3) = some r) (hs : (s.doorUnit name).state = .busy b)
    (hb : b.phase = .sent sent) (hf : e.frame.cabinId = b.cmd.field) (he : s.entry b.cmd.serial = some x)
    (hp : s.profile b.cmd.cabin = some p) :
    exec .doorReport s = .next (((s.takeHead rest).takeMatched name b x p r).settle s) := by
  have hent : (s.takeHead rest).entry b.cmd.serial = some x := by rw [← he]; simp [State.entry]
  have hprof : (s.takeHead rest).profile b.cmd.cabin = some p := by
    rw [← hp]
    exact profile_congr (by simp) (by simp)
  rw [exec_doorReport, execDoorReport, deliver_running hdel]
  simp only [State.takeDoorFrame, hr, State.takeDoorReport, hname, takeHead_doorUnit, hs, State.reportWhileBusy, hb,
    CommandPhase.unsent, hf, Bool.not_false, Bool.true_and, decide_true, if_true, hent, hprof]

section
variable {s : State} {name : DoorUnitName} {b : BusyCommand} {x : StationEntry} {i : Nat} {p : DoorProfile}
  (base : State)

/-- What O29 asks of the state after a matched report. -/
def State.Matched (s u : State) (name : DoorUnitName) (x : StationEntry) (i : Nat) (new : DoorState) (after : UnitState) :
    Prop :=
  (u.reg i).door = (if s.launched x then (s.reg i).door else new) ∧ (u.doorUnit name).state = after ∧
    (new = .opened → u.closeIssued x.serial = false)

theorem takeMatched_opened (hw : x.who = .cabin i) (hi : i < s.registry.length) (hc : b.cmd.cabin = some i)
    (hp : s.profile (some i) = some p) (hd : s.doorOf x.who = .opening) :
    s.Matched ((s.takeMatched name b x p .opened).settle base) name x i .opened (.recover (s.after p.tRecover)) := by
  have hA : AfterDoor s x .opened ((s.changeDoor x .opened).enterOpen x) :=
    afterDoor_of_does (State.enterOpen_does _ (Does.refl _ _) rfl)
  have htake : s.takeMatched name b x p .opened = ((s.changeDoor x .opened).enterOpen x).setUnitState name
      (.recover (s.after p.tRecover)) := by
    simp only [State.takeMatched, hd, hc, hA.complete name hw hi hp]
  rw [htake]
  obtain ⟨h1, h2⟩ := hA.ends name (.recover (s.after p.tRecover)) base hw hi
  refine ⟨h1, h2, fun _ => ?_⟩
  rw [settle_closeIssued]
  exact closeIssued_setRecover name _ (enterOpen_closeIssued _ x)

theorem takeMatched_closed (hw : x.who = .cabin i) (hi : i < s.registry.length) (hc : b.cmd.cabin = some i)
    (hp : s.profile (some i) = some p) (hd : s.doorOf x.who = .closing) :
    (b.cmd.action = .closeDoor .separate →
      s.Matched ((s.takeMatched name b x p .closed).settle base) name x i .closed (.recover (s.after p.tRecover))) ∧
    (b.cmd.action = .closeDoor .auto →
      s.Matched ((s.takeMatched name b x p .closed).settle base) name x i .closed
        (.busy { b with phase := .sent (s.after (p.tSettle + p.tCloseMax)), acted := true })) := by
  have hA : AfterDoor s x .closed ((s.changeDoor x .closed).startSettle x) :=
    afterDoor_of_does (State.startSettle_does _ (Does.refl _ _) rfl)
  refine ⟨fun ha => ?_, fun ha => ?_⟩
  · have htake : s.takeMatched name b x p .closed = ((s.changeDoor x .closed).startSettle x).setUnitState name
        (.recover (s.after p.tRecover)) := by
      simp only [State.takeMatched, hd, ha, if_true, hc, hA.complete name hw hi hp]
    rw [htake]
    obtain ⟨h1, h2⟩ := hA.ends name (.recover (s.after p.tRecover)) base hw hi
    exact ⟨h1, h2, by simp⟩
  · have htake : s.takeMatched name b x p .closed = ((s.changeDoor x .closed).startSettle x).setUnitState name
        (.busy { b with phase := .sent (s.after (p.tSettle + p.tCloseMax)), acted := true }) := by
      simp [State.takeMatched, hd, ha, State.extendDeadline, hA.after]
    rw [htake]
    obtain ⟨h1, h2⟩ := hA.ends name
      (.busy { b with phase := .sent (s.after (p.tSettle + p.tCloseMax)), acted := true }) base hw hi
    exact ⟨h1, h2, by simp⟩

theorem takeMatched_obstructed (hw : x.who = .cabin i) (hi : i < s.registry.length) (hd : s.doorOf x.who = .closing) :
    s.Matched ((s.takeMatched name b x p .obstructed).settle base) name x i .reopening
      (.busy { b with phase := .sent (s.after p.tOpenMax), acted := true }) := by
  have hA : AfterDoor s x .reopening (s.changeDoor x .reopening) := ⟨rfl, rfl, rfl⟩
  have htake : s.takeMatched name b x p .obstructed = (s.changeDoor x .reopening).setUnitState name
      (.busy { b with phase := .sent (s.after p.tOpenMax), acted := true }) := by
    simp [State.takeMatched, hd, State.extendDeadline, hA.after]
  rw [htake]
  obtain ⟨h1, h2⟩ := hA.ends name (.busy { b with phase := .sent (s.after p.tOpenMax), acted := true }) base hw hi
  exact ⟨h1, h2, by simp⟩

theorem takeMatched_reopened (hw : x.who = .cabin i) (hi : i < s.registry.length) (hc : b.cmd.cabin = some i)
    (hp : s.profile (some i) = some p) (hd : s.doorOf x.who = .reopening) :
    s.Matched ((s.takeMatched name b x p .reopened).settle base) name x i .opened (.recover (s.after p.tRecover)) := by
  have hA : AfterDoor s x .opened ((s.changeDoor x .opened).reopenDoor x p) :=
    afterDoor_of_does (State.reopenDoor_does _ _ (Does.refl _ _) rfl)
  have htake : s.takeMatched name b x p .reopened = ((s.changeDoor x .opened).reopenDoor x p).setUnitState name
      (.recover (s.after p.tRecover)) := by
    simp only [State.takeMatched, hd, hc, hA.complete name hw hi hp]
  rw [htake]
  obtain ⟨h1, h2⟩ := hA.ends name (.recover (s.after p.tRecover)) base hw hi
  refine ⟨h1, h2, fun _ => ?_⟩
  rw [settle_closeIssued]
  exact closeIssued_setRecover name _ (reopenDoor_closeIssued _ x p)

theorem takeMatched_locked (hw : x.who = .cabin i) (hi : i < s.registry.length) (hc : b.cmd.cabin = some i)
    (hp : s.profile (some i) = some p) (hd : s.doorOf x.who = .closed ∨ s.doorOf x.who = .locking) :
    s.Matched ((s.takeMatched name b x p .locked).settle base) name x i .locked (.recover (s.after p.tRecover)) := by
  have hA : AfterDoor s x .locked ((s.changeDoor x .locked).modRecord x.serial fun r => { r with settle := none }) :=
    ⟨rfl, rfl, rfl⟩
  have htake : s.takeMatched name b x p .locked =
      ((s.changeDoor x .locked).modRecord x.serial fun r => { r with settle := none }).setUnitState name
        (.recover (s.after p.tRecover)) := by
    rcases hd with hd | hd <;> simp only [State.takeMatched, hd, hc, hA.complete name hw hi hp]
  rw [htake]
  obtain ⟨h1, h2⟩ := hA.ends name (.recover (s.after p.tRecover)) base hw hi
  exact ⟨h1, h2, by simp⟩

theorem takeMatched_fault (hw : x.who = .cabin i) (hi : i < s.registry.length) (hc : b.cmd.cabin = some i)
    (hp : s.profile (some i) = some p)
    (hd : s.doorOf x.who ∈ [DoorState.opening, .closing, .reopening, .closed, .locking]) :
    s.Matched ((s.takeMatched name b x p .fault).settle base) name x i .fault (.recover (s.after p.tRecover)) := by
  have hA : AfterDoor s x .fault
      (((s.changeDoor x .fault).driveFault name b.cmd .faultReport).modRecord x.serial DoorRecord.stopTimers) :=
    afterDoor_of_does (State.modRecord_does _ _ (State.driveFault_does _ _ _ (Does.refl _ _) rfl) rfl)
  have htake : s.takeMatched name b x p .fault =
      (((s.changeDoor x .fault).driveFault name b.cmd .faultReport).modRecord x.serial
        DoorRecord.stopTimers).setUnitState name (.recover (s.after p.tRecover)) := by
    have hfault : s.takeMatched name b x p .fault = s.faultReport name b x := by
      simp only [List.mem_cons, List.not_mem_nil, or_false] at hd
      rcases hd with hd | hd | hd | hd | hd <;> simp only [State.takeMatched, hd, DoorState.inAction, if_true]
    rw [hfault, State.faultReport, hc, hA.complete name hw hi hp]
  rw [htake]
  obtain ⟨h1, h2⟩ := hA.ends name (.recover (s.after p.tRecover)) base hw hi
  exact ⟨h1, h2, by simp⟩

end

/-- Settles O29: the rows of R98, each a matched report of `takeMatched`. -/
theorem matchedReportFollowsTheTable : Obligations.MatchedReportFollowsTheTable := by
  intro s e rest name b sent x i p r old new after hdel hname hr hs hb hf he hw hi hc hp hold hrow
  refine ⟨_, exec_doorReport_matched hdel hname hr hs hb hf he (by rwa [hc]), ?_⟩
  generalize hy : s.takeHead rest = y
  have hyr : y.registry = s.registry := by simp [← hy]
  have hyi : i < y.registry.length := by rwa [hyr]
  have hyp : y.profile (some i) = some p := by
    rw [← hp]
    exact profile_congr hyr (by simp [← hy])
  have hyd : y.doorOf x.who = old := by rw [hw, State.doorOf, reg_congr hyr, hold]
  have hya : ∀ n, y.after n = s.after n := after_congr (by simp [← hy])
  have hmatched : y.Matched ((y.takeMatched name b x p r).settle s) name x i new after := by
    rcases hrow with ⟨rfl, rfl, rfl, rfl⟩ | ⟨rfl, rfl, ha, rfl, rfl⟩ | ⟨rfl, rfl, ha, rfl, rfl⟩ | ⟨rfl, rfl, rfl, rfl⟩ |
      ⟨rfl, rfl, rfl, rfl⟩ | ⟨hd, rfl, rfl, rfl⟩ | ⟨hd, rfl, rfl, rfl⟩
    · rw [← hya]; exact takeMatched_opened s hw hyi hc hyp hyd
    · rw [← hya]; exact (takeMatched_closed s hw hyi hc hyp hyd).1 ha
    · rw [← hya]; exact (takeMatched_closed s hw hyi hc hyp hyd).2 ha
    · rw [← hya]; exact takeMatched_obstructed s hw hyi hyd
    · rw [← hya]; exact takeMatched_reopened s hw hyi hc hyp hyd
    · rw [← hya]; exact takeMatched_locked s hw hyi hc hyp (by rwa [hyd])
    · rw [← hya]; exact takeMatched_fault s hw hyi hc hyp (by rwa [hyd])
  obtain ⟨h1, h2, h3⟩ := hmatched
  have hl : y.launched x = s.launched x := by simp [State.launched, ← hy]
  rw [hl, reg_congr hyr, hold] at h1
  exact ⟨h1, h2, h3⟩

end Sys2Proof.Machine
end
section
/-!
PROOFS. Door refusals and deadlines (chapter 5).
-/

namespace Sys2Proof.Machine

/-! ## A matched NACK (O31) -/

theorem nackable_of_sent {s : State} {u : DoorUnitName} {b : BusyCommand} {t : Ms} (hs : (s.doorUnit u).state = .busy b)
    (hb : b.phase = .sent t) (ha : b.acted = false) : s.nackable u b.tag = some b := by
  simp [State.nackable, hs, hb, ha, CommandPhase.unsent]

theorem nackable_of_idle {s : State} {u : DoorUnitName} (tag : Nat) (hs : (s.doorUnit u).state = .idle) :
    s.nackable u tag = none := by
  simp [State.nackable, hs]

theorem takeDoorRefusal_of_one {s : State} {f : RingFrame} {u v : DoorUnitName} {b : BusyCommand} (huv : v ≠ u)
    (hu : s.nackable u f.tag = some b) (hv : s.nackable v f.tag = none) :
    s.takeDoorRefusal f = s.takeDoorNack u b (f.nackReason = 2) := by
  cases u <;> cases v <;> first | exact absurd rfl huv | simp only [State.takeDoorRefusal, hu, hv]

@[simp] theorem revertDoor_dsq (s : State) (b : BusyCommand) : (s.revertDoor b).dsq = s.dsq := by
  unfold State.revertDoor
  split <;> simp

theorem revertDoor_after (s : State) (b : BusyCommand) (n : Nat) : (s.revertDoor b).after n = s.after n := by
  unfold State.revertDoor
  split
  · exact changeDoor_after ..
  · rfl

theorem abandonDoor_unit {s : State} {u : DoorUnitName} (c : DoorCommand) (r : DriveReason)
    (hp : (s.doorUnit u).pending = none) : ((s.abandonDoor u c r).doorUnit u).state = .idle := by
  have hm : ∀ y : State, (y.markDropped c).doorUnit u = y.doorUnit u := fun y => by
    unfold State.markDropped
    split <;> simp
  have hunit : ((s.driveFault u c r).markDropped c).doorUnit u = s.doorUnit u :=
    (hm _).trans (doorUnit_congr (driveFault_dsq ..) u)
  rw [State.abandonDoor, unitToIdle_of_none (by rw [hunit, hp]), State.setUnitState, setDoorUnit_self]

theorem refuseDoor_unit (s : State) (u : DoorUnitName) (c : DoorCommand) (tag retries : Nat)
    (hp : (s.doorUnit u).pending = none) :
    ((s.refuseDoor u c tag retries).doorUnit u).state =
      if retries < 3 then busyWith c tag (retries + 1) (.retryWait (s.after 20)) else .idle := by
  unfold State.refuseDoor
  split
  · rw [State.setUnitState, setDoorUnit_self]
  · exact abandonDoor_unit c .nackLimit hp

/-- The unit after a matched NACK (R103). -/
theorem takeDoorNack_unit {s : State} {u : DoorUnitName} {b : BusyCommand} (unsupported : Bool)
    (hp : (s.doorUnit u).pending = none) :
    ((s.takeDoorNack u b unsupported).doorUnit u).state =
      if !unsupported && b.retries < 3 && (s.revertDoor b).mayRetry b.cmd then
        busyWith b.cmd b.tag (b.retries + 1) (.retryWait (s.after 20))
      else .idle := by
  have hp' : ((s.revertDoor b).doorUnit u).pending = none := by rw [doorUnit_congr (revertDoor_dsq s b), hp]
  unfold State.takeDoorNack
  cases unsupported with
  | true => simpa using abandonDoor_unit b.cmd .unsupported hp'
  | false =>
    by_cases hr : b.retries < 3
    · cases hm : (s.revertDoor b).mayRetry b.cmd with
      | true => simp [hr, hm, refuseDoor_unit _ _ _ _ _ hp', revertDoor_after]
      | false =>
        have hr' : ¬ 3 ≤ b.retries := by omega
        simp [hr, hm, hr', unitToIdle_of_none hp', State.setUnitState]
    · have hr' : 3 ≤ b.retries := by omega
      simp [hr, hr', refuseDoor_unit _ _ _ _ _ hp']

theorem takeDoorNack_registry (s : State) (u : DoorUnitName) (b : BusyCommand) (unsupported : Bool) :
    (s.takeDoorNack u b unsupported).registry = (s.revertDoor b).registry := by
  have h : Does 4294656 (s.revertDoor b) (s.takeDoorNack u b unsupported) := by
    unfold State.takeDoorNack
    dsimp only
    split_ifs
    · exact State.abandonDoor_does _ _ _ (Does.refl _ _) rfl
    · exact State.refuseDoor_does _ _ _ _ (Does.refl _ _) rfl
    · exact State.unitToIdle_does _ (Does.refl _ _) rfl
  exact h.registry_eq

theorem changeDoor_queue {s : State} {e : StationEntry} {i : Nat} (d : DoorState) (he : e.who = .cabin i) :
    (s.changeDoor e d).ctr.queue = s.ctr.queue := by
  unfold State.changeDoor
  split
  · rfl
  · rw [reportHead_queue, State.setDoor, he]
    rfl

theorem entry_congr {s t : State} (h : t.ctr.queue = s.ctr.queue) (n : Nat) : t.entry n = s.entry n := by
  simp only [State.entry, h]

theorem mayRetry_iff {s : State} {c : DoorCommand} {x : StationEntry} {r : DoorRecord} (he : s.entry c.serial = some x)
    (hr : s.doorRecord c.serial = some r) (hb : r.beyondReach = false) :
    s.mayRetry c = true ↔ c.action = .openDoor ∨ r.held = .notHeld := by
  simp [State.mayRetry, he, hr, hb, State.maySend]

/-- Settles O31: the NACK of the one unit that waits for it is `takeDoorNack`. -/
theorem doorNackRetriesOrAbandons : Obligations.DoorNackRetriesOrAbandons := by
  intro s e rest name other b sent x i d hdel hne hidle hs hb htag hact hp he hw hi hr hreach
  have hexec : exec .nackDoor s =
      .next (((s.takeHead rest).takeDoorNack name b (e.frame.nackReason = 2)).settle s) := by
    rw [show exec .nackDoor s = execNackDoor s from rfl, execNackDoor, deliver_running hdel,
      takeDoorRefusal_of_one hne (htag ▸ nackable_of_sent (by simpa using hs) hb hact)
        (nackable_of_idle _ (by simpa using hidle))]
  generalize hy : s.takeHead rest = y at hexec
  have hyr : y.registry = s.registry := by simp [← hy]
  have hyp : (y.doorUnit name).pending = none := by simpa [← hy] using hp
  have hye : y.entry b.cmd.serial = some x := by rw [← he]; simp [State.entry, ← hy]
  have hyd : y.doorRecord b.cmd.serial = some d := by rw [← hr]; exact doorRecord_congr (by simp [← hy]) _
  have hrev : y.revertDoor b = y.changeDoor x b.before := by simp only [State.revertDoor, hye]
  have hunit := takeDoorNack_unit (s := y) (b := b) (e.frame.nackReason = 2) hyp
  have hretry : (y.revertDoor b).mayRetry b.cmd = true ↔ b.cmd.action = .openDoor ∨ d.held = .notHeld := by
    rw [hrev]
    exact mayRetry_iff (by rw [entry_congr (changeDoor_queue b.before hw), hye]) (by rw [changeDoor_doorRecord, hyd]) hreach
  have hya : y.after 20 = s.after 20 := after_congr (by simp [← hy]) 20
  have hl : y.launched x = s.launched x := by simp [State.launched, ← hy]
  refine ⟨_, hexec, ?_, fun hreason hcount hfree => ?_, fun h => ?_⟩
  · rw [settle_reg, reg_congr (takeDoorNack_registry ..), hrev, changeDoor_reg b.before hw (by rwa [hyr]), hl, reg_congr hyr]
  · rw [settle_doorUnit, hunit, if_pos (by simp [hreason, hcount, hretry.mpr hfree]), hya]
    rfl
  · rw [settle_doorUnit, hunit, if_neg]
    simp only [Bool.and_eq_true, Bool.not_eq_true', decide_eq_true_eq, decide_eq_false_iff_not, hretry]
    rintro ⟨⟨h1, h2⟩, h3⟩
    rcases h with h | h | ⟨h, h'⟩
    · exact h1 h
    · omega
    · rcases h3 with h3 | h3
      · exact h h3
      · exact h' h3

/-! ## The cause records after the end of a command that gathered reports of several causes (R160) -/

theorem addToReport_perm (x : CauseReport) (gs : List (List CauseReport)) :
    (addToReport x gs).flatten.Perm (x :: gs.flatten) := by
  induction gs with
  | nil => exact List.Perm.refl _
  | cons g rest ih =>
    unfold addToReport
    split
    · rw [List.flatten_cons, List.append_assoc]
      exact List.perm_middle
    · rw [List.flatten_cons, List.flatten_cons]
      exact (ih.append_left g).trans List.perm_middle

theorem reportsOf_perm (xs : List CauseReport) : (reportsOf xs).flatten.Perm xs := by
  have h : ∀ (ys : List CauseReport) (gs : List (List CauseReport)),
      (ys.foldl (fun gs x => addToReport x gs) gs).flatten.Perm (gs.flatten ++ ys) := fun ys => by
    induction ys with
    | nil => simp
    | cons y ys ih =>
      intro gs
      refine (ih (addToReport y gs)).trans ?_
      refine ((addToReport_perm y gs).append_right ys).trans ?_
      exact (List.perm_middle (l₁ := gs.flatten) (a := y) (l₂ := ys)).symm
  exact h xs []

/-- One record after a report is taken: the changes that name its cause, in order. -/
theorem takeRecords_getD (now : Ms) (c : Cause) (xs : List CauseReport) :
    ∀ records : List CauseRecord, records.length = 48 →
      (takeRecords now records xs).getD c.num (CauseRecord.initial c.defaultCategory) =
        (xs.filter fun x => x.cause = c).foldl (fun r x => r.take x.change now)
          (records.getD c.num (CauseRecord.initial c.defaultCategory)) ∧
      (takeRecords now records xs).length = 48 := by
  induction xs with
  | nil => exact fun _ h => ⟨rfl, h⟩
  | cons x xs ih =>
    intro records hlen
    obtain ⟨h1, h2⟩ := ih (records.set x.cause.num
      ((records.getD x.cause.num (CauseRecord.initial x.cause.defaultCategory)).take x.change now)) (by simpa using hlen)
    refine ⟨h1.trans ?_, h2⟩
    by_cases hc : x.cause = c
    · subst hc
      simp [List.filter, List.getD, hlen, x.cause.num_lt]
    · have hn : x.cause.num ≠ c.num := fun e => hc (Cause.num_inj e)
      simp [List.filter, hc, List.getD, hn]

theorem takeTogether_now (s : State) (xs : List CauseReport) : (s.takeTogether xs).now = s.now := by
  unfold State.now
  rw [(State.takeTogether_does xs (Does.refl 4317712 s) rfl).tmb_eq]

theorem foldl_takeTogether_records (gs : List (List CauseReport)) (s : State) :
    (gs.foldl State.takeTogether s).stc.records = takeRecords s.now s.stc.records gs.flatten := by
  induction gs generalizing s with
  | nil => rfl
  | cons g gs ih =>
    rw [List.foldl_cons, ih, takeTogether_now, (takeTogether_output s g).2.1, List.flatten_cons]
    simp [takeRecords, List.foldl_append]

/-- The record of a cause that a command has gathered at most one report of. -/
theorem settle_cause_filter {s b : State} {c : Cause} (hs : s.stc.records.length = 48) (hr : wasReset b s = false)
    (h : (s.stc.gathered.filter fun x => x.cause = c).length ≤ 1) :
    (s.settle b).cause c =
      (s.stc.gathered.filter fun x => x.cause = c).foldl (fun r x => r.take x.change s.now) (s.cause c) := by
  have hperm : ((reportsOf s.stc.gathered).flatten.filter fun x => x.cause = c) =
      s.stc.gathered.filter fun x => x.cause = c := by
    have hp := (reportsOf_perm s.stc.gathered).filter fun x => x.cause = c
    match hl : s.stc.gathered.filter fun x => x.cause = c with
    | [] => rw [hl] at hp; rw [hl]; exact hp.eq_nil
    | [x] => rw [hl] at hp; rw [hl]; exact List.perm_singleton.mp hp
    | x :: y :: l => rw [hl] at h; simp at h
  have htake : s.takeReport.cause c =
      (s.stc.gathered.filter fun x => x.cause = c).foldl (fun r x => r.take x.change s.now) (s.cause c) := by
    cases hg : s.stc.gathered with
    | nil => rw [takeReport_of_gathered_nil hg]; rfl
    | cons x xs =>
      have hrec : s.takeReport.stc.records = takeRecords s.now s.stc.records (reportsOf s.stc.gathered).flatten := by
        unfold State.takeReport
        rw [hg]
        exact foldl_takeTogether_records _ s.clearGathered
      unfold State.cause
      rw [hrec, (takeRecords_getD s.now c _ _ hs).1, hperm, hg]
  rw [← htake]
  have h1 : (s.settle b).stc = s.takeReport.stc := by
    unfold State.settle
    rw [if_neg (by simp [hr])]
    simp
  simp only [State.cause, h1]

/-! ## A deadline that expires (O32) -/

/-- What is known of a cause, and what is gathered of it, is the same in two states. -/
structure SameCause (c : Cause) (s t : State) : Prop where
  cause : t.cause c = s.cause c
  gathered : (t.stc.gathered.filter fun x => x.cause = c) = s.stc.gathered.filter fun x => x.cause = c
  length : t.stc.records.length = s.stc.records.length

theorem sameCause_of_stc {c : Cause} {s t : State} (h : t.stc = s.stc) : SameCause c s t :=
  ⟨by simp only [State.cause, h], by rw [h], by rw [h]⟩

theorem SameCause.trans {c : Cause} {s t u : State} (h1 : SameCause c s t) (h2 : SameCause c t u) : SameCause c s u :=
  ⟨h2.cause.trans h1.cause, h2.gathered.trans h1.gathered, h2.length.trans h1.length⟩

theorem judge_sameCause {c d : Cause} (s : State) (b : Bool) (i : Option Nat) (h : d ≠ c) :
    SameCause c s (s.judge d b i) := by
  have hn : d.num ≠ c.num := fun e => h (Cause.num_inj e)
  unfold State.judge
  split
  · exact sameCause_of_stc rfl
  · refine ⟨?_, ?_, ?_⟩
    · simp [State.cause, State.gather, State.holdCondition, List.getD, hn]
    · simp [State.gather, State.holdCondition, h]
    · simp [State.gather, State.holdCondition]

theorem reportHead_sameCause {c : Cause} (s : State) (h : Cause.headBlocked ≠ c) : SameCause c s s.reportHead := by
  have h1 : SameCause c s s.withdrawUnlessHead := by
    unfold State.withdrawUnlessHead
    repeat' split
    · exact sameCause_of_stc rfl
    · exact sameCause_of_stc (State.withdrawRelease_does (m := 4260368) false (Does.refl _ s) rfl).stc_eq
    · exact sameCause_of_stc rfl
  refine h1.trans ?_
  unfold State.reportHead State.releaseCountedHead
  repeat' split
  · exact sameCause_of_stc rfl
  · exact (sameCause_of_stc (by rfl)).trans (judge_sameCause _ _ _ h)
  · exact sameCause_of_stc rfl

theorem changeDoor_sameCause {c : Cause} (s : State) (e : StationEntry) (d : DoorState) (h : Cause.headBlocked ≠ c) :
    SameCause c s (s.changeDoor e d) := by
  unfold State.changeDoor
  split
  · exact sameCause_of_stc rfl
  · refine SameCause.trans (sameCause_of_stc ?_) (reportHead_sameCause _ h)
    unfold State.setDoor
    split <;> rfl

/-- A deadline's expiry before the unit recovers. -/
def State.doorFaulted (s : State) (u : DoorUnitName) (x : StationEntry) (c : DoorCommand) : State :=
  (((s.raise .doorTimeout c.id).changeDoor x .fault).modRecord x.serial DoorRecord.stopTimers).report .doorTimeout none
    c.id [(unitNumber u : Nat), (c.field : Nat), ((s.timedOutDoor c).code : Nat)]

section
variable {s : State} {u : DoorUnitName} {b : BusyCommand} {x : StationEntry} {i : Nat} {p : DoorProfile}

theorem doorFaulted_reg (c : DoorCommand) (hw : x.who = .cabin i) (hi : i < s.registry.length) :
    (s.doorFaulted u x c).reg i = { s.reg i with door := if s.launched x then (s.reg i).door else .fault } := by
  unfold State.doorFaulted
  rw [reg_congr (report_registry ..)]
  exact (changeDoor_reg (s := s.raise .doorTimeout c.id) .fault hw hi).trans rfl

theorem doorFaulted_profile (c : DoorCommand) (hw : x.who = .cabin i) (hi : i < s.registry.length) :
    (s.doorFaulted u x c).profile (some i) = s.profile (some i) := by
  unfold State.doorFaulted
  rw [profile_congr (report_registry ..) (report_operations ..)]
  exact (changeDoor_profile (s := s.raise .doorTimeout c.id) .fault hw hi).trans rfl

theorem doorFaulted_tmb (c : DoorCommand) : (s.doorFaulted u x c).tmb = s.tmb := by
  unfold State.doorFaulted
  rw [report_tmb]
  exact (State.changeDoor_does x .fault (Does.refl 4293172 (s.raise .doorTimeout c.id)) rfl).tmb_eq

theorem doorFaulted_doorRecord {d : DoorRecord} (c : DoorCommand) (hr : s.doorRecord x.serial = some d) :
    (s.doorFaulted u x c).doorRecord x.serial = some d.stopTimers := by
  unfold State.doorFaulted
  rw [doorRecord_congr (congrArg Dsq.records (report_dsq ..))]
  refine modRecord_self _ (fun _ => rfl) ?_
  rw [changeDoor_doorRecord]
  exact hr

theorem doorFaulted_sameCause (c : DoorCommand) :
    SameCause .doorTimeout (s.raise .doorTimeout c.id) (s.doorFaulted u x c) := by
  refine (changeDoor_sameCause _ x .fault (by decide)).trans (sameCause_of_stc ?_)
  unfold State.doorFaulted
  rw [report_stc]
  rfl

theorem doorTimeout_eq (he : s.entry b.cmd.serial = some x) (hw : x.who = .cabin i) (hi : i < s.registry.length)
    (hc : b.cmd.cabin = some i) (hp : s.profile (some i) = some p) :
    s.doorTimeout u b =
      (((s.doorFaulted u x b.cmd).setDoorUnit u
          { (s.doorFaulted u x b.cmd).doorUnit u with timedOut := some b.cmd }).setUnitState u
        (.recover (s.after p.tRecover))) := by
  have htime : (s.raise .doorTimeout b.cmd.id).timeoutDoor b.cmd =
      ((s.raise .doorTimeout b.cmd.id).changeDoor x .fault).modRecord x.serial DoorRecord.stopTimers := by
    have hze : (s.raise .doorTimeout b.cmd.id).entry b.cmd.serial = some x := he
    simp only [State.timeoutDoor, hze]
  have hy : (((s.raise .doorTimeout b.cmd.id).timeoutDoor b.cmd).report .doorTimeout none b.cmd.id
      [(unitNumber u : Nat), (b.cmd.field : Nat), ((s.timedOutDoor b.cmd).code : Nat)]) = s.doorFaulted u x b.cmd := by
    rw [htime]
    rfl
  unfold State.doorTimeout
  dsimp only
  rw [hy, hc, completeUnit_of_profile (p := p)]
  · have htmb : ∀ z, ((s.doorFaulted u x b.cmd).setDoorUnit u z).tmb = s.tmb := fun z => by
      refine Eq.trans ?_ (doorFaulted_tmb (u := u) (x := x) b.cmd)
      cases u <;> rfl
    rw [after_congr (htmb _)]
  · rw [← hp, ← doorFaulted_profile (u := u) b.cmd hw hi]
    cases u <;> rfl

end

/-- Settles O32: the door, the record and the unit as `doorFaulted` leaves them, and the one report gathered of
DOOR_TIMEOUT. -/
theorem doorDeadlineFaultsTheDoor : Obligations.DoorDeadlineFaultsTheDoor := by
  intro s name b sent x i p d hs hb hf he hw hi hc hp hr hserial hlen hg
  have hfire : s.Fires (s.doorUnit name).state.deadline := by
    rw [hs, UnitState.deadline, hb]
    exact hf
  have hexec : exec (.doorDeadlineExpiry name) s = .next ((s.doorTimeout name b).settle s) := by
    rw [show exec (.doorDeadlineExpiry name) s = execDoorDeadlineExpiry name s from rfl, execDoorDeadlineExpiry,
      expiry_running hfire]
    simp only [State.timeoutUnit, hs]
  have hreset : wasReset s (s.doorTimeout name b) = false :=
    not_reset (State.doorTimeout_does (m := 4295220) _ _ (Does.refl _ s) rfl) (by decide)
  rw [doorTimeout_eq he hw hi hc hp] at hexec hreset
  generalize hy : s.doorFaulted name x b.cmd = y at hexec hreset
  have hsame : SameCause .doorTimeout (s.raise .doorTimeout b.cmd.id) y := hy ▸ doorFaulted_sameCause b.cmd
  generalize hz : (y.setDoorUnit name { y.doorUnit name with timedOut := some b.cmd }).setUnitState name
    (.recover (s.after p.tRecover)) = z at hexec hreset
  have hzstc : z.stc = y.stc := by rw [← hz]; cases name <;> rfl
  have hznow : z.now = s.now := by
    rw [← hz, State.setUnitState, setDoorUnit_now, setDoorUnit_now, ← hy]
    exact congrArg Tmb.counter (doorFaulted_tmb b.cmd)
  have hzreg : z.registry = y.registry := by rw [← hz]; cases name <;> rfl
  have hall := hsame.trans (sameCause_of_stc hzstc)
  have hgathered : (z.stc.gathered.filter fun r => r.cause = .doorTimeout) =
      [{ cause := .doorTimeout, change := .momentary b.cmd.id }] := by
    rw [hall.gathered]
    simp [State.raise, State.gather, hg]
  have hcause : (z.settle s).cause .doorTimeout =
      (s.cause .doorTimeout).take (.momentary b.cmd.id) s.now := by
    rw [settle_cause_filter (by rw [hall.length]; exact hlen) hreset (by rw [hgathered]; simp), hgathered, hznow,
      hall.cause]
    rfl
  refine ⟨_, hexec, ?_, ?_, ?_, ?_, ?_, ?_, ?_⟩
  · rw [settle_reg, reg_congr hzreg, ← hy, doorFaulted_reg b.cmd hw hi]
  · rw [settle_doorRecord, ← hz, State.setUnitState, setDoorUnit_doorRecord, setDoorUnit_doorRecord, ← hy,
      doorFaulted_doorRecord b.cmd hr]
    rfl
  · rw [settle_doorUnit, ← hz, State.setUnitState, setDoorUnit_self]
  · rw [settle_doorUnit, ← hz, State.setUnitState, setDoorUnit_self, setDoorUnit_self]
  · rw [hcause]; rfl
  · rw [hcause]; rfl
  · rw [hcause]; rfl

end Sys2Proof.Machine
end
section
/-!
PROOFS. The operator's door requests (chapter 5).
-/

namespace Sys2Proof.Machine

/-! ## Requests on an entry (R105) -/

theorem doorTarget_of_id {s : State} {w : Word} {n i : Nat} {x : StationEntry} (ht : targetOf w = .id n)
    (hl : s.lookup n = some i) (he : s.entryOfCabin i = some x) : s.doorTarget w = .entry x := by
  simp only [State.doorTarget, ht, hl, he]

theorem atDoor_of_entry {s : State} {w : Word} {x : StationEntry} (act : StationEntry → Answer)
    (h : s.doorTarget w = .entry x) : s.atDoor w act = act x := by
  simp only [State.atDoor, h]

theorem takeHead_doorTarget (s : State) (rest : List IngressEntry) (w : Word) :
    (s.takeHead rest).doorTarget w = s.doorTarget w := by
  obtain ⟨r, h⟩ := takeHead_eq_setRng s rest
  rw [h]
  rfl

/-! ## The door mode (R108) -/

@[simp] theorem offerFirst_mode (s : State) (u : DoorUnitName) (c : DoorCommand) : (s.offerFirst u c).dsq.mode = s.dsq.mode := by
  unfold State.offerFirst State.setUnitState
  dsimp only
  split <;> simp <;> rfl

@[simp] theorem withdrawUnsent_mode (s : State) (u : DoorUnitName) (p : DoorCommand → Bool) :
    (s.withdrawUnsent u p).dsq.mode = s.dsq.mode := by
  have hidle : ∀ y : State, (y.unitToIdle u).dsq.mode = y.dsq.mode := fun y => by
    unfold State.unitToIdle State.setUnitState
    dsimp only
    repeat' split
    all_goals simp
  unfold State.withdrawUnsent State.withdrawBusy State.withdrawPending
  repeat' split
  all_goals simp [hidle, withdrawControl_dsq]

/-- A unit whose command is sent keeps it. -/
theorem withdrawUnsent_of_sent {s : State} {u : DoorUnitName} {p : DoorCommand → Bool} {b : BusyCommand}
    (hs : (s.doorUnit u).state = .busy b) (hb : b.phase.unsent = false) :
    ((s.withdrawUnsent u p).doorUnit u).state = .busy b := by
  have hstate := (withdrawPending_unit s u p).1.trans hs
  rw [State.withdrawUnsent, withdrawBusy_of_not, hstate]
  intro b' hb' hun
  rw [hstate] at hb'
  cases hb'
  rw [hb] at hun
  cases hun

theorem withdrawPending_rng (s : State) (u : DoorUnitName) (p : DoorCommand → Bool) :
    (s.withdrawPending u p).rng = s.rng := by
  unfold State.withdrawPending
  repeat' split
  all_goals simp

/-- The frame of a QUEUED command withdrawn leaves CONTROL, and with nothing else pending the unit is IDLE. -/
theorem withdrawUnsent_of_queued {s : State} {u : DoorUnitName} {p : DoorCommand → Bool} {b : BusyCommand}
    (hs : (s.doorUnit u).state = .busy b) (hb : b.phase = .queued) (hp : p b.cmd = true)
    (hpend : ∀ c, (s.doorUnit u).pending = some c → p c = true) :
    ((s.withdrawUnsent u p).doorUnit u).state = .idle ∧
      (s.withdrawUnsent u p).rng.control = withoutFrame s.rng.control b.cmd.action.kind b.tag none := by
  obtain ⟨hstate, hpending⟩ := withdrawPending_unit s u p
  have hrng := withdrawPending_rng s u p
  have hnone : ((s.withdrawPending u p).doorUnit u).pending = none := by
    rw [hpending]
    cases hc : (s.doorUnit u).pending with
    | none => rfl
    | some c => simp [Option.filter, hpend c hc]
  rw [hs] at hstate
  unfold State.withdrawUnsent
  generalize s.withdrawPending u p = y at *
  have hbusy : y.withdrawBusy u p = (y.withdrawControl b.cmd.action.kind b.tag).unitToIdle u := by
    simp [State.withdrawBusy, hstate, hb, hp, CommandPhase.unsent]
  have hn : ((y.withdrawControl b.cmd.action.kind b.tag).doorUnit u).pending = none := by
    rw [doorUnit_congr (withdrawControl_dsq ..), hnone]
  rw [hbusy, unitToIdle_of_none hn, State.setUnitState, setDoorUnit_self, setDoorUnit_rng]
  exact ⟨rfl, by rw [← hrng]; rfl⟩

theorem setDoorMode_of_change {s : State} (h : s.dsq.mode = .normal) :
    s.setDoorMode .closedRun =
      (s.setDsq { s.dsq with mode := .closedRun }).withdrawUnsent .openUnit fun c => c.action = .openDoor := by
  simp [State.setDoorMode, h]

theorem setDoorMode_mode (s : State) (m : DoorMode) : (s.setDoorMode m).dsq.mode = m := by
  unfold State.setDoorMode
  dsimp only
  split <;> simp

/-- What O36 asks of the OPEN unit at a change into CLOSED_RUN (R108). -/
theorem closedRun_units {s t : State} (h : t.doorUnit .openUnit =
      ((s.setDsq { s.dsq with mode := .closedRun }).withdrawUnsent .openUnit fun c => c.action = .openDoor).doorUnit
        .openUnit) :
    (∀ c, t.dsq.openUnit.pending = some c → c.action ≠ .openDoor) ∧
      (∀ b, t.dsq.openUnit.state = .busy b → b.cmd.action = .openDoor → b.phase.unsent = false) ∧
      (∀ b, s.dsq.openUnit.state = .busy b → b.phase.unsent = false → t.dsq.openUnit.state = .busy b) := by
  have howes := withdrawUnsent_owes (s.setDsq { s.dsq with mode := .closedRun }) .openUnit fun c => c.action = .openDoor
  rw [← h] at howes
  refine ⟨fun c hc ha => howes (.inl ⟨c, hc, by simpa using ha⟩),
    fun b hb ha => Bool.eq_false_iff.mpr fun hun => howes (.inr ⟨b, hb, hun, by simpa using ha⟩), fun b hb hun => ?_⟩
  refine (congrArg DoorUnit.state h).trans (withdrawUnsent_of_sent ?_ hun)
  exact hb

theorem exec_setDoorMode {s : State} {e : IngressEntry} {rest : List IngressEntry} (h : s.Requests .setDoorMode e rest)
    (hw : (e.frame.word 1).toNat < 2) :
    exec .setDoorMode s =
      .next (((((s.takeHead rest).setDoorMode (if (e.frame.word 1).toNat = 0 then .normal else .closedRun)).answer
        .ok).give e.frame).settle s) := by
  have htake : (s.takeHead rest).takeDoorMode (e.frame.word 1).toNat =
      ((s.takeHead rest).setDoorMode (if (e.frame.word 1).toNat = 0 then .normal else .closedRun)).answer .ok := by
    generalize (e.frame.word 1).toNat = n at hw ⊢
    match n, hw with
    | 0, _ => rfl
    | 1, _ => rfl
  rw [show exec .setDoorMode s = execSetDoorMode s from rfl, execSetDoorMode, manage_running h, htake]

theorem give_doorUnit (a : Answer) (f : RingFrame) (u : DoorUnitName) : (a.give f).doorUnit u = a.state.doorUnit u :=
  doorUnit_congr (Answer.give_does (m := 134283264) a f (Does.refl _ a.state) rfl).dsq_eq u

theorem doorModeIsTaken {s : State} {e : IngressEntry} {rest : List IngressEntry} (hroom : s.rng.report.length < 32)
    (hreq : s.Requests .setDoorMode e rest) (hword : (e.frame.word 1).toNat < 2) :
    ∃ u, exec .setDoorMode s = .next u ∧ u.Replied e.frame .ok [] ∧
      u.dsq.mode = (if (e.frame.word 1).toNat = 0 then .normal else .closedRun) ∧
      (u.dsq.mode = .closedRun → s.dsq.mode = .normal →
        (∀ c, u.dsq.openUnit.pending = some c → c.action ≠ .openDoor) ∧
        (∀ b, u.dsq.openUnit.state = .busy b → b.cmd.action = .openDoor → b.phase.unsent = false) ∧
        (∀ b, s.dsq.openUnit.state = .busy b → b.cmd.action = .openDoor →
          (b.phase.unsent = false → u.dsq.openUnit.state = .busy b) ∧
          (b.phase = .queued → s.stc.gathered = [] →
            (∀ c, s.dsq.openUnit.pending = some c → c.action = .openDoor) →
            u.dsq.openUnit.state = .idle ∧ u.rng.control = withoutFrame s.rng.control .doorOpen b.tag none)) ∧
        u.registry = s.registry) := by
  have hexec := exec_setDoorMode hreq hword
  generalize hm : (if (e.frame.word 1).toNat = 0 then DoorMode.normal else .closedRun) = m at hexec ⊢
  generalize hy : s.takeHead rest = y at hexec
  have hD : Does 67584 y (y.setDoorMode m) := State.setDoorMode_does _ (Does.refl _ y) rfl
  have hroom' : (y.setDoorMode m).rng.report.length < 32 := hD.2.2.1 rfl (by simpa [← hy] using hroom)
  have hydsq : y.dsq = s.dsq := by simp [← hy]
  have hunit : ∀ u, ((((y.setDoorMode m).answer .ok).give e.frame).settle s).doorUnit u = (y.setDoorMode m).doorUnit u :=
    fun u => (settle_doorUnit ..).trans (give_doorUnit ..)
  have hmode : ((((y.setDoorMode m).answer .ok).give e.frame).settle s).dsq.mode = m := by
    rw [settle_dsq, Answer.give, reply_dsq]
    exact setDoorMode_mode y m
  refine ⟨_, hexec, give_replied e.frame s hroom', hmode, fun hclosed hnormal => ?_⟩
  obtain rfl : m = .closedRun := hmode.symm.trans hclosed
  have hchange := setDoorMode_of_change (s := y) (by rw [hydsq, hnormal])
  obtain ⟨h1, h2, h3⟩ := closedRun_units (s := y) ((hunit .openUnit).trans (by rw [hchange]))
  rw [hydsq] at h3
  refine ⟨h1, h2, fun b hb ha => ⟨fun hsent => h3 b hb hsent, fun hq hg hpend => ?_⟩, ?_⟩
  · obtain ⟨hidle, hcontrol⟩ := withdrawUnsent_of_queued (s := y.setDsq { y.dsq with mode := .closedRun }) (u := .openUnit)
      (p := fun c => c.action = .openDoor) (b := b) (by rw [← hb, ← hydsq]; rfl) hq (by simpa using ha)
      (fun c hc => by simpa using hpend c (by rw [← hydsq]; exact hc))
    rw [← hchange] at hidle hcontrol
    refine ⟨(congrArg DoorUnit.state (hunit .openUnit)).trans hidle, ?_⟩
    rw [settle_rng_of_quiet, Answer.give, State.reply, placeReport_control]
    · refine hcontrol.trans ?_
      rw [ha, ← takeHead_control s rest, hy]
      rfl
    · show (((y.setDoorMode .closedRun).answer .ok).give e.frame).stc.gathered = []
      rw [Answer.give, reply_stc, State.answer, hD.stc_eq, ← hy, takeHead_stc, hg]
    · exact wasReset_of_none _ hreq.2.1
  · rw [settle_registry, Answer.give, reply_registry, State.answer, hD.registry_eq, ← hy, takeHead_registry]

/-! ## Requests on one entry's door (R105 to R107) -/

section
variable {s : State} {e : IngressEntry} {rest : List IngressEntry} {n i : Nat} {x : StationEntry} {r : DoorRecord}

/-- What the target of a request names in the queue. -/
structure NamesEntry (s : State) (f : RingFrame) (i : Nat) (x : StationEntry) : Prop where
  target : s.doorTarget (f.word 1) = .entry x
  who : x.who = .cabin i
  lt : i < s.registry.length

theorem exec_holdOpen (hreq : s.Requests .holdOpen e rest) (ht : NamesEntry s e.frame i x) :
    exec .holdOpen s =
      .next ((((s.takeHead rest).doorAnswer ((s.takeHead rest).mayHoldOpen x) fun y => y.takeHoldOpen x).give
        e.frame).settle s) := by
  rw [show exec .holdOpen s = execHoldOpen s from rfl, execHoldOpen, manage_running hreq,
    atDoor_of_entry _ ((takeHead_doorTarget ..).trans ht.target)]

theorem exec_releaseHold (hreq : s.Requests .releaseHold e rest) (ht : NamesEntry s e.frame i x) :
    exec .releaseHold s = .next (((((s.takeHead rest).takeReleaseHold x).answer .ok).give e.frame).settle s) := by
  rw [show exec .releaseHold s = execReleaseHold s from rfl, execReleaseHold, manage_running hreq,
    atDoor_of_entry _ ((takeHead_doorTarget ..).trans ht.target)]
  rfl

theorem exec_doorRetry (hreq : s.Requests .doorRetry e rest) (ht : NamesEntry s e.frame i x)
    (hm : (s.takeHead rest).mayRetryDoor x = true) :
    exec .doorRetry s = .next (((((s.takeHead rest).takeDoorRetry x).answer .ok).give e.frame).settle s) := by
  rw [show exec .doorRetry s = execDoorRetry s from rfl, execDoorRetry, manage_running hreq,
    atDoor_of_entry _ ((takeHead_doorTarget ..).trans ht.target), State.doorAnswer, if_pos hm]

theorem setHoldOpen_reg (b : Bool) (hw : x.who = .cabin i) (hi : i < s.registry.length) :
    (s.setHoldOpen x b).reg i = { s.reg i with holdOpen := b } := by
  rw [State.setHoldOpen, hw]
  exact modReg_reg_self _ hi

theorem takeHoldOpen_spec (hw : x.who = .cabin i) (hi : i < s.registry.length) :
    ((s.takeHoldOpen x).reg i).holdOpen = true ∧ (s.takeHoldOpen x).closeIssued x.serial = false := by
  refine ⟨?_, withdrawClose_closeIssued ..⟩
  have h : Does 67584 (s.setHoldOpen x true) (s.takeHoldOpen x) := State.withdrawClose_does _ (Does.refl _ _) rfl
  rw [reg_congr h.registry_eq, setHoldOpen_reg true hw hi]

theorem takeReleaseHold_spec (hw : x.who = .cabin i) (hi : i < s.registry.length) :
    ((s.takeReleaseHold x).reg i).holdOpen = false := by
  have h : Does 4294656 (s.setHoldOpen x false) (s.takeReleaseHold x) := State.closeTest_does _ (Does.refl _ _) rfl
  rw [reg_congr h.registry_eq, setHoldOpen_reg false hw hi]

/-- The record of an entry as DOOR_RETRY leaves it (R107). -/
def State.RecordRetried (y : State) (n : Nat) (r : DoorRecord) : Prop :=
  ∃ r', y.doorRecord n = some r' ∧ r'.reopens = 0 ∧ r'.held = .notHeld ∧ r'.reopened = r.reopened

theorem State.RecordRetried.modRecord {y : State} {n : Nat} (h : y.RecordRetried n r) (k : Nat) (f : DoorRecord → DoorRecord)
    (hs : ∀ r, (f r).serial = r.serial)
    (hf : ∀ r, (f r).reopens = r.reopens ∧ (f r).held = r.held ∧ (f r).reopened = r.reopened) :
    (y.modRecord k f).RecordRetried n r := by
  obtain ⟨r', hr', h1, h2, h3⟩ := h
  obtain ⟨g1, g2, g3⟩ := hf r'
  refine ⟨if k = n then f r' else r', ?_, ?_⟩
  · rw [modRecord_doorRecord y k n f hs, hr']
    rfl
  · split
    · exact ⟨g1.trans h1, g2.trans h2, g3.trans h3⟩
    · exact ⟨h1, h2, h3⟩

theorem recordRetried_congr {y z : State} {n : Nat} (hd : z.dsq.records = y.dsq.records) (h : y.RecordRetried n r) :
    z.RecordRetried n r := by
  obtain ⟨r', hr', hrest⟩ := h
  exact ⟨r', (doorRecord_congr hd n).trans hr', hrest⟩

theorem issueDoor_records_of_none {y : State} {u : DoorUnitName} (c : DoorCommand) (hp : (y.doorUnit u).pending = none) :
    (y.issueDoor u c).dsq.records = y.dsq.records := by
  by_cases hs : (y.doorUnit u).state = .idle
  · rw [issueDoor_of_idle c hs hp, offerFirst_records]
  · rw [issueDoor_of_busy c hs hp]
    cases u <;> rfl

theorem State.RecordRetried.closeTest {y : State} {m : Nat} (h : y.RecordRetried m r) (n : Nat)
    (hp : (y.doorUnit .closeUnit).pending = none) : (y.closeTest n).RecordRetried m r := by
  unfold State.closeTest
  repeat' split
  · refine recordRetried_congr (issueDoor_records_of_none _ (by rw [modRecord_doorUnit, hp])) ?_
    exact h.modRecord _ _ (fun _ => rfl) fun _ => ⟨rfl, rfl, rfl⟩
  · exact h
  · exact h

theorem State.RecordRetried.closeSeparate {y : State} {m : Nat} (h : y.RecordRetried m r) (e : StationEntry)
    (hp : (y.doorUnit .closeUnit).pending = none) : (y.closeSeparate e).RecordRetried m r := by
  unfold State.closeSeparate
  split
  · refine recordRetried_congr (issueDoor_records_of_none _ (by rw [modRecord_doorUnit, hp])) ?_
    exact h.modRecord _ _ (fun _ => rfl) fun _ => ⟨rfl, rfl, rfl⟩
  · exact h

theorem State.RecordRetried.settleSeparate {y : State} {m : Nat} (h : y.RecordRetried m r) (e : StationEntry) :
    (y.settleSeparate e).RecordRetried m r := by
  have h1 := h.modRecord e.serial (fun r => { r with lockMode := .separate }) (fun _ => rfl) fun _ => ⟨rfl, rfl, rfl⟩
  unfold State.settleSeparate State.startSettle
  split
  · refine h1.modRecord _ _ (fun r => ?_) fun r => ?_
    · split <;> rfl
    · split <;> exact ⟨rfl, rfl, rfl⟩
  · exact h1

/-- The state in which DOOR_RETRY has cleared the reopen count and the held reason. -/
def State.retried (s : State) (e : StationEntry) : State :=
  (s.modRecord e.serial fun r => { r with reopens := 0, held := .notHeld }).judgeObstruction

theorem retried_dsq (s : State) (e : StationEntry) :
    (s.retried e).dsq = (s.modRecord e.serial fun r => { r with reopens := 0, held := .notHeld }).dsq :=
  (State.judgeObstruction_does (m := 32768) none (Does.refl _ _) rfl).dsq_eq

theorem retried_doorUnit (s : State) (e : StationEntry) (u : DoorUnitName) : (s.retried e).doorUnit u = s.doorUnit u :=
  (doorUnit_congr (retried_dsq s e) u).trans (modRecord_doorUnit ..)

theorem retried_doorRecord (hr : s.doorRecord x.serial = some r) :
    (s.retried x).doorRecord x.serial = some { r with reopens := 0, held := .notHeld } := by
  rw [doorRecord_congr (congrArg Dsq.records (retried_dsq s x))]
  exact modRecord_self (fun r => { r with reopens := 0, held := .notHeld }) (fun _ => rfl) hr

theorem takeDoorRetry_retried (hr : s.doorRecord x.serial = some r) (hp : s.dsq.closeUnit.pending = none) :
    (s.takeDoorRetry x).RecordRetried x.serial r := by
  have h : (s.retried x).RecordRetried x.serial r := ⟨_, retried_doorRecord hr, rfl, rfl, rfl⟩
  have hpend : ((s.retried x).doorUnit .closeUnit).pending = none := by rw [retried_doorUnit]; exact hp
  unfold State.takeDoorRetry
  dsimp only
  split
  · exact h.closeTest _ hpend
  · exact h.settleSeparate x
  · exact h.closeSeparate x hpend
  · exact h.closeSeparate x hpend
  · exact h

theorem withdrawHeld_unit {y : State} {u : DoorUnitName} {b : BusyCommand}
    (hb : ((y.withdrawHeld u).doorUnit u).state = .busy b) (hun : b.phase.unsent = true) : y.maySend b.cmd = true := by
  by_cases hex : ∃ b, (y.doorUnit u).state = .busy b ∧ b.phase.unsent = true ∧ (!y.maySend b.cmd) = true
  · obtain ⟨b', hb', hun', hp⟩ := hex
    obtain ⟨z, hz, hdsq⟩ := withdrawBusy_unit (p := fun c => !y.maySend c) hb' hun' hp
    rw [State.withdrawHeld, hz] at hb
    rcases (unitToIdle_unit z u).2 with h | ⟨b'', h, -, hsend⟩
    · rw [h] at hb
      cases hb
    · rw [h] at hb
      cases hb
      rwa [maySend_congr (doorRecord_congr (congrArg Dsq.records hdsq) _)] at hsend
  · have hno : y.withdrawHeld u = y := withdrawBusy_of_not fun b' hb' hun' =>
      Bool.eq_false_iff.mpr fun hp => hex ⟨b', hb', hun', hp⟩
    rw [hno] at hb
    by_contra hc
    exact hex ⟨b, hb, hun, by simpa using hc⟩

/-- The close that DOOR_RETRY issues to a full CLOSE unit is a backlog (R94). -/
theorem closeSeparate_backlog {y : State} {c : DoorCommand} (hserved : y.doorsServed = true)
    (hp : (y.doorUnit .closeUnit).pending = some c) (hr : y.doorRecord x.serial = some r) :
    (y.closeSeparate x).doorRecord x.serial = some { r with lockMode := .separate, held := .drive } ∧
      ∀ b, ((y.closeSeparate x).doorUnit .closeUnit).state = .busy b → b.cmd.serial = x.serial →
        b.cmd.action ≠ .openDoor → b.phase.unsent = false := by
  generalize hz : y.modRecord x.serial (fun r => { r with lockMode := .separate }) = z
  have hzr : z.doorRecord x.serial = some { r with lockMode := .separate } :=
    hz ▸ modRecord_self (fun r => { r with lockMode := .separate }) (fun _ => rfl) hr
  have hzp : (z.doorUnit .closeUnit).pending = some c := by rw [← hp, ← hz, modRecord_doorUnit]
  generalize hm : ((z.driveFault .closeUnit (y.doorCommand x (.closeDoor .separate)) .backlog).markDropped
    (y.doorCommand x (.closeDoor .separate))) = m
  have hmr : m.doorRecord x.serial = some { r with lockMode := .separate, held := .drive } := by
    rw [← hm]
    exact modRecord_self (fun r => { r with held := .drive }) (fun _ => rfl)
      ((doorRecord_congr (congrArg Dsq.records (driveFault_dsq ..)) _).trans hzr)
  have heq : y.closeSeparate x = m.withdrawHeld .closeUnit := by
    rw [State.closeSeparate, if_pos hserved, hz, issueDoor_of_full _ hzp, ← hm]
  rw [heq]
  refine ⟨(doorRecord_congr (withdrawBusy_records ..) _).trans hmr, fun b hb hserial ha => ?_⟩
  refine Bool.eq_false_iff.mpr fun hun => ?_
  have hsend := withdrawHeld_unit hb hun
  rw [maySend_of_held ha (hserial ▸ hmr) (by simp)] at hsend
  cases hsend

theorem takeDoorRetry_backlog (hw : x.who = .cabin i) (hd : (s.reg i).door = .fault ∨ (s.reg i).door = .unknown)
    (hr : s.doorRecord x.serial = some r) (hp : s.dsq.closeUnit.pending.isSome = true) (hserved : s.doorsServed = true) :
    (∃ r', (s.takeDoorRetry x).doorRecord x.serial = some r' ∧ r'.reopens = 0 ∧ r'.held = .drive) ∧
      ∀ b, (s.takeDoorRetry x).dsq.closeUnit.state = .busy b → b.cmd.serial = x.serial → b.cmd.action ≠ .openDoor →
        b.phase.unsent = false := by
  obtain ⟨c, hc⟩ := Option.isSome_iff_exists.mp hp
  have hD : Does 34816 s (s.retried x) :=
    State.judgeObstruction_does none (State.modRecord_does _ _ (Does.refl _ s) rfl) rfl
  have hdoor : (s.retried x).doorOf x.who = (s.reg i).door := by
    rw [hw, State.doorOf, reg_congr hD.registry_eq]
  have htake : s.takeDoorRetry x = (s.retried x).closeSeparate x := by
    unfold State.retried at hdoor
    unfold State.takeDoorRetry State.retried
    dsimp only
    rcases hd with hd | hd <;> rw [hdoor, hd]
  have hserved' : (s.retried x).doorsServed = true := by
    obtain ⟨hsafety, hop, -⟩ := hD.1 .tables rfl
    rwa [State.doorsServed, State.safetyValid, State.operationsValid, hsafety, hop]
  obtain ⟨h1, h2⟩ := closeSeparate_backlog (y := s.retried x) (c := c) (x := x) hserved'
    (by rw [retried_doorUnit]; exact hc) (retried_doorRecord hr)
  rw [htake]
  exact ⟨⟨_, h1, rfl, rfl⟩, h2⟩

end

/-- Settles O36: the door mode by `doorModeIsTaken`, the requests on an entry by what each takes of it. -/
theorem doorRequestsAreTaken : Obligations.DoorRequestsAreTaken := by
  intro s e rest n i x r hroom
  refine ⟨fun hreq hword => doorModeIsTaken hroom hreq hword, fun htarget hlook hent hw hi hr => ?_⟩
  have hname : NamesEntry s e.frame i x := ⟨doorTarget_of_id htarget hlook hent, hw, hi⟩
  generalize hy : s.takeHead rest = y
  have hyr : y.registry = s.registry := by simp [← hy]
  have hyi : i < y.registry.length := by rwa [hyr]
  have hyroom : y.rng.report.length < 32 := by simpa [← hy] using hroom
  have hydsq : y.dsq = s.dsq := by simp [← hy]
  have hyrec : y.doorRecord x.serial = some r := by rw [← hr]; exact doorRecord_congr (by rw [hydsq]) _
  have hydoor : y.doorOf x.who = (s.reg i).door := by rw [hw, State.doorOf, reg_congr hyr]
  refine ⟨fun hreq hd hb => ?_, fun hreq hd => ?_, fun hreq => ?_, fun hreq hseg hwhy hp => ?_,
    fun hreq hseg hd hp hserved => ?_⟩
  · have hexec := exec_holdOpen hreq hname
    have hmay : y.mayHoldOpen x = true := by simp [State.mayHoldOpen, hydoor, hd, hyrec, hb]
    rw [hy, State.doorAnswer, if_pos hmay] at hexec
    obtain ⟨h1, h2⟩ := takeHoldOpen_spec (s := y) hw hyi
    refine ⟨_, hexec, give_replied e.frame s ?_, ?_, ?_⟩
    · exact (State.takeHoldOpen_does (m := 67588) x (Does.refl _ y) rfl).2.2.1 rfl hyroom
    · rw [settle_reg, Answer.give, reg_congr (reply_registry ..)]
      exact h1
    · rw [settle_closeIssued, closeIssued_congr (give_doorUnit ..)]
      exact h2
  · have hexec := exec_holdOpen hreq hname
    have hmay : y.mayHoldOpen x = false := by simp [State.mayHoldOpen, hydoor, hd]
    rw [hy, State.doorAnswer, if_neg (by simp [hmay])] at hexec
    refine ⟨_, hexec, give_replied e.frame s hyroom, ?_⟩
    rw [settle_registry, Answer.give, reply_registry]
    exact hyr
  · have hexec := exec_releaseHold hreq hname
    rw [hy] at hexec
    refine ⟨_, hexec, give_replied e.frame s ?_, ?_⟩
    · exact (State.takeReleaseHold_does (m := 4294660) x (Does.refl _ y) rfl).2.2.1 rfl hyroom
    · rw [settle_reg, Answer.give, reg_congr (reply_registry ..)]
      exact takeReleaseHold_spec (s := y) hw hyi
  · have hmay : y.mayRetryDoor x = true := by
      rcases hseg with hseg | hseg <;> rcases hwhy with hwhy | hwhy | hwhy <;>
        simp [State.mayRetryDoor, hseg, hyrec, hydoor, hwhy]
    have hexec := exec_doorRetry hreq hname (by rw [hy]; exact hmay)
    rw [hy] at hexec
    refine ⟨_, hexec, give_replied e.frame s ?_, ?_⟩
    · exact (State.takeDoorRetry_does (m := 4294656) x (Does.refl _ y) rfl).2.2.1 rfl hyroom
    · have h := takeDoorRetry_retried (s := y) hyrec (by rw [hydsq]; exact hp)
      refine recordRetried_congr ?_ h
      rw [settle_dsq, Answer.give, reply_dsq]
      rfl
  · have hmay : y.mayRetryDoor x = true := by
      rcases hseg with hseg | hseg <;> rcases hd with hd | hd <;> simp [State.mayRetryDoor, hseg, hyrec, hydoor, hd]
    have hexec := exec_doorRetry hreq hname (by rw [hy]; exact hmay)
    rw [hy] at hexec
    obtain ⟨⟨r', h1, h2, h3⟩, h4⟩ := takeDoorRetry_backlog (s := y) hw (by rwa [reg_congr hyr]) hyrec
      (by rw [hydsq]; exact hp) (by rw [← hserved, ← hy]; simp [State.doorsServed, State.safetyValid, State.operationsValid])
    have hdsq : (((y.takeDoorRetry x).answer .ok).give e.frame |>.settle s).dsq = (y.takeDoorRetry x).dsq := by
      rw [settle_dsq, Answer.give, reply_dsq]
      rfl
    refine ⟨_, hexec, give_replied e.frame s ?_, ⟨r', ?_, h2, h3⟩, ?_⟩
    · exact (State.takeDoorRetry_does (m := 4294656) x (Does.refl _ y) rfl).2.2.1 rfl hyroom
    · rw [doorRecord_congr (congrArg Dsq.records hdsq)]
      exact h1
    · rw [hdsq]
      exact h4

end Sys2Proof.Machine
end
section
/-!
PROOFS. Tension and the tower scans (chapter 6).
-/

namespace Sys2Proof.Machine

/-! ## Tension (O37) -/

@[simp] theorem judgeBand_rmn (s : State) (c : Cause) (b : Bool) (x n : Nat) : (s.judgeBand c b x n).rmn = s.rmn := by
  unfold State.judgeBand
  split <;> simp

@[simp] theorem judgeBand_records_length (s : State) (c : Cause) (b : Bool) (x n : Nat) :
    (s.judgeBand c b x n).stc.records.length = s.stc.records.length := by
  unfold State.judgeBand
  split <;> simp

theorem judgeBand_condition {s : State} (hs : s.stc.records.length = 48) (c d : Cause) (b : Bool) (x n : Nat) :
    (s.judgeBand c b x n).condition d = if d = c then b else s.condition d := by
  unfold State.judgeBand
  split
  · rename_i h
    simp only [Bool.and_eq_true] at h
    rw [report_condition, judge_condition hs, h.1]
  · exact judge_condition hs c d b none

theorem takeTension_spec {s : State} {t : SafetyTables} (x : Nat) (ht : s.tst.safety = some t)
    (hs : s.stc.records.length = 48) :
    (s.takeTension x).rmn =
        { s.rmn with carriage := some { position := x, time := s.now }, tensionLoss := some (s.after 1000) } ∧
      (s.takeTension x).condition .tensionLost = false ∧
      (s.takeTension x).condition .tensionWarn = !(t.warnLo ≤ x && x ≤ t.warnHi) ∧
      (s.takeTension x).condition .tensionLimit = !(t.stopLo ≤ x && x ≤ t.stopHi) := by
  have htab : s.tables = t := by simp [State.tables, ht]
  generalize hy : (s.setRmn
      { s.rmn with carriage := some { position := x, time := s.now }, tensionLoss := some (s.after 1000) }).judge
    .tensionLost false = y
  have hylen : y.stc.records.length = 48 := by simpa [← hy] using hs
  have hylost : y.condition .tensionLost = false := by rw [← hy, judge_condition (by exact hs), if_pos rfl]
  have htake : s.takeTension x = y.judgeTension t x := by rw [← hy, ← htab]; rfl
  have hcond : ∀ c, (s.takeTension x).condition c =
      if c = .tensionLimit then !(t.stopLo ≤ x && x ≤ t.stopHi)
      else if c = .tensionWarn then !(t.warnLo ≤ x && x ≤ t.warnHi) else y.condition c := fun c => by
    rw [htake, State.judgeTension, judgeBand_condition (by simpa using hylen), judgeBand_condition hylen]
  refine ⟨?_, ?_, ?_, ?_⟩
  · rw [htake, State.judgeTension, judgeBand_rmn, judgeBand_rmn, ← hy]
    simp
  · rw [hcond, if_neg (by decide), if_neg (by decide), hylost]
  · rw [hcond, if_neg (by decide), if_pos rfl]
  · rw [hcond, if_pos rfl]

/-- Settles O37: a sample by `takeTension_spec`, and the loss timer's expiry. -/
theorem tensionFollowsTheBands : Obligations.TensionFollowsTheBands := by
  refine ⟨fun s e rest t hdel ht hs => ?_, fun s hf hs => ?_⟩
  · have hexec : exec .tensionSample s =
        .next (((s.takeHead rest).takeTension (field (e.frame.word 0) 0 16)).settle s) := by
      rw [show exec .tensionSample s = execTensionSample s from rfl, execTensionSample, deliver_running hdel]
    obtain ⟨h1, h2, h3, h4⟩ := takeTension_spec (s := s.takeHead rest) (field (e.frame.word 0) 0 16)
      (by simpa using ht) (by simpa using hs)
    refine ⟨_, hexec, ?_, ?_, ?_, ?_⟩
    · rw [settle_rmn, h1, takeHead_rmn, takeHead_now, after_congr (takeHead_tmb s rest)]
      rfl
    · rw [settle_condition, h2]
    · rw [settle_condition, h3]
      simp
    · rw [settle_condition, h4]
      simp
  · have hexec : exec .tensionLossExpiry s = .next (s.loseTension.settle s) := by
      rw [show exec .tensionLossExpiry s = execTensionLossExpiry s from rfl, execTensionLossExpiry, expiry_running hf]
    refine ⟨_, hexec, ?_, ?_⟩
    · rw [settle_rmn, State.loseTension, judge_rmn]
      rfl
    · rw [settle_condition, State.loseTension, judge_condition (by exact hs), if_pos rfl]

/-! ## The scan records (R116) -/

/-- A change of one record that keeps its phase leaves the tags in use. -/
theorem modTower_tower (s : State) {i : Nat} (j : Nat) (f : TowerRecord → TowerRecord) (hi : i < s.rmn.towers.length) :
    (s.modTower i f).tower j = if i = j then f (s.tower i) else s.tower j := by
  split
  · subst i
    exact modTower_tower_self f hi
  · rename_i h
    exact modTower_tower_ne s f (Ne.symm h)

theorem modTower_phase (s : State) (i j : Nat) (f : TowerRecord → TowerRecord) (hf : ∀ r, (f r).phase = r.phase) :
    ((s.modTower i f).tower j).phase = (s.tower j).phase := by
  by_cases hi : i < s.rmn.towers.length
  · rw [modTower_tower s j f hi]
    split
    · subst i
      exact hf _
    · rfl
  · simp [State.modTower, State.tower, List.getD, List.set_eq_of_length_le (Nat.le_of_not_lt hi)]

theorem scanTagUsed_congr {s t : State} (hs : t.tst.safety = s.tst.safety)
    (hp : ∀ j, (t.tower j).phase = (s.tower j).phase) (node tag : Nat) : t.scanTagUsed node tag = s.scanTagUsed node tag := by
  simp only [State.scanTagUsed, towerEntry_congr hs, hp]

theorem scanTag_congr {s t : State} (hs : t.tst.safety = s.tst.safety) (hp : ∀ j, (t.tower j).phase = (s.tower j).phase)
    (hl : t.rmn.lastTag = s.rmn.lastTag) (node : Nat) : t.scanTag node = s.scanTag node := by
  simp only [State.scanTag, scanTagUsed_congr hs hp, hl]

theorem scanTag_free {s : State} {node tag : Nat} (h : s.scanTag node = some tag) : s.scanTagUsed node tag = false := by
  simpa using List.find?_some h

theorem wasReset_of_restart {b s : State} (h : s.tst.restart = b.tst.restart) : wasReset b s = false := by
  rw [wasReset, h]
  cases b.tst.restart <;> rfl

/-! ## A due expiry (O38) -/

@[simp] theorem placePoll_rmn (s : State) (f : EgressFrame) : (s.placePoll f).rmn = s.rmn :=
  (State.placePoll_does f (Does.refl 65536 s) rfl).rmn_eq

@[simp] theorem placeControl_rmn (s : State) (f : EgressFrame) : (s.placeControl f).rmn = s.rmn :=
  (State.placeControl_does f (Does.refl 65536 s) rfl).rmn_eq

theorem placePoll_poll {s : State} (f : EgressFrame) (h : s.rng.poll.length < 24) :
    (s.placePoll f).rng.poll = s.rng.poll ++ [f] := by
  rw [State.placePoll, if_pos h]
  rfl

/-- A scan offered below debt 8 is queued in POLL. -/
theorem offerScan_poll {s : State} {i : Nat} (y : TowerEntry) (tag : Nat) (hi : i < s.rmn.towers.length)
    (hd : (s.tower i).debt < 8) (hroom : s.rng.poll.length < 24) :
    (s.offerScan i y tag).tower i = { s.tower i with phase := .queued false tag } ∧
      (s.offerScan i y tag).rng.poll = s.rng.poll ++ [scanFrame y tag] := by
  have h : s.offerScan i y tag = (s.placePoll (scanFrame y tag)).setScan i (.queued false tag) := by
    rw [State.offerScan, if_neg (by simp; omega)]
  rw [h, State.setScan, modTower_tower_self _ (by simpa using hi), tower_congr (placePoll_rmn ..)]
  exact ⟨rfl, placePoll_poll _ hroom⟩

/-- At debt 8 it is queued in CONTROL, which has room. -/
theorem offerScan_control {s : State} {i : Nat} (y : TowerEntry) (tag : Nat) (hi : i < s.rmn.towers.length)
    (hd : (s.tower i).debt = 8) (hroom : s.controlRoom = true) :
    (s.offerScan i y tag).tower i = { s.tower i with phase := .queued true tag } := by
  have h : s.offerScan i y tag = (s.placeControl (scanFrame y tag)).setScan i (.queued true tag) := by
    rw [State.offerScan, if_pos (by simp [hd, hroom])]
  rw [h, State.setScan, modTower_tower_self _ (by simpa using hi), tower_congr (placeControl_rmn ..)]

theorem queueScan_of_tag {s : State} {i tag : Nat} {y : TowerEntry} (he : s.towerEntry i = some y)
    (ht : s.scanTag y.node = some tag) :
    s.queueScan i = (s.setRmn { s.rmn with lastTag := some tag }).offerScan i y tag := by
  simp only [State.queueScan, he, ht]

theorem promoteScan_of_phase {s : State} {i : Nat} (y : TowerEntry)
    (h : ∀ tag, (s.tower i).phase = .queued false tag → (s.tower i).debt ≠ 8) : s.promoteScan i y = s := by
  unfold State.promoteScan
  dsimp only
  split
  · rename_i tag hp
    exact if_neg (h tag hp)
  · rfl

/-- The due timer started afresh. -/
def State.dueStarted (s : State) (i : Nat) (y : TowerEntry) : State :=
  s.modTower i fun r => { r with dueTimer := some (s.after y.interval) }

section
variable {s : State} {i : Nat} {y : TowerEntry}

theorem dueStarted_tower (hi : i < s.rmn.towers.length) :
    (s.dueStarted i y).tower i = { s.tower i with dueTimer := some (s.after y.interval) } :=
  modTower_tower_self _ hi

theorem scanDue_of_idle (h : (s.tower i).phase = .idle) : s.scanDue i y = (s.dueStarted i y).queueScan i := by
  simp only [State.scanDue, h, State.dueStarted]

theorem scanDue_of_awaiting {tag : Nat} {e : Ms} (h : (s.tower i).phase = .awaiting tag e) (hd : (s.tower i).due = false) :
    s.scanDue i y = (s.dueStarted i y).modTower i fun r => { r with due := true } := by
  simp [State.scanDue, h, hd, State.dueStarted]

theorem scanDue_of_queued {b : Bool} {tag : Nat} (h : (s.tower i).phase = .queued b tag) :
    s.scanDue i y = (s.dueStarted i y).raiseDebt i y := by
  simp only [State.scanDue, h, State.dueStarted]

theorem exec_towerDueExpiry {d : Ms} (ht : (s.tower i).dueTimer = some d) (hf : s.Fires (some d))
    (he : s.towerEntry i = some y) : exec (.towerDueExpiry i) s = .next ((s.scanDue i y).settle s) := by
  rw [show exec (.towerDueExpiry i) s = execTowerDueExpiry i s from rfl, execTowerDueExpiry,
    expiry_running (by rw [ht]; exact hf)]
  simp only [State.atTower, he]

end

theorem raiseDebt_below {s : State} {i : Nat} (y : TowerEntry) (hi : i < s.rmn.towers.length)
    (hd : (s.tower i).debt < 7) :
    (s.raiseDebt i y).tower i = { s.tower i with debt := (s.tower i).debt + 1 } := by
  have h : s.raiseDebt i y = s.modTower i fun r => { r with debt := r.debt + 1 } := by
    rw [State.raiseDebt, if_pos (by omega)]
    exact promoteScan_of_phase y fun tag' _ => by rw [modTower_tower_self _ hi]; simp; omega
  rw [h, modTower_tower_self _ hi]

theorem raiseDebt_promotes {s : State} {i tag : Nat} (y : TowerEntry) (hi : i < s.rmn.towers.length)
    (hp : (s.tower i).phase = .queued false tag) (hd : (s.tower i).debt = 7) (hroom : s.controlRoom = true) :
    (s.raiseDebt i y).tower i = { s.tower i with phase := .queued true tag, debt := 8 } := by
  generalize hz : s.modTower i (fun r => { r with debt := r.debt + 1 }) = z
  have hzt : z.tower i = { s.tower i with debt := 8 } := by
    rw [← hz, modTower_tower_self _ hi, hd]
  have h : s.raiseDebt i y = (z.withdrawPoll .scanRequest tag (some (addressBit y.node))).offerScan i y tag := by
    rw [State.raiseDebt, if_pos (by omega), hz]
    simp [State.promoteScan, hzt, hp]
  rw [h, offerScan_control y tag]
  · rw [show (z.withdrawPoll .scanRequest tag (some (addressBit y.node))).tower i = z.tower i from rfl, hzt]
  · rw [← hz]
    simpa [State.withdrawPoll, State.setPoll] using hi
  · rw [show (z.withdrawPoll .scanRequest tag (some (addressBit y.node))).tower i = z.tower i from rfl, hzt]
  · rw [← hz]
    exact hroom

@[simp] theorem judgeScanFlags_rmn (s : State) : s.judgeScanFlags.rmn = s.rmn := by simp [State.judgeScanFlags]

theorem any_of_tower {s : State} {i : Nat} {f : TowerRecord → Bool} (hi : i < s.rmn.towers.length)
    (h : f (s.tower i) = true) : s.rmn.towers.any f = true := by
  refine List.any_eq_true.mpr ⟨s.tower i, ?_, h⟩
  simp [State.tower, List.getD_eq_getElem?_getD, List.getElem?_eq_getElem hi]

theorem raiseDebt_overdue {s : State} {i tag : Nat} (y : TowerEntry) (hi : i < s.rmn.towers.length)
    (hp : (s.tower i).phase = .queued true tag) (hd : (s.tower i).debt = 8) (hlen : s.stc.records.length = 48) :
    (s.raiseDebt i y).tower i = { s.tower i with overdue := true } ∧
      (s.raiseDebt i y).condition .towerScanOverdue = true := by
  generalize hz : s.modTower i (fun r => { r with overdue := true }) = z
  have hzt : z.tower i = { s.tower i with overdue := true } := by rw [← hz, modTower_tower_self _ hi]
  have hzi : i < z.rmn.towers.length := by rw [← hz]; simpa using hi
  have hzlen : z.stc.records.length = 48 := by rw [← hz]; exact hlen
  have h : s.raiseDebt i y = z.judgeScanFlags := by
    rw [State.raiseDebt, if_neg (by omega), hz]
    refine promoteScan_of_phase y fun tag' hq => ?_
    rw [tower_congr (judgeScanFlags_rmn z), hzt, hp] at hq
    cases hq
  rw [h, tower_congr (judgeScanFlags_rmn z), hzt]
  refine ⟨rfl, ?_⟩
  rw [State.judgeScanFlags, judge_condition (by simpa using hzlen), if_neg (by decide), judge_condition hzlen, if_pos rfl]
  exact any_of_tower hzi (by rw [hzt])

/-- Settles O38: the due expiry by the phase of the scan and the debt. -/
theorem towerDueQueuesOrRaisesDebt : Obligations.TowerDueQueuesOrRaisesDebt := by
  intro s i y d hdue hf he hi hg hlen
  have hexec := exec_towerDueExpiry hdue hf he
  generalize hz : s.dueStarted i y = z
  have hzt : z.tower i = { s.tower i with dueTimer := some (s.after y.interval) } := hz ▸ dueStarted_tower hi
  have hzi : i < z.rmn.towers.length := by rw [← hz]; simpa [State.dueStarted] using hi
  refine ⟨fun tag hp hd ht hroom => ?_, fun tag e hp hd => ?_, fun tag hp hd => ?_, fun tag hp hd hroom => ?_,
    fun tag hp hd => ?_⟩
  · rw [scanDue_of_idle hp, hz] at hexec
    have hzs : z.scanTag y.node = some tag := by
      rw [← ht, ← hz]
      exact scanTag_congr (s := s) (t := s.dueStarted i y) rfl (fun j => modTower_phase s i j _ fun _ => rfl) rfl y.node
    rw [queueScan_of_tag (y := y) (by rw [← he, ← hz]; exact towerEntry_congr rfl i) hzs] at hexec
    obtain ⟨h1, h2⟩ := offerScan_poll (s := z.setRmn { z.rmn with lastTag := some tag }) (i := i) y tag hzi
      (by rw [show (z.setRmn { z.rmn with lastTag := some tag }).tower i = z.tower i from rfl, hzt]; exact hd)
      (by rw [← hz]; exact hroom)
    have hdoes := State.offerScan_does (m := 69632) i y tag (Does.refl _ (z.setRmn { z.rmn with lastTag := some tag })) rfl
    have hzstc : z.stc = s.stc := hz ▸ rfl
    have hzrestart : z.tst.restart = s.tst.restart := hz ▸ rfl
    refine ⟨_, hexec, scanTag_free ht, ?_, ?_⟩
    · rw [settle_tower, h1, show (z.setRmn { z.rmn with lastTag := some tag }).tower i = z.tower i from rfl, hzt]
    · rw [settle_rng_of_quiet (by rw [State.quiet, hdoes.stc_eq, State.setRmn_stc, hzstc, hg])
        (wasReset_of_restart (hdoes.restart_eq.trans hzrestart)), h2, ← hz]
      rfl
  · rw [scanDue_of_awaiting hp hd, hz] at hexec
    refine ⟨_, hexec, ?_⟩
    rw [settle_tower, modTower_tower_self _ hzi, hzt]
  · rw [scanDue_of_queued hp, hz] at hexec
    refine ⟨_, hexec, ?_⟩
    rw [settle_tower, raiseDebt_below y hzi (by rw [hzt]; exact hd), hzt]
  · rw [scanDue_of_queued hp, hz] at hexec
    refine ⟨_, hexec, ?_⟩
    rw [settle_tower, raiseDebt_promotes y hzi (by rw [hzt]; exact hp) (by rw [hzt]; exact hd) (by rw [← hz]; exact hroom),
      hzt]
  · rw [scanDue_of_queued hp, hz] at hexec
    obtain ⟨h1, h2⟩ := raiseDebt_overdue y hzi (by rw [hzt]; exact hp) (by rw [hzt]; exact hd) (by rw [← hz]; exact hlen)
    refine ⟨_, hexec, ?_, ?_⟩
    · rw [settle_tower, h1, hzt]
    · rw [settle_condition, h2]

/-! ## The end of a scan (O39) -/

theorem queueScan_tower_ne (s : State) {i j : Nat} (h : j ≠ i) : (s.queueScan j).tower i = s.tower i := by
  have hset : ∀ (x : State) p, (x.setScan j p).tower i = x.tower i := fun x p => modTower_tower_ne x _ (Ne.symm h)
  unfold State.queueScan State.offerScan
  repeat' split
  · rw [hset, tower_congr (placeControl_rmn ..)]
    rfl
  · rw [hset, tower_congr (placePoll_rmn ..)]
    rfl
  · exact hset ..
  · rfl

/-- A tower that waits for no tag keeps its record when freed tags are taken. -/
theorem serveTagWait_tower {s : State} {i : Nat} (node : Nat) (h : (s.tower i).phase ≠ .tagWait) :
    (s.serveTagWait node).tower i = s.tower i := by
  unfold State.serveTagWait
  refine List.foldlRecOn (motive := fun x : State => x.tower i = s.tower i) _ _ rfl fun x hx j _ => ?_
  repeat' split
  · rename_i hc
    simp only [Bool.and_eq_true, decide_eq_true_eq] at hc
    rw [queueScan_tower_ne x (j := j) (i := i) ?_, hx]
    rintro rfl
    rw [hx] at hc
    exact h hc.2
  · exact hx
  · exact hx

theorem endScan_tower {s : State} {i : Nat} (y : TowerEntry) (hi : i < s.rmn.towers.length) (hd : (s.tower i).due = false) :
    (s.endScan i y).tower i = { s.tower i with phase := .idle } := by
  have hz : (s.modTower i fun r => { r with phase := .idle, due := false }).tower i =
      { s.tower i with phase := .idle } := by
    rw [modTower_tower_self _ hi]
    cases hs : s.tower i
    rw [hs] at hd
    cases hd
    rfl
  have h : s.endScan i y = (s.modTower i fun r => { r with phase := .idle, due := false }).serveTagWait y.node := by
    simp [State.endScan, hd]
  rw [h, serveTagWait_tower _ (by rw [hz]; simp), hz]

theorem failScan_tower {s : State} {i : Nat} (y : TowerEntry) (hi : i < s.rmn.towers.length)
    (hd : (s.tower i).due = false) (hf : (s.tower i).failures ≤ 3) :
    (s.failScan i y).tower i =
      { s.tower i with
        phase := .idle
        failures := min 3 ((s.tower i).failures + 1)
        failed := satInc (s.tower i).failed
        lost := (s.tower i).lost || decide (2 ≤ (s.tower i).failures) } := by
  generalize hz : s.modTower i (fun r =>
    { r with failures := if r.failures < 3 then r.failures + 1 else 3, failed := satInc r.failed }) = z
  have hmin : (if (s.tower i).failures < 3 then (s.tower i).failures + 1 else 3) = min 3 ((s.tower i).failures + 1) := by
    split <;> omega
  have hzt : z.tower i =
      { s.tower i with failures := min 3 ((s.tower i).failures + 1), failed := satInc (s.tower i).failed } := by
    rw [← hz, modTower_tower_self _ hi, hmin]
  have hzi : i < z.rmn.towers.length := by rw [← hz]; simpa using hi
  have hlost : (z.markLost i y).tower i = { z.tower i with lost := (s.tower i).lost || decide (2 ≤ (s.tower i).failures) } ∧
      (z.markLost i y).rmn.towers.length = z.rmn.towers.length := by
    unfold State.markLost
    split
    · rename_i hc
      rw [tower_congr (report_rmn ..), tower_congr (judgeScanFlags_rmn _), report_rmn, judgeScanFlags_rmn,
        modTower_tower_self _ hzi]
      rw [hzt] at hc ⊢
      simp at hc
      simp; omega
    · rename_i hc
      refine ⟨?_, rfl⟩
      have hsame : ((s.tower i).lost || decide (2 ≤ (s.tower i).failures)) = (s.tower i).lost := by
        rw [hzt] at hc
        cases hl : (s.tower i).lost with
        | true => rfl
        | false =>
          simp [hl] at hc
          simp; omega
      rw [hsame, hzt]
  have hfail : s.failScan i y = (z.markLost i y).endScan i y := by rw [← hz]; rfl
  rw [hfail, endScan_tower y (by rw [hlost.2]; exact hzi) (by rw [hlost.1, hzt]; exact hd), hlost.1, hzt]

/-- Settles O39: `matchedReport` and `failScan` each end the scan by `endScan_tower`. -/
theorem scansEndAtTheirReportOrFail : Obligations.ScansEndAtTheirReportOrFail := by
  refine ⟨fun s e rest i y d hdel hname hp hd hlen => ?_, fun s i y tag d he hp hd hlen hi hf => ?_⟩
  · have hi : i < 24 := towerNamed_lt hname
    generalize hy : s.takeHead rest = x
    have hxt : ∀ j, x.tower j = s.tower j := tower_congr (by simp [← hy])
    have hexec : exec .scanReport s = .next ((x.matchedReport i y e.frame).settle s) := by
      rw [show exec .scanReport s = execScanReport s from rfl, execScanReport, deliver_running hdel]
      have hnamed : (s.takeHead rest).towerNamed e.frame.source e.frame.towerNumber = some (i, y) := by
        rw [takeHead_towerNamed, hname]
      have hawaits : (s.takeHead rest).awaitsTag i e.frame.tag = true := by simp [State.awaitsTag, hp]
      rw [hy] at hnamed hawaits ⊢
      simp only [State.takeScanReport, hnamed, hawaits, if_true]
    generalize hz : (x.modTower i fun r =>
      { r with failures := 0, lost := false, overdue := false, reports := satInc r.reports }).judgeScanFlags = z
    have hzt : z.tower i =
        { s.tower i with failures := 0, lost := false, overdue := false, reports := satInc (s.tower i).reports } := by
      rw [← hz, tower_congr (judgeScanFlags_rmn _), modTower_tower_self _ (by simpa [← hy, hlen] using hi), hxt]
    have hzi : i < z.rmn.towers.length := by rw [← hz]; simpa [← hy, hlen] using hi
    have hznow : z.now = s.now := by rw [← hz, ← hy]; simp [State.now, State.judgeScanFlags, State.modTower]
    have hrep := replaceStatuses_tower_self y e.frame.statuses .report hzi
    have hmatched : x.matchedReport i y e.frame = (z.replaceStatuses i y e.frame.statuses .report).endScan i y := by
      rw [← hz]; rfl
    refine ⟨_, hexec, ?_⟩
    rw [settle_tower, hmatched, endScan_tower y (by rw [replaceStatuses_rmn]; simpa using hzi) (by rw [hrep, hzt]; exact hd),
      hrep, hzt, hznow]
    rfl
  · have hi' : i < s.rmn.towers.length := by omega
    refine ⟨fun hfire => ?_, fun e rest hdel hawait => ?_⟩
    · have hexec : exec (.scanDeadlineExpiry i) s = .next ((s.failScan i y).settle s) := by
        rw [show exec (.scanDeadlineExpiry i) s = execScanDeadlineExpiry i s from rfl, execScanDeadlineExpiry,
          expiry_running (by rw [hp]; exact hfire)]
        simp only [State.atTower, he]
      exact ⟨_, hexec, by rw [settle_tower, failScan_tower y hi' hd hf]⟩
    · have hexec : exec .nackScanRequest s = .next (((s.takeHead rest).failScan i y).settle s) := by
        rw [show exec .nackScanRequest s = execNackScanRequest s from rfl, execNackScanRequest, deliver_running hdel]
        have hnamed : (s.takeHead rest).awaitingScan e.frame.source e.frame.tag = some (i, y) := by
          rw [← hawait]
          obtain ⟨r, h⟩ := takeHead_eq_setRng s rest
          rw [h]
          rfl
        simp only [State.takeScanNack, hnamed]
      refine ⟨_, hexec, ?_⟩
      rw [settle_tower, failScan_tower (s := s.takeHead rest) y (by simpa using hi')
        (by simpa using hd) (by simpa using hf), takeHead_tower]

end Sys2Proof.Machine
end
section
/-!
PROOFS. The summit link: the transmitter, the SAFETY frame, the receive buffers (chapter 7).
-/

namespace Sys2Proof.Machine

/-! ## The transmitter at the end of a command (R131) -/

theorem transmit_of_sending {s : State} (h : s.slk.sending.isSome = true) : s.transmit = s := by
  obtain ⟨x, hx⟩ := Option.isSome_iff_exists.mp h
  simp only [State.transmit, hx]

theorem transmit_of_frame {s : State} {f : LinkFrame} {k : Slk} (h : s.slk.sending = none)
    (hf : s.slk.nextFrame = some (f, k)) : s.transmit = s.takeFrame f k := by
  simp only [State.transmit, h, hf]

theorem transmit_of_nothing {s : State} (hf : s.slk.nextFrame = none) : s.transmit = s := by
  unfold State.transmit
  split
  · rfl
  · simp only [hf]

/-- A frame leaves its transmit queue, and nothing else of SLK. -/
theorem nextFrame_spec {k k' : Slk} {f : LinkFrame} (h : k.nextFrame = some (f, k')) :
    ∃ a b c d, k' = { k with txSafety := a, txVoice := b, txUnanswered := c, txAnswered := d } ∧
      (k.link ≠ .up → b = k.txVoice ∧ c = k.txUnanswered ∧ d = k.txAnswered) := by
  unfold Slk.nextFrame at h
  repeat' split at h
  all_goals cases h
  · exact ⟨_, _, _, _, rfl, fun _ => ⟨rfl, rfl, rfl⟩⟩
  · exact ⟨_, _, _, _, rfl, fun hn => absurd ‹k.link = .up› hn⟩
  · exact ⟨_, _, _, _, rfl, fun hn => absurd ‹k.link = .up› hn⟩
  · exact ⟨_, _, _, _, rfl, fun hn => absurd ‹k.link = .up› hn⟩

/-- The transmitter changes the transmit queues, the frame in hand, the sequence and the request table. -/
theorem transmit_slk (s : State) :
    ∃ a b c d x n q, s.transmit.slk =
        { s.slk with
          txSafety := a, txVoice := b, txUnanswered := c, txAnswered := d, sending := x, nextSeq := n, requests := q } ∧
      (s.slk.link ≠ .up → b = s.slk.txVoice ∧ c = s.slk.txUnanswered ∧ d = s.slk.txAnswered) ∧
      (s.slk.requests = [] → q = []) := by
  unfold State.transmit
  split
  · exact ⟨_, _, _, _, _, _, _, rfl, fun _ => ⟨rfl, rfl, rfl⟩, id⟩
  · split
    · rename_i f k hf
      obtain ⟨a, b, c, d, rfl, hlink⟩ := nextFrame_spec hf
      refine ⟨_, _, _, _, _, _, _, rfl, hlink, fun hq => ?_⟩
      dsimp only
      split
      · rw [hq]
        rfl
      · exact hq
    · exact ⟨_, _, _, _, _, _, _, rfl, fun _ => ⟨rfl, rfl, rfl⟩, id⟩

theorem settle_slk_of_quiet {s b : State} (hq : s.quiet) (hr : wasReset b s = false) :
    (s.settle b).slk = s.transmit.slk := by
  rw [settle_of_quiet hq hr, countChanges_slk, staleIf_slk]

/-! ## The transmitter takes the next frame (O45) -/

theorem exec_transmitComplete {s : State} (hheld : s.pins.held = false) (hs : s.slk.sending.isSome = true) :
    exec .transmitComplete s = .next (s.freeTransmitter.settle s) := by
  rw [show exec .transmitComplete s = execTransmitComplete s from rfl, execTransmitComplete, if_pos hs, whole_running hheld]

theorem transmitComplete_slk {s : State} {f : LinkFrame} {k : Slk} (hg : s.stc.gathered = [])
    (hf : s.freeTransmitter.slk.nextFrame = some (f, k)) :
    (s.freeTransmitter.settle s).slk =
      { k with
        sending := some (linkBytes f k.nextSeq k.answeredBusy k.unansweredBusy)
        nextSeq := (k.nextSeq + 1) % 256
        requests := if f.cls = .answered then markSent k.requests f.tag (s.after 500) else k.requests } := by
  rw [settle_slk_of_quiet (b := s) (s := s.freeTransmitter) hg (wasReset_of_restart rfl), transmit_of_frame rfl hf]
  rfl

/-- Settles O45: each class's turn is a case of `Slk.nextFrame`. -/
theorem transmitterTakesTheNextFrame : Obligations.TransmitterTakesTheNextFrame := by
  intro s hheld hs hg hup
  have hexec := exec_transmitComplete hheld hs
  refine ⟨fun f hf => ?_, fun f q hn hf hc => ?_, fun f q hn hv hb hf => ?_, fun f q hn hv hu hb hf hc => ?_,
    fun hn hv hu ha => ?_⟩
  · have hnext : s.freeTransmitter.slk.nextFrame = some (f, { s.slk with sending := none, txSafety := none }) := by
      simp [Slk.nextFrame, State.freeTransmitter, hf]
    refine ⟨_, hexec, ?_⟩
    rw [transmitComplete_slk hg hnext]
    exact ⟨rfl, rfl, rfl⟩
  · have hnext : s.freeTransmitter.slk.nextFrame = some (f, { s.slk with sending := none, txVoice := q }) := by
      simp [Slk.nextFrame, State.freeTransmitter, hn, hup, hf]
    refine ⟨_, hexec, ?_⟩
    rw [transmitComplete_slk hg hnext, hc]
    rfl
  · have hnext : s.freeTransmitter.slk.nextFrame = some (f, { s.slk with sending := none, txUnanswered := q }) := by
      simp [Slk.nextFrame, State.freeTransmitter, hn, hup, hv, hb, hf]
    refine ⟨_, hexec, ?_⟩
    rw [transmitComplete_slk hg hnext]
    exact ⟨rfl, rfl, rfl⟩
  · have hun : (if s.slk.farUnanswered then [] else s.slk.txUnanswered) = [] := by
      rcases hu with hu | hu <;> simp [hu]
    have hnext : s.freeTransmitter.slk.nextFrame = some (f, { s.slk with sending := none, txAnswered := q }) := by
      simp [Slk.nextFrame, State.freeTransmitter, hn, hup, hv, hun, hb, hf]
    refine ⟨_, hexec, ?_⟩
    rw [transmitComplete_slk hg hnext, hc]
    rfl
  · have hun : (if s.slk.farUnanswered then [] else s.slk.txUnanswered) = [] := by
      rcases hu with hu | hu <;> simp [hu]
    have han : (if s.slk.farAnswered then [] else s.slk.txAnswered) = [] := by
      rcases ha with ha | ha <;> simp [ha]
    have hnext : s.freeTransmitter.slk.nextFrame = none := by
      simp [Slk.nextFrame, State.freeTransmitter, hn, hup, hv, hun, han]
    refine ⟨_, hexec, ?_⟩
    rw [settle_slk_of_quiet (b := s) (s := s.freeTransmitter) hg (wasReset_of_restart rfl), transmit_of_nothing hnext]
    rfl

end Sys2Proof.Machine
end

section
/-!
PROOFS. The summit link: bad checks and the receive buffers, and the SAFETY frame built (chapter 7).
-/

namespace Sys2Proof.Machine

/-! ## Frames buffered by class (O41) -/

/-- A frame of a buffered class changes the buffer of its class and its count of overruns. -/
theorem bufferFrame_slk (s : State) (f : LinkFrame) :
    (f.cls = .answered →
      (s.slk.rxAnswered.length < 4 → (s.bufferFrame f).slk = { s.slk with rxAnswered := s.slk.rxAnswered ++ [f] }) ∧
      (4 ≤ s.slk.rxAnswered.length →
        (s.bufferFrame f).slk = { s.slk with overrunsAnswered := satInc s.slk.overrunsAnswered })) ∧
    (f.cls = .unanswered →
      (s.slk.rxUnanswered.length < 8 →
        (s.bufferFrame f).slk = { s.slk with rxUnanswered := s.slk.rxUnanswered ++ [f] }) ∧
      (8 ≤ s.slk.rxUnanswered.length →
        (s.bufferFrame f).slk = { s.slk with overrunsUnanswered := satInc s.slk.overrunsUnanswered })) := by
  refine ⟨fun hf => ⟨fun h => ?_, fun h => ?_⟩, fun hf => ⟨fun h => ?_, fun h => ?_⟩⟩
  · simp [State.bufferFrame, hf, h]
  · simp [State.bufferFrame, State.linkOverrun, hf, show ¬ s.slk.rxAnswered.length < 4 by omega]
  · simp [State.bufferFrame, hf, h]
  · simp [State.bufferFrame, State.linkOverrun, hf, show ¬ s.slk.rxUnanswered.length < 8 by omega]

/-- In UP a well-formed frame goes to its buffer. -/
theorem takeBuffered_of_up {s : State} {f : LinkFrame} (hup : s.slk.link = .up) (hm : malformedOnArrival f = false) :
    s.takeBuffered f = s.bufferFrame f := by
  have hother : s.linkOther = s := by simp [State.linkOther, hup]
  have hkind : linkKindOf f ≠ none := fun h => by simp [malformedOnArrival, h] at hm
  obtain ⟨kind, hk⟩ := Option.ne_none_iff_exists'.mp hkind
  simp [State.takeBuffered, hother, hm, hk, admittedTo, hup]

/-- Settles O41: a bad check is counted, and a frame taken in UP is a case of `State.bufferFrame`. -/
theorem bufferedFramesJoinTheirBuffer : Obligations.BufferedFramesJoinTheirBuffer := by
  refine ⟨fun s bytes hheld hbad hg hs => ?_, fun s bytes hheld hbuf hm hup hg => ?_⟩
  · refine ⟨s.badCheck.settle s, ?_, ?_⟩
    · rw [show exec (.linkBadCheckFrame bytes) s = execLinkBadCheckFrame bytes s from rfl, execLinkBadCheckFrame, receive,
        if_pos (by simp [hbad]), whole_running hheld]
    · rw [settle_slk_of_quiet (b := s) (s := s.badCheck) hg (wasReset_of_restart rfl), transmit_of_sending (s := s.badCheck) hs]
      rfl
  · have hexec : exec (.linkBufferedFrame bytes) s =
        .next (((s.takeValid bytes).bufferFrame (linkFrameOf bytes)).settle s) := by
      rw [show exec (.linkBufferedFrame bytes) s = execLinkBufferedFrame bytes s from rfl, execLinkBufferedFrame, receive,
        if_pos hbuf, whole_running hheld, takeBuffered_of_up (s := s.takeValid bytes) hup hm]
    generalize hy : (s.takeValid bytes).bufferFrame (linkFrameOf bytes) = y at hexec
    have hdoes : Does 4268032 s y := hy ▸ State.bufferFrame_does _ (State.takeValid_does bytes (Does.refl _ s) rfl) rfl
    obtain ⟨ha, hu⟩ := bufferFrame_slk (s.takeValid bytes) (linkFrameOf bytes)
    rw [hy] at ha hu
    obtain ⟨a, b, c, d, x, n, q, htr, -, -⟩ := transmit_slk y
    have hslk := settle_slk_of_quiet (b := s) (s := y) (by rw [State.quiet, hdoes.stc_eq]; exact hg)
      (wasReset_of_restart hdoes.restart_eq)
    rw [htr] at hslk
    refine ⟨_, hexec, ?_⟩
    rw [hslk]
    have hcls : (linkFrameOf bytes).cls = .answered ∨ (linkFrameOf bytes).cls = .unanswered := by
      have h2 : linkClassOf bytes = .answered ∨ linkClassOf bytes = .unanswered := by
        simpa using (Bool.and_eq_true_iff.mp hbuf).2
      exact h2
    rcases hcls with hcls | hcls
    · obtain ⟨hroom, hfull⟩ := ha hcls
      by_cases hlen : s.slk.rxAnswered.length < 4
      · simp [hroom hlen, hcls, hlen, State.takeValid, State.after]
      · simp [hfull (Nat.le_of_not_lt hlen), hcls, hlen, State.takeValid, State.after]
    · obtain ⟨hroom, hfull⟩ := hu hcls
      by_cases hlen : s.slk.rxUnanswered.length < 8
      · simp [hroom hlen, hcls, hlen, State.takeValid, State.after]
      · simp [hfull (Nat.le_of_not_lt hlen), hcls, hlen, State.takeValid, State.after]

/-! ## The SAFETY frame built (O44) -/

theorem le_sentCategory (s : State) : s.ownCategory.code ≤ s.sentCategory.code := by
  unfold State.sentCategory
  split
  · exact Nat.le_refl _
  · rw [category_max_code]
    omega

theorem sentCategory_attained (s : State) :
    s.sentCategory = s.ownCategory ∨
      ((s.cause .tablesInvalid).state ≠ .inactive ∧ s.sentCategory = .serviceStop) := by
  unfold State.sentCategory
  split
  · exact .inl rfl
  · unfold Category.max
    split
    · exact .inl rfl
    · exact .inr ⟨‹_›, rfl⟩

/-- Settles O44: the frame is `State.safetyFrame`, and its category `State.sentCategory`. -/
theorem safetyFrameIsBuilt : Obligations.SafetyFrameIsBuilt := by
  intro s hfires hg hs
  refine ⟨s.sendSafety.settle s, s.sentCategory, ?_, ?_, fun c hc hstands => ?_, fun ht => ?_, ?_, fun hlen hout hm => ?_, ?_⟩
  · rw [show exec .safetySendExpiry s = execSafetySendExpiry s from rfl, execSafetySendExpiry, expiry_running hfires]
  · rw [settle_slk_of_quiet (b := s) (s := s.sendSafety) hg (wasReset_of_restart rfl),
      transmit_of_sending (s := s.sendSafety) hs]
    rfl
  · exact (le_ownCategory s hc hstands).trans (le_sentCategory s)
  · rw [State.sentCategory, if_neg ht, category_max_code]
    omega
  · rcases sentCategory_attained s with h | h
    · rcases ownCategory_attained s with hrun | ⟨c, hc, hstands, heq⟩
      · exact .inl (h.trans hrun)
      · exact .inr (.inr ⟨c, hc, hstands, heq.trans h.symm⟩)
    · exact .inr (.inl h)
  · rw [hout, ← ownCategory_of_no_mirror hlen hm, State.sentCategory]
    by_cases ht : (s.cause .tablesInvalid).state = .inactive
    · simp [ht]
    · by_cases hlt : s.ownCategory.code < Category.serviceStop.code
      · simp [ht, hlt, Category.max, Category.atLeast]
      · simp [ht, hlt, Category.max, Category.atLeast]
  · rw [settle_slk_of_quiet (b := s) (s := s.sendSafety) hg (wasReset_of_restart rfl),
      transmit_of_sending (s := s.sendSafety) hs]
    have hflags : s.safetyFlags = bit s.stc.servicePermit + 2 * bit s.stc.emergencyPermit +
        4 * bit s.rpu.record.referenced + 16 * s.rpu.record.motion.code := by
      unfold State.safetyFlags
      omega
    have hcall : s.icm.call.code + bit s.icm.emergencyOpen * 4 = s.icm.call.code + 4 * bit s.icm.emergencyOpen := by omega
    rw [← hflags, ← hcall]
    rfl

end Sys2Proof.Machine
end

section
/-!
PROOFS. The intercom's call: its requests, the summit's CALL frames and the call timer (chapter 8).
-/

namespace Sys2Proof.Machine

/-! ## What the shared operations of a call change -/

/-- An indication can only be counted as dropped. -/
theorem indicate_icm (s : State) :
    s.indicate.icm = { s.icm with droppedIndications := s.indicate.icm.droppedIndications } := by
  unfold State.indicate
  dsimp only
  split
  · rfl
  · split
    · rw [show (s.placeControl _).icm = s.icm from (State.placeControl_does (m := 65536) _ (Does.refl _ s) rfl).1 .icm rfl]
    · rfl

/-- The call takes its new state, and nothing else of ICM but the count of dropped indications changes. -/
theorem setCall_icm (s : State) (c : CallState) (b : Bool) (r : CallReason) (d : Nat) :
    (s.setCall c b r d).icm =
      { s.icm with call := c, emergencyOpen := b, droppedIndications := (s.setCall c b r d).icm.droppedIndications } := by
  have hind := indicate_icm (s.setIcm { s.icm with call := c, emergencyOpen := b })
  unfold State.setCall
  dsimp only
  split
  · rename_i h
    obtain ⟨h1, h2⟩ := Bool.and_eq_true_iff.mp h
    rw [← of_decide_eq_true h1, ← of_decide_eq_true h2]
  · split
    · exact hind
    · rw [report_icm]
      exact hind

theorem setCall_does' (s : State) (c : CallState) (b : Bool) (r : CallReason) (d : Nat) :
    Does 4276224 s (s.setCall c b r d) := State.setCall_does c b r d (Does.refl _ s) rfl

theorem sendCallFrame_of_room {s : State} (h : s.slk.txUnanswered.length < 16) (f : CallFrame) :
    s.sendCallFrame f = s.setTxUnanswered (s.slk.txUnanswered ++ [callFrameOf f]) := by
  rw [State.sendCallFrame, if_pos h]

/-! ## The end of a command that concerns the call -/

/-- Nothing is gathered, the transmitter is busy and no reset begins: the command's end leaves ICM and SLK. -/
structure EndsCalmly (s w : State) : Prop where
  gathered : w.stc.gathered = []
  sending : w.slk.sending.isSome = true
  restart : w.tst.restart = s.tst.restart

theorem EndsCalmly.icm {s w : State} (h : EndsCalmly s w) : (w.settle s).icm = w.icm := by
  rw [settle_of_quiet (s := w) h.gathered (wasReset_of_restart h.restart), countChanges_icm, staleIf_icm, transmit_icm]

theorem EndsCalmly.slk {s w : State} (h : EndsCalmly s w) : (w.settle s).slk = w.slk := by
  rw [settle_slk_of_quiet h.gathered (wasReset_of_restart h.restart), transmit_of_sending h.sending]

theorem settle_icm_of_quiet {s b : State} (hq : s.quiet) (hr : wasReset b s = false) : (s.settle b).icm = s.icm := by
  rw [settle_of_quiet hq hr, countChanges_icm, staleIf_icm, transmit_icm]

/-! ## The requests -/

/-- What a request does to the call: the state it ends in, the frames it leaves to be sent, and that its end is calm. -/
structure CallTaken (s w : State) (icm : Icm) (tx : List LinkFrame) : Prop where
  calm : EndsCalmly s w
  icm : w.icm = { icm with droppedIndications := w.icm.droppedIndications }
  tx : w.slk.txUnanswered = tx
  room : s.rng.report.length < 32 → w.rng.report.length < 32

/-- A call that takes a state and sends a CALL frame. -/
theorem setCall_send_taken {s x : State} (hg : x.stc.gathered = []) (hs : x.slk.sending.isSome = true)
    (hr : x.tst.restart = s.tst.restart) (hroom : s.rng.report.length < 32 → x.rng.report.length < 32)
    (htx : x.slk.txUnanswered.length < 16)
    (c : CallState) (b : Bool) (r : CallReason) (d : Nat) (f : CallFrame) :
    CallTaken s ((x.setCall c b r d).sendCallFrame f) { x.icm with call := c, emergencyOpen := b }
      (x.slk.txUnanswered ++ [callFrameOf f]) := by
  have hdoes := setCall_does' x c b r d
  have hicm := setCall_icm x c b r d
  generalize x.setCall c b r d = y at hdoes hicm
  have hslk : y.slk = x.slk := hdoes.slk_eq
  rw [sendCallFrame_of_room (by rw [hslk]; exact htx)]
  exact ⟨⟨by rw [State.setTxUnanswered, State.setSlk_stc, hdoes.stc_eq, hg],
      by rw [State.setTxUnanswered, State.setSlk_slk, hslk]; exact hs,
      by rw [State.setTxUnanswered, State.setSlk_tst, hdoes.restart_eq, hr]⟩,
    hicm, by rw [State.setTxUnanswered, State.setSlk_slk, hslk], fun h => hdoes.2.2.1 rfl (hroom h)⟩

theorem refuseCall_taken {s x : State} (hg : x.stc.gathered = []) (hs : x.slk.sending.isSome = true)
    (hr : x.tst.restart = s.tst.restart) (hroom : s.rng.report.length < 32 → x.rng.report.length < 32) :
    CallTaken s x.refuseCall { x.icm with refused := satInc x.icm.refused } x.slk.txUnanswered :=
  ⟨⟨hg, hs, hr⟩, rfl, rfl, hroom⟩

/-- A manager's request is answered, and its answer leaves the call. -/
theorem CallTaken.given {s w : State} {icm : Icm} {tx : List LinkFrame} (h : CallTaken s w icm tx) (f : RingFrame)
    (x : Status) (hroom : s.rng.report.length < 32) :
    let u := ((w.answer x).give f).settle s
    u.icm = { icm with droppedIndications := u.icm.droppedIndications } ∧ u.slk.txUnanswered = tx ∧ u.Replied f x [] := by
  have hstc : ((w.answer x).give f).stc = w.stc := by rw [Answer.give, reply_stc]; rfl
  have hslk : ((w.answer x).give f).slk = w.slk := by rw [Answer.give, reply_slk]; rfl
  have hicm : ((w.answer x).give f).icm = w.icm := by rw [Answer.give, reply_icm]; rfl
  have hcalm : EndsCalmly s ((w.answer x).give f) :=
    ⟨by rw [hstc]; exact h.calm.gathered, by rw [hslk]; exact h.calm.sending,
      by rw [Answer.give, reply_restart]; exact h.calm.restart⟩
  refine ⟨?_, ?_, give_replied f s (h.room hroom)⟩
  · rw [hcalm.icm, hicm]
    exact h.icm
  · rw [hcalm.slk, hslk]
    exact h.tx

theorem CallTaken.settled {s w : State} {icm : Icm} {tx : List LinkFrame} (h : CallTaken s w icm tx) :
    (w.settle s).icm = { icm with droppedIndications := (w.settle s).icm.droppedIndications } ∧
      (w.settle s).slk.txUnanswered = tx := by
  rw [h.calm.icm, h.calm.slk]
  exact ⟨h.icm, h.tx⟩

theorem CallTaken.indicated {s w : State} {icm : Icm} {tx : List LinkFrame} (h : CallTaken s w icm tx) :
    CallTaken s w.indicate icm tx := by
  have hdoes : Does 81920 w w.indicate := State.indicate_does (Does.refl _ w) rfl
  refine ⟨⟨?_, ?_, ?_⟩, ?_, ?_, fun h' => hdoes.2.2.1 rfl (h.room h')⟩
  · rw [hdoes.stc_eq]; exact h.calm.gathered
  · rw [hdoes.slk_eq]; exact h.calm.sending
  · rw [hdoes.restart_eq]; exact h.calm.restart
  · rw [indicate_icm, h.icm]
  · rw [hdoes.slk_eq]; exact h.tx

/-- The indication of the present state, where a handset and room in CONTROL are there. -/
theorem indicate_control {s : State} (hm : s.roleMask .handset ≠ 0) (hc : s.controlRoom = true) :
    s.indicate.rng.control =
      s.rng.control ++
        [{ kind := .callIndication, mask := s.roleMask .handset, tag := 0,
           payload := [place (bit s.icm.emergencyOpen) 8 ||| place s.icm.call.code 0], restartReply := false }] := by
  rw [State.indicate]
  dsimp only
  rw [if_neg hm, if_pos hc, State.placeControl, if_pos hc]
  rfl

/-! ## Requests from the station computer and CALL_KEYs (O46) -/

section
variable {s : State} {e : IngressEntry} {rest : List IngressEntry} {key mgr : Instr} {P Q : Prop}
  {r : CallReason → State × Bool} {icm : Icm} {tx : List LinkFrame}

/-- The two commands of a request: as a CALL_KEY under `P`, and from the station computer under `Q`. -/
structure CallCommands (s : State) (f : RingFrame) (key mgr : Instr) (P Q : Prop) (r : CallReason → State × Bool) : Prop where
  byKey : P → exec key s = .next ((State.keyOutcome (r .handsetRequest)).settle s)
  byManager : Q → exec mgr s = .next (((answerCall (r .managerRequest)).give f).settle s)
  distinct : key ≠ mgr

theorem callCommands_call : CallCommands s e.frame .callKeyCall .call (s.Delivers .callKeyCall e rest)
    (s.Requests .call e rest) (s.takeHead rest).callRequest :=
  ⟨fun h => by rw [show exec .callKeyCall s = execCallKeyCall s from rfl, execCallKeyCall, deliver_running h],
    fun h => by rw [show exec .call s = execCall s from rfl, execCall, manage_running h], by decide⟩

theorem callCommands_answer : CallCommands s e.frame .callKeyAnswer .answer (s.Delivers .callKeyAnswer e rest)
    (s.Requests .answer e rest) (s.takeHead rest).answerRequest :=
  ⟨fun h => by rw [show exec .callKeyAnswer s = execCallKeyAnswer s from rfl, execCallKeyAnswer, deliver_running h],
    fun h => by rw [show exec .answer s = execAnswer s from rfl, execAnswer, manage_running h], by decide⟩

theorem callCommands_hangUp : CallCommands s e.frame .callKeyHangUp .hangUp (s.Delivers .callKeyHangUp e rest)
    (s.Requests .hangUp e rest) (s.takeHead rest).hangUpRequest :=
  ⟨fun h => by rw [show exec .callKeyHangUp s = execCallKeyHangUp s from rfl, execCallKeyHangUp, deliver_running h],
    fun h => by rw [show exec .hangUp s = execHangUp s from rfl, execHangUp, manage_running h], by decide⟩

/-- A request that the call state takes. -/
theorem CallCommands.taken (h : CallCommands s e.frame key mgr P Q r) {c : Instr}
    (ht : ∀ a, (r a).2 = true ∧ CallTaken s (r a).1 icm tx)
    (hroom : s.rng.report.length < 32) (hc : (c = key ∧ P) ∨ (c = mgr ∧ Q)) :
    ∃ u, exec c s = .next u ∧ u.icm = { icm with droppedIndications := u.icm.droppedIndications } ∧
      u.slk.txUnanswered = tx ∧ (c = mgr → u.Replied e.frame .ok []) := by
  rcases hc with ⟨rfl, hp⟩ | ⟨rfl, hq⟩
  · obtain ⟨hyes, htaken⟩ := ht .handsetRequest
    obtain ⟨hicm, htx⟩ := htaken.settled
    refine ⟨_, h.byKey hp, ?_, ?_, fun he => absurd he h.distinct⟩
    · rw [State.keyOutcome, if_pos hyes]
      exact hicm
    · rw [State.keyOutcome, if_pos hyes]
      exact htx
  · obtain ⟨hyes, htaken⟩ := ht .managerRequest
    obtain ⟨hicm, htx, hreply⟩ := htaken.given e.frame .ok hroom
    have hexec := h.byManager hq
    rw [answerCall, if_pos hyes] at hexec
    exact ⟨_, hexec, hicm, htx, fun _ => hreply⟩

/-- A request that the call state refuses. -/
theorem CallCommands.refused (h : CallCommands s e.frame key mgr P Q r) {c : Instr}
    (ht : ∀ a, r a = ((s.takeHead rest).refuseCall, false)) (hg : s.stc.gathered = [])
    (hs : s.slk.sending.isSome = true) (hroom : s.rng.report.length < 32) (hc : (c = key ∧ P) ∨ (c = mgr ∧ Q)) :
    ∃ u, exec c s = .next u ∧
      u.icm = { s.icm with refused := satInc s.icm.refused, droppedIndications := u.icm.droppedIndications } ∧
      u.slk.txUnanswered = s.slk.txUnanswered ∧ (c = mgr → u.Replied e.frame .notAllowed []) ∧
      (c = key → s.roleMask .handset ≠ 0 → s.controlRoom = true →
        u.rng.control =
          s.rng.control ++
            [{ kind := .callIndication, mask := s.roleMask .handset, tag := 0,
               payload := [place (bit s.icm.emergencyOpen) 8 ||| place s.icm.call.code 0], restartReply := false }]) := by
  have htaken : CallTaken s (s.takeHead rest).refuseCall { s.icm with refused := satInc s.icm.refused }
      s.slk.txUnanswered := by
    have h1 := refuseCall_taken (s := s) (x := s.takeHead rest) (by simpa using hg) (by simpa using hs) (by simp)
      (by simp)
    rwa [takeHead_icm, takeHead_slk] at h1
  rcases hc with ⟨rfl, hp⟩ | ⟨rfl, hq⟩
  · have hexec := h.byKey hp
    rw [ht, State.keyOutcome, if_neg (by simp)] at hexec
    have hend := htaken.indicated
    obtain ⟨hicm, htx⟩ := hend.settled
    refine ⟨_, hexec, hicm, htx, fun he => absurd he h.distinct, fun _ hm hcon => ?_⟩
    have hmask : (s.takeHead rest).refuseCall.roleMask .handset = s.roleMask .handset := by
      simp [State.roleMask, State.refuseCall]
    have hcontrol : (s.takeHead rest).refuseCall.rng.control = s.rng.control := takeHead_control s rest
    rw [settle_rng_of_quiet hend.calm.gathered (wasReset_of_restart hend.calm.restart),
      indicate_control (by rwa [hmask]) (by rw [State.controlRoom, hcontrol]; exact hcon), hmask, hcontrol]
    simp [State.refuseCall]
  · have hexec := h.byManager hq
    rw [ht, answerCall, if_neg (by simp)] at hexec
    obtain ⟨hicm, htx, hreply⟩ := htaken.given e.frame .notAllowed hroom
    exact ⟨_, hexec, hicm, htx, fun _ => hreply, fun he => absurd he.symm h.distinct⟩

end

/-- What a command that concerns the call begins from: its frame taken, with room to answer it. -/
structure CallBegins (s x : State) : Prop where
  calm : EndsCalmly s x
  tx : x.slk.txUnanswered.length < 16
  room : s.rng.report.length < 32 → x.rng.report.length < 32

theorem CallBegins.of_parts {s x y : State} (h : CallBegins s x) (hstc : y.stc = x.stc) (hslk : y.slk = x.slk)
    (htst : y.tst = x.tst) (hrng : y.rng = x.rng) : CallBegins s y :=
  ⟨⟨by rw [hstc]; exact h.calm.gathered, by rw [hslk]; exact h.calm.sending, by rw [htst]; exact h.calm.restart⟩,
    by rw [hslk]; exact h.tx, by rw [hrng]; exact h.room⟩

theorem CallBegins.sent {s x : State} (h : CallBegins s x) (c : CallState) (b : Bool) (r : CallReason) (d : Nat)
    (f : CallFrame) :
    CallTaken s ((x.setCall c b r d).sendCallFrame f) { x.icm with call := c, emergencyOpen := b }
      (x.slk.txUnanswered ++ [callFrameOf f]) :=
  setCall_send_taken h.calm.gathered h.calm.sending h.calm.restart h.room h.tx c b r d f

theorem callRequest_taken {s x : State} (h : CallBegins s x) (hidle : x.icm.call = .idle) (hup : x.slk.link = .up)
    (a : CallReason) :
    (x.callRequest a).2 = true ∧
      CallTaken s (x.callRequest a).1 { x.icm with call := .calling, callTimer := some (x.after 30000) }
        (x.slk.txUnanswered ++ [callFrameOf .setup]) := by
  rw [State.callRequest, if_pos (by simp [hidle, hup])]
  refine ⟨rfl, CallBegins.sent (x := x.setCallTimer (some (x.after 30000))) ?_ ..⟩
  exact h.of_parts rfl rfl rfl rfl

theorem answerRequest_taken {s x : State} (h : CallBegins s x) (hring : x.icm.call = .ringing) (a : CallReason) :
    (x.answerRequest a).2 = true ∧
      CallTaken s (x.answerRequest a).1
        { x.icm with
          call := .talk, callTimer := none, talkEntry := x.now, buffer := [], phase := .filling, lastPlayed := none
          playout := none }
        (x.slk.txUnanswered ++ [callFrameOf .accept]) := by
  rw [State.answerRequest, if_pos hring]
  refine ⟨rfl, CallBegins.sent (x := (x.setIcm { x.icm with callTimer := none, talkEntry := x.now }).startJitter) ?_ ..⟩
  exact h.of_parts rfl rfl rfl rfl

theorem hangUpRequest_taken {s x : State} (h : CallBegins s x) (hcall : x.icm.call ≠ .idle)
    (hem : x.icm.emergencyOpen = false) (a : CallReason) :
    (x.hangUpRequest a).2 = true ∧
      CallTaken s (x.hangUpRequest a).1 { x.icm with call := .idle, callTimer := none, buffer := [], playout := none }
        (x.slk.txUnanswered ++ [callFrameOf .clear]) := by
  rw [State.hangUpRequest, if_pos (by simp [hcall, hem])]
  have h' := CallBegins.sent (s := s) (x := (x.setCallTimer none).emptyJitter) (h.of_parts rfl rfl rfl rfl)
    .idle x.icm.emergencyOpen a 2 .clear
  rw [hem] at h'
  refine ⟨rfl, h'.calm, ?_, h'.tx, h'.room⟩
  rw [h'.icm, ← hem]
  rfl

theorem callBegins_of_takeHead {s : State} (rest : List IngressEntry) (hg : s.stc.gathered = [])
    (hs : s.slk.sending.isSome = true) (htx : s.slk.txUnanswered.length < 16) :
    CallBegins s (s.takeHead rest) :=
  ⟨⟨by simpa using hg, by simpa using hs, by simp⟩, by simpa using htx, by simp⟩

/-- Settles O46: each request where the call state takes it, and the refusals of all three. -/
theorem callRequestsAreTaken : Obligations.CallRequestsAreTaken := by
  intro s e rest c hg hs htx hroom
  have hicm : (s.takeHead rest).icm = s.icm := takeHead_icm s rest
  have hslk : (s.takeHead rest).slk = s.slk := takeHead_slk s rest
  have hafter : (s.takeHead rest).after 30000 = s.after 30000 := after_congr (by simp) 30000
  have hnow : (s.takeHead rest).now = s.now := takeHead_now s rest
  have hbegins := callBegins_of_takeHead rest hg hs htx
  refine ⟨fun hc hidle hup => ?_, fun hc hring => ?_, fun hc hcall hem => ?_, fun hc => ?_⟩
  · have ht := callRequest_taken hbegins (by rwa [hicm]) (by rwa [hslk])
    rw [hicm, hslk, hafter] at ht
    exact callCommands_call.taken ht hroom hc
  · have ht := answerRequest_taken hbegins (by rwa [hicm])
    rw [hicm, hslk, hnow] at ht
    exact callCommands_answer.taken ht hroom hc
  · have ht := hangUpRequest_taken hbegins (by rwa [hicm]) (by rwa [hicm])
    rw [hicm, hslk] at ht
    exact callCommands_hangUp.taken ht hroom hc
  · rcases hc with ⟨hc, hwhy⟩ | ⟨hc, hwhy⟩ | ⟨hc, hwhy⟩
    · have ht : ∀ a, (s.takeHead rest).callRequest a = ((s.takeHead rest).refuseCall, false) := fun a => by
        rw [State.callRequest, if_neg (by simpa [hicm, hslk, imp_iff_not_or] using hwhy)]
      obtain ⟨u, hexec, h1, h2, h3, h4⟩ := callCommands_call.refused ht hg hs hroom hc
      refine ⟨u, hexec, h1, h2, fun hm => h3 ?_, fun hk => h4 ?_⟩
      · rcases hc with ⟨rfl, -⟩ | ⟨rfl, -⟩ <;> simp_all
      · rcases hc with ⟨rfl, -⟩ | ⟨rfl, -⟩ <;> simp_all
    · have ht : ∀ a, (s.takeHead rest).answerRequest a = ((s.takeHead rest).refuseCall, false) := fun a => by
        rw [State.answerRequest, if_neg (by rwa [hicm])]
      obtain ⟨u, hexec, h1, h2, h3, h4⟩ := callCommands_answer.refused ht hg hs hroom hc
      refine ⟨u, hexec, h1, h2, fun hm => h3 ?_, fun hk => h4 ?_⟩
      · rcases hc with ⟨rfl, -⟩ | ⟨rfl, -⟩ <;> simp_all
      · rcases hc with ⟨rfl, -⟩ | ⟨rfl, -⟩ <;> simp_all
    · have ht : ∀ a, (s.takeHead rest).hangUpRequest a = ((s.takeHead rest).refuseCall, false) := fun a => by
        rw [State.hangUpRequest, if_neg (by rcases hwhy with h | h <;> simp [h])]
      obtain ⟨u, hexec, h1, h2, h3, h4⟩ := callCommands_hangUp.refused ht hg hs hroom hc
      refine ⟨u, hexec, h1, h2, fun hm => h3 ?_, fun hk => h4 ?_⟩
      · rcases hc with ⟨rfl, -⟩ | ⟨rfl, -⟩ <;> simp_all
      · rcases hc with ⟨rfl, -⟩ | ⟨rfl, -⟩ <;> simp_all

/-! ## The summit's CALL frames and the call timer (O47) -/

/-- A command that leaves the stop chain and the restart alone: its end keeps the call and the receive buffer. -/
theorem settle_call {s w : State} (hg : w.stc.gathered = []) (hr : w.tst.restart = s.tst.restart) :
    (w.settle s).icm = w.icm ∧ (w.settle s).slk.rxUnanswered = w.slk.rxUnanswered := by
  obtain ⟨a, b, c, d, x, n, q, htr, -, -⟩ := transmit_slk w
  exact ⟨settle_icm_of_quiet hg (wasReset_of_restart hr), by rw [settle_slk_of_quiet hg (wasReset_of_restart hr), htr]⟩

/-- A call that takes a state without a CALL frame. -/
theorem settle_setCall {s x : State} (hg : x.stc.gathered = []) (hr : x.tst.restart = s.tst.restart) (c : CallState)
    (b : Bool) (r : CallReason) (d : Nat) :
    let u := (x.setCall c b r d).settle s
    u.slk.rxUnanswered = x.slk.rxUnanswered ∧
      u.icm = { x.icm with call := c, emergencyOpen := b, droppedIndications := u.icm.droppedIndications } := by
  have hdoes := setCall_does' x c b r d
  obtain ⟨hicm, hrx⟩ := settle_call (s := s) (w := x.setCall c b r d) (by rw [hdoes.stc_eq, hg]) (by rw [hdoes.restart_eq, hr])
  refine ⟨?_, ?_⟩
  · rw [hrx, hdoes.slk_eq]
  · rw [hicm]
    exact setCall_icm ..

/-- A CALL frame sent leaves the receive buffer. -/
theorem CallTaken.ended {s w : State} {icm : Icm} {tx : List LinkFrame} (h : CallTaken s w icm tx) :
    (w.settle s).slk.rxUnanswered = w.slk.rxUnanswered := by
  rw [h.calm.slk]

theorem sendCallFrame_rx (s : State) (f : CallFrame) : (s.sendCallFrame f).slk.rxUnanswered = s.slk.rxUnanswered := by
  unfold State.sendCallFrame
  split
  · rfl
  · rw [report_slk]
    rfl

section
variable {s : State} {f : LinkFrame} {rest : List LinkFrame}

theorem exec_callSetup (h : s.Holds f rest) (hk : f.kind = 3) (hb : byteAt f.payload 0 = 1) :
    exec .callSetup s = .next ((s.setSlk { s.slk with rxUnanswered := rest }).takeCallSetup.settle s) := by
  rw [show exec .callSetup s = execCallSetup s from rfl, execCallSetup,
    deliverUnanswered_running h (by rw [LinkFrame.callOf, hk, hb]; rfl)]

theorem exec_callAccept (h : s.Holds f rest) (hk : f.kind = 3) (hb : byteAt f.payload 0 = 2) :
    exec .callAccept s = .next ((s.setSlk { s.slk with rxUnanswered := rest }).takeCallAccept.settle s) := by
  rw [show exec .callAccept s = execCallAccept s from rfl, execCallAccept,
    deliverUnanswered_running h (by rw [LinkFrame.callOf, hk, hb]; rfl)]

theorem exec_callClear (h : s.Holds f rest) (hk : f.kind = 3) (hb : byteAt f.payload 0 = 3) :
    exec .callClear s = .next ((s.setSlk { s.slk with rxUnanswered := rest }).takeCallClear.settle s) := by
  rw [show exec .callClear s = execCallClear s from rfl, execCallClear,
    deliverUnanswered_running h (by rw [LinkFrame.callOf, hk, hb]; rfl)]

end

section
variable {s x : State} (hg : x.stc.gathered = []) (hr : x.tst.restart = s.tst.restart)
include hg hr

/-- A call that is joined: TALK with a fresh jitter buffer. -/
theorem settle_enterTalk (r : CallReason) (d : Nat) :
    let u := (x.enterTalk x.icm.emergencyOpen r d).settle s
    u.slk.rxUnanswered = x.slk.rxUnanswered ∧
      u.icm =
        { x.icm with
          call := .talk, callTimer := none, talkEntry := x.now, buffer := [], phase := .filling, lastPlayed := none
          playout := none, droppedIndications := u.icm.droppedIndications } :=
  settle_setCall (x := (x.setIcm { x.icm with callTimer := none, talkEntry := x.now }).startJitter) hg hr ..

theorem callSetup_of_idle (hc : x.icm.call = .idle) :
    let u := x.takeCallSetup.settle s
    u.slk.rxUnanswered = x.slk.rxUnanswered ∧
      u.icm =
        { x.icm with
          call := .ringing, callTimer := some (x.after 30000), droppedIndications := u.icm.droppedIndications } := by
  simp only [State.takeCallSetup, hc]
  exact settle_setCall (x := x.setCallTimer (some (x.after 30000))) hg hr ..

theorem callAccept_of_calling (hc : x.icm.call = .calling) :
    let u := x.takeCallAccept.settle s
    u.slk.rxUnanswered = x.slk.rxUnanswered ∧
      u.icm =
        { x.icm with
          call := .talk, callTimer := none, talkEntry := x.now, buffer := [], phase := .filling, lastPlayed := none
          playout := none, droppedIndications := u.icm.droppedIndications } := by
  simp only [State.takeCallAccept, hc]
  exact settle_enterTalk hg hr ..

theorem callClear_of_unanswered (hc : x.icm.call = .ringing ∨ x.icm.call = .calling) :
    let u := x.takeCallClear.settle s
    u.slk.rxUnanswered = x.slk.rxUnanswered ∧
      u.icm = { x.icm with call := .idle, callTimer := none, droppedIndications := u.icm.droppedIndications } := by
  have h : x.takeCallClear = (x.setCallTimer none).setCall .idle x.icm.emergencyOpen .summitFrame 3 := by
    rcases hc with hc | hc <;> simp only [State.takeCallClear, hc]
  simp only [h]
  exact settle_setCall (x := x.setCallTimer none) hg hr ..

theorem callClear_of_talk (hc : x.icm.call = .talk) (hem : x.icm.emergencyOpen = false) :
    let u := x.takeCallClear.settle s
    u.slk.rxUnanswered = x.slk.rxUnanswered ∧
      u.icm =
        { x.icm with call := .idle, buffer := [], playout := none, droppedIndications := u.icm.droppedIndications } := by
  have h : x.takeCallClear = x.emptyJitter.setCall .idle x.icm.emergencyOpen .summitFrame 3 := by
    simp [State.takeCallClear, hc, hem]
  simp only [h]
  exact settle_setCall (x := x.emptyJitter) hg hr ..

/-- A frame that the call state ignores is counted, and nothing else of ICM changes. -/
theorem ignoreCallFrame_icm :
    (x.ignoreCallFrame.settle s).icm = { x.icm with ignoredFrames := satInc x.icm.ignoredFrames } :=
  (settle_call (s := s) (w := x.ignoreCallFrame) hg hr).1

/-- A CALL_CLEAR in TALK while EMERGENCY_OPEN is set is ignored and reported. -/
theorem callClear_refused (hc : x.icm.call = .talk) (hem : x.icm.emergencyOpen = true)
    (hev : x.tst.events.length < 32) (hm : x.eventMask ≠ 0) :
    (x.takeCallClear.settle s).icm = { x.icm with ignoredFrames := satInc x.icm.ignoredFrames } ∧
      (x.takeCallClear.settle s).Reported .clearRefused [] := by
  have h : x.takeCallClear = x.ignoreCallFrame.report .clearRefused none none [] := by
    simp [State.takeCallClear, hc, hem]
  have hg' : (x.ignoreCallFrame.report .clearRefused none none []).stc.gathered = [] := by rw [report_stc]; exact hg
  have hr' : (x.ignoreCallFrame.report .clearRefused none none []).tst.restart = s.tst.restart := by
    rw [report_restart]; exact hr
  rw [h]
  refine ⟨?_, State.Reported.settle_of_quiet hg' (wasReset_of_restart hr') (report_reported _ _ _ _ hev hm)⟩
  rw [settle_icm_of_quiet hg' (wasReset_of_restart hr'), report_icm]
  rfl

end

/-- A CALL_SETUP that meets a CALLING valley joins the call, and sends CALL_ACCEPT. -/
theorem callSetup_of_calling {s x : State} (h : CallBegins s x) (hc : x.icm.call = .calling) :
    CallTaken s x.takeCallSetup
      { x.icm with
        call := .talk, callTimer := none, talkEntry := x.now, buffer := [], phase := .filling, lastPlayed := none
        playout := none }
      (x.slk.txUnanswered ++ [callFrameOf .accept]) ∧
    x.takeCallSetup.slk.rxUnanswered = x.slk.rxUnanswered := by
  simp only [State.takeCallSetup, hc]
  refine ⟨CallBegins.sent (x := (x.setIcm { x.icm with callTimer := none, talkEntry := x.now }).startJitter) ?_ .., ?_⟩
  · exact h.of_parts rfl rfl rfl rfl
  · rw [sendCallFrame_rx, (State.enterTalk_does (m := 4276224) _ _ _ (Does.refl _ x) rfl).slk_eq]

/-- In TALK it is answered by CALL_ACCEPT again. -/
theorem callSetup_of_talk {s x : State} (h : CallBegins s x) (hc : x.icm.call = .talk) :
    (x.takeCallSetup.settle s).icm = x.icm ∧
      (x.takeCallSetup.settle s).slk = { x.slk with txUnanswered := x.slk.txUnanswered ++ [callFrameOf .accept] } := by
  have hsend : x.takeCallSetup = x.setTxUnanswered (x.slk.txUnanswered ++ [callFrameOf .accept]) := by
    simp only [State.takeCallSetup, hc]
    exact sendCallFrame_of_room h.tx _
  have hcalm : EndsCalmly s (x.setTxUnanswered (x.slk.txUnanswered ++ [callFrameOf .accept])) :=
    ⟨h.calm.gathered, h.calm.sending, h.calm.restart⟩
  rw [hsend, hcalm.icm, hcalm.slk]
  exact ⟨rfl, rfl⟩

/-- Settles O47: the CALL frames by the state of the call, and the timer. -/
theorem callFramesAndTheTimerMoveTheCall : Obligations.CallFramesAndTheTimerMoveTheCall := by
  refine ⟨fun s f rest hholds hk hg => ?_, fun s hfires hcall hg hs htx => ?_⟩
  · have hg' : (s.setSlk { s.slk with rxUnanswered := rest }).stc.gathered = [] := hg
    refine ⟨fun hb hc => ?_, fun hb hc => ?_, fun hb hc => ?_, fun hb hc => ?_, fun hb hc hs htx => ?_,
      fun hb hc hs htx => ?_, fun hb hc => ?_, fun hb hc => ?_, fun hb hc hem => ?_, fun hb hc hem hev hm => ?_⟩
    · exact ⟨_, exec_callSetup hholds hk hb, callSetup_of_idle hg' rfl hc⟩
    · exact ⟨_, exec_callAccept hholds hk hb, callAccept_of_calling hg' rfl hc⟩
    · exact ⟨_, exec_callClear hholds hk hb, callClear_of_unanswered hg' rfl hc⟩
    · refine ⟨_, exec_callAccept hholds hk hb, ?_⟩
      have hig : (s.setSlk { s.slk with rxUnanswered := rest }).takeCallAccept =
          (s.setSlk { s.slk with rxUnanswered := rest }).ignoreCallFrame := by
        unfold State.takeCallAccept
        split
        · rename_i h
          exact absurd h hc
        · rfl
      rw [hig]
      exact ignoreCallFrame_icm hg' rfl
    · obtain ⟨htaken, hrx⟩ := callSetup_of_calling (s := s) (x := s.setSlk { s.slk with rxUnanswered := rest })
        ⟨⟨hg, hs, rfl⟩, htx, id⟩ hc
      exact ⟨_, exec_callSetup hholds hk hb, htaken.ended.trans hrx, htaken.settled.2, htaken.settled.1⟩
    · obtain ⟨hicm, hslk⟩ := callSetup_of_talk (s := s) (x := s.setSlk { s.slk with rxUnanswered := rest })
        ⟨⟨hg, hs, rfl⟩, htx, id⟩ hc
      exact ⟨_, exec_callSetup hholds hk hb, by rw [hslk]; rfl, hicm, by rw [hslk]; rfl⟩
    · refine ⟨_, exec_callSetup hholds hk hb, ?_⟩
      have hig : (s.setSlk { s.slk with rxUnanswered := rest }).takeCallSetup =
          (s.setSlk { s.slk with rxUnanswered := rest }).ignoreCallFrame := by
        simp only [State.takeCallSetup, State.setSlk_icm, hc]
      rw [hig]
      exact ignoreCallFrame_icm hg' rfl
    · refine ⟨_, exec_callClear hholds hk hb, ?_⟩
      have hig : (s.setSlk { s.slk with rxUnanswered := rest }).takeCallClear =
          (s.setSlk { s.slk with rxUnanswered := rest }).ignoreCallFrame := by
        simp only [State.takeCallClear, State.setSlk_icm, hc]
      rw [hig]
      exact ignoreCallFrame_icm hg' rfl
    · exact ⟨_, exec_callClear hholds hk hb, callClear_of_talk hg' rfl hc hem⟩
    · exact ⟨_, exec_callClear hholds hk hb, callClear_refused hg' rfl hc hem hev hm⟩
  · have htaken := CallBegins.sent (s := s) (x := s.setCallTimer none) ⟨⟨hg, hs, rfl⟩, htx, id⟩ .idle s.icm.emergencyOpen
      .timeout 0 .clear
    refine ⟨_, ?_, htaken.settled⟩
    rw [show exec .callTimerExpiry s = execCallTimerExpiry s from rfl, execCallTimerExpiry, expiry_running hfires]
    rfl

end Sys2Proof.Machine
end

section
/-!
PROOFS. Speech: the VOICE transmit queue, the jitter buffer and the playout (chapter 8).
-/

namespace Sys2Proof.Machine

/-! ## Voice sequences and the jitter buffer (R155) -/

theorem laterSeq_iff (a b : Nat) :
    laterSeq a b = true ↔ 1 ≤ (a + 65536 - b) % 65536 ∧ (a + 65536 - b) % 65536 ≤ 32767 := by
  simp [laterSeq]

theorem laterSeq_self (a : Nat) : laterSeq a a = false := by simp [laterSeq]

theorem not_oppositeSeq_of_later {a b : Nat} (h : laterSeq a b = true) : oppositeSeq a b = false := by
  have := (laterSeq_iff a b).mp h
  simp only [oppositeSeq, decide_eq_false_iff_not]
  omega

/-- Of two sequences each one's lead over the other is the other's lag. -/
theorem laterSeq_asymm {a b : Nat} (h : laterSeq b a = true) :
    laterSeq a b = false ∧ oppositeSeq a b = false := by
  have := (laterSeq_iff b a).mp h
  refine ⟨?_, ?_⟩
  · rw [Bool.eq_false_iff, Ne, laterSeq_iff]
    omega
  · simp only [oppositeSeq, decide_eq_false_iff_not]
    omega

/-- An entry goes behind those that are not later than it, and before one that is. -/
theorem insertVoice_between (x : VoiceEntry) (earlier rest : List VoiceEntry)
    (he : ∀ y ∈ earlier, laterSeq y.seq x.seq = false) (hr : ∀ y ∈ rest, laterSeq y.seq x.seq = true) :
    insertVoice x (earlier ++ rest) = earlier ++ x :: rest := by
  induction earlier with
  | nil =>
    cases rest with
    | nil => rfl
    | cons y ys => rw [List.nil_append, insertVoice, if_pos (hr y (.head _))]; rfl
  | cons y ys ih =>
    rw [List.cons_append, insertVoice, if_neg (by simp [he y (.head _)]), ih fun z hz => he z (.tail _ hz)]
    rfl

section
variable {s : State} {x : VoiceEntry}

theorem takeSummitVoice_of_not_talk (hc : s.icm.call ≠ .talk) : s.takeSummitVoice x = s := by
  simp [State.takeSummitVoice, hc]

theorem takeSummitVoice_late (hc : s.icm.call = .talk)
    (h : (∃ p, s.icm.lastPlayed = some p ∧ laterSeq x.seq p = false) ∨
      ∃ y ∈ s.icm.buffer, oppositeSeq x.seq y.seq = true) :
    s.takeSummitVoice x = s.setIcm { s.icm with late := satInc s.icm.late } := by
  rw [State.takeSummitVoice]
  dsimp only
  rw [if_neg (by simp [hc]), if_pos]
  rcases h with ⟨p, hp, hl⟩ | ⟨y, hy, ho⟩
  · simp [hp, hl]
  · rw [Bool.or_eq_true, List.any_eq_true]
    exact .inr ⟨y, hy, ho⟩

/-- A frame that is neither late nor opposite to an entry held is a duplicate or is placed. -/
theorem takeSummitVoice_in_time (hc : s.icm.call = .talk)
    (hp : ∀ p, s.icm.lastPlayed = some p → laterSeq x.seq p = true)
    (ho : ∀ y ∈ s.icm.buffer, oppositeSeq x.seq y.seq = false) :
    s.takeSummitVoice x =
      if s.icm.buffer.any (fun y => y.seq = x.seq) then s.setIcm { s.icm with duplicate := satInc s.icm.duplicate }
      else s.placeVoiceEntry x := by
  rw [State.takeSummitVoice]
  dsimp only
  rw [if_neg (by simp [hc]), if_neg]
  rw [Bool.or_eq_true, not_or]
  refine ⟨?_, by simpa using ho⟩
  split
  · rename_i p hp'
    simp [hp p hp']
  · simp

end

theorem placeVoiceEntry_icm {s : State} {x : VoiceEntry} {all : List VoiceEntry} (h : insertVoice x s.icm.buffer = all) :
    let kept := if all.length = 7 then all.tail else all
    let starts := s.icm.phase = .filling ∧ 2 ≤ kept.length
    (s.placeVoiceEntry x).icm =
      { s.icm with
        buffer := kept
        overflow := if all.length = 7 then satInc s.icm.overflow else s.icm.overflow
        phase := if starts then .playing else s.icm.phase
        playout := if starts then some (s.after 20) else s.icm.playout } := by
  simp [State.placeVoiceEntry, h, List.drop_one]

/-! ## A summit voice frame (O48) -/

/-- A well-formed VOICE frame in UP goes to ICM. -/
theorem exec_linkVoiceFrame {s : State} {bytes : List Byte} {x : VoiceEntry} (hheld : s.pins.held = false)
    (hv : isVoiceFrame bytes = true) (hm : malformedOnArrival (linkFrameOf bytes) = false) (hup : s.slk.link = .up)
    (hx : x = { seq := halfAt (linkFrameOf bytes).payload 0, audio := (linkFrameOf bytes).payload.drop 2 }) :
    exec (.linkVoiceFrame bytes) s = .next (((s.takeValid bytes).takeSummitVoice x).settle s) := by
  have hother : (s.takeValid bytes).linkOther = s.takeValid bytes := by
    simp [State.linkOther, State.takeValid, hup]
  have hlink : (s.takeValid bytes).slk.link = .up := hup
  rw [show exec (.linkVoiceFrame bytes) s = execLinkVoiceFrame bytes s from rfl, execLinkVoiceFrame, receive, if_pos hv,
    whole_running hheld, State.takeVoice, hother]
  simp [hm, hlink, hx]

theorem handsetVoice_placed {s : State} (h : s.icm.call = .talk) (seq : Nat) (audio : List Byte) :
    (s.takeHandsetVoice seq audio).slk.txVoice =
      (if s.slk.txVoice.length < 2 then s.slk.txVoice else s.slk.txVoice.tail) ++
        [{ cls := .voice, kind := 1, tag := 0, payload := twoBytes seq ++ audio }] := by
  rw [State.takeHandsetVoice, if_pos h]
  dsimp only
  split
  · rfl
  · rw [← List.drop_one]
    rfl

theorem playEntry_voice {s : State} {x : VoiceEntry} (hm : s.roleMask .handset ≠ 0) (hroom : s.rng.voice.length < 4) :
    (s.playEntry x).rng.voice =
      s.rng.voice ++
        [{ kind := .voice, mask := s.roleMask .handset, tag := 0, payload := place x.seq 0 :: wordsOfBytes x.audio,
           restartReply := false }] := by
  rw [State.playEntry, if_neg hm, State.placeVoice, if_pos hroom]
  rfl

theorem exec_handsetVoice {s : State} {e : IngressEntry} {rest : List IngressEntry}
    (h : s.Delivers .handsetVoice e rest) :
    exec .handsetVoice s =
      .next (((s.takeHead rest).takeHandsetVoice (field (e.frame.word 0) 0 16) e.frame.audio).settle s) := by
  rw [show exec .handsetVoice s = execHandsetVoice s from rfl, execHandsetVoice, deliver_running h]

/-- A change of ICM alone, as the command ends. -/
theorem settle_setIcm {s x : State} (hg : x.stc.gathered = []) (hr : x.tst.restart = s.tst.restart) (k : Icm) :
    ((x.setIcm k).settle s).icm = k :=
  (settle_call (s := s) (w := x.setIcm k) hg hr).1

/-- The handset's frame in TALK, and in any other state, as the command ends. -/
theorem handsetVoice_ends {s y : State} (hg : y.stc.gathered = []) (hs : y.slk.sending.isSome = true)
    (hr : y.tst.restart = s.tst.restart) (seq : Nat) (audio : List Byte) :
    (y.icm.call = .talk →
      ((y.takeHandsetVoice seq audio).settle s).slk.txVoice =
        (if y.slk.txVoice.length < 2 then y.slk.txVoice else y.slk.txVoice.tail) ++
          [{ cls := .voice, kind := 1, tag := 0, payload := twoBytes seq ++ audio }]) ∧
    (y.icm.call ≠ .talk →
      ((y.takeHandsetVoice seq audio).settle s).slk = y.slk ∧
        ((y.takeHandsetVoice seq audio).settle s).icm =
          { y.icm with outboundDropped := satInc y.icm.outboundDropped }) := by
  have hdoes : Does 24576 y (y.takeHandsetVoice seq audio) := State.takeHandsetVoice_does _ _ (Does.refl _ y) rfl
  have hsending : (y.takeHandsetVoice seq audio).slk.sending = y.slk.sending := by
    unfold State.takeHandsetVoice
    dsimp only
    repeat' split
    all_goals rfl
  have hcalm : EndsCalmly s (y.takeHandsetVoice seq audio) :=
    ⟨by rw [hdoes.stc_eq, hg], by rw [hsending, hs], by rw [hdoes.restart_eq, hr]⟩
  rw [hcalm.slk, hcalm.icm]
  refine ⟨fun h => handsetVoice_placed h seq audio, fun h => ?_⟩
  rw [State.takeHandsetVoice, if_neg h]
  exact ⟨rfl, rfl⟩

/-- The oldest entry of the jitter buffer played, as the command ends. -/
theorem playout_ends {s : State} {x : VoiceEntry} {rest : List VoiceEntry} (hg : s.stc.gathered = [])
    (hb : s.icm.buffer = x :: rest) :
    (s.playout.settle s).icm =
        { s.icm with
          buffer := rest
          lost := satAdd s.icm.lost (missingBefore s.icm.lastPlayed x.seq)
          lastPlayed := some x.seq
          playout := some (s.after 20) } ∧
      (s.playout.settle s).rng = (s.playEntry x).rng := by
  have hdoes : Does 65536 s (s.playEntry x) := State.playEntry_does x (Does.refl _ s) rfl
  rw [State.playout, hb]
  dsimp only
  refine ⟨settle_setIcm (by rw [hdoes.stc_eq, hg]) hdoes.restart_eq _, ?_⟩
  rw [settle_rng_of_quiet (s := (s.playEntry x).setIcm _) (by rw [State.quiet, State.setIcm_stc, hdoes.stc_eq, hg])
    (wasReset_of_restart (by rw [State.setIcm_tst, hdoes.restart_eq]))]
  rfl

/-- Settles O48: the handset's frames, the summit's frames by their sequence, and the playout. -/
theorem speechPassesThrough : Obligations.SpeechPassesThrough := by
  intro s hg hs
  refine ⟨fun e rest hdel => ?_, fun bytes x hheld hv hm hup hx hbuf => ?_, fun x rest hfires hb hm hroom => ?_,
    fun hfires hb => ?_⟩
  · have hicm : (s.takeHead rest).icm = s.icm := takeHead_icm s rest
    have hslk : (s.takeHead rest).slk = s.slk := takeHead_slk s rest
    have hexec := exec_handsetVoice hdel
    obtain ⟨htalk, hnot⟩ := handsetVoice_ends (s := s) (y := s.takeHead rest) (by simpa using hg) (by simpa using hs)
      (by simp) (field (e.frame.word 0) 0 16) e.frame.audio
    rw [hicm, hslk] at htalk hnot
    exact ⟨fun h => ⟨_, hexec, htalk h⟩, fun h => ⟨_, hexec, hnot h⟩⟩
  · intro later afterPlayed
    have hexec := exec_linkVoiceFrame hheld hv hm hup hx
    have hicm : (s.takeValid bytes).icm = s.icm := rfl
    refine ⟨fun hc => ?_, fun hc hlate => ?_, fun hc hafter hopp hdup => ?_, fun earlier rest hc hafter hsplit he hr => ?_⟩
    · refine ⟨_, hexec, ?_⟩
      rw [takeSummitVoice_of_not_talk (s := s.takeValid bytes) hc]
      exact (settle_call (s := s) (w := s.takeValid bytes) hg rfl).1
    · refine ⟨_, hexec, ?_⟩
      rw [takeSummitVoice_late (s := s.takeValid bytes) hc]
      · exact settle_setIcm (x := s.takeValid bytes) hg rfl _
      · refine hlate.imp (fun ⟨p, hp, hl⟩ => ⟨p, hp, ?_⟩) (fun ⟨y, hy, ho⟩ => ⟨y, hy, by simpa [oppositeSeq] using ho⟩)
        rw [Bool.eq_false_iff, Ne, laterSeq_iff]
        exact hl
    · refine ⟨_, hexec, ?_⟩
      rw [takeSummitVoice_in_time (s := s.takeValid bytes) hc (fun p hp => (laterSeq_iff ..).mpr (hafter p hp))
        (fun y hy => by simpa [oppositeSeq] using hopp y hy), if_pos]
      · exact settle_setIcm (x := s.takeValid bytes) hg rfl _
      · rw [List.any_eq_true]
        obtain ⟨y, hy, heq⟩ := hdup
        exact ⟨y, hy, by simpa using heq⟩
    · have he' : ∀ y ∈ earlier, laterSeq x.seq y.seq = true := fun y hy => (laterSeq_iff ..).mpr (he y hy)
      have hr' : ∀ y ∈ rest, laterSeq y.seq x.seq = true := fun y hy => (laterSeq_iff ..).mpr (hr y hy)
      have hin := insertVoice_between x earlier rest (fun y hy => (laterSeq_asymm (he' y hy)).1) hr'
      have hne : ∀ y ∈ earlier ++ rest, oppositeSeq x.seq y.seq = false ∧ y.seq ≠ x.seq := by
        intro y hy
        rcases List.mem_append.mp hy with hy | hy
        · exact ⟨not_oppositeSeq_of_later (he' y hy), fun h => by simpa [h, laterSeq_self] using he' y hy⟩
        · exact ⟨(laterSeq_asymm (hr' y hy)).2, fun h => by simpa [h, laterSeq_self] using hr' y hy⟩
      refine ⟨_, hexec, ?_⟩
      rw [takeSummitVoice_in_time (s := s.takeValid bytes) hc (fun p hp => (laterSeq_iff ..).mpr (hafter p hp))
        (fun y hy => (hne y (hsplit ▸ hy)).1), if_neg]
      · rw [(settle_call (s := s) (w := (s.takeValid bytes).placeVoiceEntry x) hg rfl).1]
        exact placeVoiceEntry_icm (s := s.takeValid bytes) (by rw [← hin, ← hsplit]; rfl)
      · rw [Bool.not_eq_true, List.any_eq_false]
        exact fun y hy => by simpa using (hne y (hsplit ▸ hy)).2
  · have hexec : exec .playoutExpiry s = .next (s.playout.settle s) := by
      rw [show exec .playoutExpiry s = execPlayoutExpiry s from rfl, execPlayoutExpiry, expiry_running hfires]
    obtain ⟨hicm, hrng⟩ := playout_ends hg hb
    refine ⟨_, hexec, by rw [hicm], by rw [hicm], by rw [hicm], by rw [hicm], fun hnone hlost => ?_, fun p hp => ?_, ?_⟩
    · rw [hicm, hnone]
      change satAdd s.icm.lost 0 = s.icm.lost
      rw [satAdd]
      split
      · rfl
      · omega
    · rw [hicm, hp]
      rfl
    · rw [hrng, playEntry_voice hm hroom]
  · have hexec : exec .playoutExpiry s =
        .next ((s.setIcm { s.icm with underrun := satInc s.icm.underrun, phase := .filling, playout := none }).settle s) := by
      rw [show exec .playoutExpiry s = execPlayoutExpiry s from rfl, execPlayoutExpiry, expiry_running hfires,
        State.playout, hb]
    exact ⟨_, hexec, settle_setIcm (x := s) hg rfl _⟩

end Sys2Proof.Machine
end

section
/-!
PROOFS. The summit link: the entry into DOWN (chapter 7).
-/

namespace Sys2Proof.Machine

/-! ## STC's report while no emergency opens a call (R133, R152) -/

theorem judgeEmergency_of_down {s : State} (h : s.slk.link ≠ .up) (he : s.icm.emergencyOpen = false) :
    s.judgeEmergency = s := by
  have hnot : s.emergencyHolds = false := by simp [State.emergencyHolds, h]
  rw [State.judgeEmergency, if_neg (by simp [hnot]), if_neg (by simp [he])]

/-- The link is not UP and no emergency is open, so that STC's report leaves the link and the call. -/
structure CallDown (s t : State) : Prop where
  slk : t.slk = s.slk
  icm : t.icm = s.icm

theorem formOutput_of_down {s : State} (h : s.slk.link ≠ .up) (he : s.icm.emergencyOpen = false) (rs : List Riser) :
    CallDown s (s.formOutput rs) := by
  unfold State.formOutput
  dsimp only
  split
  · exact ⟨rfl, rfl⟩
  · have hreport : ∀ c r, CallDown s ((s.setOutput c r).reportOutput s.stc.output r) := fun c r => by
      rw [State.reportOutput]
      exact ⟨by rw [report_slk]; rfl, by rw [report_icm]; rfl⟩
    have hx := hreport (highestStanding s.stc.records) (s.riser rs)
    generalize (s.setOutput _ _).reportOutput s.stc.output _ = x at hx
    have hw : CallDown s (if x.launchHeld then x.withdrawRelease false else x) := by
      split
      · have hd : Does 4260368 x (x.withdrawRelease false) := State.withdrawRelease_does false (Does.refl _ x) rfl
        exact ⟨hd.slk_eq.trans hx.slk, (hd.1 .icm rfl).trans hx.icm⟩
      · exact hx
    rw [State.tellOutput, judgeEmergency_of_down (by rw [hw.slk]; exact h) (by rw [hw.icm]; exact he)]
    exact hw

theorem takeTogether_of_down {s : State} (h : s.slk.link ≠ .up) (he : s.icm.emergencyOpen = false)
    (xs : List CauseReport) : CallDown s (s.takeTogether xs) := by
  have hcond : CallDown s (xs.foldl State.takeCondition s) := by
    refine List.foldlRecOn (motive := fun x => CallDown s x) xs State.takeCondition ⟨rfl, rfl⟩ fun y hy x _ => ?_
    have hd : Does 4292608 y (y.takeCondition x) := State.takeCondition_does x (Does.refl _ y) rfl
    exact ⟨hd.slk_eq.trans hy.slk, (hd.1 .icm rfl).trans hy.icm⟩
  have hf := formOutput_of_down (s := xs.foldl State.takeCondition s) (by rw [hcond.slk]; exact h)
    (by rw [hcond.icm]; exact he) (risersOf xs)
  exact ⟨hf.slk.trans hcond.slk, hf.icm.trans hcond.icm⟩

theorem takeReport_of_down {s : State} (h : s.slk.link ≠ .up) (he : s.icm.emergencyOpen = false) :
    CallDown s s.takeReport := by
  unfold State.takeReport
  split
  · exact ⟨rfl, rfl⟩
  · refine List.foldlRecOn (motive := fun x => CallDown s x) _ State.takeTogether ⟨rfl, rfl⟩ fun y hy x _ => ?_
    have hf := takeTogether_of_down (s := y) (by rw [hy.slk]; exact h) (by rw [hy.icm]; exact he) x
    exact ⟨hf.slk.trans hy.slk, hf.icm.trans hy.icm⟩

/-! ## The entry into DOWN (R133) -/

theorem freeRequest_slk_of_empty {s : State} (hr : s.slk.requests = []) (ht : s.slk.txAnswered = []) (t : Nat) :
    (s.freeRequest t).slk = s.slk := by
  have h : ∀ k : Slk, k.requests = [] → k.txAnswered = [] →
      { k with requests := k.requests.filter fun e => e.tag ≠ t
               txAnswered := k.txAnswered.filter fun f => f.tag ≠ t } = k := fun k h1 h2 => by
    cases k
    simp_all
  exact h s.slk hr ht

/-- The query in progress fails with its table empty, and so leaves SLK. -/
theorem failRequests_spec {s : State} (hl : s.slk.link ≠ .up) (hr : s.slk.requests = []) (ht : s.slk.txAnswered = []) :
    s.failRequests.slk = s.slk ∧ s.failRequests.stc = s.stc ∧ (∀ t r, s.failRequests.ctr.reconcile ≠ .querying t r) := by
  unfold State.failRequests
  split
  · rename_i t r hq
    have hfree : (s.freeRequest t).slk = s.slk := freeRequest_slk_of_empty hr ht t
    refine ⟨?_, ?_, ?_⟩
    · simp [State.failReconcile, hq, Reconcile.tag, hfree]
    · simp [State.failReconcile, hq, Reconcile.tag, State.freeRequest]
    · simp [State.failReconcile, hq, Reconcile.tag, hfree, hl]
  · rename_i h
    exact ⟨rfl, rfl, fun t r hq => h t r hq⟩

/-- The mirror is present or absent as its category says, and no other condition changes (R138, R162). -/
theorem setMirror_condition {s : State} (hs : s.stc.records.length = 48) (c : Category) (d : Cause) :
    (s.setMirror c).condition d = if d = .summitStop then decide (c ≠ .run) else s.condition d := by
  unfold State.setMirror
  split
  · rename_i h
    split
    · subst d
      have heq : (s.condition .summitStop = true) = (c ≠ .run) := of_decide_eq_true (Bool.and_eq_true_iff.mp h).1
      rw [Bool.eq_iff_iff, heq, decide_eq_true_iff]
    · rfl
  · rw [gather_condition, holdCondition_condition hs]

theorem setMirror_records_length (s : State) (c : Category) :
    (s.setMirror c).stc.records.length = s.stc.records.length := by
  unfold State.setMirror State.holdCondition State.gather
  split <;> simp [State.setStc]

/-- The call ends as the link goes DOWN. -/
theorem callLinkDown_icm (s : State) : s.callLinkDown.icm.call = .idle ∧ s.callLinkDown.icm.emergencyOpen = false := by
  unfold State.callLinkDown
  split
  · rename_i h
    simpa using h
  · rw [setCall_icm]
    exact ⟨rfl, rfl⟩

/-- What stands after an entry into DOWN from a link state `l` (R133, R153). -/
structure LinkIsDown (s y : State) : Prop where
  slk : y.slk =
    { s.slk.down with linkLosses := if s.slk.link = .up then satInc s.slk.linkLosses else s.slk.linkLosses }
  call : y.icm.call = .idle
  emergency : y.icm.emergencyOpen = false
  mirror : y.condition .summitStop = false
  compare : y.condition .positionDisagree = false
  lost : s.slk.link = .up → y.condition .linkLost = true
  reconcile : ∀ t r, y.ctr.reconcile ≠ .querying t r
  restart : y.tst.restart = s.tst.restart
  room : s.rng.report.length < 32 → y.rng.report.length < 32

/-- The conditions that the entry judges, before LINK_LOST and before the call ends. -/
theorem linkDown_conditions {y : State} (hs : y.stc.records.length = 48) :
    let z := (y.setMirror .run).judge .positionDisagree false
    z.slk = y.slk ∧ z.ctr = y.ctr ∧ z.stc.records.length = 48 ∧ z.condition .summitStop = false ∧
      z.condition .positionDisagree = false := by
  have hm : (y.setMirror .run).stc.records.length = 48 := by rw [setMirror_records_length, hs]
  have hd : Does 32768 y (y.setMirror .run) := State.setMirror_does _ (Does.refl _ y) rfl
  refine ⟨?_, ?_, ?_, ?_, ?_⟩
  · rw [judge_slk, hd.slk_eq]
  · rw [judge_ctr, hd.ctr_eq]
  · rw [judge_records_length, hm]
  · rw [judge_condition hm, if_neg (by decide), setMirror_condition hs, if_pos rfl]
    decide
  · rw [judge_condition hm, if_pos rfl]

theorem linkLost_spec {s : State} (hs : s.stc.records.length = 48) :
    s.linkLost.slk = { s.slk with linkLosses := satInc s.slk.linkLosses } ∧ s.linkLost.icm = s.icm ∧
      s.linkLost.ctr = s.ctr ∧
      ∀ d, s.linkLost.condition d = if d = .linkLost then true else s.condition d := by
  refine ⟨?_, ?_, ?_, fun d => ?_⟩
  · rw [State.linkLost, report_slk, judge_slk]
    rfl
  · rw [State.linkLost, report_icm, judge_icm]
    rfl
  · rw [State.linkLost, report_ctr, judge_ctr]
    rfl
  · have h := judge_condition (s := s.setSlk { s.slk with linkLosses := satInc s.slk.linkLosses }) hs .linkLost d true none
    rw [State.linkLost, report_condition]
    exact h

/-- LINK_LOST where the link was UP, and nothing else. -/
theorem linkLostIf_spec {w : State} (hs : w.stc.records.length = 48) (p : Prop) [Decidable p] :
    let v := if p then w.linkLost else w
    v.slk = { w.slk with linkLosses := if p then satInc w.slk.linkLosses else w.slk.linkLosses } ∧ v.icm = w.icm ∧
      v.ctr = w.ctr ∧ (p → v.condition .linkLost = true) ∧ ∀ d, d ≠ .linkLost → v.condition d = w.condition d := by
  obtain ⟨hslk, hicm, hctr, hcond⟩ := linkLost_spec hs
  by_cases hp : p
  · simp only [if_pos hp]
    exact ⟨hslk, hicm, hctr, fun _ => by rw [hcond, if_pos rfl], fun d hd => by rw [hcond, if_neg hd]⟩
  · simp only [if_neg hp]
    exact ⟨trivial, trivial, trivial, fun h => absurd h hp, fun _ _ => trivial⟩

theorem enterDown_spec {s : State} (hs : s.stc.records.length = 48) : LinkIsDown s s.enterDown := by
  obtain ⟨hslk, hstc, hrec⟩ := failRequests_spec (s := s.setSlk s.slk.down) (by simp [Slk.down]) rfl rfl
  have hrec48 : (s.setSlk s.slk.down).failRequests.stc.records.length = 48 := by rw [hstc]; exact hs
  obtain ⟨hzslk, hzctr, hzlen, hzm, hzc⟩ := linkDown_conditions hrec48
  have hdoes : Does 4318736 s s.enterDown := State.enterDown_does (Does.refl _ s) rfl
  have hrestart := hdoes.restart_eq
  have hroom := hdoes.2.2.1 rfl
  rw [State.enterDown] at hrestart hroom ⊢
  generalize ((s.setSlk s.slk.down).failRequests.setMirror .run).judge .positionDisagree false = z at *
  have hcall : Does 4276224 z z.callLinkDown := State.callLinkDown_does (Does.refl _ z) rfl
  obtain ⟨hidle, hem⟩ := callLinkDown_icm z
  have hcslk : z.callLinkDown.slk = s.slk.down := hcall.slk_eq.trans (hzslk.trans hslk)
  have hcctr : z.callLinkDown.ctr = (s.setSlk s.slk.down).failRequests.ctr := hcall.ctr_eq.trans hzctr
  have hclen : z.callLinkDown.stc.records.length = 48 := by rw [hcall.stc_eq, hzlen]
  have hccond : ∀ d, z.callLinkDown.condition d = z.condition d := condition_of_stc hcall.stc_eq
  obtain ⟨hvslk, hvicm, hvctr, hvlost, hvcond⟩ := linkLostIf_spec hclen (s.slk.link = .up)
  generalize (if s.slk.link = .up then z.callLinkDown.linkLost else z.callLinkDown) = v at *
  have hx := takeReport_of_down (s := v) (by rw [hvslk, hcslk]; simp [Slk.down]) (by rw [hvicm, hem])
  refine ⟨?_, ?_, ?_, ?_, ?_, fun hup => ?_, fun t r => ?_, hrestart, hroom⟩
  · rw [hx.slk, hvslk, hcslk]
    rfl
  · rw [hx.icm, hvicm, hidle]
  · rw [hx.icm, hvicm, hem]
  · rw [takeReport_condition, hvcond _ (by decide), hccond, hzm]
  · rw [takeReport_condition, hvcond _ (by decide), hccond, hzc]
  · rw [takeReport_condition, hvlost hup]
  · have h : v.takeReport.ctr.rest.reconcile = v.ctr.rest.reconcile := by rw [takeReport_track]
    rw [show v.takeReport.ctr.reconcile = v.ctr.reconcile from h, hvctr, hcctr]
    exact hrec t r

theorem enterDown_quiet (s : State) : s.enterDown.stc.gathered = [] := takeReport_quiet _

/-! ## The silence timer and LINK_RESTART (O43) -/

/-- What the end of the command leaves of it, beside the answer `p` of a request. -/
theorem LinkIsDown.settle {s x y w : State} {p : Prop} (hp : p) (h : LinkIsDown x y) (hx : x.slk = s.slk) (hslk : w.slk = y.slk)
    (hicm : w.icm = y.icm) (hstc : w.stc = y.stc) (hctr : w.ctr = y.ctr) (hg : y.stc.gathered = [])
    (hr : w.tst.restart = s.tst.restart) :
    let u := w.settle s
    u.slk.link = .down ∧ u.slk.silence = none ∧ u.slk.requests = [] ∧
      u.slk.txAnswered = [] ∧ u.slk.txVoice = [] ∧ u.slk.rxAnswered = [] ∧
      u.slk.rxUnanswered = s.slk.rxUnanswered.filter LinkFrame.isHandover ∧
      u.slk.txUnanswered = s.slk.txUnanswered.filter LinkFrame.isHandover ∧ u.slk.stale = true ∧
      u.icm.call = .idle ∧ u.icm.emergencyOpen = false ∧ u.condition .summitStop = false ∧
      u.condition .positionDisagree = false ∧ (∀ t r, u.ctr.reconcile ≠ .querying t r) ∧
      (s.slk.link = .up → u.condition .linkLost = true ∧ u.slk.linkLosses = satInc s.slk.linkLosses) ∧ p := by
  have hq : w.quiet := by rw [State.quiet, hstc, hg]
  have hr' := wasReset_of_restart hr
  have hwslk := hslk.trans h.slk
  have hlink : w.slk.link ≠ .up := by rw [hwslk]; simp [Slk.down]
  obtain ⟨a, b, c, d, f, n, q, htr, htx, hreq⟩ := transmit_slk w
  obtain ⟨hb, hc, hd⟩ := htx hlink
  have hq' : q = [] := hreq (by rw [hwslk]; rfl)
  subst hb hc hd hq'
  have hcond : ∀ e, (w.settle s).condition e = y.condition e := fun e => by
    rw [settle_condition, condition_of_stc hstc]
  have huslk := (settle_slk_of_quiet hq hr').trans htr
  have huicm : (w.settle s).icm = y.icm := (settle_icm_of_quiet hq hr').trans hicm
  have huctr : (w.settle s).ctr = y.ctr := (settle_ctr_of_quiet hq hr').trans hctr
  dsimp only
  rw [huslk, huicm, hcond, hcond, hcond, huctr, hwslk, ← hx]
  exact ⟨rfl, rfl, rfl, rfl, rfl, rfl, rfl, rfl, rfl, h.call, h.emergency, h.mirror, h.compare, h.reconcile,
    fun hup => ⟨h.lost hup, if_pos hup⟩, hp⟩

/-- Settles O43: both commands end in `State.enterDown`. -/
theorem linkEntersDown : Obligations.LinkEntersDown := by
  rintro s c e rest (⟨rfl, hfires⟩ | ⟨rfl, hreq, hdown, hroom⟩) hs
  · have h := enterDown_spec hs
    refine ⟨s.enterDown.settle s, ?_, ?_⟩
    · rw [show exec .silenceExpiry s = execSilenceExpiry s from rfl, execSilenceExpiry, expiry_running hfires]
    · exact LinkIsDown.settle (by nofun) h rfl rfl rfl rfl rfl (enterDown_quiet s) h.restart
  · have hslk := takeHead_slk s rest
    have h := enterDown_spec (s := s.takeHead rest) (by simpa using hs)
    generalize hy : (s.takeHead rest).enterDown = y at h
    have hyq : y.stc.gathered = [] := hy ▸ enterDown_quiet _
    refine ⟨((y.answer .ok).give e.frame).settle s, ?_, ?_⟩
    · rw [show exec .linkRestart s = execLinkRestart s from rfl, execLinkRestart, manage_running hreq, State.restartLink,
        if_neg (by rwa [hslk]), hy]
    · exact LinkIsDown.settle (fun _ => give_replied e.frame s (h.room (by simpa using hroom))) h hslk
        (by rw [Answer.give, reply_slk]; rfl) (by rw [Answer.give, reply_icm]; rfl)
        (by rw [Answer.give, reply_stc]; rfl) (by rw [Answer.give, reply_ctr]; rfl) hyq
        (by rw [Answer.give, reply_restart]; exact h.restart.trans (by simp))

end Sys2Proof.Machine
end

section
/-!
PROOFS. The summit link: what a SAFETY frame brings (chapter 7).
-/

namespace Sys2Proof.Machine

/-! ## What of the link the actions on a SAFETY frame keep -/

/-- The link state, its timers and the stored contents are the same in two states. -/
structure SameLink (s t : State) : Prop where
  link : t.slk.link = s.slk.link
  acq : t.slk.acq = s.slk.acq
  silence : t.slk.silence = s.slk.silence
  lastSafety : t.slk.lastSafety = s.slk.lastSafety
  stale : t.slk.stale = s.slk.stale
  summit : t.slk.summit = s.slk.summit

theorem sameLink_of_slk {s t : State} (h : t.slk = s.slk) : SameLink s t := by
  constructor <;> rw [h]

theorem SameLink.trans {s t u : State} (h1 : SameLink s t) (h2 : SameLink t u) : SameLink s u :=
  ⟨h2.link.trans h1.link, h2.acq.trans h1.acq, h2.silence.trans h1.silence, h2.lastSafety.trans h1.lastSafety,
    h2.stale.trans h1.stale, h2.summit.trans h1.summit⟩

/-- A change of the UNANSWERED transmit queue alone. -/
theorem sameLink_of_tx {s t : State} (h : ∃ q, t.slk = { s.slk with txUnanswered := q }) : SameLink s t := by
  obtain ⟨q, h⟩ := h
  constructor <;> rw [h]

theorem sendCallFrame_slk (s : State) (f : CallFrame) :
    ∃ q, (s.sendCallFrame f).slk = { s.slk with txUnanswered := q } := by
  unfold State.sendCallFrame
  split
  · exact ⟨_, rfl⟩
  · exact ⟨s.slk.txUnanswered, by rw [report_slk]; rfl⟩

theorem enterTalk_slk (s : State) (b : Bool) (r : CallReason) (d : Nat) : (s.enterTalk b r d).slk = s.slk :=
  (State.enterTalk_does (m := 4276224) b r d (Does.refl _ s) rfl).slk_eq

theorem setCall_slk (s : State) (c : CallState) (b : Bool) (r : CallReason) (d : Nat) : (s.setCall c b r d).slk = s.slk :=
  (setCall_does' s c b r d).slk_eq

theorem judgeEmergency_slk (s : State) : ∃ q, s.judgeEmergency.slk = { s.slk with txUnanswered := q } := by
  unfold State.judgeEmergency
  repeat' split
  · exact ⟨_, rfl⟩
  · exact ⟨_, setCall_slk ..⟩
  · obtain ⟨q, h⟩ := sendCallFrame_slk (s.enterTalk true .emergency 0) .accept
    exact ⟨q, by rw [h, enterTalk_slk]⟩
  · exact ⟨_, enterTalk_slk ..⟩
  · exact ⟨_, setCall_slk ..⟩
  · exact ⟨_, rfl⟩

theorem formOutput_slk (s : State) (rs : List Riser) : ∃ q, (s.formOutput rs).slk = { s.slk with txUnanswered := q } := by
  unfold State.formOutput State.tellOutput
  dsimp only
  split
  · exact ⟨_, rfl⟩
  · have hreport : ((s.setOutput (highestStanding s.stc.records) (s.riser rs)).reportOutput s.stc.output (s.riser rs)).slk =
        s.slk := by rw [State.reportOutput, report_slk]; rfl
    generalize (s.setOutput _ _).reportOutput _ _ = y at hreport
    have hw : (if y.launchHeld then y.withdrawRelease false else y).slk = s.slk := by
      split
      · exact (State.withdrawRelease_does (m := 4260368) false (Does.refl _ y) rfl).slk_eq.trans hreport
      · exact hreport
    obtain ⟨q, h⟩ := judgeEmergency_slk (if y.launchHeld then y.withdrawRelease false else y)
    exact ⟨q, by rw [h, hw]⟩

theorem takeTogether_slk (s : State) (xs : List CauseReport) :
    ∃ q, (s.takeTogether xs).slk = { s.slk with txUnanswered := q } := by
  have hcond : (xs.foldl State.takeCondition s).slk = s.slk := by
    refine List.foldlRecOn (motive := fun x => x.slk = s.slk) xs State.takeCondition rfl fun y hy x _ => ?_
    exact (State.takeCondition_does (m := 4292608) x (Does.refl _ y) rfl).slk_eq.trans hy
  obtain ⟨q, h⟩ := formOutput_slk (xs.foldl State.takeCondition s) (risersOf xs)
  exact ⟨q, by rw [State.takeTogether, h, hcond]⟩

/-- STC's report reaches SLK through the CALL frame of an emergency alone. -/
theorem takeReport_slk (s : State) : ∃ q, s.takeReport.slk = { s.slk with txUnanswered := q } := by
  unfold State.takeReport
  split
  · exact ⟨_, rfl⟩
  · have hclear : ∃ q, s.clearGathered.slk = { s.slk with txUnanswered := q } := ⟨_, rfl⟩
    refine List.foldlRecOn (motive := fun x => ∃ q, x.slk = { s.slk with txUnanswered := q }) _ State.takeTogether
      hclear fun y hy x _ => ?_
    obtain ⟨q, hq⟩ := hy
    obtain ⟨q', h⟩ := takeTogether_slk y x
    exact ⟨q', by rw [h, hq]⟩

theorem judgeEmergency_sameLink (s : State) : SameLink s s.judgeEmergency := sameLink_of_tx (judgeEmergency_slk s)

theorem takeReport_sameLink (s : State) : SameLink s s.takeReport := sameLink_of_tx (takeReport_slk s)

theorem transmit_sameLink (s : State) : SameLink s s.transmit := by
  obtain ⟨a, b, c, d, x, n, q, h, -, -⟩ := transmit_slk s
  constructor <;> rw [h]

theorem settle_sameLink {s b : State} (hr : wasReset b s = false) : SameLink s (s.settle b) := by
  unfold State.settle
  rw [if_neg (by simp [hr])]
  refine ((takeReport_sameLink s).trans (transmit_sameLink _)).trans (sameLink_of_slk ?_)
  rw [countChanges_slk, staleIf_slk]

theorem failReconcile_sameLink (s : State) : SameLink s s.failReconcile := by
  unfold State.failReconcile
  dsimp only
  split <;> exact ⟨rfl, rfl, rfl, rfl, rfl, rfl⟩

theorem startReconcile_sameLink (s : State) : SameLink s s.startReconcile := by
  unfold State.startReconcile State.issueQuery
  dsimp only
  repeat' split
  · exact sameLink_of_slk rfl
  · exact ⟨rfl, rfl, rfl, rfl, rfl, rfl⟩
  · exact SameLink.trans (t := s.setReconcile .idle) (sameLink_of_slk rfl) (failReconcile_sameLink _)
  · exact SameLink.trans (t := s.setReconcile .idle) (sameLink_of_slk rfl) (failReconcile_sameLink _)

/-- The compare concerns its own counters and its own cause. -/
theorem comparePosition_keeps (s : State) (c : SummitContents) {d : Cause} (hd : Cause.positionDisagree ≠ d) :
    SameLink s (s.comparePosition c) ∧ SameCause d s (s.comparePosition c) := by
  have hskip : SameLink s (s.setSlk { s.slk with skippedCompares := satInc s.slk.skippedCompares }) :=
    ⟨rfl, rfl, rfl, rfl, rfl, rfl⟩
  unfold State.comparePosition
  repeat' split
  · exact ⟨hskip, sameCause_of_stc rfl⟩
  · unfold State.makeCompare
    have hfail : SameLink s (s.setSlk { s.slk with compareFailures := satInc s.slk.compareFailures }) :=
      ⟨rfl, rfl, rfl, rfl, rfl, rfl⟩
    have hfail' : SameCause d s (s.setSlk { s.slk with compareFailures := satInc s.slk.compareFailures }) :=
      sameCause_of_stc rfl
    dsimp only
    generalize s.setSlk { s.slk with compareFailures := satInc s.slk.compareFailures } = x at *
    have hx := hfail'.trans (judge_sameCause x true none hd)
    repeat' split
    · exact ⟨hfail.trans (sameLink_of_slk (judge_slk ..)), hx⟩
    · exact ⟨hfail.trans (sameLink_of_slk (by rw [report_slk, judge_slk])), hx.trans (sameCause_of_stc (report_stc ..))⟩
    · exact ⟨sameLink_of_slk (judge_slk ..), judge_sameCause _ _ _ hd⟩
  · exact ⟨hskip, sameCause_of_stc rfl⟩

/-! ## The mirror cause (R138, R162) -/

/-- The mirror's record follows the summit's category, from a record that agrees with its condition or not. -/
structure Mirrors (s : State) (c : Category) (r : CauseRecord) : Prop where
  category : c ≠ .run → r.category = c
  state : (s.cause .summitStop).state = (if s.condition .summitStop then .active else .inactive) →
    r.state = if c = .run then .inactive else .active

theorem take_mirror (r : CauseRecord) (c : Category) (n : Ms) :
    (c ≠ .run → (r.take (.mirror c) n).category = c ∧ (r.take (.mirror c) n).state = .active) ∧
      (r.state = .active → (r.take (.mirror .run) n).state = .inactive) := by
  refine ⟨fun hc => ?_, fun hr => ?_⟩
  · cases c with
    | run => exact absurd rfl hc
    | _ =>
      simp only [CauseRecord.take]
      repeat' split
      all_goals simp_all
  · simp [CauseRecord.take, hr]

/-- The one report of the mirror, taken. -/
theorem setMirror_mirrors {s : State} (hs : s.stc.records.length = 48)
    (hg : (s.stc.gathered.filter fun x => x.cause = .summitStop) = []) (c : Category) (n : Ms) :
    let xs := (s.setMirror c).stc.gathered.filter fun x => x.cause = .summitStop
    xs.length ≤ 1 ∧ Mirrors s c (xs.foldl (fun r x => r.take x.change n) ((s.setMirror c).cause .summitStop)) := by
  unfold State.setMirror
  split
  · rename_i h
    obtain ⟨h1, h2⟩ := Bool.and_eq_true_iff.mp h
    have hcond : (s.condition .summitStop = true) = (c ≠ .run) := of_decide_eq_true h1
    have hcat : c = .run ∨ (s.cause .summitStop).category = c := by simpa using h2
    rw [hg]
    refine ⟨Nat.zero_le _, fun hc => hcat.resolve_left hc, fun hstate => ?_⟩
    rw [List.foldl_nil, hstate]
    simp only [hcond]
    by_cases hc : c = .run <;> simp [hc]
  · rename_i h
    have hfilter : (((s.holdCondition .summitStop (c ≠ .run)).gather { cause := .summitStop, change := .mirror c }).stc.gathered.filter
        fun x => x.cause = .summitStop) = [{ cause := .summitStop, change := .mirror c }] := by
      simp only [State.gather, State.holdCondition, State.setStc_stc, List.filter_append, hg]
      rfl
    have hrec : ((s.holdCondition .summitStop (c ≠ .run)).gather { cause := .summitStop, change := .mirror c }).cause
        .summitStop = { s.cause .summitStop with present := decide (c ≠ .run) } := by
      simp [State.cause, State.gather, State.holdCondition, List.getD, hs, Cause.num_lt]
    dsimp only
    rw [hfilter, hrec]
    refine ⟨Nat.le_refl _, ?_⟩
    simp only [List.foldl_cons, List.foldl_nil]
    obtain ⟨htake, hrun⟩ := take_mirror { s.cause .summitStop with present := decide (c ≠ .run) } c n
    refine ⟨fun hc => (htake hc).1, fun hstate => ?_⟩
    by_cases hc : c = .run
    · rw [if_pos hc]
      subst hc
      refine hrun ?_
      have hpresent : s.condition .summitStop = true := by
        cases hp : s.condition .summitStop with
        | true => rfl
        | false => simp [hp] at h
      simpa [hpresent] using hstate
    · rw [if_neg hc]
      exact (htake hc).2

/-- The record of a cause after STC has taken at most one report of it. -/
theorem takeReport_cause_filter {s : State} {c : Cause} (hs : s.stc.records.length = 48)
    (h : (s.stc.gathered.filter fun x => x.cause = c).length ≤ 1) :
    s.takeReport.cause c =
      (s.stc.gathered.filter fun x => x.cause = c).foldl (fun r x => r.take x.change s.now) (s.cause c) := by
  have hr : wasReset s s = false := wasReset_of_restart rfl
  rw [← settle_cause_filter (b := s) hs hr h]
  have hstc : (s.settle s).stc = s.takeReport.stc := by
    unfold State.settle
    rw [if_neg (by simp [hr])]
    simp
  simp only [State.cause, hstc]

/-! ## The actions on a SAFETY frame in UP -/

/-- What a SAFETY frame in UP leaves: the link as it is, and the mirror. -/
structure ActedOn (s : State) (c : Category) (t : State) : Prop where
  link : SameLink s t
  gathered : t.stc.gathered = []
  condition : ∀ d, Cause.positionDisagree ≠ d → t.condition d = (s.setMirror c).condition d
  mirrors : Mirrors s c (t.cause .summitStop)

theorem superviseSummit_keeps (s : State) (c : CallState) :
    (s.superviseSummit c).slk = s.slk ∧ (s.superviseSummit c).stc = s.stc := by
  have h : Does 4276224 s (s.superviseSummit c) := State.superviseSummit_does c (Does.refl _ s) rfl
  exact ⟨h.slk_eq, h.stc_eq⟩

theorem actOnSafety_spec {s : State} (hs : s.stc.records.length = 48)
    (hg : (s.stc.gathered.filter fun x => x.cause = .summitStop) = []) (c : SummitContents) :
    ActedOn s c.category (s.actOnSafety c) := by
  have hm : Does 32768 s (s.setMirror c.category) := State.setMirror_does _ (Does.refl _ s) rfl
  have hmlen : (s.setMirror c.category).stc.records.length = 48 := by rw [setMirror_records_length, hs]
  have hmirror := setMirror_mirrors hs hg c.category
  rw [State.actOnSafety]
  generalize hy : s.setMirror c.category = y at *
  obtain ⟨hlink, hcause⟩ := comparePosition_keeps y c (d := .summitStop) (by decide)
  have hcond : ∀ d, Cause.positionDisagree ≠ d → (y.comparePosition c).condition d = y.condition d := fun d hd => by
    rw [State.condition, (comparePosition_keeps y c hd).2.cause]
    rfl
  generalize y.comparePosition c = z at *
  have hreport : z.takeReport.cause .summitStop = _ := takeReport_cause_filter (by rw [hcause.length, hmlen])
    (by rw [hcause.gathered]; exact (hmirror 0).1)
  have hquiet : z.takeReport.stc.gathered = [] := takeReport_quiet z
  have htcond := takeReport_condition z
  have htlink := takeReport_sameLink z
  generalize z.takeReport = w at *
  obtain ⟨hvslk, hvstc⟩ := superviseSummit_keeps w.judgeEmergency c.call
  have hstc : (w.judgeEmergency.superviseSummit c.call).stc = w.stc := hvstc.trans (judgeEmergency_keeps w).2.2
  refine ⟨?_, by rw [hstc, hquiet], fun d hd => ?_, ?_⟩
  · exact ((((sameLink_of_slk hm.slk_eq).trans hlink).trans htlink).trans (judgeEmergency_sameLink w)).trans
      (sameLink_of_slk hvslk)
  · rw [condition_of_stc hstc, htcond, hcond d hd, hy]
  · have h : (w.judgeEmergency.superviseSummit c.call).cause .summitStop = w.cause .summitStop := by
      simp only [State.cause, hstc]
    rw [h, hreport, hcause.gathered, hcause.cause]
    exact (hmirror _).2

theorem Mirrors.congr {s t : State} {c : Category} {r : CauseRecord} (h : Mirrors t c r)
    (ht : t.cause .summitStop = s.cause .summitStop) : Mirrors s c r :=
  ⟨h.category, by rw [← ht, ← show t.condition .summitStop = s.condition .summitStop by rw [State.condition, ht]; rfl]; exact h.state⟩

/-- What a SAFETY frame leaves at a state `x` with the link and the contents stored as `y`. -/
structure SafetyTaken (x y t : State) (c : Category) : Prop where
  link : SameLink y t
  gathered : t.stc.gathered = []
  present : y.slk.link = .up → (t.condition .summitStop = true ↔ c ≠ .run)
  mirrors : y.slk.link = .up → Mirrors x c (t.cause .summitStop)
  linkLost : y.slk.link = .up → x.slk.link ≠ .up → t.condition .linkLost = false

theorem linkSafety_stc (s : State) (c : SummitContents) : (s.linkSafety.storeSummit c).stc = s.stc := by
  unfold State.linkSafety
  dsimp only
  split <;> rfl

theorem startReconcile_stc (s : State) : s.startReconcile.stc = s.stc :=
  (State.startReconcile_does (m := 9216) (Does.refl _ s) rfl).stc_eq

theorem takeSafety_spec {x : State} (hs : x.stc.records.length = 48) (hg : x.stc.gathered = []) (c : SummitContents) :
    SafetyTaken x (x.linkSafety.storeSummit c) (x.takeSafety c) c.category := by
  have hstc := linkSafety_stc x c
  rw [State.takeSafety]
  generalize x.linkSafety.storeSummit c = y at *
  have hylen : y.stc.records.length = 48 := by rw [hstc, hs]
  have hyg : y.stc.gathered = [] := by rw [hstc, hg]
  have hycause : y.cause .summitStop = x.cause .summitStop := by simp only [State.cause, hstc]
  split
  · rename_i hup
    split
    · rename_i hwas
      have h := actOnSafety_spec hylen (by rw [hyg]; rfl) c
      refine ⟨h.link, h.gathered, fun _ => ?_, fun _ => h.mirrors.congr hycause, fun _ hnot => absurd hwas hnot⟩
      rw [h.condition _ (by decide), setMirror_condition hylen, if_pos rfl, decide_eq_true_iff]
    · have hup' : SameCause .summitStop y y.enterUp := judge_sameCause y false none (by decide)
      have hlen : y.enterUp.stc.records.length = 48 := by rw [hup'.length, hylen]
      have h := actOnSafety_spec hlen (by rw [hup'.gathered, hyg]; rfl) c
      have hstart := startReconcile_stc (y.enterUp.actOnSafety c)
      refine ⟨?_, by rw [hstart, h.gathered], fun _ => ?_, fun _ => ?_, fun _ _ => ?_⟩
      · exact ((sameLink_of_slk (judge_slk ..)).trans h.link).trans (startReconcile_sameLink _)
      · rw [condition_of_stc hstart, h.condition _ (by decide), setMirror_condition hlen, if_pos rfl, decide_eq_true_iff]
      · have hc : (y.enterUp.actOnSafety c).startReconcile.cause .summitStop = (y.enterUp.actOnSafety c).cause .summitStop := by
          simp only [State.cause, hstart]
        rw [hc]
        exact (h.mirrors.congr hup'.cause).congr hycause
      · rw [condition_of_stc hstart, h.condition _ (by decide), setMirror_condition hlen, if_neg (by decide),
          State.enterUp, judge_condition hylen, if_pos rfl]
  · rename_i hnot
    exact ⟨sameLink_of_slk rfl, hyg, fun h => absurd h hnot, fun h => absurd h hnot, fun h => absurd h hnot⟩

/-! ## The link state rule (R132) -/

theorem linkSafety_link (s : State) (c : SummitContents) :
    let y := s.linkSafety.storeSummit c
    y.slk.silence = s.slk.silence ∧ y.slk.lastSafety = some s.now ∧ y.slk.stale = false ∧ y.slk.summit = some c ∧
      (s.slk.link = .down → y.slk.link = .acquiring ∧ y.slk.acq = 1) ∧
      (s.slk.link = .acquiring →
        y.slk.link = (if s.nextAcq = 3 then .up else .acquiring) ∧ y.slk.acq = s.nextAcq) ∧
      (s.slk.link = .up → y.slk.link = .up) := by
  cases hl : s.slk.link with
  | down =>
    simp only [State.linkSafety, hl]
    exact ⟨rfl, rfl, rfl, rfl, fun _ => ⟨rfl, rfl⟩, nofun, nofun⟩
  | acquiring =>
    simp only [State.linkSafety, hl]
    exact ⟨rfl, rfl, rfl, rfl, nofun, fun _ => ⟨rfl, rfl⟩, nofun⟩
  | up =>
    simp only [State.linkSafety, hl]
    exact ⟨rfl, rfl, rfl, rfl, nofun, nofun, fun _ => rfl⟩

theorem nextAcq_eq (s : State) :
    s.nextAcq = if s.slk.acq = 0 ∨ (∀ t, s.slk.lastSafety = some t → 200 < s.since t) then 1 else s.slk.acq + 1 := by
  have h : s.safetyRecent = false ↔ ∀ t, s.slk.lastSafety = some t → 200 < s.since t := by
    unfold State.safetyRecent
    cases s.slk.lastSafety with
    | none => simp
    | some t => simp
  unfold State.nextAcq
  by_cases ha : s.slk.acq = 0
  · simp [ha]
  · simp [ha, ← h]

/-- Settles O42: the frame's actions keep what the link state rule and the contents stored have made. -/
theorem safetyFramesBringTheLinkUp : Obligations.SafetyFramesBringTheLinkUp := by
  intro s bytes n hheld hsafe hm hs hg hn
  have hexec : exec (.linkSafetyFrame bytes) s = .next
      (((s.takeValid bytes).takeSafety (summitContentsOf (linkFrameOf bytes).payload s.now)).settle s) := by
    rw [show exec (.linkSafetyFrame bytes) s = execLinkSafetyFrame bytes s from rfl, execLinkSafetyFrame, receive,
      if_pos hsafe, whole_running hheld, State.takeSafetyFrame]
    simp [hm]
  have hn' : (s.takeValid bytes).nextAcq = n := (nextAcq_eq (s.takeValid bytes)).trans hn.symm
  obtain ⟨hsil, hlast, hstale, hsum, hdown, hacq, hup⟩ :=
    linkSafety_link (s.takeValid bytes) (summitContentsOf (linkFrameOf bytes).payload s.now)
  have ht := takeSafety_spec (x := s.takeValid bytes) hs hg (summitContentsOf (linkFrameOf bytes).payload s.now)
  have hdoes : Does 4318736 s ((s.takeValid bytes).takeSafety (summitContentsOf (linkFrameOf bytes).payload s.now)) :=
    State.takeSafety_does _ (State.takeValid_does bytes (Does.refl _ s) rfl) rfl
  rw [hn'] at hacq
  generalize (s.takeValid bytes).linkSafety.storeSummit _ = y at *
  generalize (s.takeValid bytes).takeSafety _ = t at *
  have hr : wasReset s t = false := wasReset_of_restart hdoes.restart_eq
  have hl := ht.link.trans (settle_sameLink (b := s) hr)
  refine ⟨_, hexec, ?_, ?_, ?_, ?_, fun h => ?_, fun h hne => ?_, fun h heq => ?_, fun h => ?_, fun h => ?_⟩
  · rw [hl.silence, hsil]
    rfl
  · rw [hl.lastSafety, hlast]
    rfl
  · rw [hl.stale, hstale]
  · rw [hl.summit, hsum]
  · rw [hl.link, hl.acq]
    exact hdown h
  · rw [hl.link, hl.acq]
    obtain ⟨h1, h2⟩ := hacq h
    exact ⟨by rw [h1, if_neg hne], h2⟩
  · have h1 : y.slk.link = .up := by rw [(hacq h).1, if_pos heq]
    refine ⟨by rw [hl.link, h1], ?_⟩
    rw [settle_condition]
    exact ht.linkLost h1 (by rw [show (s.takeValid bytes).slk.link = s.slk.link from rfl, h]; decide)
  · rw [hl.link]
    exact hup h
  · rw [hl.link] at h
    rw [settle_condition, settle_cause_of_quiet ht.gathered hr]
    exact ⟨ht.present h, (ht.mirrors h).category, (ht.mirrors h).state⟩

end Sys2Proof.Machine
end

section
/-!
PROOFS. The stop chain: the emergency-stop loop and RESET_CAUSES (chapter 9).
-/

namespace Sys2Proof.Machine

/-! ## The chain at the end of a command -/

theorem settle_stc {s b : State} (hr : wasReset b s = false) : (s.settle b).stc = s.takeReport.stc := by
  unfold State.settle
  rw [if_neg (by simp [hr])]
  simp

theorem takeReport_of_single {s : State} {x : CauseReport} (hg : s.stc.gathered = [x]) :
    s.takeReport = s.clearGathered.takeTogether [x] := by
  unfold State.takeReport
  rw [hg]
  rfl

theorem judge_of_change {s : State} {c : Cause} {b : Bool} (h : s.condition c ≠ b) :
    s.judge c b = (s.holdCondition c b).gather { cause := c, change := if b then .raised none else .cleared } := by
  rw [State.judge, if_neg h]

/-- A change of a condition with nothing gathered is the one report of the command. -/
theorem judge_gathers {s : State} {c : Cause} {b : Bool} (hg : s.stc.gathered = []) (h : s.condition c ≠ b) :
    (s.judge c b).stc.gathered = [{ cause := c, change := if b then .raised none else .cleared }] := by
  rw [judge_of_change h]
  simp [State.gather, State.holdCondition, hg]

theorem judge_cause_self {s : State} {c : Cause} {b : Bool} (hs : s.stc.records.length = 48) (h : s.condition c ≠ b) :
    (s.judge c b).cause c = { s.cause c with present := b } := by
  rw [judge_of_change h]
  simp [State.cause, State.gather, State.holdCondition, List.getD, hs, Cause.num_lt]

/-- With the loop open, its cause ACTIVE at EMERGENCY_STOP, that is the output. -/
theorem output_of_estop {rs : List CauseRecord} {r : CauseRecord} (hr : r ∈ rs) (hs : r.state ≠ .inactive)
    (hc : r.category = .emergencyStop) : highestStanding rs = .emergencyStop := by
  have h := le_highestStanding hr hs
  rw [hc] at h
  generalize highestStanding rs = c at h
  cases c
  · exact absurd h (by decide)
  · exact absurd h (by decide)
  · exact absurd h (by decide)
  · rfl

theorem cause_mem {s : State} (hs : s.stc.records.length = 48) (c : Cause) : s.cause c ∈ s.stc.records := by
  rw [State.cause, List.getD_eq_getElem _ _ (by rw [hs]; exact c.num_lt)]
  exact List.getElem_mem _

/-- A rise to an output that holds launching withdraws a release that is not sent (R164). -/
theorem formOutput_withdraws {s : State} {rs : List Riser} (hc : highestStanding s.stc.records ≠ s.stc.output)
    (hh : (highestStanding s.stc.records).atLeast .holdLaunch = true) (hu : s.unsent) :
    (s.formOutput rs).lgt.pending = none := by
  unfold State.formOutput
  dsimp only
  rw [if_neg hc]
  have hlgt : ((s.setOutput (highestStanding s.stc.records) (s.riser rs)).reportOutput s.stc.output (s.riser rs)).lgt =
      s.lgt := by rw [State.reportOutput, report_lgt]; rfl
  have hheld : ((s.setOutput (highestStanding s.stc.records) (s.riser rs)).reportOutput s.stc.output (s.riser rs)).launchHeld =
      true := by
    rw [State.launchHeld, State.reportOutput, report_stc]
    exact hh
  generalize (s.setOutput _ _).reportOutput _ _ = y at *
  rw [State.tellOutput, if_pos hheld, (judgeEmergency_keeps _).1]
  exact withdrawRelease_pending_of_unsent (by simpa [State.unsent, hlgt] using hu) false

/-! ## The emergency-stop loop (O49) -/

theorem exec_estopInChange {level : LoopLevel} {s : State} (h : s.pins.held = false) :
    exec (.estopInChange level) s = .next (((s.setLoop level).judge .estopLoop (level = .loopOpen)).settle s) := by
  rw [show exec (.estopInChange level) s = execEstopInChange level s from rfl, execEstopInChange, if_neg (by simp [h]),
    whole_running h]

/-- The output and the permits at the end of a command with one report. -/
theorem settle_output_of_single {s b : State} {x : CauseReport} (hg : s.stc.gathered = [x]) (hr : wasReset b s = false)
    (hp : s.stc.permitsAgree) :
    (s.settle b).stc.output = highestStanding (s.settle b).stc.records ∧ (s.settle b).stc.permitsAgree := by
  rw [settle_stc hr, takeReport_of_single hg]
  obtain ⟨h1, h2, h3⟩ := takeTogether_output s.clearGathered [x]
  exact ⟨by rw [h1, h2], h3 hp⟩

theorem judge_permitsAgree {s : State} (h : s.stc.permitsAgree) (c : Cause) (b : Bool) (i : Option Nat) :
    (s.judge c b i).stc.permitsAgree := by
  unfold State.judge
  split
  · exact h
  · exact h

theorem Inv_parts {s : State} (h : s.Inv) (hheld : s.pins.held = false) :
    s.stc.records.length = 48 ∧ s.stc.permitsAgree ∧ s.stc.gathered = [] := by
  obtain ⟨hb, hp, hg⟩ := h
  obtain ⟨-, -, -, -, -, hstc, -⟩ := hb
  exact ⟨hstc.1, by simpa [State.permitsRight, hheld] using hp, hg⟩

/-- A report that raises the output to a category that holds launching withdraws a release that is not sent (R164). -/
theorem settle_withdraws_of_single {s b : State} {x : CauseReport} (hg : s.stc.gathered = [x])
    (hr : wasReset b s = false) (hc : highestStanding (s.settle b).stc.records ≠ s.stc.output)
    (hh : (highestStanding (s.settle b).stc.records).atLeast .holdLaunch = true) (hu : s.unsent) :
    (s.settle b).lgt.pending = none := by
  have hrec : (s.settle b).stc.records = ([x].foldl State.takeCondition s.clearGathered).stc.records := by
    rw [settle_stc hr, takeReport_of_single hg, State.takeTogether, formOutput_records]
  have hlgt := foldl_takeCondition_lgt [x] s.clearGathered
  have hout := foldl_takeCondition_control [x] s.clearGathered
  rw [hrec] at hc hh
  rw [(settle_lgt_eq s b hr).1, takeReport_of_single hg, State.takeTogether]
  refine formOutput_withdraws ?_ hh ?_
  · rw [hout.2]
    exact hc
  · rw [State.unsent, hlgt.1]
    exact hu

theorem take_cleared_state {r : CauseRecord} (h : r.state = .active) (n : Ms) : (r.take .cleared n).state = .latched := by
  simp [CauseRecord.take, h]

/-- Settles O49: the level is judged at its event, and the output formed from the record made ACTIVE. -/
theorem estopOpeningWithdrawsBothPermits : Obligations.EstopOpeningWithdrawsBothPermits := by
  intro s hinv
  refine ⟨fun hheld hcat hcond => ?_, fun hheld hcond hact => ?_, fun level hheld => ?_⟩
  · obtain ⟨hs, hp, hg⟩ := Inv_parts hinv hheld
    have hne : (s.setLoop .loopOpen).condition .estopLoop ≠ true := by
      rw [show (s.setLoop .loopOpen).condition .estopLoop = false from hcond]
      decide
    have hgx := judge_gathers (s := s.setLoop .loopOpen) hg hne
    have hself := judge_cause_self (s := s.setLoop .loopOpen) hs hne
    have hpx := judge_permitsAgree (s := s.setLoop .loopOpen) hp .estopLoop true none
    have hlen : ((s.setLoop .loopOpen).judge .estopLoop true).stc.records.length = 48 := by
      rw [judge_records_length]
      exact hs
    have hpins : ((s.setLoop .loopOpen).judge .estopLoop true).pins = { s.pins with loop := .loopOpen } := judge_pins ..
    have hlgt : ((s.setLoop .loopOpen).judge .estopLoop true).lgt = s.lgt := judge_lgt ..
    have hout : ((s.setLoop .loopOpen).judge .estopLoop true).stc.output = s.stc.output := judge_output ..
    have hr : wasReset s ((s.setLoop .loopOpen).judge .estopLoop true) = false :=
      wasReset_of_restart (judge_restart ..)
    refine ⟨_, exec_estopInChange hheld, ?_⟩
    rw [show decide (LoopLevel.loopOpen = .loopOpen) = true from rfl]
    generalize (s.setLoop .loopOpen).judge .estopLoop true = y at *
    have hcause := settle_cause hlen hgx hr .estopLoop
    rw [if_pos rfl, hself] at hcause
    obtain ⟨hform, hperm⟩ := settle_output_of_single hgx hr hpx
    have hlen' : (y.settle s).stc.records.length = 48 := by
      rw [settle_stc hr, takeReport_of_single hgx, (takeTogether_output ..).2.1]
      exact (takeRecords_getD _ .estopLoop _ _ hlen).2
    have hstop : highestStanding (y.settle s).stc.records = .emergencyStop :=
      output_of_estop (cause_mem hlen' .estopLoop) (by rw [hcause]; exact nofun) (by rw [hcause]; exact hcat)
    rw [hstop] at hform
    obtain ⟨hservice, hemergency⟩ := hperm
    rw [hform] at hservice hemergency
    refine ⟨by rw [settle_pins, hpins], by rw [hcause]; rfl, by rw [hcause]; rfl, hform, hservice, hemergency,
      fun p hpend hq hnot => ?_⟩
    refine settle_withdraws_of_single hgx hr ?_ ?_ ?_
    · rw [hstop, hout]
      exact hnot.symm
    · rw [hstop]
      rfl
    · intro p' hp'
      rw [hlgt, hpend] at hp'
      exact Option.some.inj hp' ▸ hq
  · obtain ⟨hs, hp, hg⟩ := Inv_parts hinv hheld
    have hne : (s.setLoop .loopClosed).condition .estopLoop ≠ false := by
      rw [show (s.setLoop .loopClosed).condition .estopLoop = true from hcond]
      decide
    have hgx := judge_gathers (s := s.setLoop .loopClosed) hg hne
    have hself := judge_cause_self (s := s.setLoop .loopClosed) hs hne
    have hother : ∀ c, c ≠ .estopLoop → ((s.setLoop .loopClosed).judge .estopLoop false).cause c = s.cause c :=
      fun c hc => (judge_sameCause (s.setLoop .loopClosed) false none hc.symm).cause
    have hlen : ((s.setLoop .loopClosed).judge .estopLoop false).stc.records.length = 48 := by
      rw [judge_records_length]
      exact hs
    have hpins : ((s.setLoop .loopClosed).judge .estopLoop false).pins = { s.pins with loop := .loopClosed } :=
      judge_pins ..
    have hr : wasReset s ((s.setLoop .loopClosed).judge .estopLoop false) = false :=
      wasReset_of_restart (judge_restart ..)
    refine ⟨_, exec_estopInChange hheld, ?_⟩
    rw [show decide (LoopLevel.loopClosed = .loopOpen) = false from rfl]
    refine ⟨by rw [settle_pins, hpins], ?_, fun c hc => ?_⟩
    · rw [settle_cause hlen hgx hr, if_pos rfl, hself]
      exact take_cleared_state (r := { s.cause .estopLoop with present := false }) hact _
    · rw [settle_cause hlen hgx hr, if_neg hc, hother c hc]
  · exact exec_estopInChange_of_held hheld

/-! ## RESET_CAUSES (O50) -/

/-- A released record. -/
def CauseRecord.released (r : CauseRecord) (now : Ms) : CauseRecord :=
  { r with state := .inactive, lastTime := now, lastKind := some .released }

theorem releaseCause_stc (s : State) (c : Cause) :
    (s.releaseCause c).stc =
      { s.stc with records := s.stc.records.set c.num ((s.cause c).released s.now) } := by
  unfold State.releaseCause State.reportCauseState
  dsimp only
  split
  · rw [State.setTmb_stc, report_stc]
    rfl
  · rw [report_stc]
    rfl

theorem releaseCause_tmb (s : State) (c : Cause) :
    (s.releaseCause c).tmb = if c = .timebaseDegraded then { s.tmb with selection := .reference } else s.tmb := by
  unfold State.releaseCause State.reportCauseState
  dsimp only
  split
  · rw [State.setTmb_tmb, report_tmb]
    rfl
  · rw [report_tmb]
    rfl

theorem releaseCause_now (s : State) (c : Cause) : (s.releaseCause c).now = s.now := by
  rw [State.now, releaseCause_tmb]
  split <;> rfl

theorem releaseCause_cause {s : State} (hs : s.stc.records.length = 48) (c d : Cause) :
    (s.releaseCause c).cause d = if d = c then (s.cause d).released s.now else s.cause d := by
  rw [State.cause, releaseCause_stc]
  split
  · subst d
    simp [List.getD, hs, Cause.num_lt]
  · rename_i h
    have hn : c.num ≠ d.num := fun e => h (Cause.num_inj e).symm
    simp [List.getD, hn, State.cause]

/-- What a list of causes released leaves: their records, and beside the records only the selection of the timebase. -/
structure Released (s : State) (l : List Cause) (t : State) : Prop where
  cause : ∀ d, t.cause d = if d ∈ l then (s.cause d).released s.now else s.cause d
  length : t.stc.records.length = 48
  now : t.now = s.now
  stc : t.stc = { s.stc with records := t.stc.records }
  tmb : t.tmb = if .timebaseDegraded ∈ l then { s.tmb with selection := .reference } else s.tmb

theorem foldl_releaseCause (l : List Cause) (s : State) (hs : s.stc.records.length = 48) :
    Released s l (l.foldl State.releaseCause s) := by
  induction l generalizing s with
  | nil => exact ⟨fun d => by simp, hs, rfl, rfl, by simp⟩
  | cons c l ih =>
    have hlen : (s.releaseCause c).stc.records.length = 48 := by
      rw [releaseCause_stc]
      simpa using hs
    have h := ih (s.releaseCause c) hlen
    refine ⟨fun d => ?_, h.length, h.now.trans (releaseCause_now s c), ?_, ?_⟩
    · rw [List.foldl_cons, h.cause, releaseCause_cause hs, releaseCause_now]
      by_cases hd : d = c <;> by_cases hl : d ∈ l <;> simp [hd, hl, CauseRecord.released]
    · rw [List.foldl_cons, h.stc, releaseCause_stc]
    · rw [List.foldl_cons, h.tmb, releaseCause_tmb]
      by_cases hc : c = .timebaseDegraded <;> by_cases hl : .timebaseDegraded ∈ l <;> simp [hc, hl, eq_comm]

/-! ### The gates (R167) and the status (R168) -/

/-- A stop cause whose gate wants the rope at rest. -/
def State.wantsStop (s : State) (c : Cause) : Bool :=
  (s.cause c).category.atLeast .serviceStop && s.rpu.motion ≠ .stopped

/-- An emergency stop whose gate wants the key in MAINT. -/
def State.wantsKey (s : State) (c : Cause) : Bool := (s.cause c).category = .emergencyStop && s.pins.key ≠ .maint

/-- TIMEBASE_DEGRADED, whose gate wants a GOOD window. -/
def State.wantsReference (s : State) (c : Cause) : Bool :=
  c = Cause.timebaseDegraded && !(s.tmb.lastWindow.any fun n => 38000 ≤ n && n ≤ 42000)

/-- A cause that one of its gates keeps. -/
def State.keeps (s : State) (c : Cause) : Bool := s.wantsStop c || s.wantsKey c || s.wantsReference c

theorem referenceGood_eq (s : State) : s.referenceGood = s.tmb.lastWindow.any fun n => 38000 ≤ n && n ≤ 42000 := by
  unfold State.referenceGood
  cases s.tmb.lastWindow <;> rfl

/-- The gate that answers is the first that the cause does not meet. -/
theorem resetGate_eq (s : State) (c : Cause) :
    s.resetGate c =
      if s.wantsStop c then some .refusedMotion
      else if s.wantsKey c then some .refusedKey
      else if s.wantsReference c then some .notAllowed
      else none := by
  have hcat : s.categoryGate (s.cause c).category =
      if s.wantsStop c then some .refusedMotion else if s.wantsKey c then some .refusedKey else none := rfl
  rw [State.resetGate, hcat, referenceGood_eq, State.wantsReference]
  cases s.wantsStop c <;> cases s.wantsKey c <;> rfl

theorem resetGate_isNone (s : State) (c : Cause) : (s.resetGate c).isNone = !s.keeps c := by
  rw [resetGate_eq, State.keeps]
  cases s.wantsStop c <;> cases s.wantsKey c <;> cases s.wantsReference c <;> rfl

/-- The status is that of the first gate that keeps a cause of the list. -/
theorem resetStatus_filterMap (s : State) (l : List Cause) :
    resetStatus (l.filterMap s.resetGate) =
      if l.any s.wantsStop then .refusedMotion
      else if l.any s.wantsKey then .refusedKey
      else if l.any s.wantsReference then .notAllowed
      else .ok := by
  have hmotion : .refusedMotion ∈ l.filterMap s.resetGate ↔ l.any s.wantsStop = true := by
    simp only [List.mem_filterMap, List.any_eq_true, resetGate_eq]
    refine exists_congr fun c => and_congr_right fun _ => ?_
    cases s.wantsStop c <;> cases s.wantsKey c <;> cases s.wantsReference c <;> decide
  unfold resetStatus
  by_cases h1 : l.any s.wantsStop = true
  · rw [if_pos (hmotion.mpr h1), if_pos h1]
  · rw [if_neg (mt hmotion.mp h1), if_neg h1]
    have hstop : ∀ c ∈ l, s.wantsStop c = false := by simpa using h1
    have hkey : .refusedKey ∈ l.filterMap s.resetGate ↔ l.any s.wantsKey = true := by
      simp only [List.mem_filterMap, List.any_eq_true, resetGate_eq]
      refine exists_congr fun c => and_congr_right fun hc => ?_
      rw [hstop c hc]
      cases s.wantsKey c <;> cases s.wantsReference c <;> decide
    by_cases h2 : l.any s.wantsKey = true
    · rw [if_pos (hkey.mpr h2), if_pos h2]
    · rw [if_neg (mt hkey.mp h2), if_neg h2]
      have hnokey : ∀ c ∈ l, s.wantsKey c = false := by simpa using h2
      have hempty : (l.filterMap s.resetGate).isEmpty = true ↔ ¬ l.any s.wantsReference = true := by
        rw [List.isEmpty_iff, List.filterMap_eq_nil_iff, Bool.not_eq_true, List.any_eq_false]
        refine forall₂_congr fun c hc => ?_
        rw [resetGate_eq, hstop c hc, hnokey c hc]
        cases s.wantsReference c <;> decide
      by_cases h3 : l.any s.wantsReference = true
      · rw [if_neg (fun h => hempty.mp h h3), if_pos h3]
      · rw [if_pos (hempty.mpr h3), if_neg h3]

theorem length_filterMap_resetGate (s : State) (l : List Cause) :
    (l.filterMap s.resetGate).length = l.countP s.keeps := by
  induction l with
  | nil => rfl
  | cons c l ih =>
    have h := resetGate_isNone s c
    cases hk : s.keeps c with
    | true =>
      obtain ⟨x, hx⟩ := Option.isSome_iff_exists.mp (by simpa [hk, Option.isNone_eq_false_iff] using h)
      rw [List.filterMap_cons_some hx, List.length_cons, ih, List.countP_cons_of_pos hk]
    | false =>
      have hx : s.resetGate c = none := by simpa [hk] using h
      rw [List.filterMap_cons_none hx, ih, List.countP_cons_of_neg (by simp [hk])]

theorem exec_resetCauses {s : State} {e : IngressEntry} {rest : List IngressEntry} {key : KeyPosition}
    (h : s.Requests .resetCauses e rest) :
    exec (.resetCauses key) s = .next (((((s.takeHead rest).setKey key).takeResetCauses).give e.frame).settle s) := by
  rw [show exec (.resetCauses key) s = execResetCauses key s from rfl, execResetCauses, manage_running h]

/-- What RESET_CAUSES leaves before its answer is given. -/
theorem takeResetCauses_spec {x : State} (hs : x.stc.records.length = 48) (hp : x.stc.permitsAgree)
    (hg : x.stc.gathered = []) :
    let a := x.takeResetCauses
    let latched := Cause.all.filter fun c => (x.cause c).state = .latched
    (∀ c, a.state.cause c =
        if (x.cause c).state = .latched ∧ x.keeps c = false then (x.cause c).released x.now else x.cause c) ∧
      a.state.stc.output = highestStanding a.state.stc.records ∧ a.state.stc.permitsAgree ∧ a.state.stc.gathered = [] ∧
      a.state.tmb =
        (if (x.cause .timebaseDegraded).state = .latched ∧ x.keeps .timebaseDegraded = false then
          { x.tmb with selection := .reference }
         else x.tmb) ∧
      a.status = (if latched.any x.wantsStop then .refusedMotion
        else if latched.any x.wantsKey then .refusedKey
        else if latched.any x.wantsReference then .notAllowed
        else .ok) ∧
      a.data = [natWord (latched.countP fun c => !x.keeps c), natWord (latched.countP x.keeps),
        natWord (Cause.all.countP fun c => (x.cause c).state = .active)] := by
  have hmem : ∀ c, c ∈ x.latchedCauses.filter (fun c => (x.resetGate c).isNone) ↔
      (x.cause c).state = .latched ∧ x.keeps c = false := by
    intro c
    have hall : c ∈ Cause.all := by cases c <;> decide
    simp [State.latchedCauses, resetGate_isNone, hall, and_comm]
  have hrel := foldl_releaseCause (x.latchedCauses.filter fun c => (x.resetGate c).isNone) x hs
  rw [State.takeResetCauses]
  dsimp only
  generalize hy : (x.latchedCauses.filter fun c => (x.resetGate c).isNone).foldl State.releaseCause x = y at *
  obtain ⟨hout, hrec, hperm⟩ := formOutput_output y []
  have hdoes : Does 4317712 y (y.formOutput []) := State.formOutput_does [] (Does.refl _ y) rfl
  refine ⟨fun c => ?_, by rw [hout, hrec], hperm ?_, ?_, ?_, resetStatus_filterMap x _, ?_⟩
  · have h : (y.formOutput []).cause c = y.cause c := by simp only [State.cause, hrec]
    rw [h, hrel.cause]
    simp only [hmem]
  · rw [hrel.stc]
    exact hp
  · rw [formOutput_gathered, hrel.stc]
    exact hg
  · rw [hdoes.tmb_eq, hrel.tmb]
    simp only [hmem]
  · simp only [length_filterMap_resetGate, ← List.countP_eq_length_filter, resetGate_isNone]
    rfl

/-- Settles O50: the gates of a LATCHED cause are `State.resetGate`. -/
theorem resetCausesReleasesByItsGates : Obligations.ResetCausesReleasesByItsGates := by
  intro s e rest key hreq hinv hroom
  obtain ⟨hs, hp, hg⟩ := Inv_parts hinv hreq.1.1
  have hstc : ((s.takeHead rest).setKey key).stc = s.stc := takeHead_stc s rest
  have hcause : ((s.takeHead rest).setKey key).cause = s.cause := by
    funext c
    simp only [State.cause, hstc]
  obtain ⟨h1, h2, h3, h4, h5, h6, h7⟩ := takeResetCauses_spec (x := (s.takeHead rest).setKey key) (by rw [hstc, hs])
    (by rw [hstc]; exact hp) (by rw [hstc, hg])
  have hdoes : Does 12706320 ((s.takeHead rest).setKey key) ((s.takeHead rest).setKey key).takeResetCauses.state :=
    State.takeResetCauses_does (Does.refl _ _) rfl
  have hpins : ((s.takeHead rest).setKey key).pins = { s.pins with key := key } := by
    rw [State.setKey, State.setPins_pins, takeHead_pins]
  have hnow : ((s.takeHead rest).setKey key).now = s.now := takeHead_now s rest
  have htmb : ((s.takeHead rest).setKey key).tmb = s.tmb := takeHead_tmb s rest
  have hstop : ((s.takeHead rest).setKey key).wantsStop =
      fun c => (s.cause c).category.atLeast .serviceStop && s.rpu.motion ≠ .stopped := by
    funext c
    rw [State.wantsStop, hcause, State.setKey, State.setPins_rpu, takeHead_rpu]
  have hkey : ((s.takeHead rest).setKey key).wantsKey =
      fun c => (s.cause c).category = .emergencyStop && key ≠ .maint := by
    funext c
    rw [State.wantsKey, hcause, hpins]
  have href : ((s.takeHead rest).setKey key).wantsReference =
      fun c => c = Cause.timebaseDegraded && !(s.tmb.lastWindow.any fun n => 38000 ≤ n && n ≤ 42000) := by
    funext c
    rw [State.wantsReference, htmb]
  have hkeeps : ((s.takeHead rest).setKey key).keeps = fun c =>
      ((s.takeHead rest).setKey key).wantsStop c || ((s.takeHead rest).setKey key).wantsKey c ||
        ((s.takeHead rest).setKey key).wantsReference c := rfl
  have hroom' := hdoes.2.2.1 rfl (by rw [State.setKey, State.setPins_rng, takeHead_report]; exact hroom)
  have hrestart : ((s.takeHead rest).setKey key).takeResetCauses.state.tst.restart = s.tst.restart := by
    rw [hdoes.restart_eq, State.setKey, State.setPins_tst, takeHead_tst]
  have hpins' := (hdoes.1 .pins rfl : _ = _).trans hpins
  have hexec := exec_resetCauses (key := key) hreq
  rw [hkeeps, hstop, hkey, href] at h1 h5 h7
  rw [hcause] at h1 h5 h6 h7
  rw [hstop, hkey, href] at h6
  rw [hnow] at h1
  rw [htmb] at h5
  generalize ((s.takeHead rest).setKey key).takeResetCauses = a at *
  have hquiet : (a.give e.frame).quiet := by rw [State.quiet, Answer.give, reply_stc, h4]
  have hr : wasReset s (a.give e.frame) = false :=
    wasReset_of_restart (by rw [Answer.give, reply_restart, hrestart])
  have hustc : ((a.give e.frame).settle s).stc = a.state.stc := by
    rw [settle_keeps_of_quiet hquiet hr .stc rfl, Answer.give, reply_stc]
  refine ⟨_, hexec, fun c => ?_, ?_, ?_, ?_, ?_, ?_, ?_⟩
  · rw [settle_cause_of_quiet hquiet hr, show (a.give e.frame).cause c = a.state.cause c by
      simp only [State.cause, Answer.give, reply_stc]]
    exact h1 c
  · rw [hustc]
    exact h2
  · rw [hustc]
    exact h3.1
  · rw [hustc]
    exact h3.2
  · rw [settle_pins, Answer.give, reply_pins]
    exact hpins'
  · rw [settle_tmb, Answer.give, reply_tmb]
    exact h5
  · have hrep := give_replied (a := a) e.frame s hroom'
    rw [h6, h7] at hrep
    exact hrep

end Sys2Proof.Machine
end

section
/-!
PROOFS. The reconcile's retry and the request timer, and the answers to the summit's requests (chapters 3 and 7).
-/

namespace Sys2Proof.Machine

/-! ## The request table at the end of a command (R140) -/

/-- What a request entry is, apart from its deadline. -/
def RequestEntry.ident (e : RequestEntry) : Nat × RequestKind × Requester := (e.tag, e.kind, e.requester)

theorem markSent_ident (q : List RequestEntry) (tag : Nat) (d : Ms) :
    (markSent q tag d).map RequestEntry.ident = q.map RequestEntry.ident := by
  rw [markSent, List.map_map]
  refine List.map_congr_left fun e _ => ?_
  simp only [Function.comp]
  split <;> rfl

/-- The transmitter leaves the requests, but that one may become SENT. -/
theorem transmit_requests (s : State) :
    s.transmit.slk.requests.map RequestEntry.ident = s.slk.requests.map RequestEntry.ident := by
  unfold State.transmit
  split
  · rfl
  · split
    · rename_i f k hf
      obtain ⟨a, b, c, d, rfl, -⟩ := nextFrame_spec hf
      rw [State.takeFrame, State.setSlk_slk]
      dsimp only
      split
      · rw [markSent_ident]
      · rfl
    · rfl

/-- The end of a command changes of SLK the transmit queues, the transmitter and the deadlines of requests. -/
theorem settle_slk {s b : State} (hr : wasReset b s = false) :
    ∃ v tx tu q x n r, (s.settle b).slk =
        { s.slk with
          txSafety := v, txVoice := tx, txUnanswered := tu, txAnswered := q, sending := x, nextSeq := n, requests := r } ∧
      r.map RequestEntry.ident = s.slk.requests.map RequestEntry.ident := by
  obtain ⟨q, hq⟩ := takeReport_slk s
  obtain ⟨v, tx, tu, ta, x, n, r, htr, -, -⟩ := transmit_slk s.takeReport
  have hreq := transmit_requests s.takeReport
  rw [htr, hq] at hreq
  refine ⟨v, tx, tu, ta, x, n, r, ?_, hreq⟩
  unfold State.settle
  rw [if_neg (by simp [hr]), countChanges_slk, staleIf_slk, htr, hq]

theorem tagHeld_congr {k k' : Slk} (h : k'.requests.map RequestEntry.ident = k.requests.map RequestEntry.ident) (t : Nat) :
    k'.tagHeld t = k.tagHeld t := by
  have hany : ∀ q : List RequestEntry, q.any (fun e => e.tag = t) = (q.map RequestEntry.ident).any fun e => e.1 = t :=
    fun q => by rw [List.any_map]; rfl
  rw [Slk.tagHeld, Slk.tagHeld, hany, hany, h]

theorem settle_tagHeld {s b : State} (hr : wasReset b s = false) (t : Nat) :
    (s.settle b).slk.tagHeld t = s.slk.tagHeld t := by
  obtain ⟨v, tx, tu, q, x, n, r, h, hreq⟩ := settle_slk (s := s) hr
  exact tagHeld_congr (by rw [h]; exact hreq) t

theorem settle_reconcile (s b : State) : (s.settle b).ctr.reconcile = s.ctr.reconcile := by
  have h : (s.settle b).ctr.rest.reconcile = s.ctr.rest.reconcile := by rw [settle_track]
  exact h

/-! ## The retry and the timeout (O19) -/

/-- The tags tried are all the tags there are. -/
theorem mem_tagsTried {t : Nat} (ht : t < 8) (n : Nat) : t ∈ (List.range 8).map fun d => (n + d) % 8 := by
  rw [List.mem_map]
  exact ⟨(t + 8 - n % 8) % 8, by rw [List.mem_range]; omega, by omega⟩

/-- Of 8 tags one is free while fewer than 8 requests are held. -/
theorem freeTag_of_room {k : Slk} (h : k.requests.length < 8) : ∃ t < 8, k.freeTag = some t := by
  cases hf : k.freeTag with
  | some t =>
    obtain ⟨d, -, hd⟩ := List.mem_map.mp (List.mem_of_find?_eq_some hf)
    exact ⟨t, by omega, rfl⟩
  | none =>
    have hall : List.range 8 ⊆ k.requests.map RequestEntry.tag := fun t ht => by
      have hheld := List.find?_eq_none.mp hf t (mem_tagsTried (List.mem_range.mp ht) _)
      simpa [Slk.tagHeld] using hheld
    have hlen := (List.nodup_range.subperm hall).length_le
    rw [List.length_range, List.length_map] at hlen
    omega

theorem issueQuery_of_room {s : State} {t : Nat} (hup : s.slk.link = .up) (hroom : s.slk.requests.length < 8)
    (ht : s.slk.freeTag = some t) :
    s.issueQuery = (((s.setReconcile .idle).acceptRequest t).setReconcile (.querying t none)) := by
  have hslk : (s.setReconcile .idle).slk = s.slk := rfl
  rw [State.issueQuery, hslk, if_pos (by simp [hup, hroom]), ht]

/-- The tag of a request that has failed is free, and the reconcile that waited for it waits to try again. -/
theorem timeoutRequest_spec {s : State} {tag : Nat} {r : Option ReplyParts} (hup : s.slk.link = .up)
    (hq : s.ctr.reconcile = .querying tag r) :
    (s.timeoutRequest tag).slk.tagHeld tag = false ∧
      (s.timeoutRequest tag).slk.requestTimeouts = satInc s.slk.requestTimeouts ∧
      (s.timeoutRequest tag).ctr.reconcile = .retryWait (s.after 2000) ∧
      (s.timeoutRequest tag).ctr.reconcileFailures = satInc s.ctr.reconcileFailures ∧
      (s.timeoutRequest tag).tst = s.tst := by
  have hq' : (s.freeRequest tag).ctr.reconcile = .querying tag r := hq
  have hup' : (s.freeRequest tag).slk.link = .up := hup
  unfold State.timeoutRequest State.failReconcile
  simp only [State.setSlk_ctr, hq', Reconcile.tag, if_pos]
  refine ⟨?_, rfl, ?_, rfl, rfl⟩
  · simp [Slk.tagHeld, State.freeRequest]
  · exact if_pos hup

/-- Settles O19: a free tag is found among 8, and a request that has failed leaves the table. -/
theorem reconcileRetriesAndTimesOut : Obligations.ReconcileRetriesAndTimesOut := by
  refine ⟨fun s d hwait hfires => ⟨fun hup hroom => ?_, fun hnot => ?_⟩, fun s tag r hfires hup hq => ?_⟩
  · have hexec : exec .reconcileRetryExpiry s = .next (s.retryReconcile.settle s) := by
      rw [show exec .reconcileRetryExpiry s = execReconcileRetryExpiry s from rfl, execReconcileRetryExpiry, hwait]
      rw [expiry_running (show s.Fires (Reconcile.timer (.retryWait d)) from hfires)]
    obtain ⟨t, ht, hfree⟩ := freeTag_of_room hroom
    rw [State.retryReconcile, if_pos hup, issueQuery_of_room hup hroom hfree] at hexec
    generalize hy : ((s.setReconcile .idle).acceptRequest t).setReconcile (.querying t none) = y at hexec
    have hr : wasReset s y = false := wasReset_of_restart (hy ▸ rfl)
    obtain ⟨v, tx, tu, q, x, n, q', h, hreq⟩ := settle_slk (s := y) hr
    refine ⟨_, t, hexec, ht, Slk.freeTag_free hfree, ?_, ?_⟩
    · rw [settle_reconcile, ← hy]
      rfl
    · have hmem : (t, RequestKind.summitSetQuery, Requester.cabinTracker) ∈ q'.map RequestEntry.ident := by
        rw [hreq, ← hy]
        simp [State.setReconcile, State.acceptRequest, RequestEntry.ident]
      obtain ⟨e, he, hid⟩ := List.mem_map.mp hmem
      refine ⟨e, by rw [h]; exact he, ?_⟩
      simpa [RequestEntry.ident] using hid
  · refine ⟨((s.setReconcile .idle)).settle s, ?_, ?_⟩
    · rw [show exec .reconcileRetryExpiry s = execReconcileRetryExpiry s from rfl, execReconcileRetryExpiry, hwait]
      rw [expiry_running (show s.Fires (Reconcile.timer (.retryWait d)) from hfires), State.retryReconcile, if_neg hnot]
    · rw [settle_reconcile]
      rfl
  · have hexec : exec (.requestTimeout tag) s = .next ((s.timeoutRequest tag).settle s) := by
      rw [show exec (.requestTimeout tag) s = execRequestTimeout tag s from rfl, execRequestTimeout, expiry_running hfires]
    obtain ⟨h1, h2, h3, h4, h5⟩ := timeoutRequest_spec hup hq
    have hr : wasReset s (s.timeoutRequest tag) = false := wasReset_of_restart (by rw [h5])
    obtain ⟨v, tx, tu, q, x, n, q', h, hreq⟩ := settle_slk (s := s.timeoutRequest tag) hr
    refine ⟨_, hexec, by rw [settle_tagHeld hr, h1], by rw [h, h2], by rw [settle_reconcile, h3], ?_⟩
    have hfail : ((s.timeoutRequest tag).settle s).ctr.rest.reconcileFailures =
        (s.timeoutRequest tag).ctr.rest.reconcileFailures := by rw [settle_track]
    exact hfail.trans h4

/-! ## The answers to the summit's requests (O20) -/

/-- The parts of a list of IDs: as many as there are full or begun stretches of 32, and one for the empty list. -/
theorem partsOf_eq (fuel : Nat) : ∀ ids : List Nat, ids.length ≤ 32 * fuel →
    partsOf fuel ids =
      (List.range (max 1 ((ids.length + 31) / 32))).map fun k => (ids.drop (32 * k)).take 32 := by
  induction fuel with
  | zero =>
    intro ids h
    have hids : ids = [] := List.eq_nil_of_length_eq_zero (by omega)
    subst hids
    rfl
  | succ n ih =>
    intro ids h
    unfold partsOf
    by_cases hlen : ids.length ≤ 32
    · have hn : max 1 ((ids.length + 31) / 32) = 1 := by omega
      rw [if_pos hlen, hn]
      simp [List.take_of_length_le hlen]
    · have hn : max 1 ((ids.length + 31) / 32) = max 1 (((ids.drop 32).length + 31) / 32) + 1 := by
        rw [List.length_drop]
        omega
      rw [if_neg hlen, hn, ih _ (by rw [List.length_drop]; omega), List.range_succ_eq_map, List.map_cons, List.map_map]
      refine congrArg₂ _ rfl (List.map_congr_left fun k _ => ?_)
      simp only [Function.comp, List.drop_drop]
      congr 2
      omega

theorem valleySetReply_eq {s : State} (tag : Nat) (h : (s.valleySet.map s.idOf).length ≤ 96) :
    let ids := s.valleySet.map s.idOf
    let n := max 1 ((ids.length + 31) / 32)
    s.valleySetReply tag =
      ((List.range n).map fun k =>
        let part := (ids.drop (32 * k)).take 32
        [0, BitVec.ofNat 8 s.slk.handoverSeq, BitVec.ofNat 8 ((k + 1) * 16 + n), BitVec.ofNat 8 part.length] ++
          packIds part).map fun b => { cls := .unanswered, kind := 1, tag := tag, payload := b } := by
  have hparts := partsOf_eq 4 (s.valleySet.map s.idOf) (by omega)
  simp only [State.valleySetReply]
  rw [hparts, List.length_map, List.length_range, List.map_map]
  refine List.map_congr_left fun k hk => ?_
  have hget : ∀ f : Nat → List Nat, ((List.range (max 1 (((s.valleySet.map s.idOf).length + 31) / 32))).map f).getD k [] = f k :=
    fun f => by rw [List.getD_eq_getElem?_getD, List.getElem?_map, List.getElem?_range (List.mem_range.mp hk)]; rfl
  simp only [hget]
  rfl

/-- An answer placed whole, or dropped whole, as the command ends. -/
theorem placeAnswer_ends {s x : State} (hg : x.stc.gathered = []) (hs : x.slk.sending.isSome = true)
    (hr : x.tst.restart = s.tst.restart) (kind tag : Nat) (parts : List LinkFrame) :
    (x.slk.txUnanswered.length + parts.length ≤ 16 →
      ((x.placeAnswer kind tag parts).settle s).slk = { x.slk with txUnanswered := x.slk.txUnanswered ++ parts }) ∧
    (16 < x.slk.txUnanswered.length + parts.length → x.tst.events.length < 32 → x.eventMask ≠ 0 →
      ((x.placeAnswer kind tag parts).settle s).slk = { x.slk with droppedReplies := satInc x.slk.droppedReplies } ∧
        ((x.placeAnswer kind tag parts).settle s).Reported .replyDropped [(kind : Nat), (tag : Nat)]) := by
  refine ⟨fun h => ?_, fun h hev hm => ?_⟩
  · rw [State.placeAnswer, if_pos h]
    exact EndsCalmly.slk (w := x.setTxUnanswered (x.slk.txUnanswered ++ parts)) ⟨hg, hs, hr⟩
  · rw [State.placeAnswer, if_neg (by omega)]
    have hcalm : EndsCalmly s ((x.setSlk { x.slk with droppedReplies := satInc x.slk.droppedReplies }).report
        .replyDropped none none [(kind : Nat), (tag : Nat)]) :=
      ⟨by rw [report_stc]; exact hg, by rw [report_slk]; exact hs, by rw [report_restart]; exact hr⟩
    refine ⟨by rw [hcalm.slk, report_slk]; rfl, ?_⟩
    exact State.Reported.settle_of_quiet hcalm.gathered (wasReset_of_restart hcalm.restart)
      (report_reported _ _ _ _ hev hm)

theorem locateReply_of_unknown {s : State} {id : Nat} (h : s.lookup id = none) (tag : Nat) :
    s.locateReply tag id =
      { cls := .unanswered, kind := 1, tag := tag, payload := [0, 7] ++ slotBytes none ++ [0, 0] } := by
  rw [State.locateReply, h]
  rfl

theorem locateReply_of_known {s : State} {id i : Nat} (h : s.lookup id = some i) (tag : Nat) :
    s.locateReply tag id =
      { cls := .unanswered, kind := 1, tag := tag
        payload := [0, BitVec.ofNat 8 (s.reg i).location.code] ++ slotBytes (s.lineSlot i) ++
          [BitVec.ofNat 8 (s.segmentOf i), BitVec.ofNat 8 (bit (s.reg i).overdue)] } := by
  rw [State.locateReply, h]
  rfl

/-- Settles O20: each request has its frames, and `State.placeAnswer` places or drops them. -/
theorem summitRequestsAreAnswered : Obligations.SummitRequestsAreAnswered := by
  intro s f rest c parts hask hg hs hc
  have hends := fun ps => placeAnswer_ends (s := s) (x := s.setSlk { s.slk with rxAnswered := rest }) hg hs rfl f.kind f.tag ps
  suffices hexec : exec c s = .next
      (((s.setSlk { s.slk with rxAnswered := rest }).placeAnswer f.kind f.tag
        (parts.map fun b => { cls := .unanswered, kind := 1, tag := f.tag, payload := b })).settle s) by
    obtain ⟨hplaced, hdropped⟩ := hends (parts.map fun b => { cls := .unanswered, kind := 1, tag := f.tag, payload := b })
    rw [List.length_map] at hplaced hdropped
    refine ⟨fun h => ⟨_, hexec, ?_, ?_⟩, fun h hev hm => ⟨_, hexec, ?_, ?_, ?_, ?_⟩⟩
    · rw [hplaced h]
      rfl
    · rw [hplaced h]
      rfl
    · rw [(hdropped h hev hm).1]
      rfl
    · rw [(hdropped h hev hm).1]
      rfl
    · rw [(hdropped h hev hm).1]
      rfl
    · exact (hdropped h hev hm).2
  rcases hc with ⟨rfl, hk, hlen, rfl⟩ | ⟨rfl, hk, i, slot, segment, hlook, hwhere, rfl⟩ | ⟨rfl, hk, hlook, rfl⟩ |
    ⟨rfl, hk2, hk3, rfl⟩
  · rw [show exec .valleySetQuery s = execValleySetQuery s from rfl, execValleySetQuery,
      deliverAnswered_running hask (by simp [hk])]
    exact congrArg (fun ps => Host.Outcome.next
      (((s.setSlk { s.slk with rxAnswered := rest }).placeAnswer f.kind f.tag ps).settle s))
      (valleySetReply_eq (s := s.setSlk { s.slk with rxAnswered := rest }) f.tag hlen)
  · rw [show exec .locate s = execLocate s from rfl, execLocate, deliverAnswered_running hask (by simp [hk])]
    rw [locateReply_of_known (s := s.setSlk { s.slk with rxAnswered := rest }) hlook]
    have hslot : s.lineSlot i = slot := by
      unfold State.lineSlot State.expectedSlot
      rcases hwhere with ⟨-, -, -, y, hu, rfl⟩ | ⟨-, -, -, hu, y, hd, rfl⟩ | ⟨-, -, rfl, hu, hd, -⟩
      · rw [hu]
        rfl
      · rw [hu, hd]
        rfl
      · rw [hu, hd]
        rfl
    have hseg : s.segmentOf i = segment := by
      unfold State.segmentOf
      rcases hwhere with ⟨-, rfl, hx, -⟩ | ⟨-, rfl, hx, -⟩ | ⟨-, -, -, -, -, ⟨-, x, hx, rfl⟩ | ⟨-, hx, rfl⟩⟩ <;> rw [hx]
    rw [← hslot, ← hseg]
    rfl
  · rw [show exec .locate s = execLocate s from rfl, execLocate, deliverAnswered_running hask (by simp [hk])]
    rw [locateReply_of_unknown (s := s.setSlk { s.slk with rxAnswered := rest }) hlook]
    rfl
  · rw [show exec .summitRequestUnsupported s = execSummitRequestUnsupported s from rfl, execSummitRequestUnsupported,
      deliverAnswered_running hask (by simp [hk2, hk3])]
    rfl

end Sys2Proof.Machine
end

section
/-!
PROOFS. How a cabin leaves the collection it stands in, and joins another (chapters 3 and 4).
-/

namespace Sys2Proof.Machine

/-! ## The registry but for the HOLD_OPEN flags (R63) -/

/-- Two states have the registry in common, but for the HOLD_OPEN flags. -/
structure SameStanding (s t : State) : Prop where
  length : t.registry.length = s.registry.length
  reg : ∀ j, t.reg j = { s.reg j with holdOpen := (t.reg j).holdOpen }

theorem sameStanding_of_registry {s t : State} (h : t.registry = s.registry) : SameStanding s t :=
  ⟨by rw [h], fun j => by rw [reg_congr h]⟩

theorem SameStanding.trans {s t u : State} (h1 : SameStanding s t) (h2 : SameStanding t u) : SameStanding s u :=
  ⟨h2.length.trans h1.length, fun j => by rw [h2.reg j, h1.reg j]⟩

theorem SameStanding.location {s t : State} (h : SameStanding s t) (j : Nat) : (t.reg j).location = (s.reg j).location := by
  rw [h.reg]

theorem SameStanding.stat {s t : State} (h : SameStanding s t) (j : Nat) : (t.reg j).stat = (s.reg j).stat := by
  rw [h.reg]

theorem setHoldOpen_sameStanding (s : State) (e : StationEntry) (b : Bool) : SameStanding s (s.setHoldOpen e b) := by
  unfold State.setHoldOpen
  split
  · refine ⟨modReg_registry_length .., fun j => ?_⟩
    rw [modReg_reg]
    split
    · rename_i h
      rw [← h.1]
    · rfl
  · exact sameStanding_of_registry rfl

theorem doorDeparted_sameStanding (s : State) (e : StationEntry) : SameStanding s (s.doorDeparted e) := by
  have h1 : Does 67584 s (s.withdrawAllFor e.serial) := State.withdrawAllFor_does _ (Does.refl _ s) rfl
  refine ((sameStanding_of_registry h1.registry_eq).trans (setHoldOpen_sameStanding _ e false)).trans
    (sameStanding_of_registry ?_)
  unfold State.doorDeparted State.judgeObstruction
  rw [judge_registry]
  rfl

/-- An entry that leaves the queue leaves every other collection and, of the registry, all but a HOLD_OPEN flag. -/
theorem leaveStation_sameStanding (s : State) (e : StationEntry) : SameStanding s (s.leaveStation e) := by
  unfold State.leaveStation
  dsimp only
  generalize hx : (((s.setQueue (s.ctr.queue.filter fun x => x.serial ≠ e.serial)).judgeSegments).unwatch e.who).reportHead = x
  have hxr : Does 4293168 s x :=
    hx ▸ State.reportHead_does (State.unwatch_does _ (State.judgeSegments_does
      (State.setQueue_does _ (Does.refl _ s) rfl (List.length_filter_le ..)) rfl) rfl) rfl
  have hsw : Does 4260864 (x.doorDeparted e) (x.doorDeparted e).judgeSwitch := State.judgeSwitch_does (Does.refl _ _) rfl
  have h := ((sameStanding_of_registry hxr.registry_eq).trans (doorDeparted_sameStanding x e)).trans
    (sameStanding_of_registry hsw.registry_eq)
  split
  · have hge : Does 66560 (x.doorDeparted e).judgeSwitch (x.doorDeparted e).judgeSwitch.judgeGarageExit :=
      State.judgeGarageExit_does (Does.refl _ _) rfl
    exact h.trans (sameStanding_of_registry hge.registry_eq)
  · exact h

/-! ## What leaving a collection changes (R41) -/

theorem leaveUphill_uphill (s : State) (i : Nat) :
    (s.leaveUphill i).ctr.uphill = s.ctr.uphill.filter fun x => x.cabin ≠ i := by
  unfold State.leaveUphill
  split
  · rfl
  · rename_i h
    exact (List.filter_eq_self.mpr fun y hy => by simpa using List.find?_eq_none.mp h y hy).symm

theorem leaveDownhill_downhill (s : State) (i : Nat) :
    (s.leaveDownhill i).ctr.downhill = s.ctr.downhill.filter fun x => x.cabin ≠ i := by
  unfold State.leaveDownhill
  split
  · rfl
  · rename_i h
    exact (List.filter_eq_self.mpr fun y hy => by simpa using List.find?_eq_none.mp h y hy).symm

/-- A cabin that leaves a line changes the line and the slot it held. -/
theorem leaveUphill_keeps (s : State) (i : Nat) :
    (s.leaveUphill i).registry = s.registry ∧ (s.leaveUphill i).ctr.downhill = s.ctr.downhill ∧
      (s.leaveUphill i).ctr.summit = s.ctr.summit ∧ (s.leaveUphill i).ctr.unlocated = s.ctr.unlocated ∧
      (s.leaveUphill i).ctr.queue = s.ctr.queue ∧ (s.leaveUphill i).ctr.garage = s.ctr.garage ∧
      (s.leaveUphill i).lgt = s.lgt := by
  unfold State.leaveUphill
  split <;> exact ⟨rfl, rfl, rfl, rfl, rfl, rfl, rfl⟩

theorem leaveDownhill_keeps (s : State) (i : Nat) :
    (s.leaveDownhill i).registry = s.registry ∧ (s.leaveDownhill i).ctr.uphill = s.ctr.uphill ∧
      (s.leaveDownhill i).ctr.summit = s.ctr.summit ∧ (s.leaveDownhill i).ctr.unlocated = s.ctr.unlocated ∧
      (s.leaveDownhill i).ctr.queue = s.ctr.queue ∧ (s.leaveDownhill i).ctr.garage = s.ctr.garage ∧
      (s.leaveDownhill i).lgt = s.lgt := by
  unfold State.leaveDownhill
  split <;> exact ⟨rfl, rfl, rfl, rfl, rfl, rfl, rfl⟩

/-- The collections after a cabin has left the one that its location names. -/
structure TakenOut (s t : State) (i : Nat) : Prop where
  standing : SameStanding s t
  queue : t.ctr.queue =
    if (s.reg i).location = .station then
      match s.entryOfCabin i with
      | some e => s.ctr.queue.filter fun x => x.serial ≠ e.serial
      | none => s.ctr.queue
    else s.ctr.queue
  garage : t.ctr.garage =
    if (s.reg i).location = .garage then s.ctr.garage.filter fun g => g.who ≠ .cabin i else s.ctr.garage
  uphill : t.ctr.uphill =
    if (s.reg i).location = .uphill then s.ctr.uphill.filter fun x => x.cabin ≠ i else s.ctr.uphill
  downhill : t.ctr.downhill =
    if (s.reg i).location = .downhill then s.ctr.downhill.filter fun x => x.cabin ≠ i else s.ctr.downhill
  summit : t.ctr.summit =
    if (s.reg i).location = .summit then s.ctr.summit.filter fun x => x ≠ i else s.ctr.summit
  unlocated : t.ctr.unlocated =
    if (s.reg i).location = .unlocated then s.ctr.unlocated.filter fun x => x ≠ i else s.ctr.unlocated

theorem takeOut_spec (s : State) (i : Nat) : TakenOut s (s.takeOut i) i := by
  unfold State.takeOut
  cases hl : (s.reg i).location with
  | station =>
    dsimp only
    split
    · rename_i e he
      have hd := leaveStation_does' s e
      refine ⟨leaveStation_sameStanding s e, ?_, ?_, ?_, ?_, ?_, ?_⟩
      · rw [State.leaveStation_queue, hl, if_pos rfl, he]
      · simp [hl, hd.garage_eq]
      · simp [hl, hd.uphill_eq]
      · simp [hl, hd.downhill_eq]
      · simp [hl, hd.summit_eq]
      · simp [hl, hd.unlocated_eq]
    · rename_i he
      exact ⟨sameStanding_of_registry rfl, by rw [hl, if_pos rfl, he], by simp [hl], by simp [hl], by simp [hl], by simp [hl],
        by simp [hl]⟩
  | garage =>
    exact ⟨sameStanding_of_registry rfl, by simp [hl], by simp [hl], by simp [hl], by simp [hl], by simp [hl], by simp [hl]⟩
  | uphill =>
    obtain ⟨h1, h2, h3, h4, h5, h6, -⟩ := leaveUphill_keeps s i
    refine ⟨sameStanding_of_registry h1, by simp [hl, h5], by simp [hl, h6], ?_, by simp [hl, h2], by simp [hl, h3], by simp [hl, h4]⟩
    rw [leaveUphill_uphill, hl, if_pos rfl]
  | downhill =>
    obtain ⟨h1, h2, h3, h4, h5, h6, -⟩ := leaveDownhill_keeps s i
    refine ⟨sameStanding_of_registry h1, by simp [hl, h5], by simp [hl, h6], by simp [hl, h2], ?_, by simp [hl, h3], by simp [hl, h4]⟩
    rw [leaveDownhill_downhill, hl, if_pos rfl]
  | summit =>
    exact ⟨sameStanding_of_registry rfl, by simp [hl], by simp [hl], by simp [hl], by simp [hl], by simp [hl], by simp [hl]⟩
  | unlocated =>
    exact ⟨sameStanding_of_registry rfl, by simp [hl], by simp [hl], by simp [hl], by simp [hl], by simp [hl], by simp [hl]⟩
  | outOfService =>
    exact ⟨sameStanding_of_registry rfl, by simp [hl], by simp [hl], by simp [hl], by simp [hl], by simp [hl], by simp [hl]⟩

/-- The slot that a pending release books is all that its freeing changes. -/
theorem freeReleaseSlot_does' (s : State) (i : Nat) : Does 512 s (s.freeReleaseSlot i) :=
  State.freeReleaseSlot_does i (Does.refl _ s) rfl

theorem takeBooked_spec (s : State) (i : Nat) : TakenOut s (s.takeBooked i) i := by
  have h := takeOut_spec s i
  have hd := freeReleaseSlot_does' (s.takeOut i) i
  exact ⟨h.standing.trans (sameStanding_of_registry hd.registry_eq), hd.queue_eq.trans h.queue, hd.garage_eq.trans h.garage,
    hd.uphill_eq.trans h.uphill, hd.downhill_eq.trans h.downhill, hd.summit_eq.trans h.summit,
    hd.unlocated_eq.trans h.unlocated⟩

/-! ## Slots are only emptied as a cabin leaves -/

/-- Every slot stands as it was or is EMPTY. -/
structure SlotsEmptied (s t : State) : Prop where
  length : t.ctr.slots.length = s.ctr.slots.length
  slot : ∀ k, t.slot k = s.slot k ∨ t.slot k = .empty

theorem slotsEmptied_of_slots {s t : State} (h : t.ctr.slots = s.ctr.slots) : SlotsEmptied s t :=
  ⟨by rw [h], fun k => .inl (slot_congr h k)⟩

theorem SlotsEmptied.trans {s t u : State} (h1 : SlotsEmptied s t) (h2 : SlotsEmptied t u) : SlotsEmptied s u :=
  ⟨h2.length.trans h1.length, fun k => (h2.slot k).elim (fun h => h ▸ h1.slot k) .inr⟩

theorem SlotsEmptied.empty {s t : State} (h : SlotsEmptied s t) {k : Nat} (hk : s.slot k = .empty) : t.slot k = .empty :=
  (h.slot k).elim (fun h => h.trans hk) id

theorem setSlot_empty_slotsEmptied (s : State) (k : Nat) : SlotsEmptied s (s.setSlot k .empty) := by
  refine ⟨by simp [State.setSlot], fun j => ?_⟩
  rw [setSlot_slot]
  split
  · exact .inr rfl
  · exact .inl rfl

theorem freeSlotIf_slotsEmptied (s : State) (k : Nat) (x : SlotState) : SlotsEmptied s (s.freeSlotIf k x) := by
  unfold State.freeSlotIf
  split
  · exact setSlot_empty_slotsEmptied s k
  · exact slotsEmptied_of_slots rfl

/-- The same of a state whose slots are those of another. -/
theorem setSlot_empty_slotsEmptied_of {s t : State} (h : t.ctr.slots = s.ctr.slots) (k : Nat) :
    SlotsEmptied s (t.setSlot k .empty) :=
  (slotsEmptied_of_slots h).trans (setSlot_empty_slotsEmptied t k)

theorem freeSlotIf_slotsEmptied_of {s t : State} (h : t.ctr.slots = s.ctr.slots) (k : Nat) (x : SlotState) :
    SlotsEmptied s (t.freeSlotIf k x) :=
  (slotsEmptied_of_slots h).trans (freeSlotIf_slotsEmptied t k x)

theorem freeReleaseSlot_slotsEmptied (s : State) (i : Nat) : SlotsEmptied s (s.freeReleaseSlot i) := by
  unfold State.freeReleaseSlot
  repeat' split
  · exact freeSlotIf_slotsEmptied ..
  · exact slotsEmptied_of_slots rfl
  · exact slotsEmptied_of_slots rfl

theorem withdrawRelease_slotsEmptied (s : State) (late : Bool) : SlotsEmptied s (s.withdrawRelease late) := by
  unfold State.withdrawRelease
  split
  · rename_i p _
    split
    · have hfree : SlotsEmptied s ((s.withdrawControl .gateRelease p.tag).freeSlotIf p.slot (.releasePending p.cabin)) :=
        freeSlotIf_slotsEmptied_of (by rfl) ..
      unfold State.countWithdrawal
      split
      · exact hfree.trans (slotsEmptied_of_slots (by rw [report_ctr]; rfl))
      · exact hfree.trans (slotsEmptied_of_slots rfl)
    · exact slotsEmptied_of_slots rfl
  · exact slotsEmptied_of_slots rfl

theorem reportHead_slotsEmptied (s : State) : SlotsEmptied s s.reportHead := by
  have h : SlotsEmptied s s.withdrawUnlessHead := by
    unfold State.withdrawUnlessHead
    repeat' split
    · exact slotsEmptied_of_slots rfl
    · exact withdrawRelease_slotsEmptied s false
    · exact slotsEmptied_of_slots rfl
  exact h.trans (slotsEmptied_of_slots (by rw [State.reportHead, releaseCountedHead_ctr]))

theorem unwatch_slotsEmptied (s : State) (w : Who) : SlotsEmptied s (s.unwatch w) := by
  unfold State.unwatch
  repeat' split
  · exact slotsEmptied_of_slots rfl
  · exact freeSlotIf_slotsEmptied_of (by rfl) ..
  · exact slotsEmptied_of_slots rfl

theorem leaveStation_slotsEmptied (s : State) (e : StationEntry) : SlotsEmptied s (s.leaveStation e) := by
  unfold State.leaveStation
  dsimp only
  generalize hx : (s.setQueue (s.ctr.queue.filter fun x => x.serial ≠ e.serial)).judgeSegments = x
  have hxs : SlotsEmptied s x := slotsEmptied_of_slots (by rw [← hx, judgeSegments_ctr]; rfl)
  have hy := (hxs.trans (unwatch_slotsEmptied x e.who)).trans (reportHead_slotsEmptied _)
  generalize (x.unwatch e.who).reportHead = y at hy ⊢
  have hd : Does 100356 y (y.doorDeparted e) := State.doorDeparted_does e (Does.refl _ y) rfl
  have hsw : Does 4260864 (y.doorDeparted e) (y.doorDeparted e).judgeSwitch := State.judgeSwitch_does (Does.refl _ _) rfl
  have hz := (hy.trans (slotsEmptied_of_slots hd.slots_eq)).trans (slotsEmptied_of_slots hsw.slots_eq)
  split
  · have hge : Does 66560 (y.doorDeparted e).judgeSwitch (y.doorDeparted e).judgeSwitch.judgeGarageExit :=
      State.judgeGarageExit_does (Does.refl _ _) rfl
    exact hz.trans (slotsEmptied_of_slots hge.slots_eq)
  · exact hz

theorem takeOut_slotsEmptied (s : State) (i : Nat) : SlotsEmptied s (s.takeOut i) := by
  have hup : SlotsEmptied s (s.leaveUphill i) := by
    unfold State.leaveUphill
    split
    · exact setSlot_empty_slotsEmptied_of (by rfl) ..
    · exact slotsEmptied_of_slots rfl
  have hdown : SlotsEmptied s (s.leaveDownhill i) := by
    unfold State.leaveDownhill
    split
    · exact setSlot_empty_slotsEmptied_of (by rfl) ..
    · exact slotsEmptied_of_slots rfl
  unfold State.takeOut
  split
  · split
    · exact leaveStation_slotsEmptied ..
    · exact slotsEmptied_of_slots rfl
  · exact slotsEmptied_of_slots rfl
  · exact hup
  · exact hdown
  · exact slotsEmptied_of_slots rfl
  · exact slotsEmptied_of_slots rfl
  · exact slotsEmptied_of_slots rfl

theorem takeBooked_slotsEmptied (s : State) (i : Nat) : SlotsEmptied s (s.takeBooked i) :=
  (takeOut_slotsEmptied s i).trans (freeReleaseSlot_slotsEmptied _ i)

/-! ## Joining a collection (R40) -/

theorem lt_of_lookup {s : State} {id i : Nat} (h : s.lookup id = some i) : i < s.registry.length := by
  unfold State.lookup at h
  split at h
  · cases h
  · exact (List.findIdx?_eq_some_iff_findIdx_eq.mp h).1

theorem setLocation_clearOverdue_reg (s : State) (i k : Nat) (l : Location) :
    ((s.setLocation i l).clearOverdue i).reg k =
      if i = k ∧ i < s.registry.length then { s.reg i with location := l, overdue := false } else s.reg k := by
  have h1 : ∀ k, (s.setLocation i l).reg k = if i = k ∧ i < s.registry.length then { s.reg i with location := l }
      else s.reg k := fun k => modReg_reg s i k _
  have hlen : (s.setLocation i l).registry.length = s.registry.length := modReg_registry_length ..
  rw [State.clearOverdue, modReg_reg, hlen, h1, h1]
  by_cases h : i = k ∧ i < s.registry.length
  · rw [if_pos h, if_pos ⟨rfl, h.2⟩, if_pos h]
  · rw [if_neg h, if_neg h, if_neg h]

theorem joinSummit_reg (s : State) (i j : Nat) :
    (s.joinSummit i).reg j =
      if i = j ∧ i < s.registry.length then { s.reg i with location := .summit, overdue := false } else s.reg j :=
  setLocation_clearOverdue_reg (s.setCtr { s.ctr with summit := insertIndex i s.ctr.summit }) i j .summit

theorem joinSummit_summit (s : State) (i j : Nat) : j ∈ (s.joinSummit i).ctr.summit ↔ j = i ∨ j ∈ s.ctr.summit :=
  mem_insertIndex i j s.ctr.summit

/-- A cabin that stands in the summit set, or anywhere else, and joins the summit set. -/
theorem takeBooked_joinSummit_summit (s : State) (i j : Nat) :
    j ∈ ((s.takeBooked i).joinSummit i).ctr.summit ↔ j = i ∨ j ∈ s.ctr.summit := by
  rw [joinSummit_summit, (takeBooked_spec s i).summit]
  by_cases hj : j = i
  · simp [hj]
  · split <;> simp [hj]

end Sys2Proof.Machine
end

section
/-!
PROOFS. Summit handovers and the reply to the summit set query (chapter 3).
-/

namespace Sys2Proof.Machine

/-! ## A handover in sequence or not (R49) -/

theorem judgeHandoverSeq_base (s : State) (n : Nat) : (s.judgeHandoverSeq n).slk.handoverBase = some n := by
  unfold State.judgeHandoverSeq
  dsimp only
  split <;> split <;> rfl

theorem judgeHandoverSeq_does' (s : State) (n : Nat) : Does 41984 s (s.judgeHandoverSeq n) :=
  State.judgeHandoverSeq_does n (Does.refl _ s) rfl

theorem lookup_congr {s t : State} (h : t.registry = s.registry) (id : Nat) : t.lookup id = s.lookup id := by
  rw [State.lookup, State.lookup, h]

/-- A handover of a cabin in service is booked after its sequence has been judged. -/
theorem takeHandover_of_known {s : State} {payload : List Byte} {i : Nat} (book : State → Nat → Nat → State)
    (hlook : s.lookup (halfAt payload 2 % 4096) = some i) (hin : (s.reg i).stat.inService = true) :
    s.takeHandover payload book true = book (s.judgeHandoverSeq (byteAt payload 1)) i (halfAt payload 4) := by
  have hreg := (judgeHandoverSeq_does' s (byteAt payload 1)).registry_eq
  simp only [State.takeHandover, lookup_congr hreg, hlook, reg_congr hreg, Option.filter_some, hin, if_true]

/-! ## A summit arrival (R43, R45) -/

theorem matchArrival_of_head {s : State} {x : Terminal} {i : Nat} {l : List Nat} (h : s.expectedList x = i :: l) :
    s.matchArrival x i = s.takeBooked i := by
  rw [State.matchArrival, h, if_pos (by simp)]
  simp [cabinsAhead]

theorem filter_tail_of_head {α : Type} (f : α → Nat) {h : α} {tail : List α} {i : Nat} (hi : f h = i)
    (htail : ∀ y ∈ tail, f y ≠ i) : (h :: tail).filter (fun y => f y ≠ i) = tail := by
  rw [List.filter_cons_of_neg (by simp [hi])]
  exact List.filter_eq_self.mpr fun y hy => by simpa using htail y hy

/-- The head of the uphill list leaves it, and the slot it held. -/
theorem takeBooked_uphill_slot {s : State} {i : Nat} {h : UphillEntry} {tail : List UphillEntry}
    (hl : (s.reg i).location = .uphill) (hu : s.ctr.uphill = h :: tail) (hi : h.cabin = i)
    (hslot : h.slot < s.ctr.slots.length) : (s.takeBooked i).slot h.slot = .empty := by
  refine (freeReleaseSlot_slotsEmptied (s.takeOut i) i).empty ?_
  have hfind : s.ctr.uphill.find? (fun u => u.cabin = i) = some h := by rw [hu]; simp [hi]
  simp only [State.takeOut, hl, State.leaveUphill, hfind]
  exact setSlot_slot_self (s := s.setCtr { s.ctr with uphill := s.ctr.uphill.filter fun x => x.cabin ≠ i }) _ hslot

theorem compareSlot_does' (s : State) (i : Nat) (r : Option Nat) (j : Nat) : Does 4292608 s (s.compareSlot i r j) :=
  State.compareSlot_does i r j (Does.refl _ s) rfl

/-- What a summit arrival of the cabin expected first leaves. -/
theorem bookSummitArrival_of_head {s : State} {i : Nat} {h : UphillEntry} {tail : List UphillEntry} (j : Nat)
    (hl : (s.reg i).location = .uphill) (hu : s.ctr.uphill = h :: tail) (hi : h.cabin = i)
    (htail : ∀ y ∈ tail, y.cabin ≠ i) (hslot : h.slot < s.ctr.slots.length) (hlen : i < s.registry.length) :
    let u := s.bookSummitArrival i j
    u.ctr.uphill = tail ∧ u.slot h.slot = .empty ∧ (∀ k, k ∈ u.ctr.summit ↔ k = i ∨ k ∈ s.ctr.summit) ∧
      (u.reg i).location = .summit ∧ (u.reg i).overdue = false ∧ u.slk = s.slk ∧ u.tst.restart = s.tst.restart := by
  have hlist : s.expectedList .summit = i :: tail.map UphillEntry.cabin := by simp [State.expectedList, hu, hi]
  have hc := compareSlot_does' ((s.takeBooked i).joinSummit i) i (s.expectedSlot .summit i) j
  have hb := takeBooked_spec s i
  have hd := State.takeBooked_does (m := 266338303 - 2 ^ 13) i (Does.refl _ s) rfl
  have hj : Does 260 (s.takeBooked i) ((s.takeBooked i).joinSummit i) := State.joinSummit_does i (Does.refl _ _) rfl
  rw [State.bookSummitArrival, matchArrival_of_head hlist]
  refine ⟨?_, ?_, fun k => ?_, ?_, ?_, ?_, ?_⟩
  · rw [hc.uphill_eq, hj.uphill_eq, hb.uphill, if_pos hl, hu]
    exact filter_tail_of_head _ hi htail
  · rw [slot_congr hc.slots_eq, slot_congr hj.slots_eq]
    exact takeBooked_uphill_slot hl hu hi hslot
  · rw [hc.summit_eq]
    exact takeBooked_joinSummit_summit s i k
  · rw [reg_congr hc.registry_eq, joinSummit_reg, if_pos ⟨rfl, by rwa [hb.standing.length]⟩]
  · rw [reg_congr hc.registry_eq, joinSummit_reg, if_pos ⟨rfl, by rwa [hb.standing.length]⟩]
  · rw [hc.slk_eq, hj.slk_eq, hd.slk_eq]
  · rw [hc.restart_eq, hj.restart_eq, hd.restart_eq]

/-! ## A summit launch (R46) -/

theorem joinDownhill_spec {s : State} {i j : Nat} (hlen : i < s.registry.length) (hj : j < s.ctr.slots.length) :
    let u := s.joinDownhill i j
    u.ctr.downhill = s.ctr.downhill ++ [{ cabin := i, slot := j, oReport := s.rpu.odo }] ∧ u.slot j = .down i ∧
      u.ctr.summit = s.ctr.summit ∧ (u.reg i).location = .downhill ∧ (u.reg i).overdue = false ∧ u.slk = s.slk ∧
      u.tst.restart = s.tst.restart := by
  have hreg := setLocation_clearOverdue_reg ((s.setCtr
    { s.ctr with downhill := s.ctr.downhill ++ [{ cabin := i, slot := j, oReport := s.rpu.odo }] }).setSlot j (.down i))
    i i .downhill
  rw [if_pos ⟨rfl, hlen⟩] at hreg
  refine ⟨rfl, ?_, rfl, ?_, ?_, rfl, rfl⟩
  · exact setSlot_slot_self (s := s.setCtr
      { s.ctr with downhill := s.ctr.downhill ++ [{ cabin := i, slot := j, oReport := s.rpu.odo }] }) _ hj
  · exact (congrArg RegEntry.location hreg).trans rfl
  · exact (congrArg RegEntry.overdue hreg).trans rfl

/-- A launch of a cabin of the summit set into an EMPTY slot of a line that is not full. -/
theorem bookSummitLaunch_of_summit {s : State} {t : SafetyTables} {i j : Nat} (ht : s.tst.safety = some t)
    (hl : (s.reg i).location = .summit) (hroom : s.ctr.downhill.length < t.N) (hj : j < t.N)
    (hslots : s.ctr.slots.length = t.N) (hempty : s.slot j = .empty) :
    s.bookSummitLaunch i j = (s.takeBooked i).joinDownhill i j := by
  have hcount : s.slotCount = t.N := by rw [State.slotCount, ht]
  have hlaunch : s.takeLaunched i = s.takeBooked i := by simp [State.takeLaunched, hl]
  have hstill : (s.takeBooked i).slot j = .empty := (takeBooked_slotsEmptied s i).empty hempty
  rw [State.bookSummitLaunch, if_neg (by simp [hcount, hroom])]
  dsimp only
  rw [if_neg (by omega), hlaunch, State.resolveSlot, hstill]

/-- Settles O17: the cabin expected first leaves the uphill head for the summit set, and one of the summit set joins the
downhill tail. -/
theorem handoversMoveTheCabin : Obligations.HandoversMoveTheCabin := by
  refine ⟨fun s f rest i h tail hholds hk hb hlook hin hloc hu hi htail hslot => ?_,
    fun s f rest t i j hholds hk hb hlook hin hloc ht hroom hj hjN hslots hempty => ?_⟩
  · have hexec : exec .handoverSummitArrival s = .next
        ((((s.setSlk { s.slk with rxUnanswered := rest }).judgeHandoverSeq (byteAt f.payload 1)).bookSummitArrival i
          (halfAt f.payload 4)).settle s) := by
      rw [show exec .handoverSummitArrival s = execHandoverSummitArrival s from rfl, execHandoverSummitArrival,
        deliverUnanswered_running hholds (by simp [LinkFrame.handoverOf, hk, hb]), decide_eq_true hb,
        takeHandover_of_known (s := s.setSlk { s.slk with rxUnanswered := rest }) _ hlook hin]
    have hbase := judgeHandoverSeq_base (s.setSlk { s.slk with rxUnanswered := rest }) (byteAt f.payload 1)
    have hd := judgeHandoverSeq_does' (s.setSlk { s.slk with rxUnanswered := rest }) (byteAt f.payload 1)
    generalize (s.setSlk { s.slk with rxUnanswered := rest }).judgeHandoverSeq (byteAt f.payload 1) = y at *
    obtain ⟨h1, h2, h3, h4, h5, h6, h7⟩ := bookSummitArrival_of_head (s := y) (halfAt f.payload 4)
      (by rw [reg_congr hd.registry_eq]; exact hloc) (by rw [hd.uphill_eq]; exact hu) hi htail
      (by rw [hd.slots_eq]; exact hslot) (by rw [hd.registry_eq]; exact lt_of_lookup hlook)
    have hr : wasReset s (y.bookSummitArrival i (halfAt f.payload 4)) = false :=
      wasReset_of_restart (h7.trans hd.restart_eq)
    obtain ⟨v, tx, tu, q, o, n, r, hslk, -⟩ := settle_slk hr
    refine ⟨_, hexec, ?_, ?_, fun k => ?_, ?_, ?_, ?_⟩
    · rw [settle_uphill, h1]
    · rw [settle_slot _ _ _ (by rw [h2]; exact nofun), h2]
    · rw [settle_summit, h3, hd.summit_eq]
      rfl
    · rw [settle_reg, h4]
    · rw [settle_reg, h5]
    · rw [hslk, h6, hbase]
  · have hexec : exec .handoverSummitLaunch s = .next
        ((((s.setSlk { s.slk with rxUnanswered := rest }).judgeHandoverSeq (byteAt f.payload 1)).bookSummitLaunch i j).settle
          s) := by
      rw [show exec .handoverSummitLaunch s = execHandoverSummitLaunch s from rfl, execHandoverSummitLaunch,
        deliverUnanswered_running hholds (by simp [LinkFrame.handoverOf, hk, hb]),
        takeHandover_of_known (s := s.setSlk { s.slk with rxUnanswered := rest }) _ hlook hin, hj]
    have hbase := judgeHandoverSeq_base (s.setSlk { s.slk with rxUnanswered := rest }) (byteAt f.payload 1)
    have hd := judgeHandoverSeq_does' (s.setSlk { s.slk with rxUnanswered := rest }) (byteAt f.payload 1)
    generalize (s.setSlk { s.slk with rxUnanswered := rest }).judgeHandoverSeq (byteAt f.payload 1) = y at *
    have hyloc : (y.reg i).location = .summit := by rw [reg_congr hd.registry_eq]; exact hloc
    rw [bookSummitLaunch_of_summit (s := y) (t := t) (by rw [hd.safety_eq]; exact ht) hyloc
      (by rw [hd.downhill_eq]; exact hroom) hjN (by rw [hd.slots_eq]; exact hslots)
      (by rw [slot_congr hd.slots_eq]; exact hempty)] at hexec
    have hb' := takeBooked_spec y i
    have hs' := takeBooked_slotsEmptied y i
    have htb := State.takeBooked_does (m := 266338303 - 2 ^ 13 - 2 ^ 3) i (Does.refl _ y) rfl
    obtain ⟨h1, h2, h3, h4, h5, h6, h7⟩ := joinDownhill_spec (s := y.takeBooked i) (i := i) (j := j)
      (by rw [hb'.standing.length, hd.registry_eq]; exact lt_of_lookup hlook)
      (by rw [hs'.length, hd.slots_eq]; exact hslots ▸ hjN)
    have hr : wasReset s ((y.takeBooked i).joinDownhill i j) = false :=
      wasReset_of_restart (h7.trans (htb.restart_eq.trans hd.restart_eq))
    obtain ⟨v, tx, tu, q, o, n, r, hslk, -⟩ := settle_slk hr
    refine ⟨_, hexec, ?_, ?_, fun k => ?_, ?_, ?_, ?_⟩
    · rw [settle_downhill, h1, hb'.downhill, if_neg (by rw [hyloc]; decide), hd.downhill_eq, htb.rpu_eq, hd.rpu_eq]
      rfl
    · rw [settle_slot _ _ _ (by rw [h2]; exact nofun), h2]
    · rw [settle_summit, h3, hb'.summit, if_pos hyloc, hd.summit_eq]
      simp [and_comm]
    · rw [settle_reg, h4]
    · rw [settle_reg, h5]
    · rw [hslk, h6, htb.slk_eq, hbase]

/-! ## The cabins that a reply moves (R56) -/

/-- Every cabin of the summit set has its location there. -/
def State.SummitPlaced (s : State) : Prop := ∀ j ∈ s.ctr.summit, (s.reg j).location = .summit

/-- What a reply's moves leave: SLK, the size of the registry, and of the uphill list what was there. -/
structure ReplyMoves (s t : State) : Prop where
  slk : t.slk = s.slk
  restart : t.tst.restart = s.tst.restart
  length : t.registry.length = s.registry.length
  uphill : ∀ y ∈ t.ctr.uphill, y ∈ s.ctr.uphill
  placed : s.SummitPlaced → t.SummitPlaced

theorem ReplyMoves.trans {s t u : State} (h1 : ReplyMoves s t) (h2 : ReplyMoves t u) : ReplyMoves s u :=
  ⟨h2.slk.trans h1.slk, h2.restart.trans h1.restart, h2.length.trans h1.length, fun y hy => h1.uphill y (h2.uphill y hy),
    fun h => h2.placed (h1.placed h)⟩

theorem TakenOut.uphill_subset {s t : State} {i : Nat} (h : TakenOut s t i) : ∀ y ∈ t.ctr.uphill, y ∈ s.ctr.uphill := by
  intro y hy
  rw [h.uphill] at hy
  split at hy
  · exact List.mem_of_mem_filter hy
  · exact hy

theorem joinSummit_move {s : State} {i : Nat} (hi : i < s.registry.length) :
    ReplyMoves s ((s.takeBooked i).joinSummit i) := by
  have hb := takeBooked_spec s i
  have hd := State.takeBooked_does (m := 266338303 - 2 ^ 13) i (Does.refl _ s) rfl
  have hj : Does 260 (s.takeBooked i) ((s.takeBooked i).joinSummit i) := State.joinSummit_does i (Does.refl _ _) rfl
  refine ⟨hj.slk_eq.trans hd.slk_eq, hj.restart_eq.trans hd.restart_eq, ?_, fun y hy => ?_, fun hp j hmem => ?_⟩
  · exact ((modReg_registry_length ..).trans (modReg_registry_length ..)).trans hb.standing.length
  · rw [hj.uphill_eq] at hy
    exact hb.uphill_subset y hy
  · rw [joinSummit_reg]
    split
    · rfl
    · rename_i hne
      have hji : j ≠ i := fun h => hne ⟨h.symm, by rwa [hb.standing.length]⟩
      rw [hb.standing.location]
      exact hp j (((takeBooked_joinSummit_summit s i j).mp hmem).resolve_left hji)

/-- Cabins moved to the summit set join what it holds. -/
theorem moveToSummit_spec (l : List Nat) (s : State) (hl : ∀ i ∈ l, i < s.registry.length) :
    ReplyMoves s (s.moveToSummit l) ∧ ∀ j, j ∈ (s.moveToSummit l).ctr.summit ↔ j ∈ l ∨ j ∈ s.ctr.summit := by
  induction l generalizing s with
  | nil => exact ⟨⟨rfl, rfl, rfl, fun _ h => h, id⟩, fun j => by simp [State.moveToSummit]⟩
  | cons i l ih =>
    have hm := joinSummit_move (hl i List.mem_cons_self)
    obtain ⟨h1, h2⟩ := ih ((s.takeBooked i).joinSummit i) fun k hk => by
      rw [hm.length]
      exact hl k (List.mem_cons_of_mem _ hk)
    refine ⟨hm.trans h1, fun j => ?_⟩
    rw [State.moveToSummit, h2, takeBooked_joinSummit_summit, List.mem_cons]
    tauto

/-- A cabin that stands in the summit set, or not there, and joins the unlocated set. -/
theorem joinUnlocated_move {s : State} (i : Nat) (hp : s.SummitPlaced) :
    ReplyMoves s ((s.takeOut i).joinUnlocated i) ∧
      ∀ j, j ∈ ((s.takeOut i).joinUnlocated i).ctr.summit ↔ j ∈ s.ctr.summit ∧ j ≠ i := by
  have hb := takeOut_spec s i
  have hd := State.takeOut_does (m := 266338303 - 2 ^ 13) i (Does.refl _ s) rfl
  have hj : Does 260 (s.takeOut i) ((s.takeOut i).joinUnlocated i) := State.joinUnlocated_does i (Does.refl _ _) rfl
  have hsummit : ∀ j, j ∈ ((s.takeOut i).joinUnlocated i).ctr.summit ↔ j ∈ s.ctr.summit ∧ j ≠ i := fun j => by
    rw [show ((s.takeOut i).joinUnlocated i).ctr.summit = (s.takeOut i).ctr.summit from rfl, hb.summit]
    split
    · simp
    · rename_i hnot
      exact ⟨fun h => ⟨h, fun he => hnot (he ▸ hp j h)⟩, fun h => h.1⟩
  refine ⟨⟨hj.slk_eq.trans hd.slk_eq, hj.restart_eq.trans hd.restart_eq, ?_, fun y hy => hb.uphill_subset y hy,
    fun _ j hmem => ?_⟩, hsummit⟩
  · exact (modReg_registry_length ..).trans hb.standing.length
  · obtain ⟨hin, hne⟩ := (hsummit j).mp hmem
    rw [joinUnlocated_reg, if_neg (fun h => hne h.1.symm), hb.standing.location]
    exact hp j hin

/-- Cabins moved to the unlocated set leave the summit set. -/
theorem moveToUnlocated_summit (l : List Nat) (s : State) (hp : s.SummitPlaced) :
    ReplyMoves s (s.moveToUnlocated l) ∧ ∀ j, j ∈ (s.moveToUnlocated l).ctr.summit ↔ j ∈ s.ctr.summit ∧ j ∉ l := by
  induction l generalizing s with
  | nil => exact ⟨⟨rfl, rfl, rfl, fun _ h => h, id⟩, fun j => by simp [State.moveToUnlocated]⟩
  | cons i l ih =>
    obtain ⟨hm, hs⟩ := joinUnlocated_move i hp
    obtain ⟨h1, h2⟩ := ih ((s.takeOut i).joinUnlocated i) (hm.placed hp)
    refine ⟨hm.trans h1, fun j => ?_⟩
    rw [State.moveToUnlocated, h2, hs, List.mem_cons]
    tauto

/-! ## A whole reply (O18) -/

theorem mem_replySet (s : State) (ids : List Nat) (j : Nat) :
    j ∈ s.replySet ids ↔ ∃ id ∈ ids, s.lookup id = some j ∧ (s.reg j).stat.inService = true := by
  rw [State.replySet, List.mem_dedup, List.mem_filterMap]
  refine exists_congr fun id => and_congr_right fun _ => ?_
  rw [Option.filter_eq_some_iff]

/-- The summit set after a reply is the reply's. -/
theorem applyReply_spec {s : State} (hp : s.SummitPlaced) (seq : Nat) (ids : List Nat) :
    let u := s.applyReply seq ids
    (∀ j, j ∈ u.ctr.summit ↔ j ∈ s.replySet ids) ∧ u.slk = { s.slk with handoverBase := some seq } ∧
      u.ctr.reconcile = .idle ∧ u.tst.restart = s.tst.restart := by
  have hset : ∀ i ∈ s.replySet ids, i < s.registry.length := fun i hi => by
    obtain ⟨id, -, hlook, -⟩ := (mem_replySet s ids i).mp hi
    exact lt_of_lookup hlook
  rw [State.applyReply]
  dsimp only
  generalize hup : (s.ctr.uphill.map UphillEntry.cabin).filter (fun i => i ∈ s.replySet ids) = up
  obtain ⟨hm1, hs1⟩ := moveToSummit_spec up s fun i hi => hset i (by
    rw [← hup] at hi
    simpa using (List.mem_filter.mp hi).2)
  generalize s.moveToSummit up = s1 at *
  generalize hgone : s1.ctr.summit.filter (fun i => i ∉ s.replySet ids) = gone
  obtain ⟨hm2, hs2⟩ := moveToUnlocated_summit gone s1 (hm1.placed hp)
  generalize s1.moveToUnlocated gone = s2 at *
  generalize hrest : (s.replySet ids).filter
    (fun i => i ∉ s2.ctr.summit && i ∉ s2.ctr.uphill.map UphillEntry.cabin) = rest
  have hm12 := hm1.trans hm2
  obtain ⟨hm3, hs3⟩ := moveToSummit_spec rest s2 fun i hi => by
    rw [hm12.length]
    rw [← hrest] at hi
    exact hset i (List.mem_filter.mp hi).1
  generalize s2.moveToSummit rest = s3 at *
  refine ⟨fun j => ?_, ?_, ?_, ?_⟩
  · rw [report_ctr]
    have hj : j ∈ s3.ctr.summit ↔ j ∈ s.replySet ids := by
      have hup' : j ∈ up ↔ j ∈ s.ctr.uphill.map UphillEntry.cabin ∧ j ∈ s.replySet ids := by
        rw [← hup, List.mem_filter, decide_eq_true_iff]
      have hgone' : j ∈ gone ↔ j ∈ s1.ctr.summit ∧ j ∉ s.replySet ids := by
        rw [← hgone, List.mem_filter, decide_eq_true_iff]
      have hrest' : j ∈ rest ↔ j ∈ s.replySet ids ∧ j ∉ s2.ctr.summit ∧ j ∉ s2.ctr.uphill.map UphillEntry.cabin := by
        rw [← hrest, List.mem_filter, Bool.and_eq_true, decide_eq_true_iff, decide_eq_true_iff]
      have huphill : j ∈ s2.ctr.uphill.map UphillEntry.cabin → j ∈ s.ctr.uphill.map UphillEntry.cabin := fun h => by
        obtain ⟨y, hy, hc⟩ := List.mem_map.mp h
        exact List.mem_map.mpr ⟨y, hm12.uphill y hy, hc⟩
      rw [hs3, hrest', hs2, hgone', hs1, hup']
      grind
    have hsame : ∀ y : State, y.ctr.summit = s3.ctr.summit → (j ∈ y.ctr.summit ↔ j ∈ s.replySet ids) :=
      fun y hy => by rw [hy]; exact hj
    refine hsame _ ?_
    simp [State.setReconcile, State.setHandoverBase]
  · rw [report_slk]
    simp [State.setReconcile, State.setHandoverBase, hm3.slk, hm12.slk]
  · rw [report_ctr]
    simp [State.setReconcile]
  · rw [report_restart]
    simp [State.setReconcile, State.setHandoverBase, hm3.restart, hm12.restart]

/-- A reply of one part is applied at once. -/
theorem takeReplyFrame_of_single {s : State} {f : LinkFrame} (hq : s.ctr.reconcile = .querying f.tag none)
    (htag : s.slk.tagHeld f.tag = true) (hm : setReplyMalformed f.payload = false) (hok : byteAt f.payload 0 = 0)
    (hone : byteAt f.payload 2 = 17) :
    s.takeReplyFrame f = (s.freeRequest f.tag).applyReply (byteAt f.payload 1) (replyIds f.payload) := by
  rw [State.takeReplyFrame, if_neg (by simp [htag]), if_neg (by simp [hm]), State.handReply, hq]
  dsimp only
  rw [if_pos rfl, State.takePart, if_neg (by simp [ReplyPart.fails, replyPartOf, hok, hone])]
  simp [replyPartOf, hone, ReplyParts.add, ReplyParts.complete]

/-- Settles O18: the reply's moves leave its set, whatever stood where before. -/
theorem replyAppliesTheSummitSet : Obligations.ReplyAppliesTheSummitSet := by
  intro s f rest hholds hk hq htag hm hok hone hp
  have hexec : exec .replyPart s = .next
      ((((s.setSlk { s.slk with rxUnanswered := rest }).freeRequest f.tag).applyReply (byteAt f.payload 1)
        (replyIds f.payload)).settle s) := by
    rw [show exec .replyPart s = execReplyPart s from rfl, execReplyPart,
      deliverUnanswered_running hholds (by simp [hk]),
      takeReplyFrame_of_single (s := s.setSlk { s.slk with rxUnanswered := rest }) hq htag hm hok hone]
  obtain ⟨h1, h2, h3, h4⟩ := applyReply_spec (s := (s.setSlk { s.slk with rxUnanswered := rest }).freeRequest f.tag) hp
    (byteAt f.payload 1) (replyIds f.payload)
  generalize ((s.setSlk { s.slk with rxUnanswered := rest }).freeRequest f.tag).applyReply _ _ = y at *
  have hr : wasReset s y = false := wasReset_of_restart h4
  obtain ⟨v, tx, tu, q, o, n, r, hslk, -⟩ := settle_slk hr
  refine ⟨_, hexec, fun j => ?_, ?_, ?_, ?_⟩
  · rw [settle_summit, h1, mem_replySet]
    rfl
  · rw [hslk, h2]
  · rw [settle_reconcile, h3]
  · rw [settle_tagHeld hr, h2]
    simp [Slk.tagHeld, State.freeRequest]

end Sys2Proof.Machine
end

section
/-!
PROOFS. Passages through the station, the grip test and the switch (chapter 4).
-/

namespace Sys2Proof.Machine

/-! ## Passages (O22) -/

theorem oldest_congr {s t : State} (h : t.ctr.queue = s.ctr.queue) (g : Segment) : t.oldest g = s.oldest g := by
  simp only [State.oldest, State.inSegment, h]

theorem newest_congr {s t : State} (h : t.ctr.queue = s.ctr.queue) (g : Segment) : t.newest g = s.newest g := by
  simp only [State.newest, State.inSegment, h]

theorem moveEntry_queue (s : State) (e : StationEntry) (g : Segment) :
    (s.moveEntry e g).ctr.queue = s.ctr.queue.map fun y => if y.serial = e.serial then { y with segment := g } else y := by
  rw [State.moveEntry, judgeSegments_ctr]
  rfl

section
variable {s : State} {x : StationEntry} {n : Nat} {near far : Segment} {act : State → StationEntry → State}

/-- A forward passage moves the oldest entry, and what follows leaves the queue. -/
theorem passForward_queue (hx : s.oldest near = some x) (hact : ∀ y, (act y x).ctr.queue = y.ctr.queue) :
    (s.passForward n near far act).ctr.queue =
      s.ctr.queue.map fun y => if y.serial = x.serial then { y with segment := far } else y := by
  rw [State.passForward, hx]
  exact (hact _).trans (moveEntry_queue s x far)

theorem passBackward_queue (hx : s.newest near = some x) (hact : ∀ y, (act y x).ctr.queue = y.ctr.queue) :
    (s.passBackward n near far act).ctr.queue =
      s.ctr.queue.map fun y => if y.serial = x.serial then { y with segment := far } else y := by
  rw [State.passBackward, hx]
  exact (hact _).trans (moveEntry_queue s x far)

end

/-- A mask of every part but the station queue. -/
abbrev allButQueue : Nat := 268435455 - 2 ^ 5

theorem exitIfEmptied_queue (s b : State) : (s.exitIfEmptied b).ctr.queue = s.ctr.queue :=
  (State.exitIfEmptied_does (m := allButQueue) b (Does.refl _ s) rfl).queue_eq

/-- The detectors inside the station: between which segments each stands. -/
theorem takePassage_queue {s : State} {r : Role} {near far : Segment} {x : StationEntry}
    (hr : (r = .detector2 ∧ near = .s1 ∧ far = .s2) ∨ (r = .detector3 ∧ near = .s2 ∧ far = .s3) ∨
      (r = .detector4 ∧ near = .s3 ∧ far = .s4)) :
    (s.oldest near = some x → (s.takePassage r).ctr.queue =
      s.ctr.queue.map fun y => if y.serial = x.serial then { y with segment := far } else y) ∧
    (s.newest far = some x → (s.takeBackPassage r).ctr.queue =
      s.ctr.queue.map fun y => if y.serial = x.serial then { y with segment := near } else y) := by
  rcases hr with ⟨rfl, rfl, rfl⟩ | ⟨rfl, rfl, rfl⟩ | ⟨rfl, rfl, rfl⟩
  · exact ⟨fun hx => passForward_queue hx fun y =>
        (State.openAtD2_does (m := allButQueue) x (Does.refl _ y) rfl).queue_eq,
      fun hx => passBackward_queue hx fun y => (State.backD2_does (m := allButQueue) x (Does.refl _ y) rfl).queue_eq⟩
  · exact ⟨fun hx => passForward_queue hx fun y =>
        (State.requestClose_does (m := allButQueue) x (Does.refl _ y) rfl).queue_eq,
      fun hx => passBackward_queue hx fun y => (State.backD3_does (m := allButQueue) x (Does.refl _ y) rfl).queue_eq⟩
  · refine ⟨fun hx => passForward_queue hx fun y =>
        (State.afterD4_does (m := allButQueue) x (Does.refl _ y) rfl).queue_eq, fun hx => ?_⟩
    rw [State.takeBackPassage, exitIfEmptied_queue]
    exact passBackward_queue hx fun y => (State.backD4_does (m := allButQueue) x (Does.refl _ y) rfl).queue_eq

theorem judgeSwitch_queue (s : State) : s.judgeSwitch.ctr.queue = s.ctr.queue :=
  (State.judgeSwitch_does (m := allButQueue) (Does.refl _ s) rfl).queue_eq

theorem takeHead_oldest (s : State) (rest : List IngressEntry) (g : Segment) : (s.takeHead rest).oldest g = s.oldest g :=
  oldest_congr (by rw [takeHead_ctr]) g

theorem takeHead_newest (s : State) (rest : List IngressEntry) (g : Segment) : (s.takeHead rest).newest g = s.newest g :=
  newest_congr (by rw [takeHead_ctr]) g

/-- Settles O22: each detector's passage is a case of `State.passForward` or `State.passBackward`. -/
theorem passagesMoveOneEntry : Obligations.PassagesMoveOneEntry := by
  refine ⟨fun s e rest x near far hr => ⟨fun hdel hx => ?_, fun hdel hx => ?_⟩,
    fun s e rest x => ⟨fun hdel hx => ?_, fun hdel hx => ?_⟩⟩
  · refine ⟨((s.takeHead rest).takePassage e.role).settle s, ?_, ?_⟩
    · rw [show exec .passageForward s = execPassageForward s from rfl, execPassageForward, deliver_running hdel]
    · rw [settle_queue, (takePassage_queue hr).1 (by rwa [takeHead_oldest]), takeHead_ctr]
  · refine ⟨((s.takeHead rest).takeBackPassage e.role).settle s, ?_, ?_⟩
    · rw [show exec .passageBackward s = execPassageBackward s from rfl, execPassageBackward, deliver_running hdel]
    · rw [settle_queue, (takePassage_queue hr).2 (by rwa [takeHead_newest]), takeHead_ctr]
  · refine ⟨((s.takeHead rest).takeBackGrip).settle s, ?_, ?_, ?_, ?_⟩
    · rw [show exec .gripSampleBackward s = execGripSampleBackward s from rfl, execGripSampleBackward, deliver_running hdel]
    · rw [settle_registry, (State.takeBackGrip_does (m := 268435455 - 2 ^ 2) (Does.refl _ (s.takeHead rest)) rfl).registry_eq,
        takeHead_registry]
    · rw [settle_rmn, (State.takeBackGrip_does (m := 268435455 - 2 ^ 12) (Does.refl _ (s.takeHead rest)) rfl).rmn_eq,
        takeHead_rmn]
    · rw [settle_queue, State.takeBackGrip, passBackward_queue (by rwa [takeHead_newest]) judgeSwitch_queue, takeHead_ctr]
  · refine ⟨((s.takeHead rest).takeBackSwitch).settle s, ?_, ?_, ?_⟩
    · rw [show exec .switchPassageBackward s = execSwitchPassageBackward s from rfl, execSwitchPassageBackward,
        deliver_running hdel]
    · rw [settle_registry, (State.takeBackSwitch_does (m := 268435455 - 2 ^ 2) (Does.refl _ (s.takeHead rest)) rfl).registry_eq,
        takeHead_registry]
    · rw [settle_queue, State.takeBackSwitch, passBackward_queue (by rwa [takeHead_newest]) (fun y => by
        rw [judgeSwitch_queue, reportHead_queue]), takeHead_ctr]

/-! ## The grip test (O23) -/

theorem setGrip_reg_self {s : State} {e : StationEntry} {i : Nat} (hw : e.who = .cabin i) (hi : i < s.registry.length)
    (v : GripVerdict) (f : Option Nat) : (s.setGrip e v f).reg i = { s.reg i with verdict := v, force := f } := by
  rw [State.setGrip, hw]
  exact modReg_reg_self _ hi

/-- Of a registered cabin the registry alone is changed, and its size kept. -/
theorem setGrip_keeps {s : State} {e : StationEntry} {i : Nat} (hw : e.who = .cabin i) (v : GripVerdict) (f : Option Nat) :
    (s.setGrip e v f).ctr = s.ctr ∧ (s.setGrip e v f).tst = s.tst ∧ (s.setGrip e v f).rmn = s.rmn ∧
      (s.setGrip e v f).registry.length = s.registry.length := by
  rw [State.setGrip, hw]
  exact ⟨rfl, rfl, rfl, modReg_registry_length ..⟩

/-- A registered cabin's grip judged: its verdict and force, and the counters. -/
theorem judgeGrip_spec {s : State} {e : StationEntry} {o : OperationsTables} {i : Nat} (ho : s.tst.operations = some o)
    (hw : e.who = .cabin i) (hi : i < s.registry.length) (force : Nat) :
    let c := o.classes.getD (s.reg i).stat.gripClass GripClass.widest
    let pass := c.fMin ≤ force ∧ force ≤ c.fMax
    let u := s.judgeGrip e force
    u.ctr = s.ctr ∧ u.tst.safety = s.tst.safety ∧ u.registry.length = s.registry.length ∧
      u.reg i = { s.reg i with verdict := if pass then .pass else .reject, force := some force } ∧
      u.rmn.gripSamples = satInc s.rmn.gripSamples ∧
      u.rmn.gripRejects = if pass then s.rmn.gripRejects else satInc s.rmn.gripRejects := by
  have hclass : s.gripClassOf e.who = (s.reg i).stat.gripClass := by simp [State.gripClassOf, hw]
  simp only [State.judgeGrip, ho, State.judgeForce, hclass]
  by_cases hp : (o.classes.getD (s.reg i).stat.gripClass GripClass.widest).fMin ≤ force ∧
      force ≤ (o.classes.getD (s.reg i).stat.gripClass GripClass.widest).fMax
  · rw [if_pos (by simpa using hp), if_pos hp, if_pos hp]
    obtain ⟨h1, h2, h3, h4⟩ := setGrip_keeps (s := s.setRmn { s.rmn with gripSamples := satInc s.rmn.gripSamples }) hw .pass
      (some force)
    exact ⟨h1, by rw [h2]; rfl, h4, setGrip_reg_self hw (by exact hi) _ _, by rw [h3]; rfl, by rw [h3]; rfl⟩
  · rw [if_neg (by simpa using hp), if_neg hp, if_neg hp, State.rejectGrip]
    obtain ⟨h1, h2, h3, h4⟩ := setGrip_keeps (s := s.setRmn
      { s.rmn with gripSamples := satInc s.rmn.gripSamples, gripRejects := satInc s.rmn.gripRejects }) hw .reject
      (some force)
    refine ⟨by rw [report_ctr]; exact h1, by rw [report_safety]; exact congrArg Tst.safety h2,
      by rw [report_registry]; exact h4, ?_, by rw [report_rmn]; exact congrArg Rmn.gripSamples h3,
      by rw [report_rmn]; exact congrArg Rmn.gripRejects h3⟩
    rw [reg_congr (report_registry ..)]
    exact setGrip_reg_self hw (by exact hi) _ _

/-- Of the queue with one entry moved, the entries routed GARAGE beside it are what they were. -/
theorem otherClaims_moved {s t : State} {x : StationEntry} {g : Segment}
    (hq : t.ctr.queue = s.ctr.queue.map fun y => if y.serial = x.serial then { y with segment := g } else y)
    {e : StationEntry} (he : e.serial = x.serial) :
    t.otherClaims e = (s.ctr.queue.filter fun y => y.route = .garage && y.serial ≠ x.serial).length := by
  rw [State.otherClaims, hq, List.filter_map, List.length_map, he]
  congr 1
  refine List.filter_congr fun y _ => ?_
  simp only [Function.comp]
  split <;> rfl

theorem entry_moved {s t : State} {x : StationEntry} {g : Segment}
    (hq : t.ctr.queue = s.ctr.queue.map fun y => if y.serial = x.serial then { y with segment := g } else y)
    (hx : s.entry x.serial = some x) : t.entry x.serial = some { x with segment := g } := by
  have hcomp : ((fun e : StationEntry => decide (e.serial = x.serial)) ∘
      fun y => if y.serial = x.serial then { y with segment := g } else y) = fun e => decide (e.serial = x.serial) := by
    funext y
    simp only [Function.comp]
    split <;> rfl
  have hfind : s.ctr.queue.find? (fun e => e.serial = x.serial) = some x := hx
  rw [State.entry, hq, List.find?_map, hcomp, hfind]
  simp

/-- The routing of a registered cabin that has crossed D5 (R71). -/
theorem routeEntry_spec {s : State} {e : StationEntry} {i : Nat} (hw : e.who = .cabin i) (hi : i < s.registry.length) :
    let granted := ((s.reg i).verdict = .reject ∨ (s.reg i).garageNext = true) ∧ s.garageGranted e = true
    let u := s.routeEntry e
    u.rmn = s.rmn ∧
    (granted → u.reg i = s.reg i ∧
      u.ctr.queue = s.ctr.queue.map fun y => if y.serial = e.serial then { y with route := .garage } else y) ∧
    (¬granted → u.reg i = { s.reg i with garageNext := false } ∧
      u.ctr.queue = s.ctr.queue.map fun y => if y.serial = e.serial then { y with route := .line } else y) := by
  have hwants : s.wantsGarage e = true ↔ (s.reg i).verdict = .reject ∨ (s.reg i).garageNext = true := by
    simp [State.wantsGarage, State.verdictOf, Who.isAnon, hw]
  refine ⟨(State.routeEntry_does (m := 268435455 - 2 ^ 12) e (Does.refl _ s) rfl).rmn_eq, fun h => ?_, fun h => ?_⟩
  · rw [State.routeEntry, if_pos (by rw [Bool.and_eq_true, hwants]; exact h)]
    exact ⟨rfl, rfl⟩
  · rw [State.routeEntry, if_neg (by rw [Bool.and_eq_true, hwants]; exact h)]
    have hrep : Does 4259840 (s.setRoute e .line) ((s.setRoute e .line).reportForced e) :=
      State.reportForced_does e (Does.refl _ _) rfl
    have hreg : ((s.setRoute e .line).reportForced e).reg i = s.reg i := reg_congr hrep.registry_eq i
    have hlen : i < ((s.setRoute e .line).reportForced e).registry.length := by rw [hrep.registry_eq]; exact hi
    have hqueue : ((s.setRoute e .line).reportForced e).ctr.queue =
        s.ctr.queue.map fun y => if y.serial = e.serial then { y with route := .line } else y := hrep.queue_eq
    generalize (s.setRoute e .line).reportForced e = y at *
    simp only [State.dropGarageNext, hw]
    split
    · rw [reg_congr (report_registry ..), report_ctr, modReg_reg_self _ hlen, hreg]
      exact ⟨rfl, hqueue⟩
    · rename_i hnot
      refine ⟨?_, hqueue⟩
      have hsame : ∀ r : RegEntry, ¬ r.garageNext = true → r = { r with garageNext := false } := fun r hr => by
        cases r
        simp_all
      rw [hreg] at hnot ⊢
      exact hsame _ hnot

/-- The judging and routing of the oldest entry of S4, a registered cabin. -/
theorem takeGrip_spec {s : State} {t : SafetyTables} {o : OperationsTables} {x : StationEntry} {i : Nat} {force : Nat}
    (ht : s.tst.safety = some t) (ho : s.tst.operations = some o) (hx : s.oldest .s4 = some x) (hw : x.who = .cabin i)
    (hent : s.entry x.serial = some x) (hi : i < s.registry.length) :
    let c := o.classes.getD (s.reg i).stat.gripClass GripClass.widest
    let pass := c.fMin ≤ force ∧ force ≤ c.fMax
    let claims := (s.ctr.queue.filter fun y => y.route = .garage && y.serial ≠ x.serial).length
    let granted := (¬pass ∨ (s.reg i).garageNext = true) ∧ s.ctr.garage.length + claims < t.gcap
    let u := s.takeGrip force
    u.rmn.gripSamples = satInc s.rmn.gripSamples ∧
      u.rmn.gripRejects = (if pass then s.rmn.gripRejects else satInc s.rmn.gripRejects) ∧
      (granted → u.reg i = { s.reg i with verdict := if pass then .pass else .reject, force := some force } ∧
        u.ctr.queue = s.ctr.queue.map fun y =>
          if y.serial = x.serial then { y with segment := .s5, route := .garage } else y) ∧
      (¬granted →
        u.reg i =
          { s.reg i with verdict := if pass then .pass else .reject, force := some force, garageNext := false } ∧
        u.ctr.queue = s.ctr.queue.map fun y =>
          if y.serial = x.serial then { y with segment := .s5, route := .line } else y) := by
  intro c pass claims granted
  have hmove := moveEntry_queue s x .s5
  have hm : Does 4292640 s (s.moveEntry x .s5) := State.moveEntry_does x .s5 (Does.refl _ s) rfl
  rw [State.takeGrip, State.passForward, hx]
  dsimp only [State.afterD5]
  generalize s.moveEntry x .s5 = y at *
  have hyi : i < y.registry.length := by rw [hm.registry_eq]; exact hi
  have hyreg : y.reg i = s.reg i := reg_congr hm.registry_eq i
  obtain ⟨hctr, hsafety, hlen, hreg, hsamples, hrejects⟩ :=
    judgeGrip_spec (s := y) (e := x) (by rw [(hm.1 .tables rfl).2.1]; exact ho) hw hyi force
  have hsafety' : (y.judgeGrip x force).tst.safety = some t := by rw [hsafety, hm.safety_eq, ht]
  generalize y.judgeGrip x force = z at *
  rw [hyreg] at hreg hrejects
  have hzq : z.ctr.queue = s.ctr.queue.map fun y => if y.serial = x.serial then { y with segment := .s5 } else y := by
    rw [hctr, hmove]
  have hentry := entry_moved hzq hent
  rw [hentry, Option.getD_some]
  have hgarage : z.garageGranted { x with segment := .s5 } = true ↔ s.ctr.garage.length + claims < t.gcap := by
    rw [State.garageGranted, otherClaims_moved (e := { x with segment := .s5 }) hzq rfl, hctr, hm.garage_eq, State.tables, hsafety', decide_eq_true_iff]
    rfl
  obtain ⟨hrmn, hyes, hno⟩ := routeEntry_spec (s := z) (e := { x with segment := .s5 }) hw (by rw [hlen]; exact hyi)
  have hgranted : ((z.reg i).verdict = .reject ∨ (z.reg i).garageNext = true) ∧
      z.garageGranted { x with segment := .s5 } = true ↔ granted := by
    rw [hgarage, hreg]
    refine and_congr_left fun _ => or_congr ?_ Iff.rfl
    change (if pass then GripVerdict.pass else .reject) = .reject ↔ ¬pass
    by_cases hp : pass
    · rw [if_pos hp]
      exact iff_of_false nofun (not_not_intro hp)
    · rw [if_neg hp]
      exact iff_of_true rfl hp
  rw [hgranted] at hyes hno
  generalize hroute : z.routeEntry { x with segment := .s5 } = w at *
  have hsw : Does 4260864 w w.judgeSwitch := State.judgeSwitch_does (Does.refl _ w) rfl
  have hex : Does 66560 w.judgeSwitch (w.judgeSwitch.exitIfEmptied s) := State.exitIfEmptied_does s (Does.refl _ _) rfl
  have hrejects' : z.rmn.gripRejects = if pass then s.rmn.gripRejects else satInc s.rmn.gripRejects := by
    rw [hrejects, hm.rmn_eq]
  have hmap : ∀ r : Route, (z.ctr.queue.map fun y => if y.serial = x.serial then { y with route := r } else y) =
      s.ctr.queue.map fun y => if y.serial = x.serial then { y with segment := .s5, route := r } else y := fun r => by
    rw [hzq, List.map_map]
    refine List.map_congr_left fun y _ => ?_
    simp only [Function.comp]
    by_cases hy : y.serial = x.serial
    · simp [hy]
    · simp [hy]
  refine ⟨?_, ?_, fun hg => ⟨?_, ?_⟩, fun hg => ⟨?_, ?_⟩⟩
  · rw [hex.rmn_eq, hsw.rmn_eq, hrmn, hsamples, hm.rmn_eq]
  · rw [hex.rmn_eq, hsw.rmn_eq, hrmn, hrejects']
  · rw [reg_congr hex.registry_eq, reg_congr hsw.registry_eq, (hyes hg).1, hreg]
  · rw [hex.queue_eq, hsw.queue_eq, (hyes hg).2]
    exact hmap .garage
  · rw [reg_congr hex.registry_eq, reg_congr hsw.registry_eq, (hno hg).1, hreg]
  · rw [hex.queue_eq, hsw.queue_eq, (hno hg).2]
    exact hmap .line

/-- Settles O23. -/
theorem gripSampleJudgesAndRoutes : Obligations.GripSampleJudgesAndRoutes := by
  intro s e rest t o x i hdel ht ho hx hw hent hi hclass
  refine ⟨((s.takeHead rest).takeGrip e.frame.force).settle s, ?_, ?_⟩
  · rw [show exec .gripSampleForward s = execGripSampleForward s from rfl, execGripSampleForward, deliver_running hdel]
  · intro c pass claims granted
    have hctr : (s.takeHead rest).ctr = s.ctr := takeHead_ctr s rest
    have hent' : (s.takeHead rest).entry x.serial = some x := (entry_congr (by rw [hctr]) _).trans hent
    obtain ⟨hsamples, hrejects, hyes, hno⟩ := takeGrip_spec (s := s.takeHead rest) (force := e.frame.force)
      (by rw [takeHead_tst]; exact ht) (by rw [takeHead_tst]; exact ho) (by rwa [takeHead_oldest]) hw hent'
      (by rwa [takeHead_registry])
    simp only [takeHead_reg, takeHead_rmn, hctr] at hsamples hrejects hyes hno
    simp only [settle_reg, settle_rmn, settle_queue]
    have hverdict : (((s.takeHead rest).takeGrip e.frame.force).reg i).verdict = (if pass then .pass else .reject) ∧
        (((s.takeHead rest).takeGrip e.frame.force).reg i).force = some e.frame.force := by
      by_cases hg : granted
      · rw [(hyes hg).1]
        exact ⟨rfl, rfl⟩
      · rw [(hno hg).1]
        exact ⟨rfl, rfl⟩
    refine ⟨fun hp => ?_, fun hp => ?_, hverdict.2, hsamples, fun hp => ?_, fun hp => ?_, fun hg => ?_, fun hg => ?_⟩
    · exact hverdict.1.trans (if_pos hp)
    · exact hverdict.1.trans (if_neg hp)
    · exact hrejects.trans (if_pos hp)
    · exact hrejects.trans (if_neg hp)
    · exact ⟨by rw [(hyes hg).1], (hyes hg).2⟩
    · exact ⟨by rw [(hno hg).1], (hno hg).2⟩

/-! The switch passage (R73) and the refused SWITCH_SET (R72). -/

theorem toLaunchQueue_spec (s : State) (e : StationEntry) :
    (s.toLaunchQueue e).ctr.garage = s.ctr.garage ∧
      (s.toLaunchQueue e).ctr.queue =
        s.ctr.queue.map fun y => if y.serial = e.serial then { y with segment := .s6, route := .line } else y :=
  ⟨(State.toLaunchQueue_does (m := 268435455 - 2 ^ 6) e (Does.refl _ s) rfl).garage_eq, by
    rw [State.toLaunchQueue, reportHead_queue, judgeSegments_ctr]
    rfl⟩

theorem toGarage_spec {s : State} {e : StationEntry} {i : Nat} (hw : e.who = .cabin i) (hi : i < s.registry.length) :
    (s.toGarage e).ctr.queue = s.ctr.queue.filter (fun y => y.serial ≠ e.serial) ∧
      (s.toGarage e).ctr.garage = { serial := e.serial, who := e.who } :: s.ctr.garage ∧
      ((s.toGarage e).reg i).location = .garage ∧ ((s.toGarage e).reg i).garageNext = false := by
  have hqueue := State.leaveStation_queue s e
  have hgarage := (State.leaveStation_does (m := 268435455 - 2 ^ 6) e (Does.refl _ s) rfl).garage_eq
  have hlen : i < (s.leaveStation e).registry.length := by rwa [(leaveStation_sameStanding s e).length]
  rw [State.toGarage]
  generalize s.leaveStation e = y at *
  have hcabin : Does 4 (y.pushGarage { serial := e.serial, who := e.who })
      ((y.pushGarage { serial := e.serial, who := e.who }).garageCabin e.who) :=
    State.garageCabin_does e.who (Does.refl _ _) rfl
  have hreg : ((y.pushGarage { serial := e.serial, who := e.who }).garageCabin e.who).reg i =
      { y.reg i with location := .garage, garageNext := false } := by
    rw [hw]
    exact modReg_reg_self _ hlen
  generalize (y.pushGarage { serial := e.serial, who := e.who }).garageCabin e.who = z at *
  have hexit : Does 66560 z z.judgeGarageExit := State.judgeGarageExit_does (Does.refl _ z) rfl
  refine ⟨?_, ?_, ?_, ?_⟩
  · rw [hexit.queue_eq, hcabin.queue_eq]
    exact hqueue
  · rw [hexit.garage_eq, hcabin.garage_eq]
    exact congrArg _ hgarage
  · rw [reg_congr hexit.registry_eq, hreg]
  · rw [reg_congr hexit.registry_eq, hreg]

/-- The checks that follow a switch passage leave the queue, the stack and the registry as the passage made them. -/
theorem takeSwitch_after_crossing {s : State} {x : StationEntry} (hx : s.oldest .s5 = some x) (p : SwitchPosition) :
    (s.takeSwitch p).ctr.queue = (s.crossSwitch x p).ctr.queue ∧
      (s.takeSwitch p).ctr.garage = (s.crossSwitch x p).ctr.garage ∧
      (s.takeSwitch p).registry = (s.crossSwitch x p).registry := by
  simp only [State.takeSwitch, hx]
  have hroute := State.checkRoute_does (m := 4292608) x p (Does.refl _ (s.crossSwitch x p)) rfl
  have hswitch := State.judgeSwitch_does (m := 4292608 ||| 4260864) (Does.refl _ ((s.crossSwitch x p).checkRoute x p)) rfl
  exact ⟨hswitch.queue_eq.trans hroute.queue_eq, hswitch.garage_eq.trans hroute.garage_eq,
    hswitch.registry_eq.trans hroute.registry_eq⟩

/-- Settles O24. -/
theorem switchPassageParts : Obligations.SwitchPassageParts := by
  refine ⟨fun s e rest t x i hdel ht hx hw hi => ?_, fun s e rest hdel htag => ?_⟩
  · refine ⟨((s.takeHead rest).takeSwitch e.frame.position).settle s, ?_, ?_⟩
    · rw [show exec .switchPassageForward s = execSwitchPassageForward s from rfl, execSwitchPassageForward,
        deliver_running hdel]
    obtain ⟨hqueue, hgarage, hregistry⟩ :=
      takeSwitch_after_crossing (s := s.takeHead rest) (x := x) (by rwa [takeHead_oldest]) e.frame.position
    have hctr : (s.takeHead rest).ctr = s.ctr := takeHead_ctr s rest
    rw [settle_garage, settle_queue, settle_reg, hqueue, hgarage, reg_congr hregistry]
    refine ⟨fun hp => ?_, fun hp hroom => ?_⟩
    · rw [hp, State.crossSwitch, ← hctr]
      exact toLaunchQueue_spec _ _
    · rw [hp, State.crossSwitch, if_pos (by rw [hctr, State.tables, takeHead_tst, ht]; exact hroom), ← hctr]
      exact toGarage_spec hw (by rwa [takeHead_registry])
  · refine ⟨((s.takeHead rest).takeSwitchNack e.frame).settle s, ?_, ?_⟩
    · rw [show exec .nackSwitchSet s = execNackSwitchSet s from rfl, execNackSwitchSet, deliver_running hdel]
    · have hctr : (s.takeHead rest).ctr = s.ctr := takeHead_ctr s rest
      rw [settle_track, State.takeSwitchNack, if_pos (by rw [hctr]; exact htag), report_ctr, ← hctr]
      rfl

end Sys2Proof.Machine
end
section
/-!
PROOFS. A garage exit (O25), its end without a passage (O26), and the operator's cabin actions (O28).
-/

namespace Sys2Proof.Machine

/-! ## The garage exit (R77, R79) -/

theorem judgeGarageExit_of_not_ready {s : State} (h : s.exitReady = false) : s.judgeGarageExit = s := by
  unfold State.judgeGarageExit
  split
  · rw [h]
    rfl
  · rfl

/-- An entry in S4 keeps the garage shut (R76). -/
theorem exitReady_of_s4 {s : State} {e : StationEntry} (he : e ∈ s.ctr.queue) (h4 : e.segment = .s4) :
    s.exitReady = false := by
  have hmem : e ∈ s.inSegment .s4 := List.mem_filter.mpr ⟨he, by simpa using h4⟩
  have hne : (s.inSegment .s4).isEmpty = false := by
    rw [List.isEmpty_eq_false_iff]
    exact List.ne_nil_of_mem hmem
  simp [State.exitReady, hne]

theorem exitReady_of_none_pending {s : State} (h : s.ctr.exitPending = 0) : s.exitReady = false := by
  simp [State.exitReady, h]

/-- The top of the stack placed behind the entries of S4 to S7. -/
theorem exitToS4_spec (s : State) (g : GarageEntry) :
    (s.exitToS4 g).ctr =
        { s.ctr with
          queue := placeInS4 s.ctr.queue
            { serial := g.serial, who := g.who, segment := .s4, route := .undecided, slotless := false } } ∧
      (s.exitToS4 g).dsq.records = s.dsq.records ++ [DoorRecord.fromGarage g.serial] ∧
      ∀ i, g.who = .cabin i → i < s.registry.length → ((s.exitToS4 g).reg i).location = .station := by
  rw [State.exitToS4]
  refine ⟨?_, ?_, fun i hw hi => ?_⟩
  · unfold State.locateWho
    split <;> rfl
  · unfold State.locateWho
    split <;> rfl
  · simp only [State.locateWho, hw, State.setLocation]
    rw [modReg_reg_self _ (by exact hi)]

theorem checkTop_does' (s : State) (c : ExitCommand) (g : GarageEntry) : Does 4259840 s (s.checkTop c g) :=
  State.checkTop_does c g (Does.refl _ s) rfl

theorem checkTop_ctr (s : State) (c : ExitCommand) (g : GarageEntry) : (s.checkTop c g).ctr = s.ctr := by
  unfold State.checkTop
  split
  · rfl
  · exact report_ctr ..

/-- The pop of the stack into S4, with room in the queue (R77). -/
theorem popGarage_spec {s : State} (c : ExitCommand) (g : GarageEntry) (below : List GarageEntry)
    (hroom : s.ctr.queue.length < 32) :
    (s.popGarage c g below).ctr =
        { s.ctr with
          garage := below
          queue := placeInS4 s.ctr.queue
            { serial := g.serial, who := g.who, segment := .s4, route := .undecided, slotless := false }
          exitPending := if below = [] then 0 else s.ctr.exitPending - 1 } ∧
      (s.popGarage c g below).dsq.records = s.dsq.records ++ [DoorRecord.fromGarage g.serial] ∧
      ∀ i, g.who = .cabin i → i < s.registry.length → ((s.popGarage c g below).reg i).location = .station := by
  have hfull : s.queueFull = false := by
    simp [State.queueFull, hroom]
  obtain ⟨hctr, hdsq, hreg⟩ := exitToS4_spec (s.setGarage below) g
  rw [State.popGarage, hfull, if_neg Bool.false_ne_true]
  generalize (s.setGarage below).exitToS4 g = y at *
  have hcctr := checkTop_ctr y.countExit c g
  have hcdoes := checkTop_does' y.countExit c g
  generalize y.countExit.checkTop c g = z at *
  have hzctr : z.ctr = { y.ctr with exitPending := y.ctr.exitPending - 1 } := hcctr
  have hzreg : ∀ i, z.reg i = y.reg i := reg_congr hcdoes.registry_eq
  cases below with
  | nil =>
    refine ⟨?_, hcdoes.dsq_eq.symm ▸ hdsq, fun i hw hi => ?_⟩
    · change { z.ctr with exitPending := 0 } = _
      rw [hzctr, hctr]
      rfl
    · change (z.reg i).location = _
      rw [hzreg]
      exact hreg i hw hi
  | cons b below =>
    refine ⟨?_, hcdoes.dsq_eq.symm ▸ hdsq, fun i hw hi => ?_⟩
    · change z.ctr = _
      rw [hzctr, hctr]
      rfl
    · change (z.reg i).location = _
      rw [hzreg]
      exact hreg i hw hi

/-- The exit carried out, after which S4 is not empty and no command follows (R76, R77). -/
theorem takeExit_spec {s : State} {c : ExitCommand} {g : GarageEntry} {below : List GarageEntry}
    (hc : s.ctr.exitCommand = some c) (hg : s.ctr.garage = g :: below) (hroom : s.ctr.queue.length < 32) :
    s.takeExit.ctr =
        { s.ctr with
          exitCommand := none
          garage := below
          queue := placeInS4 s.ctr.queue
            { serial := g.serial, who := g.who, segment := .s4, route := .undecided, slotless := false }
          exitPending := if below = [] then 0 else s.ctr.exitPending - 1 } ∧
      s.takeExit.dsq.records = s.dsq.records ++ [DoorRecord.fromGarage g.serial] ∧
      ∀ i, g.who = .cabin i → i < s.registry.length → (s.takeExit.reg i).location = .station := by
  obtain ⟨hctr, hdsq, hreg⟩ := popGarage_spec (s := s.endExitCommand) c g below hroom
  simp only [State.takeExit, hc, hg]
  generalize s.endExitCommand.popGarage c g below = y at *
  have hj : Does 4292608 y y.judgeSegments := State.judgeSegments_does (Does.refl _ y) rfl
  have hjctr := judgeSegments_ctr y
  rw [judgeGarageExit_of_not_ready (exitReady_of_s4
    (e := { serial := g.serial, who := g.who, segment := .s4, route := .undecided, slotless := false })
    (by rw [hjctr, hctr]; simp [placeInS4]) rfl)]
  refine ⟨hjctr.trans hctr, hj.dsq_eq.symm ▸ hdsq, fun i hw hi => ?_⟩
  rw [reg_congr hj.registry_eq]
  exact hreg i hw hi

/-- Settles O25. -/
theorem garageExitPopsTheStack : Obligations.GarageExitPopsTheStack := by
  intro s e rest c g below hdel hc hg hroom
  refine ⟨(s.takeHead rest).takeExit.settle s, ?_, ?_⟩
  · rw [show exec .garageExitForward s = execGarageExitForward s from rfl, execGarageExitForward, deliver_running hdel]
  · have hctr0 : (s.takeHead rest).ctr = s.ctr := takeHead_ctr s rest
    obtain ⟨hctr, hdsq, hreg⟩ := takeExit_spec (s := s.takeHead rest) (by rw [hctr0]; exact hc) (by rw [hctr0]; exact hg)
      (by rw [hctr0]; exact hroom)
    rw [hctr0] at hctr
    have hrest := settle_track (s.takeHead rest).takeExit s
    refine ⟨?_, ?_, ?_, ?_, fun i hw hi => ?_, ?_⟩
    · rw [settle_garage, hctr]
    · exact (congrArg (fun r : Ctr => r.exitCommand) hrest).trans (congrArg Ctr.exitCommand hctr)
    · exact (congrArg (fun r : Ctr => r.exitPending) hrest).trans (congrArg Ctr.exitPending hctr)
    · rw [settle_queue, hctr]
      rfl
    · rw [settle_reg]
      exact hreg i hw (by rwa [takeHead_registry])
    · rw [settle_dsq, hdsq, takeHead_dsq]

/-- The command ended, nothing is pending and none follows: the stack stands and the event is reported (R79). -/
theorem abandonExit_spec {s : State} (k : EventKind) (data : List Int) (hroom : s.tst.events.length < 32)
    (hm : s.eventMask ≠ 0) :
    (s.abandonExit k data).ctr = { s.ctr with exitPending := 0, exitCommand := none } ∧
      (s.abandonExit k data).Reported k data := by
  have hctr : ((s.endExitCommand.setCtr { s.endExitCommand.ctr with exitPending := 0 }).report k none none data).ctr =
      { s.ctr with exitPending := 0, exitCommand := none } := report_ctr ..
  rw [State.abandonExit, judgeGarageExit_of_not_ready (exitReady_of_none_pending (by rw [hctr]))]
  exact ⟨hctr, report_reported _ _ _ _ hroom hm⟩

/-- A command that does no more than abandon the exit ends so. -/
theorem abandonExit_settle {s t : State} (k : EventKind) (data : List Int) (hctr : t.ctr = s.ctr) (hstc : t.stc = s.stc)
    (htst : t.tst = s.tst) (hmask : t.eventMask = s.eventMask) (hq : s.stc.gathered = [])
    (hroom : s.tst.events.length < 32) (hm : s.eventMask ≠ 0) :
    ((t.abandonExit k data).settle s).ctr = { s.ctr with exitPending := 0, exitCommand := none } ∧
      ((t.abandonExit k data).settle s).Reported k data := by
  have hd : Does 4260864 t (t.abandonExit k data) := State.abandonExit_does k data (Does.refl _ t) rfl
  obtain ⟨h1, h2⟩ := abandonExit_spec (s := t) k data (by rwa [htst]) (by rwa [hmask])
  have hquiet : (t.abandonExit k data).quiet := by rw [State.quiet, hd.stc_eq, hstc, hq]
  have hreset : wasReset s (t.abandonExit k data) = false :=
    wasReset_of_restart (hd.restart_eq.trans (congrArg Tst.restart htst))
  exact ⟨by rw [settle_ctr_of_quiet hquiet hreset, h1, hctr], h2.settle_of_quiet hquiet hreset⟩

/-- Settles O26. -/
theorem exitCommandEndsWithoutPassage : Obligations.ExitCommandEndsWithoutPassage := by
  intro s c hc hq hroom hm
  refine ⟨fun e rest hdel htag => ?_, fun hfires => ?_⟩
  · refine ⟨((s.takeHead rest).takeExitNack e.frame).settle s, ?_, ?_⟩
    · rw [show exec .nackGarageExitCommand s = execNackGarageExitCommand s from rfl, execNackGarageExitCommand,
        deliver_running hdel]
    · have hnack : (s.takeHead rest).takeExitNack e.frame =
          (s.takeHead rest).abandonExit .garageExitRefused [(e.frame.nackReason : Nat)] := by
        simp only [State.takeExitNack, takeHead_ctr, hc, htag, if_true]
      rw [hnack]
      exact abandonExit_settle _ _ (by simp) (by simp) (by simp) (by simp) hq hroom hm
  · refine ⟨(s.abandonExit .garageExitTimeout []).settle s, ?_, abandonExit_settle _ _ rfl rfl rfl rfl hq hroom hm⟩
    rw [show exec .garageExitTimeout s = execGarageExitTimeout s from rfl, execGarageExitTimeout, hc]
    exact congrArg Host.Outcome.next (expiry_running hfires)

/-! ## The operator's cabin actions (R81 to R84) -/

/-- A command of the garage drive changes of CTR no more than the command in progress and the tag sequence. -/
theorem judgeGarageExit_exitPending (s : State) : s.judgeGarageExit.ctr.exitPending = s.ctr.exitPending := by
  have hcontrol : ∀ (t : State) (f : EgressFrame), (t.placeControl f).ctr = t.ctr := fun t f => by
    unfold State.placeControl
    split <;> rfl
  unfold State.judgeGarageExit
  split
  · split
    · change (s.placeControl _).ctr.exitPending = _
      rw [hcontrol]
    · rfl
  · rfl

theorem judgeGarageExit_does' (s : State) : Does 66560 s s.judgeGarageExit := State.judgeGarageExit_does (Does.refl _ s) rfl

/-- A command that has left REPORT with room answers, whatever follows it. -/
theorem reply_replied_of_does {m : Nat} {s t b : State} (h : Does m s t) (f : RingFrame) (x : Status) (data : List Word)
    (hroom : s.rng.report.length < 32) (hm : m.testBit 27 = false := by decide) :
    ((t.reply f.replyTo x data).settle b).Replied f x data :=
  reply_replied f x data b (h.2.2.1 hm hroom)

theorem takeGarageRelease_spec {s : State} {n : Nat} (hn : n ≠ 0) (hg : s.ctr.garage ≠ []) :
    (s.takeGarageRelease n).state.ctr.exitPending = min 8 (s.ctr.exitPending + n) ∧
      (s.ctr.exitPending + n ≤ 8 →
        (s.takeGarageRelease n).status = .ok ∧ (s.takeGarageRelease n).data = []) ∧
      (8 < s.ctr.exitPending + n →
        (s.takeGarageRelease n).status = .clamped ∧ (s.takeGarageRelease n).data = [8]) := by
  have hempty : s.ctr.garage.isEmpty = false := by simpa using hg
  rw [State.takeGarageRelease, if_neg hn, hempty, if_neg Bool.false_ne_true]
  by_cases h8 : s.ctr.exitPending + n ≤ 8
  · rw [if_pos h8]
    refine ⟨(judgeGarageExit_exitPending _).trans (Nat.min_eq_right h8).symm, fun _ => ⟨rfl, rfl⟩, fun h => ?_⟩
    omega
  · rw [if_neg h8]
    exact ⟨(judgeGarageExit_exitPending _).trans (Nat.min_eq_left (Nat.le_of_lt (Nat.lt_of_not_le h8))).symm, fun h => absurd h h8,
      fun _ => ⟨rfl, rfl⟩⟩

/-- A cabin of the unlocated set pushed on the stack (R84). -/
theorem parkCabin_spec {s : State} {i : Nat} (hi : i < s.registry.length) (hl : (s.reg i).location = .unlocated) :
    ∃ m, (s.parkCabin i).ctr.garage = { serial := m, who := .cabin i } :: s.ctr.garage ∧
      (s.parkCabin i).ctr.unlocated = s.ctr.unlocated.filter (fun j => j ≠ i) ∧
      (s.parkCabin i).reg i =
        { s.reg i with location := .garage, door := .locked, verdict := .untested, force := none } := by
  have hout : s.takeOut i = s.setCtr { s.ctr with unlocated := s.ctr.unlocated.filter fun x => x ≠ i } := by
    simp [State.takeOut, hl]
  refine ⟨(s.takeOut i).freshSerial, ?_, ?_, ?_⟩
  · rw [State.parkCabin, (judgeGarageExit_does' _).garage_eq, hout]
    rfl
  · rw [State.parkCabin, (judgeGarageExit_does' _).unlocated_eq, hout]
    rfl
  · rw [State.parkCabin, reg_congr (judgeGarageExit_does' _).registry_eq, hout]
    exact modReg_reg_self _ (by exact hi)

/-- A cabin taken out of the station queue into the unlocated set (R41). -/
theorem unlocate_spec {s : State} {i : Nat} {x : StationEntry} (hi : i < s.registry.length)
    (hl : (s.reg i).location = .station) (hx : s.entryOfCabin i = some x) (b : UnlocatedBy) :
    (s.unlocate i b).ctr.queue = s.ctr.queue.filter (fun y => y.serial ≠ x.serial) ∧
      (∀ j, j ∈ (s.unlocate i b).ctr.unlocated ↔ j = i ∨ j ∈ s.ctr.unlocated) ∧
      ((s.unlocate i b).reg i).location = .unlocated := by
  have hout := takeOut_spec s i
  have hqueue : (s.takeOut i).ctr.queue = s.ctr.queue.filter (fun y => y.serial ≠ x.serial) := by
    rw [hout.queue, if_pos hl, hx]
  have hunlocated : (s.takeOut i).ctr.unlocated = s.ctr.unlocated := by
    rw [hout.unlocated, if_neg (by rw [hl]; decide)]
  have hlen : i < (s.takeOut i).registry.length := by rwa [hout.standing.length]
  rw [State.unlocate]
  generalize s.takeOut i = y at *
  have hrep : Does 4259840 (y.joinUnlocated i) ((y.joinUnlocated i).reportUnlocated i (s.reg i).location b) :=
    State.reportUnlocated_does i _ b (Does.refl _ _) rfl
  refine ⟨hrep.queue_eq.trans hqueue, fun j => ?_, ?_⟩
  · rw [hrep.unlocated_eq, ← hunlocated]
    exact mem_insertIndex i j y.ctr.unlocated
  · rw [reg_congr hrep.registry_eq, joinUnlocated_reg, if_pos ⟨rfl, hlen⟩]

theorem removalPlace_of_entry {s : State} {w : Word} {n i : Nat} {x : StationEntry} (hw : targetOf w = .id n)
    (hn : s.lookup n = some i) (hl : (s.reg i).location = .station) (hx : s.entryOfCabin i = some x) :
    s.removalPlace w = x.removalPlace := by
  simp only [State.removalPlace, hw, hn, hl, hx]

theorem who_of_entryOfCabin {s : State} {i : Nat} {x : StationEntry} (hx : s.entryOfCabin i = some x) : x.who = .cabin i := by
  simpa using List.find?_some hx

/-- The removal of a registered cabin from S6 or S7 to UNLOCATED (R83). -/
theorem takeRemove_of_launch_end {s : State} {f : RingFrame} {n i : Nat} {x : StationEntry}
    (hw : targetOf (f.word 1) = .id n) (hout : bitOf (f.word 1) 24 = false) (hn : s.lookup n = some i)
    (hl : (s.reg i).location = .station) (hx : s.entryOfCabin i = some x) (h6 : 6 ≤ x.segment.num) :
    takeRemove f s = (s.removeEntry x false).reply f.replyTo .ok [] := by
  have hplace : s.removalPlace (f.word 1) = .launchEnd x := by
    rw [removalPlace_of_entry hw hn hl hx, StationEntry.removalPlace, if_pos h6]
  simp only [takeRemove, hplace, hout, RemovalPlace.cabin, who_of_entryOfCabin hx, Who.index, State.removeAt]

theorem takeRemove_of_station {s : State} {f : RingFrame} {n i : Nat} {x : StationEntry}
    (hw : targetOf (f.word 1) = .id n) (hn : s.lookup n = some i)
    (hl : (s.reg i).location = .station) (hx : s.entryOfCabin i = some x) (h6 : x.segment.num < 6) :
    takeRemove f s = s.reply f.replyTo .notAllowed [] := by
  have hplace : s.removalPlace (f.word 1) = .barred := by
    rw [removalPlace_of_entry hw hn hl hx, StationEntry.removalPlace, if_neg (by omega)]
  simp only [takeRemove, hplace]

theorem takeHead_lookup (s : State) (rest : List IngressEntry) (n : Nat) : (s.takeHead rest).lookup n = s.lookup n :=
  lookup_congr (takeHead_registry s rest) n

theorem garageRelease_taken {s : State} {e : IngressEntry} {rest : List IngressEntry} (hroom : s.rng.report.length < 32)
    (hreq : s.Requests .garageRelease e rest) (hn : (e.frame.word 1).toNat ≠ 0) (hg : s.ctr.garage ≠ []) :
    ∃ u, exec .garageRelease s = .next u ∧
      u.ctr.exitPending = min 8 (s.ctr.exitPending + (e.frame.word 1).toNat) ∧ u.ctr.garage = s.ctr.garage ∧
      (s.ctr.exitPending + (e.frame.word 1).toNat ≤ 8 → u.Replied e.frame .ok []) ∧
      (8 < s.ctr.exitPending + (e.frame.word 1).toNat → u.Replied e.frame .clamped [8]) := by
  refine ⟨(((s.takeHead rest).takeGarageRelease (e.frame.word 1).toNat).give e.frame).settle s, ?_, ?_⟩
  · rw [show exec .garageRelease s = execGarageRelease s from rfl, execGarageRelease, manage_running hreq]
  · have hctr : (s.takeHead rest).ctr = s.ctr := takeHead_ctr s rest
    obtain ⟨hpending, hok, hclamped⟩ :=
      takeGarageRelease_spec (s := s.takeHead rest) hn (by rw [hctr]; exact hg)
    have hd : Does 66560 (s.takeHead rest) ((s.takeHead rest).takeGarageRelease (e.frame.word 1).toNat).state :=
      State.takeGarageRelease_does _ (Does.refl _ _) rfl
    have hanswer := reply_replied_of_does (b := s) hd e.frame
      ((s.takeHead rest).takeGarageRelease (e.frame.word 1).toNat).status
      ((s.takeHead rest).takeGarageRelease (e.frame.word 1).toNat).data (by simpa using hroom)
    have hrest := settle_track (((s.takeHead rest).takeGarageRelease (e.frame.word 1).toNat).give e.frame) s
    rw [hctr] at hpending hok hclamped
    refine ⟨?_, ?_, fun h => ?_, fun h => ?_⟩
    · refine (congrArg (fun r : Ctr => r.exitPending) hrest).trans ?_
      exact (congrArg Ctr.exitPending (reply_ctr ..)).trans hpending
    · rw [settle_garage, Answer.give, reply_ctr, hd.garage_eq, hctr]
    · rw [(hok h).1, (hok h).2] at hanswer
      rw [Answer.give, (hok h).1, (hok h).2]
      exact hanswer
    · rw [(hclamped h).1, (hclamped h).2] at hanswer
      rw [Answer.give, (hclamped h).1, (hclamped h).2]
      exact hanswer

theorem locateCabin_taken {s : State} {e : IngressEntry} {rest : List IngressEntry} {t : SafetyTables} {n i : Nat}
    (hroom : s.rng.report.length < 32) (hreq : s.Requests .locateCabin e rest) (hbit : bitOf (e.frame.word 1) 24 = true)
    (hw : targetOf (e.frame.word 1) = .id n) (hn : s.lookup n = some i) (hl : (s.reg i).location = .unlocated)
    (ht : s.tst.safety = some t) (hcap : s.ctr.garage.length < t.gcap) (hexit : s.ctr.exitCommand = none) :
    ∃ (u : State) (m : Nat), exec .locateCabin s = .next u ∧
      u.ctr.garage = { serial := m, who := .cabin i } :: s.ctr.garage ∧
      u.ctr.unlocated = s.ctr.unlocated.filter (fun j => j ≠ i) ∧ (u.reg i).location = .garage ∧
      (u.reg i).door = .locked ∧ (u.reg i).verdict = .untested ∧ (u.reg i).force = none ∧
      u.Replied e.frame .ok [] := by
  have hctr : (s.takeHead rest).ctr = s.ctr := takeHead_ctr s rest
  obtain ⟨m, hgarage, hunlocated, hreg⟩ :=
    parkCabin_spec (s := s.takeHead rest) (i := i) (by simpa using lt_of_lookup hn) (by rwa [takeHead_reg])
  have hplaces : ((decide ((s.reg i).location = .unlocated) && decide (s.ctr.garage.length < s.tables.gcap)) &&
      s.ctr.exitCommand.isNone) = true := by
    simp [hl, State.tables, ht, hcap, hexit]
  have hanswer : (s.takeHead rest).takeLocateCabin (e.frame.word 1) = ((s.takeHead rest).parkCabin i).answer .ok := by
    simp only [State.takeLocateCabin, hbit, hw, takeHead_lookup, hn, takeHead_reg, hctr, State.tables, takeHead_tst]
    exact if_pos hplaces
  refine ⟨((((s.takeHead rest).parkCabin i).answer .ok).give e.frame).settle s, m, ?_, ?_⟩
  · rw [show exec .locateCabin s = execLocateCabin s from rfl, execLocateCabin, manage_running hreq, hanswer]
  have hd := State.parkCabin_does (m := 134217727) i (Does.refl _ (s.takeHead rest)) rfl (by rwa [takeHead_reg])
    (by simp only [hctr, State.tables, takeHead_tst, ht]; exact hcap)
  simp only [settle_garage, settle_unlocated, settle_reg, Answer.give, State.answer, reply_ctr,
    reg_congr (reply_registry ..)]
  rw [hreg, hgarage, hunlocated, hctr]
  exact ⟨rfl, rfl, rfl, rfl, rfl, rfl, reply_replied_of_does hd e.frame .ok [] (by simpa using hroom)⟩

theorem removeCabin_taken {s : State} {e : IngressEntry} {rest : List IngressEntry} {n i : Nat} {x : StationEntry}
    (hreq : s.Requests .removeCabin e rest) (hw : targetOf (e.frame.word 1) = .id n)
    (hbit : bitOf (e.frame.word 1) 24 = false) (hn : s.lookup n = some i) (hl : (s.reg i).location = .station)
    (hx : s.entryOfCabin i = some x) (hroom : s.rng.report.length < 32) (h6 : 6 ≤ x.segment.num) :
    ∃ u, exec .removeCabin s = .next u ∧ u.ctr.queue = s.ctr.queue.filter (fun y => y.serial ≠ x.serial) ∧
      (∀ j, j ∈ u.ctr.unlocated ↔ j = i ∨ j ∈ s.ctr.unlocated) ∧ (u.reg i).location = .unlocated ∧
      u.Replied e.frame .ok [] := by
  have hctr : (s.takeHead rest).ctr = s.ctr := takeHead_ctr s rest
  have hx' : (s.takeHead rest).entryOfCabin i = some x := by rw [State.entryOfCabin, hctr]; exact hx
  have hl' : ((s.takeHead rest).reg i).location = .station := by rwa [takeHead_reg]
  refine ⟨(takeRemove e.frame (s.takeHead rest)).settle s, ?_, ?_⟩
  · rw [show exec .removeCabin s = execRemoveCabin s from rfl, execRemoveCabin, manage_running hreq]
  rw [takeRemove_of_launch_end hw hbit (by rwa [takeHead_lookup]) hl' hx' h6]
  have hd := State.removeEntry_does (m := 134217727) x false (Does.refl _ (s.takeHead rest)) rfl
  obtain ⟨hqueue, hunlocated, hlocation⟩ :=
    unlocate_spec (s := s.takeHead rest) (by simpa using lt_of_lookup hn) hl' hx' .cabinRemoved
  have hremove : (s.takeHead rest).removeEntry x false =
      ((s.takeHead rest).unlocate i .cabinRemoved).reportRemoved (some x.serial)
        ((s.takeHead rest).whoId (.cabin i)) .station false := by
    simp only [State.removeEntry, State.removeWho, who_of_entryOfCabin hx, State.removeRegistered, Bool.false_eq_true,
      if_false]
  refine ⟨?_, fun j => ?_, ?_, reply_replied_of_does hd e.frame .ok [] (by simpa using hroom)⟩
  · rw [settle_queue, reply_ctr, hremove, State.reportRemoved, report_ctr, hqueue, hctr]
  · rw [settle_unlocated, reply_ctr, hremove, State.reportRemoved, report_ctr, hunlocated, hctr]
  · rw [settle_reg, reg_congr (reply_registry ..), hremove, State.reportRemoved, reg_congr (report_registry ..), hlocation]

theorem removeCabin_refused {s : State} {e : IngressEntry} {rest : List IngressEntry} {n i : Nat} {x : StationEntry}
    (hreq : s.Requests .removeCabin e rest) (hw : targetOf (e.frame.word 1) = .id n) (hn : s.lookup n = some i)
    (hl : (s.reg i).location = .station) (hx : s.entryOfCabin i = some x) (hroom : s.rng.report.length < 32)
    (hq : s.stc.gathered = []) (h6 : x.segment.num < 6) :
    ∃ u, exec .removeCabin s = .next u ∧ u.ctr = s.ctr ∧ u.registry = s.registry ∧ u.Replied e.frame .notAllowed [] := by
  refine ⟨((s.takeHead rest).reply e.frame.replyTo .notAllowed []).settle s, ?_, ?_⟩
  · rw [show exec .removeCabin s = execRemoveCabin s from rfl, execRemoveCabin, manage_running hreq,
      takeRemove_of_station hw (by rwa [takeHead_lookup]) (by rwa [takeHead_reg])
        (by rw [State.entryOfCabin, takeHead_ctr]; exact hx) h6]
  have hquiet : ((s.takeHead rest).reply e.frame.replyTo .notAllowed []).quiet := by
    rw [State.quiet, reply_stc, takeHead_stc, hq]
  have hreset : wasReset s ((s.takeHead rest).reply e.frame.replyTo .notAllowed []) = false :=
    wasReset_of_restart (by rw [reply_restart, takeHead_tst])
  refine ⟨?_, ?_, reply_replied e.frame _ _ s (by simpa using hroom)⟩
  · rw [settle_ctr_of_quiet hquiet hreset, reply_ctr, takeHead_ctr]
  · rw [settle_registry, reply_registry, takeHead_registry]

/-- A reply with room in REPORT leaves the reports that stand. -/
theorem State.Reported.reply {s : State} {k : EventKind} {d : List Int} (h : s.Reported k d) (r : ReplyTo) (x : Status)
    (data : List Word) (hroom : s.rng.report.length < 32) : (s.reply r x data).Reported k d := by
  rw [State.reply, State.placeReport, if_pos hroom]
  obtain ⟨y, hk, hdata, hy⟩ := h
  exact ⟨y, hk, hdata, hy.imp id fun hframe => List.mem_append_left _ hframe⟩

theorem garageNext_refused {s : State} {e : IngressEntry} {rest : List IngressEntry} {n i : Nat}
    (hreq : s.Requests .garageNext e rest) (hw : targetOf (e.frame.word 1) = .id n) (hn : s.lookup n = some i)
    (hroom : s.rng.report.length < 32) (hin : (s.reg i).stat.inService = false) :
    ∃ u, exec .garageNext s = .next u ∧ u.registry = s.registry ∧ u.Replied e.frame .notAllowed [] := by
  have hanswer : (s.takeHead rest).takeGarageNext (e.frame.word 1) = (s.takeHead rest).answer .notAllowed := by
    simp only [State.takeGarageNext, hw, takeHead_lookup, hn, takeHead_reg, hin, Bool.false_eq_true, if_false]
  refine ⟨(((s.takeHead rest).answer .notAllowed).give e.frame).settle s, ?_, ?_, ?_⟩
  · rw [show exec .garageNext s = execGarageNext s from rfl, execGarageNext, manage_running hreq, hanswer]
  · simp [Answer.give, State.answer]
  · exact reply_replied (s := s.takeHead rest) e.frame _ _ s (by simpa using hroom)

theorem garageNext_taken {s : State} {e : IngressEntry} {rest : List IngressEntry} {n i : Nat}
    (hreq : s.Requests .garageNext e rest) (hw : targetOf (e.frame.word 1) = .id n) (hn : s.lookup n = some i)
    (hroom : s.rng.report.length < 32) (hq : s.stc.gathered = []) (hevents : s.tst.events.length < 32)
    (hm : s.eventMask ≠ 0) (hin : (s.reg i).stat.inService = true) :
    ∃ u, exec .garageNext s = .next u ∧ u.Replied e.frame .ok [] ∧
      u.registry = s.registry.set i { s.reg i with garageNext := bitOf (e.frame.word 1) 24 } ∧ u.ctr = s.ctr ∧
      u.Reported .garageNext [(n : Nat), (bit (bitOf (e.frame.word 1) 24) : Nat)] := by
  let x := (s.takeHead rest).modReg i fun r => { r with garageNext := bitOf (e.frame.word 1) 24 }
  let y := x.report .garageNext none (some n) [(n : Nat), (bit (bitOf (e.frame.word 1) 24) : Nat)]
  have hanswer : (s.takeHead rest).takeGarageNext (e.frame.word 1) = y.answer .ok := by
    simp only [State.takeGarageNext, hw, takeHead_lookup, hn, takeHead_reg, hin, if_true, x, y]
  have hx : Does 4 (s.takeHead rest) x := State.modReg_does i _ (Does.refl _ _) rfl
  have hy : Does 4259840 x y := State.report_does .garageNext none (some n) _ (Does.refl _ x) rfl
  have hroomy : y.rng.report.length < 32 :=
    hy.2.2.1 rfl (by rw [hx.rng_eq]; simpa using hroom)
  have hreported : y.Reported .garageNext [(n : Nat), (bit (bitOf (e.frame.word 1) 24) : Nat)] :=
    report_reported _ _ _ _ (by exact (congrArg Tst.events (takeHead_tst s rest)).symm ▸ hevents) (fun h => hm ((takeHead_eventMask s rest).symm.trans h))
  have hquiet : (y.reply e.frame.replyTo .ok []).quiet := by
    rw [State.quiet, reply_stc, hy.stc_eq, hx.stc_eq, takeHead_stc, hq]
  have hreset : wasReset s (y.reply e.frame.replyTo .ok []) = false :=
    wasReset_of_restart (by rw [reply_restart, hy.restart_eq, hx.restart_eq, takeHead_tst])
  refine ⟨((y.answer .ok).give e.frame).settle s, ?_, reply_replied e.frame _ _ s hroomy, ?_, ?_,
    (hreported.reply e.frame.replyTo .ok [] hroomy).settle_of_quiet hquiet hreset⟩
  · rw [show exec .garageNext s = execGarageNext s from rfl, execGarageNext, manage_running hreq, hanswer]
  · rw [settle_registry, Answer.give, reply_registry]
    change y.registry = _
    rw [hy.registry_eq, ← takeHead_registry s rest, ← takeHead_reg s rest]
    rfl
  · change ((y.reply e.frame.replyTo .ok []).settle s).ctr = s.ctr
    rw [settle_ctr_of_quiet hquiet hreset, reply_ctr, report_ctr]
    exact takeHead_ctr s rest

/-- Settles O28. -/
theorem operatorsMoveCabins : Obligations.OperatorsMoveCabins := by
  refine ⟨fun s e rest hroom => ⟨garageRelease_taken hroom, fun t n i hreq hbit hw hn hl ht hcap hexit => ?_⟩,
    fun s e rest n i x hreq hw hbit hn hl hx hroom hq => ⟨fun h6 => ?_, fun h6 => ?_⟩,
    fun s e rest n i hreq hw hn hroom hq hevents hm => ⟨fun hin => ?_, fun hin => ?_⟩⟩
  · exact locateCabin_taken hroom hreq hbit hw hn hl ht hcap hexit
  · exact removeCabin_taken hreq hw hbit hn hl hx hroom h6
  · exact removeCabin_refused hreq hw hn hl hx hroom hq h6
  · exact garageNext_refused hreq hw hn hroom hin
  · exact garageNext_taken hreq hw hn hroom hq hevents hm hin

end Sys2Proof.Machine
end
section
/-!
PROOFS. A forward arrival of the cabin expected first (O21).
-/

namespace Sys2Proof.Machine

/-! ## A serial that no entry holds (R62) -/

/-- The serials that are tried differ from one another. -/
theorem serialsTried_nodup (n : Nat) : ((List.range 81).map fun d => (n + d) % 65536).Nodup := by
  refine List.Nodup.map_on (fun a ha b hb h => ?_) List.nodup_range
  rw [List.mem_range] at ha hb
  omega

/-- The serials held by entries of the queue and of the stack. -/
def State.serialsHeld (s : State) : List Nat :=
  s.ctr.queue.map StationEntry.serial ++ s.ctr.garage.map GarageEntry.serial

theorem serialHeld_iff (s : State) (n : Nat) : s.serialHeld n = true ↔ n ∈ s.serialsHeld := by
  simp [State.serialHeld, State.serialsHeld]

/-- Of 81 serials one is free while the queue and the stack hold fewer entries. -/
theorem freshSerial_free {s : State} (hq : s.ctr.queue.length ≤ 32) (hg : s.ctr.garage.length ≤ 48) :
    s.serialHeld s.freshSerial = false := by
  cases hf : ((List.range 81).map fun d => (s.ctr.nextSerial + d) % 65536).find? fun n => !s.serialHeld n with
  | some n =>
    have hfresh : s.freshSerial = n := by simp only [State.freshSerial, hf]
    simpa [hfresh] using List.find?_some hf
  | none =>
    have hall : ((List.range 81).map fun d => (s.ctr.nextSerial + d) % 65536) ⊆ s.serialsHeld := fun n hn => by
      have hheld := List.find?_eq_none.mp hf n hn
      exact (serialHeld_iff s n).mp (by simpa using hheld)
    have hlen := ((serialsTried_nodup s.ctr.nextSerial).subperm hall).length_le
    simp only [State.serialsHeld, List.length_map, List.length_range, List.length_append] at hlen
    omega

theorem not_mem_of_serialHeld {s : State} {n : Nat} (h : s.serialHeld n = false) :
    (∀ y ∈ s.ctr.queue, y.serial ≠ n) ∧ ∀ g ∈ s.ctr.garage, g.serial ≠ n := by
  simpa [State.serialHeld] using h

/-! ## The arrival (R43, R64, R65, R91) -/

theorem countUnread_of_id {s : State} {id : Nat} (h : id ≠ 0) :
    (s.countUnread id).ctr = { s.ctr with unread := 0 } := by
  rw [State.countUnread, if_neg h, judge_ctr]
  rfl

theorem countUnread_does' (s : State) (id : Nat) : Does 33792 s (s.countUnread id) :=
  State.countUnread_does id (Does.refl _ s) rfl

/-- A cabin leaves the downhill list with nothing but the lines and the slots changed. -/
theorem takeBooked_downhill_does {s : State} {i : Nat} (hl : (s.reg i).location = .downhill) :
    Does 640 s (s.takeBooked i) := by
  have hout : s.takeOut i = s.leaveDownhill i := by simp only [State.takeOut, hl]
  rw [State.takeBooked, hout]
  exact State.freeReleaseSlot_does i (State.leaveDownhill_does i (Does.refl _ s) rfl) rfl

theorem takeBooked_downhill_slot {s : State} {i : Nat} {d : DownhillEntry} {tail : List DownhillEntry}
    (hl : (s.reg i).location = .downhill) (hd : s.ctr.downhill = d :: tail) (hi : d.cabin = i)
    (hslot : d.slot < s.ctr.slots.length) : (s.takeBooked i).slot d.slot = .empty := by
  refine (freeReleaseSlot_slotsEmptied (s.takeOut i) i).empty ?_
  have hfind : s.ctr.downhill.find? (fun u => u.cabin = i) = some d := by rw [hd]; simp [hi]
  simp only [State.takeOut, hl, State.leaveDownhill, hfind]
  exact setSlot_slot_self (s := s.setCtr { s.ctr with downhill := s.ctr.downhill.filter fun x => x.cabin ≠ i }) _ hslot

/-- The entry made at D1 and its door record. -/
theorem joinAtD1_spec (s : State) (who : Who) :
    (s.joinAtD1 who).ctr =
        { s.ctr with
          nextSerial := (s.freshSerial + 1) % 65536
          queue := s.ctr.queue ++
            [{ serial := s.freshSerial, who := who, segment := .s1, route := .undecided, slotless := false }] } ∧
      (s.joinAtD1 who).dsq.records = s.dsq.records ++ [DoorRecord.fresh s.freshSerial] ∧
      (s.joinAtD1 who).registry = s.registry := by
  rw [State.joinAtD1]
  refine ⟨(judgeSegments_ctr _).trans rfl, ?_, ?_⟩
  · exact congrArg Dsq.records (State.judgeSegments_does (m := 4292608) (Does.refl _ _) rfl).dsq_eq
  · exact (State.judgeSegments_does (m := 4292608) (Does.refl _ _) rfl).registry_eq

/-- What a registered arrival of the cabin expected first leaves, with room in the queue. -/
theorem arriveRegistered_of_head {s : State} {i : Nat} {d : DownhillEntry} {tail : List DownhillEntry} (assumed : Bool)
    (hlen : i < s.registry.length) (hl : (s.reg i).location = .downhill) (hd : s.ctr.downhill = d :: tail)
    (hi : d.cabin = i) (htail : ∀ y ∈ tail, y.cabin ≠ i) (hslot : d.slot < s.ctr.slots.length)
    (hq : s.ctr.queue.length < 32) (hg : s.ctr.garage.length ≤ 48) :
    let u := s.arriveRegistered i assumed
    ∃ n, s.serialHeld n = false ∧
      u.ctr.queue =
        s.ctr.queue ++ [{ serial := n, who := .cabin i, segment := .s1, route := .undecided, slotless := false }] ∧
      u.ctr.downhill = tail ∧ u.slot d.slot = .empty ∧ u.ctr.unread = s.ctr.unread ∧
      u.reg i = (s.reg i).arrived assumed ∧ u.dsq.records = s.dsq.records ++ [DoorRecord.fresh n] := by
  have hlist : s.expectedList .valley = i :: tail.map DownhillEntry.cabin := by simp [State.expectedList, hd, hi]
  have hfull : s.queueFull = false := by simp [State.queueFull, hq]
  have htaken := takeBooked_spec s i
  have hdoes := takeBooked_downhill_does hl
  have hempty := takeBooked_downhill_slot hl hd hi hslot
  have hdown : (s.takeBooked i).ctr.downhill = tail := by
    rw [htaken.downhill, if_pos hl, hd]
    exact filter_tail_of_head _ hi htail
  rw [State.arriveRegistered, hfull, if_neg Bool.false_ne_true, matchArrival_of_head hlist]
  have hrest : (s.takeBooked i).ctr.rest = s.ctr.rest := hdoes.1 .track rfl
  have hunread : (s.takeBooked i).ctr.unread = s.ctr.unread := by
    have hread : (s.takeBooked i).ctr.rest.unread = s.ctr.rest.unread := by rw [hrest]
    exact hread
  have hylen : i < (s.takeBooked i).registry.length := by rwa [htaken.standing.length]
  have hyreg : (s.takeBooked i).reg i = s.reg i := reg_congr hdoes.registry_eq i
  generalize s.takeBooked i = y at *
  have hz : ((y.modReg i fun r => r.arrived assumed).reg i) = (s.reg i).arrived assumed := by
    rw [modReg_reg_self _ hylen, hyreg]
  obtain ⟨hctr, hdsq, hregistry⟩ := joinAtD1_spec (y.modReg i fun r => r.arrived assumed) (.cabin i)
  have hfree : (y.modReg i fun r => r.arrived assumed).serialHeld (y.modReg i fun r => r.arrived assumed).freshSerial =
      false :=
    freshSerial_free (Nat.le_of_lt (by exact hdoes.queue_eq.symm ▸ hq)) (by exact hdoes.garage_eq.symm ▸ hg)
  generalize (y.modReg i fun r => r.arrived assumed).freshSerial = n at *
  have hsend := State.sendHandover_does (m := 4268032) .valleyArrival (s.idOf i) assumed (s.expectedSlot .valley i)
    (Does.refl _ ((y.modReg i fun r => r.arrived assumed).joinAtD1 (.cabin i))) rfl
  refine ⟨n, ?_, ?_, ?_, ?_, ?_, ?_, ?_⟩
  · rw [← hfree]
    simp only [State.serialHeld]
    rw [← hdoes.queue_eq, ← hdoes.garage_eq]
    rfl
  · rw [hsend.queue_eq, hctr, ← hdoes.queue_eq]
    rfl
  · rw [hsend.downhill_eq, hctr, ← hdown]
    rfl
  · rw [slot_congr hsend.slots_eq]
    exact (slot_congr (s := y) (by rw [hctr]; rfl) _).trans hempty
  · rw [hsend.ctr_eq, hctr, ← hunread]
    rfl
  · rw [reg_congr hsend.registry_eq, reg_congr hregistry, hz]
  · rw [hsend.dsq_eq, hdsq, ← hdoes.dsq_eq]
    rfl

/-- Settles O21. -/
theorem arrivalJoinsTheStationQueue : Obligations.ArrivalJoinsTheStationQueue := by
  intro s e rest i d tail hdel hid hlook hin hl hd hi htail hslot hq hg
  have hctr : ((s.takeHead rest).countUnread e.frame.cabinId).ctr = { s.ctr with unread := 0 } := by
    rw [countUnread_of_id hid, takeHead_ctr]
  have hdoes := countUnread_does' (s.takeHead rest) e.frame.cabinId
  have hregistry : ((s.takeHead rest).countUnread e.frame.cabinId).registry = s.registry := by
    rw [hdoes.registry_eq, takeHead_registry]
  have hdsq : ((s.takeHead rest).countUnread e.frame.cabinId).dsq = s.dsq := by rw [hdoes.dsq_eq, takeHead_dsq]
  have harrive : (s.takeHead rest).takeArrival e.frame.cabinId =
      ((s.takeHead rest).countUnread e.frame.cabinId).arriveRegistered i false := by
    simp only [State.takeArrival, State.arrivalIdentity, if_neg hid, lookup_congr hregistry, hlook, Option.filter_some,
      reg_congr hregistry, hin, if_true, Option.map_some]
  have hexec : exec .arrivalForward s = .next (((s.takeHead rest).takeArrival e.frame.cabinId).settle s) := by
    rw [show exec .arrivalForward s = execArrivalForward s from rfl, execArrivalForward, deliver_running hdel]
  rw [harrive] at hexec
  generalize (s.takeHead rest).countUnread e.frame.cabinId = x at *
  obtain ⟨n, hfree, hqueue, hdown, hempty, hunread, hreg, hrecords⟩ :=
    arriveRegistered_of_head (s := x) false (by rw [hregistry]; exact lt_of_lookup hlook) (by rwa [reg_congr hregistry])
      (by rw [hctr]; exact hd) hi htail (by rw [hctr]; exact hslot) (by rw [hctr]; exact hq) (by rw [hctr]; exact hg)
  have hnot := not_mem_of_serialHeld hfree
  rw [hctr] at hqueue hunread hnot
  rw [reg_congr hregistry] at hreg
  have hsettled : (((x.arriveRegistered i false).settle s).reg i) = (s.reg i).arrived false := by rw [settle_reg, hreg]
  refine ⟨_, n, hexec, hnot.1, hnot.2, ?_, ?_, ?_, ?_, ?_, ?_, ?_, ?_, ?_⟩
  · rw [settle_queue, hqueue]
  · rw [settle_downhill, hdown]
  · rw [settle_slot _ _ _ (by rw [hempty]; exact nofun), hempty]
  · exact (congrArg (fun r : Ctr => r.unread) (settle_track _ _)).trans hunread
  · rw [hsettled]; rfl
  · rw [hsettled]; rfl
  · rw [hsettled]; rfl
  · rw [hsettled]; rfl
  · rw [settle_dsq, hrecords, hdsq]

end Sys2Proof.Machine
end
section
/-!
PROOFS. The slots of the ring (O51): the statement fails where a slot record names an absent address. The address is seen
alive before the slot is filled, and the NODE_PRESENT report of that fills a slot that no frame waited for.
-/

namespace Sys2Proof.Machine

/-- A manager at address 1 and a reader, that is not critical, at address 2. -/
def ringNodes : List NodeEntry :=
  [NodeEntry.unused, { role := .manager, kinds := 0x0FFFFFFE, dests := 1, critical := false },
    { role := .arrivalReader, kinds := 0x0FFFFFFE, dests := 1, critical := false }] ++
    List.replicate 29 NodeEntry.unused

/-- A part whose tables are valid and whose queues are empty. The frame last let go in slot 0 went to the reader at address
2, which is absent. -/
def absentReader : State :=
  { State.reset with
    rng :=
      { State.reset.rng with
        purge := List.replicate 8 false
        slotRecords := some 4#32 :: List.replicate 7 none
        absent := (List.replicate 32 false).set 2 true }
    tst := { State.reset.tst with safety := some { SafetyTables.default with nodes := ringNodes } } }

theorem absentReader_waits_for_nothing :
    absentReader.rng.control ++ absentReader.rng.voice ++ absentReader.rng.poll ++ absentReader.rng.report = [] := rfl

/-- The free slot takes the NODE_PRESENT report to the manager. -/
theorem absentReader_slot_filled :
    ((absentReader.passSlot 0 0 0 []).settle absentReader).rng.slotRecords.getD 0 none = some 2#32 := by
  decide

/-- Refutes O51: a free slot that no frame waits for is filled where its record names an absent address, whose return the
part reports. -/
theorem not_ringSlotsAreServed : ¬ Obligations.RingSlotsAreServed := by
  intro h
  obtain ⟨-, hfree, -⟩ := h.1 absentReader 0 0 0 [] rfl ⟨rfl, rfl, rfl, rfl⟩
    (by rw [absentReader_waits_for_nothing]; exact nofun)
  obtain ⟨u, hexec, hrecords, -⟩ := hfree rfl rfl
  have hpass : exec (.ringSlotPass 0 0 0 []) absentReader =
      .next ((absentReader.passSlot 0 0 0 []).settle absentReader) := by
    rw [show exec (.ringSlotPass 0 0 0 []) absentReader = execRingSlotPass 0 0 0 [] absentReader from rfl,
      execRingSlotPass, whole_running rfl]
    rfl
  have hu : u = (absentReader.passSlot 0 0 0 []).settle absentReader :=
    (Host.Outcome.next.inj (hpass.symm.trans hexec)).symm
  have hfilled := absentReader_slot_filled
  rw [← hu, hrecords] at hfilled
  exact absurd hfilled (by decide)

end Sys2Proof.Machine
end
section
/-!
PROOFS. The conservation of the fleet (O27), first part: the invariant while some cabins are on their way from one collection
to another, and the steps that leave every cabin where it is.
-/

namespace Sys2Proof.Machine

/-! ## The fleet with some cabins on their way -/

/-- The slot table and the lines agree, but that the slots that are RELEASING for the cabins of `loose` need no watch
entry. -/
def State.slotsBut (s : State) (loose : Set Nat) : Prop :=
  (∀ k < s.ctr.slots.length, s.slotHolds k (s.slot k) ∨ ∃ c ∈ loose, s.slot k = .releasing c) ∧
  (∀ u ∈ s.ctr.uphill, s.slot u.slot = .up u.cabin) ∧ (∀ d ∈ s.ctr.downhill, s.slot d.slot = .down d.cabin) ∧
  (∀ w ∈ s.lgt.watch, s.slot w.slot = .releasing w.cabin) ∧ (s.ctr.slots.filterMap SlotState.cabin).Nodup

theorem slotsBut_empty (s : State) : s.slotsBut ∅ ↔ s.slotsAgree := by
  simp [State.slotsBut, State.slotsAgree]

/-- The fleet is conserved but for the cabins of `out`, in service and in no collection, and for the slots of those of
`loose`: a booking takes a cabin out of one collection before it joins another, and an ATTACH ends a watch entry before its
slot is UP (R32, R41, R42). -/
structure State.FleetBut (s : State) (out loose : Set Nat) : Prop where
  registered : s.registry.length = 128
  nodup : ∀ l, (s.members l).Nodup
  member : ∀ l, ∀ i ∈ s.members l, i ∉ out ∧ i < 128 ∧ (s.reg i).stat.inService = true ∧ (s.reg i).location = l
  placed : ∀ i < 128, i ∉ out →
    if (s.reg i).stat.inService then i ∈ s.members (s.reg i).location else (s.reg i).location = .outOfService
  outside : ∀ i ∈ out, i < 128 ∧ (s.reg i).stat.inService = true
  slots : s.slotsBut loose
  entries : s.entriesAgree
  ready : s.uphillReady
  geometry : s.geometryAgrees
  stored : s.storeAgrees

theorem fleetBut_of_fleetKept {s : State} (h : s.fleetKept) (hreg : s.registry.length = 128) : s.FleetBut ∅ ∅ := by
  obtain ⟨⟨hmember, hplaced⟩, hslots, hentries, hready, hgeometry, hstored⟩ := h
  exact ⟨hreg, fun l => (hmember l).1, fun l i hi => ⟨Set.notMem_empty i, (hmember l).2 i hi⟩, fun i hi _ => hplaced i hi,
    fun i hi => absurd hi (Set.notMem_empty i), (slotsBut_empty s).mpr hslots, hentries, hready, hgeometry, hstored⟩

theorem State.FleetBut.fleetKept {s : State} (h : s.FleetBut ∅ ∅) : s.fleetKept :=
  ⟨⟨fun l => ⟨h.nodup l, fun i hi => (h.member l i hi).2⟩, fun i hi => h.placed i hi (Set.notMem_empty i)⟩,
    (slotsBut_empty s).mp h.slots, h.entries, h.ready, h.geometry, h.stored⟩

/-! ## Calm steps -/

/-- An entry of the queue has kept its place in the fleet: its serial, who stands in it and, in S7, its segment. -/
def SameEntry (x y : StationEntry) : Prop :=
  y.serial = x.serial ∧ y.who.index = x.who.index ∧ (x.segment = .s7 → y.segment = .s7)

/-- The cabin and the slot of a pending release. -/
def PendingRelease.place (p : PendingRelease) : Nat × Nat := (p.cabin, p.slot)

/-- A store write that carries no park record and commits no SAFETY group. -/
def WriteKind.harmless (k : WriteKind) : Prop := k.snapshot = none ∧ k ≠ .commit .safety

/-- From `s` to `t` every cabin stays where it is: of the slots none but those of releases may return to EMPTY, of the
attach watch entries may end, and of the store flags may be cleared. -/
structure Calm (s t : State) : Prop where
  stats : t.registry.map RegEntry.stat = s.registry.map RegEntry.stat
  location : ∀ j, (t.reg j).location = (s.reg j).location
  uphillDoors : ∀ u ∈ s.ctr.uphill,
    (t.reg u.cabin).door = (s.reg u.cabin).door ∧ (t.reg u.cabin).verdict = (s.reg u.cabin).verdict
  queue : List.Forall₂ SameEntry s.ctr.queue t.ctr.queue
  garage : t.ctr.garage = s.ctr.garage
  lines : t.ctr.uphill = s.ctr.uphill ∧ t.ctr.downhill = s.ctr.downhill
  sets : t.ctr.summit = s.ctr.summit ∧ t.ctr.unlocated = s.ctr.unlocated
  slotCount : t.ctr.slots.length = s.ctr.slots.length
  slot : ∀ k, t.slot k = s.slot k ∨ t.slot k = .empty
  lineSlot : ∀ k c, s.slot k = .up c ∨ s.slot k = .down c → t.slot k = s.slot k
  watch : t.lgt.watch.Sublist s.lgt.watch
  watchSlot : ∀ w ∈ t.lgt.watch, s.slot w.slot = .releasing w.cabin → t.slot w.slot = .releasing w.cabin
  backed : ∀ k, s.slotHolds k (t.slot k) → t.slotHolds k (t.slot k)
  safety : t.tst.safety = s.tst.safety
  staged : t.tst.stageSafety = s.tst.stageSafety
  write : ∀ w ∈ t.tst.write, w.kind.harmless ∨ ∃ v ∈ s.tst.write,
    w.kind.snapshot = v.kind.snapshot ∧ (w.kind = .commit .safety → v.kind = .commit .safety)
  storedSafety : ∀ x ∈ t.store.safety, x ∈ s.store.safety
  storedFleet : ∀ f ∈ t.store.fleet, f ∈ s.store.fleet
  storedPark : ∀ p ∈ t.store.park, p ∈ s.store.park

theorem stat_of_stats {s t : State} (h : t.registry.map RegEntry.stat = s.registry.map RegEntry.stat) (j : Nat) :
    (t.reg j).stat = (s.reg j).stat := by
  have hget : ∀ u : State, (u.reg j).stat = (u.registry.map RegEntry.stat).getD j FleetStatic.blank := fun u => by
    rw [State.reg, List.getD_eq_getElem?_getD, List.getD_eq_getElem?_getD, List.getElem?_map]
    cases u.registry[j]? <;> rfl
  rw [hget, hget, h]

theorem length_of_stats {s t : State} (h : t.registry.map RegEntry.stat = s.registry.map RegEntry.stat) :
    t.registry.length = s.registry.length := by
  simpa using congrArg List.length h

theorem filterMap_index_of_sameEntry {q r : List StationEntry} (h : List.Forall₂ SameEntry q r) :
    r.filterMap (fun e => e.who.index) = q.filterMap fun e => e.who.index := by
  induction h with
  | nil => rfl
  | cons hxy _ ih => simp only [List.filterMap_cons, hxy.2.1, ih]

theorem serials_of_sameEntry {q r : List StationEntry} (h : List.Forall₂ SameEntry q r) :
    r.map StationEntry.serial = q.map StationEntry.serial := by
  induction h with
  | nil => rfl
  | cons hxy _ ih => simp only [List.map_cons, hxy.1, ih]

theorem Calm.members {s t : State} (h : Calm s t) (l : Location) : t.members l = s.members l := by
  cases l with
  | station => exact filterMap_index_of_sameEntry h.queue
  | garage => simp only [State.members, h.garage]
  | uphill => simp only [State.members, h.lines.1]
  | downhill => simp only [State.members, h.lines.2]
  | summit => simp only [State.members, h.sets.1]
  | unlocated => simp only [State.members, h.sets.2]
  | outOfService => rfl

theorem who_eq_cabin_of_index {w : Who} {i : Nat} (h : w.index = some i) : w = .cabin i := by
  cases w with
  | cabin j => exact congrArg Who.cabin (Option.some.inj h)
  | anon _ _ _ => cases h

theorem sameEntry_of_mem {q r : List StationEntry} (h : List.Forall₂ SameEntry q r) {x : StationEntry} (hx : x ∈ q) :
    ∃ y ∈ r, SameEntry x y := by
  induction h with
  | nil => cases hx
  | cons hxy _ ih =>
    obtain rfl | hx := List.mem_cons.mp hx
    · exact ⟨_, List.mem_cons_self, hxy⟩
    · obtain ⟨y, hy, hsame⟩ := ih hx
      exact ⟨y, List.mem_cons_of_mem _ hy, hsame⟩

theorem filterMap_cabin_sublist {a b : List SlotState} (h : List.Forall₂ (fun x y => y = x ∨ y = .empty) a b) :
    (b.filterMap SlotState.cabin).Sublist (a.filterMap SlotState.cabin) := by
  induction h with
  | nil => exact List.Sublist.refl _
  | @cons x y _ _ hxy _ ih =>
    rcases hxy with rfl | rfl
    · simp only [List.filterMap_cons]
      split
      · exact ih
      · exact ih.cons_cons _
    · exact ih.trans (List.Sublist.filterMap SlotState.cabin (List.sublist_cons_self x _))

theorem forall₂_of_slots {s t : State} {R : SlotState → SlotState → Prop}
    (hlen : t.ctr.slots.length = s.ctr.slots.length) (hslot : ∀ k, R (s.slot k) (t.slot k)) :
    List.Forall₂ R s.ctr.slots t.ctr.slots := by
  refine List.forall₂_iff_get.mpr ⟨hlen.symm, fun k h1 h2 => ?_⟩
  have hget : ∀ (u : State) (h : k < u.ctr.slots.length), u.slot k = u.ctr.slots.get ⟨k, h⟩ := fun u h => by
    simp [State.slot, List.getD_eq_getElem?_getD, List.getElem?_eq_getElem h]
  rw [← hget s h1, ← hget t h2]
  exact hslot k

theorem cabins_sublist {s t : State} (hlen : t.ctr.slots.length = s.ctr.slots.length)
    (hslot : ∀ k, t.slot k = s.slot k ∨ t.slot k = .empty) :
    (t.ctr.slots.filterMap SlotState.cabin).Sublist (s.ctr.slots.filterMap SlotState.cabin) :=
  filterMap_cabin_sublist (forall₂_of_slots hlen hslot)

theorem Calm.slotsBut {s t : State} {loose : Set Nat} (hc : Calm s t) (h : s.slotsBut loose) : t.slotsBut loose := by
  obtain ⟨hholds, hup, hdown, hwatch, hnodup⟩ := h
  refine ⟨fun k hk => ?_, fun u hu => ?_, fun d hd => ?_, fun w hw => ?_, ?_⟩
  · rw [hc.slotCount] at hk
    rcases hc.slot k with hsame | hempty
    · refine (hholds k hk).imp (fun hheld => hc.backed k ?_) fun hloose => ?_
      · rwa [hsame]
      · rwa [hsame]
    · rw [hempty]
      exact .inl trivial
  · rw [hc.lines.1] at hu
    rw [hc.lineSlot _ u.cabin (.inl (hup u hu)), hup u hu]
  · rw [hc.lines.2] at hd
    rw [hc.lineSlot _ d.cabin (.inr (hdown d hd)), hdown d hd]
  · exact hc.watchSlot w hw (hwatch w (hc.watch.subset hw))
  · exact hnodup.sublist (cabins_sublist hc.slotCount hc.slot)

theorem Calm.entriesAgree {s t : State} (hc : Calm s t) (h : s.entriesAgree) : t.entriesAgree := by
  obtain ⟨hserials, hwatch, hs7⟩ := h
  refine ⟨?_, hwatch.sublist (hc.watch.map _), fun w hw => ?_⟩
  · rw [serials_of_sameEntry hc.queue, hc.garage]
    exact hserials
  · obtain ⟨e, he, hwho, hseg⟩ := hs7 w (hc.watch.subset hw)
    obtain ⟨y, hy, -, hindex, hkeep⟩ := sameEntry_of_mem hc.queue he
    exact ⟨y, hy, who_eq_cabin_of_index (by rw [hindex, hwho]; rfl), hkeep hseg⟩

theorem Calm.geometryAgrees {s t : State} (hc : Calm s t) (h : s.geometryAgrees) : t.geometryAgrees := by
  obtain ⟨hforce, hstore, hstage, hcommit⟩ := h
  refine ⟨fun x hx => ?_, fun x hx => hstore x (hc.storedSafety x hx), by rw [hc.staged]; exact hstage, fun w hw hk => ?_⟩
  · rw [hc.safety] at hx
    rw [hc.slotCount]
    exact hforce x hx
  · obtain ⟨-, hne⟩ | ⟨v, hv, -, hkind⟩ := hc.write w hw
    · exact absurd hk hne
    · rw [hc.staged]
      exact hcommit v hv (hkind hk)

theorem Calm.storeAgrees {s t : State} (hc : Calm s t) (h : s.storeAgrees) : t.storeAgrees := by
  intro f hf
  obtain ⟨hstats, hpark, hwrite⟩ := h f (hc.storedFleet f hf)
  refine ⟨by rw [hc.stats]; exact hstats, fun p hp => hpark p (hc.storedPark p hp), fun w hw p hp => ?_⟩
  obtain ⟨hnone, -⟩ | ⟨v, hv, hsnapshot, -⟩ := hc.write w hw
  · rw [hnone] at hp
    cases hp
  · exact hwrite v hv p (hsnapshot ▸ hp)

/-- A calm step keeps the fleet. -/
theorem State.FleetBut.calm {s t : State} {out loose : Set Nat} (h : s.FleetBut out loose) (hc : Calm s t) : t.FleetBut out loose := by
  have hstat := stat_of_stats hc.stats
  refine ⟨by rw [length_of_stats hc.stats]; exact h.registered, fun l => by rw [hc.members]; exact h.nodup l,
    fun l i hi => ?_, fun i hi hout => ?_, fun i hi => by rw [hstat]; exact h.outside i hi, hc.slotsBut h.slots,
    hc.entriesAgree h.entries, fun i hi => ?_, hc.geometryAgrees h.geometry, hc.storeAgrees h.stored⟩
  · rw [hc.members] at hi
    rw [hstat, hc.location]
    exact h.member l i hi
  · rw [hstat, hc.location, hc.members]
    exact h.placed i hi hout
  · rw [hc.members] at hi
    obtain ⟨u, hu, rfl⟩ := List.mem_map.mp hi
    obtain ⟨hdoor, hverdict⟩ := hc.uphillDoors u hu
    rw [hdoor, hverdict]
    exact h.ready u.cabin hi

/-! ## Calm steps by the parts they touch -/

theorem sameEntry_refl (q : List StationEntry) : List.Forall₂ SameEntry q q :=
  List.forall₂_same.mpr fun _ _ => ⟨rfl, rfl, id⟩

theorem slotHolds_congr {s t : State} (hl : t.lgt = s.lgt) (hu : t.ctr.uphill = s.ctr.uphill)
    (hd : t.ctr.downhill = s.ctr.downhill) (k : Nat) (x : SlotState) : t.slotHolds k x ↔ s.slotHolds k x := by
  cases x <;> simp only [State.slotHolds, hl, hu, hd]

/-- A step that touches of the fleet the registry and the queue. -/
theorem calm_of_entries {s t : State} (hd : Does 250739759 s t)
    (hstats : t.registry.map RegEntry.stat = s.registry.map RegEntry.stat)
    (hlocation : ∀ j, (t.reg j).location = (s.reg j).location)
    (hdoors : ∀ u ∈ s.ctr.uphill,
      (t.reg u.cabin).door = (s.reg u.cabin).door ∧ (t.reg u.cabin).verdict = (s.reg u.cabin).verdict)
    (hqueue : List.Forall₂ SameEntry s.ctr.queue t.ctr.queue) : Calm s t := by
  have hslot := slot_congr hd.slots_eq
  obtain ⟨hwrite, -⟩ := hd.1 .write rfl
  exact
    { stats := hstats
      location := hlocation
      uphillDoors := hdoors
      queue := hqueue
      garage := hd.garage_eq
      lines := hd.1 .lines rfl
      sets := hd.1 .sets rfl
      slotCount := by rw [hd.slots_eq]
      slot := fun k => .inl (hslot k)
      lineSlot := fun k _ _ => hslot k
      watch := by rw [hd.lgt_eq]
      watchSlot := fun w _ hw => by rw [hslot]; exact hw
      backed := fun k hk => by
        rw [hslot] at hk ⊢
        exact (slotHolds_congr hd.lgt_eq hd.uphill_eq hd.downhill_eq k _).mpr hk
      safety := hd.safety_eq
      staged := (hd.1 .staging rfl).1
      write := fun w hw => .inr ⟨w, by rwa [hwrite] at hw, rfl, id⟩
      storedSafety := fun x hx => by rwa [hd.1 .store rfl] at hx
      storedFleet := fun x hx => by rwa [hd.1 .store rfl] at hx
      storedPark := fun x hx => by rwa [hd.1 .store rfl] at hx }

/-- A step that touches of the fleet the launch gate's records, the slots and the queue. -/
theorem calm_of_launch {s t : State} (hd : Does 250740283 s t)
    (hqueue : List.Forall₂ SameEntry s.ctr.queue t.ctr.queue) (hcount : t.ctr.slots.length = s.ctr.slots.length)
    (hslot : ∀ k, t.slot k = s.slot k ∨ t.slot k = .empty)
    (hline : ∀ k c, s.slot k = .up c ∨ s.slot k = .down c → t.slot k = s.slot k)
    (hwatch : t.lgt.watch.Sublist s.lgt.watch)
    (hwatchSlot : ∀ w ∈ t.lgt.watch, s.slot w.slot = .releasing w.cabin → t.slot w.slot = .releasing w.cabin)
    (hbacked : ∀ k, s.slotHolds k (t.slot k) → t.slotHolds k (t.slot k)) : Calm s t := by
  have hreg := reg_congr hd.registry_eq
  obtain ⟨hwrite, -⟩ := hd.1 .write rfl
  exact
    { stats := by rw [hd.registry_eq]
      location := fun j => by rw [hreg]
      uphillDoors := fun u _ => by rw [hreg]; exact ⟨rfl, rfl⟩
      queue := hqueue
      garage := hd.garage_eq
      lines := hd.1 .lines rfl
      sets := hd.1 .sets rfl
      slotCount := hcount
      slot := hslot
      lineSlot := hline
      watch := hwatch
      watchSlot := hwatchSlot
      backed := hbacked
      safety := hd.safety_eq
      staged := (hd.1 .staging rfl).1
      write := fun w hw => .inr ⟨w, by rwa [hwrite] at hw, rfl, id⟩
      storedSafety := fun x hx => by rwa [hd.1 .store rfl] at hx
      storedFleet := fun x hx => by rwa [hd.1 .store rfl] at hx
      storedPark := fun x hx => by rwa [hd.1 .store rfl] at hx }

/-- A step that touches of the fleet the store and the write in flight. -/
theorem calm_of_store {s t : State} (hd : Does 268041227 s t)
    (hwrite : ∀ w ∈ t.tst.write, w.kind.harmless ∨ ∃ v ∈ s.tst.write,
      w.kind.snapshot = v.kind.snapshot ∧ (w.kind = .commit .safety → v.kind = .commit .safety))
    (hsafety : ∀ x ∈ t.store.safety, x ∈ s.store.safety) (hfleet : ∀ f ∈ t.store.fleet, f ∈ s.store.fleet)
    (hpark : ∀ p ∈ t.store.park, p ∈ s.store.park) : Calm s t := by
  have hreg := reg_congr hd.registry_eq
  have hslot := slot_congr hd.slots_eq
  exact
    { stats := by rw [hd.registry_eq]
      location := fun j => by rw [hreg]
      uphillDoors := fun u _ => by rw [hreg]; exact ⟨rfl, rfl⟩
      queue := by rw [hd.queue_eq]; exact sameEntry_refl _
      garage := hd.garage_eq
      lines := hd.1 .lines rfl
      sets := hd.1 .sets rfl
      slotCount := by rw [hd.slots_eq]
      slot := fun k => .inl (hslot k)
      lineSlot := fun k _ _ => hslot k
      watch := by rw [hd.lgt_eq]
      watchSlot := fun w _ hw => by rw [hslot]; exact hw
      backed := fun k hk => by
        rw [hslot] at hk ⊢
        exact (slotHolds_congr hd.lgt_eq hd.uphill_eq hd.downhill_eq k _).mpr hk
      safety := hd.safety_eq
      staged := (hd.1 .staging rfl).1
      write := hwrite
      storedSafety := hsafety
      storedFleet := hfleet
      storedPark := hpark }

section
variable {s t : State} {out loose : Set Nat}

/-- A step that touches no part of the fleet. -/
theorem State.FleetBut.does (h : s.FleetBut out loose) (hd : Does 250739723 s t) : t.FleetBut out loose := by
  have hreg := reg_congr hd.registry_eq
  exact h.calm (calm_of_entries (hd.mono rfl) (by rw [hd.registry_eq]) (fun j => by rw [hreg])
    (fun u _ => by rw [hreg]; exact ⟨rfl, rfl⟩) (by rw [hd.queue_eq]; exact sameEntry_refl _))

/-- A step that touches of the fleet the registry alone: no ID, no service flag and no location, and no door or verdict of
a cabin on the uphill list. -/
theorem State.FleetBut.registry (h : s.FleetBut out loose) (hd : Does 250739727 s t)
    (hstats : t.registry.map RegEntry.stat = s.registry.map RegEntry.stat)
    (hlocation : ∀ j, (t.reg j).location = (s.reg j).location)
    (hdoors : ∀ j, (s.reg j).location = .uphill →
      (t.reg j).door = (s.reg j).door ∧ (t.reg j).verdict = (s.reg j).verdict) : t.FleetBut out loose :=
  h.calm (calm_of_entries (hd.mono rfl) hstats hlocation
    (fun u hu => hdoors u.cabin (h.member .uphill u.cabin (List.mem_map_of_mem hu)).2.2.2)
    (by rw [hd.queue_eq]; exact sameEntry_refl _))

/-- A step that touches of the fleet the queue alone. -/
theorem State.FleetBut.queue (h : s.FleetBut out loose) (hd : Does 250739755 s t)
    (hqueue : List.Forall₂ SameEntry s.ctr.queue t.ctr.queue) : t.FleetBut out loose := by
  have hreg := reg_congr hd.registry_eq
  exact h.calm (calm_of_entries (hd.mono rfl) (by rw [hd.registry_eq]) (fun j => by rw [hreg])
    (fun u _ => by rw [hreg]; exact ⟨rfl, rfl⟩) hqueue)

/-- A step that touches of the fleet the launch gate's records alone, and neither the attach watch nor the place of the
pending release. -/
theorem State.FleetBut.lgt (h : s.FleetBut out loose) (hd : Does 250739739 s t) (hwatch : t.lgt.watch = s.lgt.watch)
    (hpending : t.lgt.pending.map PendingRelease.place = s.lgt.pending.map PendingRelease.place) : t.FleetBut out loose := by
  have hslot := slot_congr hd.slots_eq
  refine h.calm (calm_of_launch (hd.mono rfl) (by rw [hd.queue_eq]; exact sameEntry_refl _) (by rw [hd.slots_eq])
    (fun k => .inl (hslot k)) (fun k _ _ => hslot k) (by rw [hwatch]) (fun w _ hw => by rw [hslot]; exact hw)
    fun k hk => ?_)
  rw [hslot] at hk ⊢
  generalize s.slot k = x at *
  cases x with
  | empty => trivial
  | releasePending c =>
    obtain ⟨p, hp, rfl, rfl⟩ := hk
    have hmem : p.place ∈ t.lgt.pending.map PendingRelease.place := by
      rw [hpending]
      exact Option.mem_map_of_mem _ hp
    obtain ⟨q, hq, hplace⟩ := Option.mem_map.mp hmem
    exact ⟨q, hq, congrArg Prod.fst hplace, congrArg Prod.snd hplace⟩
  | releasing c => simpa only [State.slotHolds, hwatch] using hk
  | up c => simpa only [State.slotHolds, hd.uphill_eq] using hk
  | down c => simpa only [State.slotHolds, hd.downhill_eq] using hk

end

end Sys2Proof.Machine
end
section
/-!
PROOFS. The conservation of the fleet (O27), second part: the releases of the launch gate, the stop chain's report and the end
of every command.
-/

namespace Sys2Proof.Machine

variable {s t : State} {out loose : Set Nat}

/-! ## The slot of a release returns to EMPTY -/

theorem freeSlotIf_slot (s : State) (k j : Nat) (x : SlotState) :
    (s.freeSlotIf k x).slot j = if k = j ∧ s.slot k = x then .empty else s.slot j := by
  unfold State.freeSlotIf
  by_cases hx : s.slot k = x
  · rw [if_pos hx, setSlot_slot]
    by_cases hk : k = j
    · subst hk
      by_cases hlen : k < s.ctr.slots.length
      · simp [hx, hlen]
      · have hempty : s.slot k = .empty := by
          by_contra hne
          exact hlen (lt_of_slot_ne_empty hne)
        simp [hempty]
    · simp [hk]
  · simp [hx]

theorem freeSlotIf_length (s : State) (k : Nat) (x : SlotState) :
    (s.freeSlotIf k x).ctr.slots.length = s.ctr.slots.length := by
  unfold State.freeSlotIf
  split
  · simp [State.setSlot]
  · rfl

theorem freeSlotIf_slot_or (s : State) (k j : Nat) (x : SlotState) :
    (s.freeSlotIf k x).slot j = s.slot j ∨ (s.freeSlotIf k x).slot j = .empty := by
  rw [freeSlotIf_slot]
  split
  · exact .inr rfl
  · exact .inl rfl

theorem freeSlotIf_slot_of_ne {s : State} {j : Nat} {x : SlotState} (k : Nat) (h : s.slot j ≠ x) :
    (s.freeSlotIf k x).slot j = s.slot j := by
  rw [freeSlotIf_slot, if_neg]
  rintro ⟨rfl, hx⟩
  exact h hx

/-- The slot of the pending release returned to EMPTY, whatever becomes of the release: no other slot is RELEASE_PENDING. -/
theorem State.FleetBut.freePendingIn (h : s.FleetBut out loose) {p : PendingRelease} (hp : s.lgt.pending = some p)
    (hd : Does 250740283 s t) (hqueue : List.Forall₂ SameEntry s.ctr.queue t.ctr.queue) (hwatch : t.lgt.watch = s.lgt.watch)
    (hslots : t.ctr.slots = (s.freeSlotIf p.slot (.releasePending p.cabin)).ctr.slots) : t.FleetBut out loose := by
  have hslot := slot_congr hslots
  refine h.calm (calm_of_launch hd hqueue
    (by rw [hslots]; exact freeSlotIf_length ..) (fun k => by rw [hslot]; exact freeSlotIf_slot_or ..)
    (fun k c hk => ?_) (by rw [hwatch]) (fun w _ hw => ?_) fun k hk => ?_)
  · rw [hslot, freeSlotIf_slot_of_ne]
    rcases hk with hk | hk <;> exact fun he => by rw [hk] at he; cases he
  · rw [hslot, freeSlotIf_slot_of_ne _ (by rw [hw]; exact nofun), hw]
  · by_cases hheld : ∃ c, t.slot k = .releasePending c
    · obtain ⟨c, hc⟩ := hheld
      rw [hc] at hk
      obtain ⟨q, hq, rfl, rfl⟩ := hk
      rw [hp] at hq
      obtain rfl := Option.some.inj hq
      rw [hslot, freeSlotIf_slot] at hc
      split at hc
      · cases hc
      · rename_i hne
        exact absurd ⟨rfl, hc⟩ hne
    · generalize t.slot k = x at *
      cases x with
      | empty => trivial
      | releasePending c => exact absurd ⟨c, rfl⟩ hheld
      | releasing c => simpa only [State.slotHolds, hwatch] using hk
      | up c => simpa only [State.slotHolds, hd.uphill_eq] using hk
      | down c => simpa only [State.slotHolds, hd.downhill_eq] using hk

theorem State.FleetBut.freePending (h : s.FleetBut out loose) {p : PendingRelease} (hp : s.lgt.pending = some p)
    (hd : Does 250740251 s t) (hwatch : t.lgt.watch = s.lgt.watch)
    (hslots : t.ctr.slots = (s.freeSlotIf p.slot (.releasePending p.cabin)).ctr.slots) : t.FleetBut out loose :=
  h.freePendingIn hp (hd.mono rfl) (by rw [hd.queue_eq]; exact sameEntry_refl _) hwatch hslots

/-! ## Reports that touch no part of the fleet -/

theorem report_fleet (h : s.FleetBut out loose) (k : EventKind) (c : Option Cause) (i : Option Nat) (d : List Int) :
    (s.report k c i d).FleetBut out loose := h.does (State.report_does k c i d (Does.refl _ s) rfl)

theorem judge_fleet (h : s.FleetBut out loose) (c : Cause) (b : Bool) (i : Option Nat) : (s.judge c b i).FleetBut out loose :=
  h.does (State.judge_does c b i (Does.refl _ s) rfl)

theorem raise_fleet (h : s.FleetBut out loose) (c : Cause) (i : Option Nat) : (s.raise c i).FleetBut out loose :=
  h.does (State.raise_does c i (Does.refl _ s) rfl)

/-! ## The release withdrawn, and the head of S6 reported (R27, R36, R85) -/

/-- The launch gate's records set, with the attach watch and the place of the pending release as they were. -/
theorem setLgt_fleet (h : s.FleetBut out loose) {g : Lgt} (hwatch : g.watch = s.lgt.watch)
    (hpending : g.pending.map PendingRelease.place = s.lgt.pending.map PendingRelease.place) :
    (s.setLgt g).FleetBut out loose :=
  h.lgt (does_setLgt (Does.refl _ s) (.inl rfl) (by rw [hwatch])) hwatch hpending

theorem countWithdrawal_fleet (h : s.FleetBut out loose) (p : PendingRelease) (late : Bool) :
    (s.countWithdrawal p late).FleetBut out loose := by
  unfold State.countWithdrawal
  split
  · exact report_fleet (by exact setLgt_fleet h rfl rfl) ..
  · exact setLgt_fleet h rfl rfl

theorem withdrawRelease_fleet (h : s.FleetBut out loose) (late : Bool) : (s.withdrawRelease late).FleetBut out loose := by
  unfold State.withdrawRelease
  split
  · rename_i p hp
    split
    · refine countWithdrawal_fleet ?_ p late
      have hx : (s.withdrawControl .gateRelease p.tag).FleetBut out loose :=
        h.does (State.withdrawControl_does _ _ _ (Does.refl _ s) rfl)
      refine hx.freePending hp ?_ ?_ rfl
      · exact State.setPendingRelease_does _ (State.freeSlotIf_does _ _ (Does.refl _ _) rfl) rfl
      · change ((s.withdrawControl .gateRelease p.tag).freeSlotIf p.slot (.releasePending p.cabin)).lgt.watch = _
        rw [freeSlotIf_lgt]
    · exact h
  · exact h

theorem withdrawUnlessHead_fleet (h : s.FleetBut out loose) : s.withdrawUnlessHead.FleetBut out loose := by
  unfold State.withdrawUnlessHead
  split
  · split
    · exact h
    · exact withdrawRelease_fleet h false
  · exact h

theorem releaseCountedHead_fleet (h : s.FleetBut out loose) : s.releaseCountedHead.FleetBut out loose := by
  refine h.lgt (State.releaseCountedHead_does (Does.refl _ s) rfl) ?_ ?_
  all_goals
    unfold State.releaseCountedHead
    repeat' split
  all_goals
    simp

theorem reportHead_fleet (h : s.FleetBut out loose) : s.reportHead.FleetBut out loose :=
  releaseCountedHead_fleet (withdrawUnlessHead_fleet h)

/-! ## The stop chain's report (R160, R163, R164) -/

theorem tellOutput_fleet (h : s.FleetBut out loose) : s.tellOutput.FleetBut out loose := by
  unfold State.tellOutput
  refine State.FleetBut.does ?_ (State.judgeEmergency_does (Does.refl _ _) rfl)
  split
  · exact withdrawRelease_fleet h false
  · exact h

theorem formOutput_fleet (h : s.FleetBut out loose) (rs : List Riser) : (s.formOutput rs).FleetBut out loose := by
  unfold State.formOutput
  dsimp only
  split
  · exact h
  · exact tellOutput_fleet (h.does (State.reportOutput_does _ _ (State.setOutput_does _ _ (Does.refl _ s) rfl) rfl))

theorem takeTogether_fleet (h : s.FleetBut out loose) (xs : List CauseReport) : (s.takeTogether xs).FleetBut out loose :=
  formOutput_fleet (h.does (Does.foldl _ _ (Does.refl _ s) fun _ a hx => State.takeCondition_does a hx rfl)) _

theorem takeReport_fleet (h : s.FleetBut out loose) : s.takeReport.FleetBut out loose := by
  unfold State.takeReport
  split
  · exact h
  · have hclear : s.clearGathered.FleetBut out loose := h.does (State.clearGathered_does (Does.refl _ s) rfl)
    exact List.foldlRecOn (motive := fun x : State => x.FleetBut out loose) _ State.takeTogether hclear
      fun x hx xs _ => takeTogether_fleet hx xs

/-! ## The end of every command -/

theorem staleIf_fleet (h : s.FleetBut out loose) (b : State) : (s.staleIf b).FleetBut out loose := by
  have hd : Does 268041227 s (s.staleIf b) := State.staleIf_does b (Does.refl _ s) rfl
  have hstore : (s.staleIf b).store = s.store := (State.staleIf_does (m := 524288) b (Does.refl _ s) rfl).1 .store rfl
  refine h.calm (calm_of_store hd (fun w hw => ?_) ?_ ?_ ?_)
  · unfold State.staleIf at hw
    repeat' split at hw
    case h_1.isTrue v _ hv _ p hkind _ =>
      obtain rfl := Option.some.inj hw
      exact .inr ⟨v, hv, by rw [hkind]; rfl, nofun⟩
    all_goals exact .inr ⟨w, hw, rfl, id⟩
  all_goals
    rw [hstore]
    exact fun x hx => hx

theorem settle_fleet (h : s.FleetBut out loose) (b : State) : (s.settle b).FleetBut out loose := by
  unfold State.settle
  split
  · exact h
  · exact ((staleIf_fleet ((takeReport_fleet h).does (State.transmit_does (Does.refl _ _) rfl)) b).does
      (State.countChanges_does b (Does.refl _ _) rfl))

end Sys2Proof.Machine
end
section
/-!
PROOFS. The conservation of the fleet (O27), third part: cabins taken out of their collection and cabins that join one.
-/

namespace Sys2Proof.Machine

variable {s t : State} {out loose : Set Nat}

/-! ## What the invariant says of one cabin -/

/-- The cabin that an entry stands for, if a registered one stands in it. -/
def cabinsOf (g : Option Nat) : Set Nat := {j | g = some j}

@[simp] theorem mem_cabinsOf (g : Option Nat) (j : Nat) : j ∈ cabinsOf g ↔ g = some j := Iff.rfl

theorem cabinsOf_some (i : Nat) : cabinsOf (some i) = {i} := by
  ext j
  simp [eq_comm]

theorem cabinsOf_none : cabinsOf none = ∅ := by
  ext j
  simp

/-- Of a list whose values under `f` are distinct, two places with one value are one place. -/
theorem index_of_filterMap_nodup {α β : Type} {f : α → Option β} {l : List α} (h : (l.filterMap f).Nodup) {j k : Nat}
    (hj : j < l.length) (hk : k < l.length) {b : β} (hfj : f l[j] = some b) (hfk : f l[k] = some b) : j = k := by
  have hpair := List.pairwise_iff_getElem.mp (List.pairwise_filterMap.mp h)
  rcases Nat.lt_trichotomy j k with hlt | heq | hgt
  · exact absurd rfl (hpair j k hj hk hlt b hfj b hfk)
  · exact heq
  · exact absurd rfl (hpair k j hk hj hgt b hfk b hfj)

theorem eq_of_filterMap_nodup {α β : Type} {f : α → Option β} {l : List α} (h : (l.filterMap f).Nodup) {x y : α} {b : β}
    (hx : x ∈ l) (hy : y ∈ l) (hfx : f x = some b) (hfy : f y = some b) : x = y := by
  obtain ⟨j, hj, rfl⟩ := List.mem_iff_getElem.mp hx
  obtain ⟨k, hk, rfl⟩ := List.mem_iff_getElem.mp hy
  obtain rfl := index_of_filterMap_nodup h hj hk hfx hfy
  rfl

theorem State.FleetBut.location_of_entry (h : s.FleetBut out loose) {e : StationEntry} {i : Nat} (he : e ∈ s.ctr.queue)
    (hw : e.who.index = some i) : i ∉ out ∧ i < 128 ∧ (s.reg i).stat.inService = true ∧ (s.reg i).location = .station :=
  h.member .station i (List.mem_filterMap.mpr ⟨e, he, hw⟩)

theorem State.FleetBut.entry_unique (h : s.FleetBut out loose) {x y : StationEntry} {i : Nat} (hx : x ∈ s.ctr.queue)
    (hy : y ∈ s.ctr.queue) (hwx : x.who.index = some i) (hwy : y.who.index = some i) : x = y :=
  eq_of_filterMap_nodup (h.nodup .station) hx hy hwx hwy

theorem eq_of_serial (h : s.entriesAgree) {x y : StationEntry} (hx : x ∈ s.ctr.queue) (hy : y ∈ s.ctr.queue)
    (he : x.serial = y.serial) : x = y :=
  List.inj_on_of_nodup_map (List.Nodup.of_append_left h.1) hx hy he

theorem State.FleetBut.uphill_unique (h : s.FleetBut out loose) {x y : UphillEntry} (hx : x ∈ s.ctr.uphill)
    (hy : y ∈ s.ctr.uphill) (he : x.cabin = y.cabin) : x = y :=
  List.inj_on_of_nodup_map (h.nodup .uphill) hx hy he

theorem State.FleetBut.downhill_unique (h : s.FleetBut out loose) {x y : DownhillEntry} (hx : x ∈ s.ctr.downhill)
    (hy : y ∈ s.ctr.downhill) (he : x.cabin = y.cabin) : x = y :=
  List.inj_on_of_nodup_map (h.nodup .downhill) hx hy he

theorem watch_unique (h : s.entriesAgree) {x y : WatchEntry} (hx : x ∈ s.lgt.watch) (hy : y ∈ s.lgt.watch)
    (he : x.cabin = y.cabin) : x = y :=
  List.inj_on_of_nodup_map h.2.1 hx hy he

theorem slot_eq_getElem (s : State) {k : Nat} (hk : k < s.ctr.slots.length) : s.slot k = s.ctr.slots[k] := by
  simp [State.slot, List.getD_eq_getElem?_getD, List.getElem?_eq_getElem hk]

theorem lt_of_slot_cabin {k i : Nat} (h : (s.slot k).cabin = some i) : k < s.ctr.slots.length :=
  lt_of_slot_ne_empty fun he => by rw [he] at h; cases h

/-- No cabin has two slots (R42). -/
theorem slot_unique (h : s.slotsBut loose) {j k i : Nat} (hj : (s.slot j).cabin = some i) (hk : (s.slot k).cabin = some i) :
    j = k := by
  have hjlt := lt_of_slot_cabin hj
  have hklt := lt_of_slot_cabin hk
  rw [slot_eq_getElem s hjlt] at hj
  rw [slot_eq_getElem s hklt] at hk
  exact index_of_filterMap_nodup h.2.2.2.2 hjlt hklt hj hk

theorem stats_of_reg (hlen : t.registry.length = s.registry.length) (h : ∀ j, (t.reg j).stat = (s.reg j).stat) :
    t.registry.map RegEntry.stat = s.registry.map RegEntry.stat := by
  refine List.ext_getElem (by simpa using hlen) fun j hj hj' => ?_
  rw [List.length_map] at hj hj'
  have hreg := h j
  simp only [State.reg, List.getD_eq_getElem?_getD, List.getElem?_eq_getElem hj, List.getElem?_eq_getElem hj',
    Option.getD_some] at hreg
  simpa using hreg

/-! ## A slot that returns to EMPTY with the record that held it -/

/-- The slots in state `x` are freed as the record that holds them ends: the table and the records agree as before. -/
theorem slotsBut_of_freed (h : s.slotsBut loose) (x : SlotState)
    (hcount : t.ctr.slots.length = s.ctr.slots.length)
    (hor : ∀ k, t.slot k = s.slot k ∨ t.slot k = .empty) (hkeep : ∀ k, s.slot k ≠ x → t.slot k = s.slot k)
    (hfree : ∀ k, s.slot k = x → s.slotHolds k x → t.slot k = .empty)
    (hholds : ∀ k y, y ≠ x → s.slotHolds k y → t.slotHolds k y)
    (hup : ∀ u ∈ t.ctr.uphill, u ∈ s.ctr.uphill ∧ SlotState.up u.cabin ≠ x)
    (hdown : ∀ d ∈ t.ctr.downhill, d ∈ s.ctr.downhill ∧ SlotState.down d.cabin ≠ x)
    (hwatch : ∀ w ∈ t.lgt.watch, w ∈ s.lgt.watch ∧ SlotState.releasing w.cabin ≠ x) : t.slotsBut loose := by
  obtain ⟨hsholds, hsup, hsdown, hswatch, hnodup⟩ := h
  refine ⟨fun k hk => ?_, fun u hu => ?_, fun d hd => ?_, fun w hw => ?_,
    hnodup.sublist (cabins_sublist hcount hor)⟩
  · rw [hcount] at hk
    rcases hor k with hsame | hempty
    · rw [hsame]
      refine (hsholds k hk).imp (fun hheld => ?_) id
      by_cases hx : s.slot k = x
      · have he := hfree k hx (hx ▸ hheld)
        rw [← hsame, he]
        trivial
      · exact hholds k _ hx hheld
    · rw [hempty]
      exact .inl trivial
  · obtain ⟨hmem, hne⟩ := hup u hu
    have hslot := hsup u hmem
    rw [hkeep _ (by rw [hslot]; exact hne), hslot]
  · obtain ⟨hmem, hne⟩ := hdown d hd
    have hslot := hsdown d hmem
    rw [hkeep _ (by rw [hslot]; exact hne), hslot]
  · obtain ⟨hmem, hne⟩ := hwatch w hw
    have hslot := hswatch w hmem
    rw [hkeep _ (by rw [hslot]; exact hne), hslot]

/-! ## The parts that bookings do not touch -/

/-- The tables in force, the staging copy, the write in flight and the store are left as they are. -/
structure SameStore (s t : State) : Prop where
  safety : t.tst.safety = s.tst.safety
  staged : t.tst.stageSafety = s.tst.stageSafety
  write : t.tst.write = s.tst.write
  store : t.store = s.store

theorem sameStore_of_does (hd : Does 250740735 s t) : SameStore s t :=
  ⟨hd.safety_eq, (hd.1 .staging rfl).1, (hd.1 .write rfl).1, hd.1 .store rfl⟩

/-- A step that leaves the tables, the staging copies and the store, and the size of the slot table. -/
theorem geometryAgrees_of_same (h : s.geometryAgrees) (hs : SameStore s t)
    (hcount : t.ctr.slots.length = s.ctr.slots.length) : t.geometryAgrees := by
  unfold State.geometryAgrees
  rw [hs.safety, hs.staged, hs.write, hs.store, hcount]
  exact h

theorem storeAgrees_of_same (h : s.storeAgrees) (hs : SameStore s t)
    (hstats : t.registry.map RegEntry.stat = s.registry.map RegEntry.stat) : t.storeAgrees := by
  unfold State.storeAgrees
  rw [hs.store, hs.write, hstats]
  exact h

theorem geometryAgrees_of_does (h : s.geometryAgrees) (hd : Does 250740735 s t)
    (hcount : t.ctr.slots.length = s.ctr.slots.length) : t.geometryAgrees :=
  geometryAgrees_of_same h (sameStore_of_does hd) hcount

theorem storeAgrees_of_does (h : s.storeAgrees) (hd : Does 250740735 s t)
    (hstats : t.registry.map RegEntry.stat = s.registry.map RegEntry.stat) : t.storeAgrees :=
  storeAgrees_of_same h (sameStore_of_does hd) hstats

/-! ## A cabin leaves its collection -/

/-- Whoever is in `g` leaves the collection that holds it, and with it every record that names it. -/
theorem State.FleetBut.remove (h : s.FleetBut out loose) {g : Option Nat} (hd : Does 250740735 s t)
    (hg : ∀ i, g = some i → i < 128 ∧ (s.reg i).stat.inService = true)
    (hmembers : ∀ l, t.members l = (s.members l).filter fun j => g ≠ some j)
    (hstanding : SameStanding s t) (hserials :
      (t.ctr.queue.map StationEntry.serial ++ t.ctr.garage.map GarageEntry.serial).Sublist
        (s.ctr.queue.map StationEntry.serial ++ s.ctr.garage.map GarageEntry.serial))
    (hwatch : t.lgt.watch.Sublist s.lgt.watch)
    (hs7 : ∀ w ∈ t.lgt.watch, ∃ e ∈ t.ctr.queue, e.who = .cabin w.cabin ∧ e.segment = .s7)
    (hcount : t.ctr.slots.length = s.ctr.slots.length) (hslots : t.slotsBut loose) :
    t.FleetBut (out ∪ cabinsOf g) loose := by
  have hreg : ∀ j, (t.reg j).stat = (s.reg j).stat ∧ (t.reg j).location = (s.reg j).location ∧
      (t.reg j).door = (s.reg j).door ∧ (t.reg j).verdict = (s.reg j).verdict := fun j => by
    rw [hstanding.reg j]
    exact ⟨rfl, rfl, rfl, rfl⟩
  have hstats : t.registry.map RegEntry.stat = s.registry.map RegEntry.stat :=
    stats_of_reg hstanding.length fun j => (hreg j).1
  have hmem : ∀ l j, j ∈ t.members l ↔ j ∈ s.members l ∧ g ≠ some j := fun l j => by
    rw [hmembers, List.mem_filter, decide_eq_true_iff]
  refine ⟨by rw [hstanding.length]; exact h.registered, fun l => by rw [hmembers]; exact (h.nodup l).filter _,
    fun l j hj => ?_, fun j hj hout => ?_, fun j hj => ?_, hslots,
    ⟨hserials.nodup h.entries.1, h.entries.2.1.sublist (hwatch.map _), hs7⟩, fun j hj => ?_,
    geometryAgrees_of_does h.geometry hd hcount, storeAgrees_of_does h.stored hd hstats⟩
  · obtain ⟨hin, hne⟩ := (hmem l j).mp hj
    obtain ⟨hout, hrest⟩ := h.member l j hin
    rw [(hreg j).1, (hreg j).2.1]
    exact ⟨fun hu => hu.elim hout hne, hrest⟩
  · have hplaced := h.placed j hj fun hmem => hout (.inl hmem)
    rw [(hreg j).1, (hreg j).2.1]
    split at hplaced
    · rw [if_pos (by assumption)]
      exact (hmem _ j).mpr ⟨hplaced, fun hgj => hout (.inr hgj)⟩
    · rw [if_neg (by assumption)]
      exact hplaced
  · rw [(hreg j).1]
    exact hj.elim (h.outside j) (hg j)
  · rw [(hreg j).2.2.1, (hreg j).2.2.2]
    exact h.ready j ((hmem .uphill j).mp hj).1

/-! ## A cabin joins a collection -/

/-- Whoever is in `g` joins the collection `l`. -/
theorem State.FleetBut.join (h : s.FleetBut out loose) {g : Option Nat} {l : Location} {loose' : Set Nat}
    (hsame : SameStore s t) (hg : ∀ i, g = some i → i ∈ out)
    (hmem : ∀ m j, j ∈ t.members m ↔ j ∈ s.members m ∨ (m = l ∧ g = some j)) (hnodup : ∀ m, (t.members m).Nodup)
    (hstats : t.registry.map RegEntry.stat = s.registry.map RegEntry.stat)
    (hlocation : ∀ j, (t.reg j).location = if g = some j then l else (s.reg j).location)
    (hready : t.uphillReady) (hentries : t.entriesAgree)
    (hcount : t.ctr.slots.length = s.ctr.slots.length) (hslots : t.slotsBut loose') :
    t.FleetBut (out \ cabinsOf g) loose' := by
  have hstat := stat_of_stats hstats
  refine ⟨by rw [length_of_stats hstats]; exact h.registered, hnodup, fun m j hj => ?_, fun j hj hout => ?_,
    fun j hj => by rw [hstat]; exact h.outside j hj.1, hslots, hentries, hready,
    geometryAgrees_of_same h.geometry hsame hcount, storeAgrees_of_same h.stored hsame hstats⟩
  · rw [hstat, hlocation]
    rcases (hmem m j).mp hj with hin | ⟨rfl, hgj⟩
    · obtain ⟨hout, h128, hservice, hloc⟩ := h.member m j hin
      exact ⟨fun hj => hout hj.1, h128, hservice, by rw [if_neg fun hgj => hout (hg j hgj), hloc]⟩
    · obtain ⟨h128, hservice⟩ := h.outside j (hg j hgj)
      exact ⟨fun hj => hj.2 hgj, h128, hservice, if_pos hgj⟩
  · rw [hstat, hlocation]
    by_cases hgj : g = some j
    · obtain ⟨-, hservice⟩ := h.outside j (hg j hgj)
      rw [if_pos hservice, if_pos hgj]
      exact (hmem l j).mpr (.inr ⟨rfl, hgj⟩)
    · have hplaced := h.placed j hj fun hmem => hout ⟨hmem, hgj⟩
      rw [if_neg hgj]
      split at hplaced
      · rw [if_pos (by assumption)]
        exact (hmem _ j).mpr (.inl hplaced)
      · rw [if_neg (by assumption)]
        exact hplaced

end Sys2Proof.Machine
end
section
/-!
PROOFS. The conservation of the fleet (O27), fourth part: departures from each collection and the bookings that take a cabin
out of one.
-/

namespace Sys2Proof.Machine

variable {s t : State} {out loose : Set Nat}

theorem find?_of_unique {α : Type} {l : List α} {p : α → Bool} {x : α} (hx : x ∈ l) (hp : p x = true)
    (huniq : ∀ y ∈ l, p y = true → y = x) : l.find? p = some x := by
  cases hf : l.find? p with
  | none => exact absurd hp (List.find?_eq_none.mp hf x hx)
  | some y => rw [huniq y (List.mem_of_find?_eq_some hf) (List.find?_some hf)]

/-! ## The attach watch without a cabin (R63) -/

theorem unwatch_pending (s : State) (w : Who) : (s.unwatch w).lgt.pending = s.lgt.pending := by
  unfold State.unwatch
  repeat' split
  · rfl
  · rw [freeSlotIf_lgt]
    rfl
  · rfl

theorem unwatch_watch (s : State) (w : Who) :
    (s.unwatch w).lgt.watch = s.lgt.watch.filter fun x => w.index ≠ some x.cabin := by
  unfold State.unwatch
  split
  · exact (List.filter_eq_self.mpr fun x _ => by simp [Who.index]).symm
  · rename_i i
    split
    · rw [freeSlotIf_lgt]
      refine List.filter_congr fun x _ => ?_
      simp [Who.index, eq_comm]
    · rename_i hnone
      refine (List.filter_eq_self.mpr fun x hx => ?_).symm
      have hne := List.find?_eq_none.mp hnone x hx
      rw [decide_eq_true_iff] at hne ⊢
      exact fun he => hne (Option.some.inj he).symm

/-- The slot state that a departure of whoever is in an entry may end. -/
def releasingOf : Option Nat → SlotState
  | some i => .releasing i
  | none => .empty

theorem unwatch_slot_or (s : State) (w : Who) (k : Nat) :
    (s.unwatch w).slot k = s.slot k ∨ (s.unwatch w).slot k = .empty := by
  unfold State.unwatch
  repeat' split
  · exact .inl rfl
  · exact freeSlotIf_slot_or _ _ _ _
  · exact .inl rfl

theorem unwatch_slot_of_ne (s : State) (w : Who) {k : Nat} (h : s.slot k ≠ releasingOf w.index) :
    (s.unwatch w).slot k = s.slot k := by
  unfold State.unwatch
  repeat' split
  · rfl
  · exact freeSlotIf_slot_of_ne _ h
  · rfl

theorem unwatch_slot_freed {w : Who} (hwatch : (s.lgt.watch.map WatchEntry.cabin).Nodup) {k : Nat} (h : s.slot k = releasingOf w.index)
    (hheld : s.slotHolds k (releasingOf w.index)) : (s.unwatch w).slot k = .empty := by
  cases w with
  | anon _ _ _ => exact h
  | cabin i =>
    obtain ⟨x, hx, rfl, rfl⟩ := hheld
    have hfind : s.lgt.watch.find? (fun y => y.cabin = x.cabin) = some x :=
      find?_of_unique hx (by simp) fun y hy hc => List.inj_on_of_nodup_map hwatch hy hx (by simpa using hc)
    simp only [State.unwatch, hfind]
    rw [freeSlotIf_slot, if_pos ⟨rfl, h⟩]

theorem unwatch_slotCount (s : State) (w : Who) : (s.unwatch w).ctr.slots.length = s.ctr.slots.length := by
  unfold State.unwatch
  repeat' split
  · rfl
  · exact freeSlotIf_length _ _ _
  · rfl

/-! ## An entry leaves the station queue (R63) -/

theorem filterMap_filter_of_iff {α β : Type} {f : α → Option β} {p : α → Bool} {q : β → Bool} {l : List α}
    (h : ∀ x ∈ l, ∀ b, f x = some b → (p x = true ↔ q b = true)) :
    (l.filter p).filterMap f = (l.filterMap f).filter q := by
  rw [List.filterMap_filter, List.filter_filterMap]
  refine List.filterMap_congr fun x hx => ?_
  cases hf : f x with
  | none => simp
  | some b => by_cases hb : q b = true <;> simp [hb, h x hx b hf, Option.filter]

theorem members_station_of_dropped (h : s.FleetBut out loose) {e : StationEntry} (he : e ∈ s.ctr.queue) :
    (s.ctr.queue.filter fun x => x.serial ≠ e.serial).filterMap (fun x => x.who.index) =
      (s.members .station).filter fun j => e.who.index ≠ some j := by
  refine filterMap_filter_of_iff fun x hx j hj => ?_
  rw [decide_eq_true_iff, decide_eq_true_iff]
  refine not_congr ⟨fun hserial => ?_, fun hindex => ?_⟩
  · rw [eq_of_serial h.entries hx he hserial] at hj
    exact hj
  · rw [h.entry_unique hx he hj hindex]

/-- Whoever is in an entry of the queue stands in no other collection. -/
theorem members_of_entry (h : s.FleetBut out loose) {e : StationEntry} (he : e ∈ s.ctr.queue) {l : Location}
    (hl : l ≠ .station) : (s.members l).filter (fun j => e.who.index ≠ some j) = s.members l := by
  refine List.filter_eq_self.mpr fun j hj => ?_
  rw [decide_eq_true_iff]
  intro hindex
  exact hl (((h.member l j hj).2.2.2).symm.trans (h.location_of_entry he hindex).2.2.2)

theorem releasing_eq_releasingOf {g : Option Nat} {c : Nat} : SlotState.releasing c = releasingOf g ↔ g = some c := by
  cases g <;> simp [releasingOf, eq_comm]

/-- The entry out of the queue and the watch, before the departure is reported. -/
theorem dropEntry_fleet (h : s.FleetBut out loose) {e : StationEntry} (he : e ∈ s.ctr.queue) :
    (((s.setQueue (s.ctr.queue.filter fun x => x.serial ≠ e.serial)).judgeSegments).unwatch e.who).FleetBut
      (out ∪ cabinsOf e.who.index) loose := by
  have hj := judgeSegments_does' (s.setQueue (s.ctr.queue.filter fun x => x.serial ≠ e.serial))
  have hdrop : Does 4293168 s
      (((s.setQueue (s.ctr.queue.filter fun x => x.serial ≠ e.serial)).judgeSegments).unwatch e.who) :=
    State.unwatch_does _ (State.judgeSegments_does (State.setQueue_does _ (Does.refl _ s) rfl (List.length_filter_le _ _)) rfl)
      rfl
  have hyqueue : (s.setQueue (s.ctr.queue.filter fun x => x.serial ≠ e.serial)).judgeSegments.ctr.queue =
      s.ctr.queue.filter fun x => x.serial ≠ e.serial := hj.queue_eq
  have hylgt : (s.setQueue (s.ctr.queue.filter fun x => x.serial ≠ e.serial)).judgeSegments.lgt = s.lgt := hj.lgt_eq
  have hyslot : ∀ k, (s.setQueue (s.ctr.queue.filter fun x => x.serial ≠ e.serial)).judgeSegments.slot k = s.slot k :=
    slot_congr hj.slots_eq
  have hyslots : (s.setQueue (s.ctr.queue.filter fun x => x.serial ≠ e.serial)).judgeSegments.ctr.slots = s.ctr.slots :=
    hj.slots_eq
  generalize (s.setQueue (s.ctr.queue.filter fun x => x.serial ≠ e.serial)).judgeSegments = y at *
  have hu : Does 528 y (y.unwatch e.who) := State.unwatch_does _ (Does.refl _ y) rfl
  have hqueue : (y.unwatch e.who).ctr.queue = s.ctr.queue.filter fun x => x.serial ≠ e.serial := hu.queue_eq.trans hyqueue
  have hwatch : (y.unwatch e.who).lgt.watch = s.lgt.watch.filter fun x => e.who.index ≠ some x.cabin := by
    rw [unwatch_watch, hylgt]
  have hpending : (y.unwatch e.who).lgt.pending = s.lgt.pending := by rw [unwatch_pending, hylgt]
  have hgarage := hdrop.garage_eq
  refine h.remove (hdrop.mono rfl) (fun i hi => ?_) (fun l => ?_) (sameStanding_of_registry hdrop.registry_eq) ?_ ?_
    (fun w hw => ?_) ?_ ?_
  · exact ⟨(h.location_of_entry he hi).2.1, (h.location_of_entry he hi).2.2.1⟩
  · cases l with
    | station => rw [← members_station_of_dropped h he, ← hqueue]; rfl
    | garage => rw [members_of_entry h he (l := .garage) (by decide)]; simp only [State.members, hgarage]
    | uphill => rw [members_of_entry h he (l := .uphill) (by decide)]; simp only [State.members, hdrop.uphill_eq]
    | downhill => rw [members_of_entry h he (l := .downhill) (by decide)]; simp only [State.members, hdrop.downhill_eq]
    | summit => rw [members_of_entry h he (l := .summit) (by decide)]; simp only [State.members, hdrop.summit_eq]
    | unlocated => rw [members_of_entry h he (l := .unlocated) (by decide)]; simp only [State.members, hdrop.unlocated_eq]
    | outOfService => rfl
  · rw [hqueue, hgarage]
    exact (List.filter_sublist.map _).append_right _
  · rw [hwatch]
    exact List.filter_sublist
  · rw [hwatch, List.mem_filter, decide_eq_true_iff] at hw
    obtain ⟨x, hx, hwho, hseg⟩ := h.entries.2.2 w hw.1
    refine ⟨x, ?_, hwho, hseg⟩
    rw [hqueue, List.mem_filter, decide_eq_true_iff]
    refine ⟨hx, fun hserial => hw.2 ?_⟩
    rw [← eq_of_serial h.entries hx he hserial, hwho]
    rfl
  · rw [unwatch_slotCount, hyslots]
  · refine slotsBut_of_freed h.slots (releasingOf e.who.index) (by rw [unwatch_slotCount, hyslots]) (fun k => ?_)
      (fun k hk => ?_) (fun k hk hheld => ?_) (fun k x hx hheld => ?_) (fun u hu => ?_) (fun d hd => ?_) (fun w hw => ?_)
    · rw [← hyslot k]
      exact unwatch_slot_or _ _ k
    · rw [← hyslot k] at hk ⊢
      exact unwatch_slot_of_ne _ _ hk
    · refine unwatch_slot_freed (by rw [hylgt]; exact h.entries.2.1) (by rw [hyslot]; exact hk) ?_
      generalize e.who.index = g at *
      cases g with
      | none => trivial
      | some i => simpa only [releasingOf, State.slotHolds, hylgt] using hheld
    · cases x with
      | empty => trivial
      | releasePending c => simpa only [State.slotHolds, hpending] using hheld
      | releasing c =>
        obtain ⟨w, hw, rfl, rfl⟩ := hheld
        refine ⟨w, ?_, rfl, rfl⟩
        rw [hwatch, List.mem_filter, decide_eq_true_iff]
        exact ⟨hw, fun hindex => hx (releasing_eq_releasingOf.mpr hindex)⟩
      | up c => simpa only [State.slotHolds, hdrop.uphill_eq] using hheld
      | down c => simpa only [State.slotHolds, hdrop.downhill_eq] using hheld
    · rw [hdrop.uphill_eq] at hu
      refine ⟨hu, ?_⟩
      cases e.who.index <;> exact nofun
    · rw [hdrop.downhill_eq] at hd
      refine ⟨hd, ?_⟩
      cases e.who.index <;> exact nofun
    · rw [hwatch, List.mem_filter, decide_eq_true_iff] at hw
      exact ⟨hw.1, fun heq => hw.2 (releasing_eq_releasingOf.mp heq)⟩

theorem modReg_stats (s : State) (i : Nat) {f : RegEntry → RegEntry} (hf : ∀ r, (f r).stat = r.stat) :
    (s.modReg i f).registry.map RegEntry.stat = s.registry.map RegEntry.stat := by
  refine stats_of_reg (modReg_registry_length ..) fun j => ?_
  rw [modReg_reg]
  split
  · rename_i hij
    rw [hf, hij.1]
  · rfl

/-- A registry entry changed in what is not of the fleet. -/
theorem modReg_fleet (h : s.FleetBut out loose) (i : Nat) {f : RegEntry → RegEntry} (hf : ∀ r, (f r).stat = r.stat)
    (hl : ∀ r, (f r).location = r.location)
    (hdoors : (s.reg i).location = .uphill → ∀ r, (f r).door = r.door ∧ (f r).verdict = r.verdict) :
    (s.modReg i f).FleetBut out loose := by
  refine h.registry (State.modReg_does i f (Does.refl _ s) rfl) (modReg_stats s i hf) (fun j => ?_) fun j hj => ?_
  all_goals
    rw [modReg_reg]
    split
  · rename_i hij
    rw [hl, hij.1]
  · rfl
  · rename_i hij
    rw [← hij.1] at hj ⊢
    exact hdoors hj _
  · exact ⟨rfl, rfl⟩

theorem setHoldOpen_fleet (h : s.FleetBut out loose) (e : StationEntry) (b : Bool) : (s.setHoldOpen e b).FleetBut out loose := by
  unfold State.setHoldOpen
  split
  · exact modReg_fleet h _ (fun _ => rfl) (fun _ => rfl) fun _ _ => ⟨rfl, rfl⟩
  · exact h.does (State.modRecord_does _ _ (Does.refl _ s) rfl)

theorem doorDeparted_fleet (h : s.FleetBut out loose) (e : StationEntry) : (s.doorDeparted e).FleetBut out loose := by
  have hx : ((s.withdrawAllFor e.serial).setHoldOpen e false).FleetBut out loose :=
    setHoldOpen_fleet (h.does (State.withdrawAllFor_does _ (Does.refl _ s) rfl)) e false
  unfold State.doorDeparted
  exact hx.does (State.judgeObstruction_does _ (State.setDoorRecords_does _ (Does.refl _ _) rfl) rfl)

theorem judgeSwitch_fleet (h : s.FleetBut out loose) : s.judgeSwitch.FleetBut out loose :=
  h.does (State.judgeSwitch_does (Does.refl _ s) rfl)

theorem judgeGarageExit_fleet (h : s.FleetBut out loose) : s.judgeGarageExit.FleetBut out loose :=
  h.does (State.judgeGarageExit_does (Does.refl _ s) rfl)

theorem judgeSegments_fleet (h : s.FleetBut out loose) : s.judgeSegments.FleetBut out loose :=
  h.does (State.judgeSegments_does (Does.refl _ s) rfl)

/-- An entry of the queue leaves it (R63). -/
theorem leaveStation_fleet (h : s.FleetBut out loose) {e : StationEntry} (he : e ∈ s.ctr.queue) :
    (s.leaveStation e).FleetBut (out ∪ cabinsOf e.who.index) loose := by
  have hx := judgeSwitch_fleet (doorDeparted_fleet (reportHead_fleet (dropEntry_fleet h he)) e)
  unfold State.leaveStation
  dsimp only
  split
  · exact judgeGarageExit_fleet hx
  · exact hx

/-! ## A cabin leaves a line list (R41) -/

/-- Members of another collection are not the cabin that leaves. -/
theorem members_of_location (h : s.FleetBut out loose) {i : Nat} {l : Location} (hl : (s.reg i).location ≠ l) :
    (s.members l).filter (fun j => some i ≠ some j) = s.members l := by
  refine List.filter_eq_self.mpr fun j hj => ?_
  rw [decide_eq_true_iff]
  intro hij
  obtain rfl := Option.some.inj hij
  exact hl (h.member l _ hj).2.2.2

/-- A cabin leaves a line list, and the slot that its entry recorded is freed. -/
theorem leaveLine_fleet (h : s.FleetBut out loose) {i k0 : Nat} {x : SlotState} (hx : x.cabin = some i)
    (hline : ∀ c, SlotState.releasing c ≠ x) (hk0 : s.slot k0 = x) (hi : i < 128 ∧ (s.reg i).stat.inService = true)
    (hd : Does 640 s t) (hslots : t.ctr.slots = s.ctr.slots.set k0 .empty)
    (hmembers : ∀ l, t.members l = (s.members l).filter fun j => some i ≠ some j)
    (hholds : ∀ k y, y ≠ x → s.slotHolds k y → t.slotHolds k y)
    (hup : ∀ u ∈ t.ctr.uphill, u ∈ s.ctr.uphill ∧ SlotState.up u.cabin ≠ x)
    (hdown : ∀ d ∈ t.ctr.downhill, d ∈ s.ctr.downhill ∧ SlotState.down d.cabin ≠ x) :
    t.FleetBut (out ∪ {i}) loose := by
  have hslot : ∀ k, t.slot k = if k0 = k then .empty else s.slot k := fun k => by
    have hlt : k0 < s.ctr.slots.length := lt_of_slot_cabin (by rw [hk0]; exact hx)
    rw [slot_congr (s := s.setSlot k0 .empty) hslots, setSlot_slot]
    by_cases hk : k0 = k
    · rw [if_pos ⟨hk, hlt⟩, if_pos hk]
    · rw [if_neg fun hc => hk hc.1, if_neg hk]
  have hcount : t.ctr.slots.length = s.ctr.slots.length := by rw [hslots, List.length_set]
  rw [← cabinsOf_some]
  refine h.remove (hd.mono rfl) (fun j hj => by rwa [← Option.some.inj hj]) hmembers
    (sameStanding_of_registry hd.registry_eq) (by rw [hd.queue_eq, hd.garage_eq]) (by rw [hd.lgt_eq]) (fun w hw => ?_)
    hcount ?_
  · rw [hd.lgt_eq] at hw
    rw [hd.queue_eq]
    exact h.entries.2.2 w hw
  · refine slotsBut_of_freed h.slots x hcount (fun k => ?_) (fun k hk => ?_) (fun k hk _ => ?_) hholds hup hdown
      fun w hw => ?_
    · rw [hslot]
      split
      · exact .inr rfl
      · exact .inl rfl
    · rw [hslot, if_neg]
      rintro rfl
      exact hk hk0
    · rw [hslot, if_pos]
      exact slot_unique h.slots (i := i) (by rw [hk0]; exact hx) (by rw [hk]; exact hx)
    · rw [hd.lgt_eq] at hw
      exact ⟨hw, hline _⟩

theorem map_filter_cabin {α : Type} (f : α → Nat) (i : Nat) (l : List α) :
    (l.filter fun x => f x ≠ i).map f = (l.map f).filter fun j => some i ≠ some j := by
  rw [List.filter_map]
  refine congrArg _ (List.filter_congr fun x _ => ?_)
  simp [eq_comm]

theorem leaveUphill_fleet (h : s.FleetBut out loose) {i : Nat} (hi : i ∈ s.members .uphill) :
    (s.leaveUphill i).FleetBut (out ∪ {i}) loose := by
  obtain ⟨-, h128, hservice, hloc⟩ := h.member .uphill i hi
  obtain ⟨u, hu, rfl⟩ := List.mem_map.mp hi
  have hd : Does 640 s (s.leaveUphill u.cabin) := State.leaveUphill_does _ (Does.refl _ s) rfl
  have hfind : s.ctr.uphill.find? (fun x => x.cabin = u.cabin) = some u :=
    find?_of_unique hu (by simp) fun y hy hc => h.uphill_unique hy hu (by simpa using hc)
  have hleave : s.leaveUphill u.cabin =
      (s.setCtr { s.ctr with uphill := s.ctr.uphill.filter fun x => x.cabin ≠ u.cabin }).setSlot u.slot .empty := by
    simp only [State.leaveUphill, hfind]
  have hup : (s.leaveUphill u.cabin).ctr.uphill = s.ctr.uphill.filter fun x => x.cabin ≠ u.cabin := by rw [hleave]; rfl
  have hdown : (s.leaveUphill u.cabin).ctr.downhill = s.ctr.downhill := by rw [hleave]; rfl
  refine leaveLine_fleet h (x := .up u.cabin) rfl (fun _ => nofun) (h.slots.2.1 u hu) ⟨h128, hservice⟩ hd
    (by rw [hleave]; rfl) (fun l => ?_) (fun k y hy hheld => ?_) (fun v hv => ?_) (fun d hd' => ?_)
  · cases l with
    | uphill =>
      simp only [State.members, hup]
      exact map_filter_cabin _ _ _
    | station => rw [members_of_location h (by rw [hloc]; decide)]; simp only [State.members, hd.queue_eq]
    | garage => rw [members_of_location h (by rw [hloc]; decide)]; simp only [State.members, hd.garage_eq]
    | downhill => rw [members_of_location h (by rw [hloc]; decide)]; simp only [State.members, hdown]
    | summit => rw [members_of_location h (by rw [hloc]; decide)]; simp only [State.members, hd.summit_eq]
    | unlocated => rw [members_of_location h (by rw [hloc]; decide)]; simp only [State.members, hd.unlocated_eq]
    | outOfService => rfl
  · cases y with
    | up c =>
      obtain ⟨v, hv, rfl, rfl⟩ := hheld
      refine ⟨v, ?_, rfl, rfl⟩
      rw [hup, List.mem_filter, decide_eq_true_iff]
      exact ⟨hv, fun hc => hy (by rw [hc])⟩
    | empty => trivial
    | releasePending c => simpa only [State.slotHolds, hd.lgt_eq] using hheld
    | releasing c => simpa only [State.slotHolds, hd.lgt_eq] using hheld
    | down c => simpa only [State.slotHolds, hdown] using hheld
  · rw [hup, List.mem_filter, decide_eq_true_iff] at hv
    exact ⟨hv.1, fun hc => hv.2 (SlotState.up.inj hc)⟩
  · rw [hdown] at hd'
    exact ⟨hd', nofun⟩

theorem leaveDownhill_fleet (h : s.FleetBut out loose) {i : Nat} (hi : i ∈ s.members .downhill) :
    (s.leaveDownhill i).FleetBut (out ∪ {i}) loose := by
  obtain ⟨-, h128, hservice, hloc⟩ := h.member .downhill i hi
  obtain ⟨u, hu, rfl⟩ := List.mem_map.mp hi
  have hd : Does 640 s (s.leaveDownhill u.cabin) := State.leaveDownhill_does _ (Does.refl _ s) rfl
  have hfind : s.ctr.downhill.find? (fun x => x.cabin = u.cabin) = some u :=
    find?_of_unique hu (by simp) fun y hy hc => h.downhill_unique hy hu (by simpa using hc)
  have hleave : s.leaveDownhill u.cabin =
      (s.setCtr { s.ctr with downhill := s.ctr.downhill.filter fun x => x.cabin ≠ u.cabin }).setSlot u.slot .empty := by
    simp only [State.leaveDownhill, hfind]
  have hup : (s.leaveDownhill u.cabin).ctr.uphill = s.ctr.uphill := by rw [hleave]; rfl
  have hdown : (s.leaveDownhill u.cabin).ctr.downhill = s.ctr.downhill.filter fun x => x.cabin ≠ u.cabin := by
    rw [hleave]; rfl
  refine leaveLine_fleet h (x := .down u.cabin) rfl (fun _ => nofun) (h.slots.2.2.1 u hu) ⟨h128, hservice⟩ hd
    (by rw [hleave]; rfl) (fun l => ?_) (fun k y hy hheld => ?_) (fun v hv => ?_) (fun d hd' => ?_)
  · cases l with
    | downhill =>
      simp only [State.members, hdown]
      exact map_filter_cabin _ _ _
    | station => rw [members_of_location h (by rw [hloc]; decide)]; simp only [State.members, hd.queue_eq]
    | garage => rw [members_of_location h (by rw [hloc]; decide)]; simp only [State.members, hd.garage_eq]
    | uphill => rw [members_of_location h (by rw [hloc]; decide)]; simp only [State.members, hup]
    | summit => rw [members_of_location h (by rw [hloc]; decide)]; simp only [State.members, hd.summit_eq]
    | unlocated => rw [members_of_location h (by rw [hloc]; decide)]; simp only [State.members, hd.unlocated_eq]
    | outOfService => rfl
  · cases y with
    | down c =>
      obtain ⟨v, hv, rfl, rfl⟩ := hheld
      refine ⟨v, ?_, rfl, rfl⟩
      rw [hdown, List.mem_filter, decide_eq_true_iff]
      exact ⟨hv, fun hc => hy (by rw [hc])⟩
    | empty => trivial
    | releasePending c => simpa only [State.slotHolds, hd.lgt_eq] using hheld
    | releasing c => simpa only [State.slotHolds, hd.lgt_eq] using hheld
    | up c => simpa only [State.slotHolds, hup] using hheld
  · rw [hup] at hv
    exact ⟨hv, nofun⟩
  · rw [hdown, List.mem_filter, decide_eq_true_iff] at hd'
    exact ⟨hd'.1, fun hc => hd'.2 (SlotState.down.inj hc)⟩

/-! ## A cabin leaves a collection that no slot depends on (R41) -/

/-- A removal that leaves the queue, the lines, the slots and the launch gate's records. -/
theorem leaveSet_fleet (h : s.FleetBut out loose) {g : Option Nat} (hg : ∀ i, g = some i → i < 128 ∧ (s.reg i).stat.inService = true)
    (hd : Does 1344 s t) (hgarage : t.ctr.garage.Sublist s.ctr.garage)
    (hmembers : ∀ l, t.members l = (s.members l).filter fun j => g ≠ some j) :
    t.FleetBut (out ∪ cabinsOf g) loose := by
  refine h.remove (hd.mono rfl) hg hmembers (sameStanding_of_registry hd.registry_eq) ?_ (by rw [hd.lgt_eq])
    (fun w hw => ?_) (by rw [hd.slots_eq]) ?_
  · rw [hd.queue_eq]
    exact (hgarage.map _).append_left _
  · rw [hd.lgt_eq] at hw
    rw [hd.queue_eq]
    exact h.entries.2.2 w hw
  · have hslot := slot_congr hd.slots_eq
    have hholds := slotHolds_congr hd.lgt_eq hd.uphill_eq hd.downhill_eq
    obtain ⟨h1, h2, h3, h4, h5⟩ := h.slots
    unfold State.slotsBut
    rw [hd.lgt_eq, hd.uphill_eq, hd.downhill_eq, hd.slots_eq]
    simp only [hslot, hholds]
    exact ⟨h1, h2, h3, h4, h5⟩

end Sys2Proof.Machine
end
section
/-!
PROOFS. The conservation of the fleet (O27), fifth part: the bookings that take a cabin out, and the sets and lists that it
joins (R41, R43, R56).
-/

namespace Sys2Proof.Machine

variable {s t : State} {out loose : Set Nat}

/-! ## A cabin leaves the collection that its location names (R41) -/

/-- A cabin in service that stands in some collection. -/
def State.InPlace (s : State) (out : Set Nat) (i : Nat) : Prop := i ∉ out ∧ i < 128 ∧ (s.reg i).stat.inService = true

theorem State.FleetBut.mem_of_inPlace (h : s.FleetBut out loose) {i : Nat} (hi : s.InPlace out i) :
    i ∈ s.members (s.reg i).location := by
  obtain ⟨hout, h128, hservice⟩ := hi
  have hplaced := h.placed i h128 hout
  rwa [if_pos hservice] at hplaced

theorem State.FleetBut.inPlace (h : s.FleetBut out loose) {l : Location} {i : Nat} (hi : i ∈ s.members l) :
    s.InPlace out i :=
  ⟨(h.member l i hi).1, (h.member l i hi).2.1, (h.member l i hi).2.2.1⟩

theorem entryOfCabin_of_member {i : Nat} (hi : i ∈ s.members .station) :
    ∃ e ∈ s.ctr.queue, s.entryOfCabin i = some e ∧ e.who = .cabin i := by
  obtain ⟨x, hx, hwho⟩ := List.mem_filterMap.mp hi
  cases he : s.entryOfCabin i with
  | some e => exact ⟨e, List.mem_of_find?_eq_some he, rfl, who_of_entryOfCabin he⟩
  | none => exact absurd (decide_eq_true (who_eq_cabin_of_index hwho)) (List.find?_eq_none.mp he x hx)

/-- A cabin leaves the garage stack or one of the sets, and no other collection changes. -/
theorem leaveOne_fleet (h : s.FleetBut out loose) {i : Nat} {l : Location} (hi : s.InPlace out i)
    (hl : (s.reg i).location = l) (hd : Does 1344 s t) (hgarage : t.ctr.garage.Sublist s.ctr.garage)
    (hleft : t.members l = (s.members l).filter fun j => some i ≠ some j)
    (hother : ∀ m, m ≠ l → t.members m = s.members m) : t.FleetBut (out ∪ {i}) loose := by
  rw [← cabinsOf_some]
  refine leaveSet_fleet h (fun j hj => by rw [← Option.some.inj hj]; exact hi.2) hd hgarage fun m => ?_
  by_cases hm : m = l
  · rw [hm]
    exact hleft
  · rw [hother m hm, members_of_location h (by rw [hl]; exact Ne.symm hm)]

theorem leaveGarage_fleet (h : s.FleetBut out loose) {i : Nat} (hi : s.InPlace out i) (hl : (s.reg i).location = .garage) :
    (s.setCtr { s.ctr with garage := s.ctr.garage.filter fun g => g.who ≠ .cabin i }).FleetBut (out ∪ {i}) loose := by
  refine leaveOne_fleet h hi hl (does_setCtr (Does.refl _ s) (.inr rfl) (.inl rfl) (.inr ⟨rfl, rfl⟩) (.inl rfl) (.inr rfl)
    (.inl rfl) ⟨Nat.le_refl _, List.length_filter_le _ _, Nat.le_refl _⟩) List.filter_sublist ?_ fun m hm => ?_
  · refine filterMap_filter_of_iff fun x _ j hj => ?_
    rw [decide_eq_true_iff, decide_eq_true_iff, who_eq_cabin_of_index hj]
    exact not_congr ⟨fun hw => by rw [Who.cabin.inj hw], fun hij => by rw [Option.some.inj hij]⟩
  · cases m with
    | garage => exact absurd rfl hm
    | _ => rfl

theorem filter_ne_cabin (l : List Nat) (i : Nat) :
    (l.filter fun j => j ≠ i) = l.filter fun j => some i ≠ some j :=
  List.filter_congr fun j _ => by simp [eq_comm]

theorem leaveSummit_fleet (h : s.FleetBut out loose) {i : Nat} (hi : s.InPlace out i) (hl : (s.reg i).location = .summit) :
    (s.setCtr { s.ctr with summit := s.ctr.summit.filter fun x => x ≠ i }).FleetBut (out ∪ {i}) loose := by
  refine leaveOne_fleet h hi hl (does_setCtr (Does.refl _ s) (.inr rfl) (.inl rfl) (.inr ⟨rfl, rfl⟩) (.inl rfl) (.inr rfl)
    (.inl rfl) ⟨Nat.le_refl _, Nat.le_refl _, Nat.le_refl _⟩) (List.Sublist.refl _) (filter_ne_cabin _ _) fun m hm => ?_
  cases m with
  | summit => exact absurd rfl hm
  | _ => rfl

theorem leaveUnlocated_fleet (h : s.FleetBut out loose) {i : Nat} (hi : s.InPlace out i)
    (hl : (s.reg i).location = .unlocated) :
    (s.setCtr { s.ctr with unlocated := s.ctr.unlocated.filter fun x => x ≠ i }).FleetBut (out ∪ {i}) loose := by
  refine leaveOne_fleet h hi hl (does_setCtr (Does.refl _ s) (.inr rfl) (.inl rfl) (.inr ⟨rfl, rfl⟩) (.inl rfl) (.inr rfl)
    (.inl rfl) ⟨Nat.le_refl _, Nat.le_refl _, Nat.le_refl _⟩) (List.Sublist.refl _) (filter_ne_cabin _ _) fun m hm => ?_
  cases m with
  | unlocated => exact absurd rfl hm
  | _ => rfl

theorem takeOut_fleet (h : s.FleetBut out loose) {i : Nat} (hi : s.InPlace out i) :
    (s.takeOut i).FleetBut (out ∪ {i}) loose := by
  have hmem := h.mem_of_inPlace hi
  cases hl : (s.reg i).location with
  | station =>
    rw [hl] at hmem
    obtain ⟨e, he, hentry, hwho⟩ := entryOfCabin_of_member hmem
    have hleave := leaveStation_fleet h he
    simp only [State.takeOut, hl, hentry]
    rwa [hwho, Who.index, cabinsOf_some] at hleave
  | garage =>
    simp only [State.takeOut, hl]
    exact leaveGarage_fleet h hi hl
  | uphill =>
    simp only [State.takeOut, hl]
    exact leaveUphill_fleet h (hl ▸ hmem)
  | downhill =>
    simp only [State.takeOut, hl]
    exact leaveDownhill_fleet h (hl ▸ hmem)
  | summit =>
    simp only [State.takeOut, hl]
    exact leaveSummit_fleet h hi hl
  | unlocated =>
    simp only [State.takeOut, hl]
    exact leaveUnlocated_fleet h hi hl
  | outOfService =>
    rw [hl] at hmem
    cases hmem

/-! ## The slot of a release that names the cabin (R42) -/

/-- No slot is RELEASE_PENDING for a cabin. -/
def State.NoRelease (s : State) (i : Nat) : Prop := ∀ k, s.slot k ≠ .releasePending i

theorem State.NoRelease.of_emptied {i : Nat} (h : s.NoRelease i) (hs : SlotsEmptied s t) : t.NoRelease i := fun k hk =>
  (hs.slot k).elim (fun hsame => h k (hsame.symm.trans hk)) fun hempty => by rw [hempty] at hk; cases hk

theorem freeReleaseSlot_fleet (h : s.FleetBut out loose) (i : Nat) : (s.freeReleaseSlot i).FleetBut out loose := by
  unfold State.freeReleaseSlot
  split
  · rename_i p hp
    split
    · rename_i hc
      subst hc
      exact h.freePending hp (State.freeSlotIf_does _ _ (Does.refl _ s) rfl) (by rw [freeSlotIf_lgt]) rfl
    · exact h
  · exact h

theorem freeReleaseSlot_noRelease (h : s.slotsBut loose) (i : Nat) : (s.freeReleaseSlot i).NoRelease i := by
  intro k hk
  have hsame : s.slot k = .releasePending i := by
    rcases (freeReleaseSlot_slotsEmptied s i).slot k with hs | he
    · rw [← hs, hk]
    · rw [he] at hk
      cases hk
  have hlt : k < s.ctr.slots.length := lt_of_slot_ne_empty (by rw [hsame]; exact nofun)
  rcases h.1 k hlt with hheld | ⟨c, -, hc⟩
  · rw [hsame] at hheld
    obtain ⟨p, hp, hcabin, hslot⟩ := hheld
    have hpending : s.lgt.pending = some p := hp
    simp only [State.freeReleaseSlot, hpending, hcabin, hslot, if_true] at hk
    rw [freeSlotIf_slot, if_pos ⟨rfl, hsame⟩] at hk
    cases hk
  · rw [hsame] at hc
    cases hc

theorem takeBooked_fleet (h : s.FleetBut out loose) {i : Nat} (hi : s.InPlace out i) :
    (s.takeBooked i).FleetBut (out ∪ {i}) loose ∧ (s.takeBooked i).NoRelease i :=
  ⟨freeReleaseSlot_fleet (takeOut_fleet h hi) i, freeReleaseSlot_noRelease (takeOut_fleet h hi).slots i⟩

end Sys2Proof.Machine
end
section
/-!
PROOFS. The conservation of the fleet (O27), sixth part: the sets and the lines that a cabin joins, arrival matching and the
summit's reports (R41, R43, R45 to R47, R56).
-/

namespace Sys2Proof.Machine

variable {s t : State} {out loose : Set Nat}

/-! ## A cabin joins the summit set or the unlocated set (R40, R41) -/

theorem insertIndex_perm {i : Nat} {l : List Nat} (h : i ∉ l) : (insertIndex i l).Perm (i :: l) := by
  induction l with
  | nil => exact List.Perm.refl _
  | cons x l ih =>
    obtain ⟨hx, hl⟩ := not_or.mp (List.mem_cons.not.mp h)
    unfold insertIndex
    split
    · exact List.Perm.refl _
    · exact ((ih hl).cons x).trans (List.Perm.swap i x l)

theorem slotsBut_congr (h : s.slotsBut loose) (hl : t.lgt = s.lgt) (hu : t.ctr.uphill = s.ctr.uphill)
    (hd : t.ctr.downhill = s.ctr.downhill) (hs : t.ctr.slots = s.ctr.slots) : t.slotsBut loose := by
  have hslot := slot_congr hs
  have hholds := slotHolds_congr hl hu hd
  obtain ⟨h1, h2, h3, h4, h5⟩ := h
  unfold State.slotsBut
  rw [hl, hu, hd, hs]
  simp only [hslot, hholds]
  exact ⟨h1, h2, h3, h4, h5⟩

theorem entriesAgree_congr (h : s.entriesAgree) (hl : t.lgt = s.lgt) (hq : t.ctr.queue = s.ctr.queue)
    (hg : t.ctr.garage = s.ctr.garage) : t.entriesAgree := by
  unfold State.entriesAgree
  rw [hl, hq, hg]
  exact h

theorem State.FleetBut.not_member (h : s.FleetBut out loose) {i : Nat} (hi : i ∈ out) (l : Location) : i ∉ s.members l :=
  fun hmem => (h.member l i hmem).1 hi

theorem State.FleetBut.lt_registry (h : s.FleetBut out loose) {i : Nat} (hi : i ∈ out) : i < s.registry.length := by
  rw [h.registered]
  exact (h.outside i hi).1

/-- A cabin on its way joins a collection. -/
theorem State.FleetBut.joinCabin (h : s.FleetBut out loose) {i : Nat} {l : Location} {loose' : Set Nat} (hi : i ∈ out)
    (hsame : SameStore s t) (hjoin : (t.members l).Perm (i :: s.members l))
    (hother : ∀ m, m ≠ l → t.members m = s.members m) {f : RegEntry → RegEntry}
    (hreg : ∀ j, t.reg j = if i = j ∧ i < s.registry.length then f (s.reg i) else s.reg j)
    (hlen : t.registry.length = s.registry.length) (hstat : ∀ r, (f r).stat = r.stat) (hloc : ∀ r, (f r).location = l)
    (hready : l = .uphill → ∀ r, (f r).door = .locked ∧ (f r).verdict = .pass) (hentries : t.entriesAgree)
    (hcount : t.ctr.slots.length = s.ctr.slots.length) (hslots : t.slotsBut loose') : t.FleetBut (out \ {i}) loose' := by
  have hlt := h.lt_registry hi
  have hmem : ∀ m j, j ∈ t.members m ↔ j ∈ s.members m ∨ (m = l ∧ some i = some j) := fun m j => by
    by_cases hm : m = l
    · rw [hm, hjoin.mem_iff, List.mem_cons]
      simp [or_comm, eq_comm]
    · rw [hother m hm]
      simp [hm]
  rw [← cabinsOf_some]
  refine h.join (l := l) hsame (fun j hj => by rwa [← Option.some.inj hj]) hmem (fun m => ?_)
    (stats_of_reg hlen fun j => ?_) (fun j => ?_) (fun j hj => ?_) hentries hcount hslots
  · by_cases hm : m = l
    · rw [hm, hjoin.nodup_iff]
      exact List.nodup_cons.mpr ⟨h.not_member hi l, h.nodup l⟩
    · rw [hother m hm]
      exact h.nodup m
  · rw [hreg]
    split
    · rename_i hij
      rw [hstat, hij.1]
    · rfl
  · rw [hreg]
    by_cases hij : i = j
    · rw [if_pos ⟨hij, hlt⟩, hloc, if_pos (by rw [hij])]
    · rw [if_neg fun hc => hij hc.1, if_neg fun hc => hij (Option.some.inj hc)]
  · rw [hreg]
    split
    · rename_i hij
      refine hready ?_ _
      rcases (hmem .uphill j).mp hj with hup | ⟨hl, -⟩
      · exact absurd (hij.1 ▸ hup) (h.not_member hi .uphill)
      · exact hl.symm
    · rename_i hij
      refine h.ready j (((hmem .uphill j).mp hj).resolve_right fun hc => hij ⟨Option.some.inj hc.2, hlt⟩)

/-- A cabin on its way joins one of the sets. -/
theorem joinSet_fleet (h : s.FleetBut out loose) {i : Nat} {l : Location} (hi : i ∈ out) (hl : l ≠ .uphill)
    (hd : Does 260 s t) (hjoin : t.members l = insertIndex i (s.members l)) (hother : ∀ m, m ≠ l → t.members m = s.members m)
    {f : RegEntry → RegEntry} (hreg : ∀ j, t.reg j = if i = j ∧ i < s.registry.length then f (s.reg i) else s.reg j)
    (hlen : t.registry.length = s.registry.length) (hstat : ∀ r, (f r).stat = r.stat) (hloc : ∀ r, (f r).location = l) :
    t.FleetBut (out \ {i}) loose :=
  h.joinCabin hi (sameStore_of_does (hd.mono rfl)) (by rw [hjoin]; exact insertIndex_perm (h.not_member hi l)) hother hreg hlen hstat hloc
    (fun he => absurd he hl) (entriesAgree_congr h.entries hd.lgt_eq hd.queue_eq hd.garage_eq) (by rw [hd.slots_eq])
    (slotsBut_congr h.slots hd.lgt_eq hd.uphill_eq hd.downhill_eq hd.slots_eq)

theorem joinSummit_fleet (h : s.FleetBut out loose) {i : Nat} (hi : i ∈ out) : (s.joinSummit i).FleetBut (out \ {i}) loose := by
  refine joinSet_fleet h (l := .summit) (f := fun r => { r with location := .summit, overdue := false }) hi nofun
    (State.joinSummit_does i (Does.refl _ s) rfl) rfl (fun m hm => ?_)
    (joinSummit_reg s i) ?_ (fun _ => rfl) fun _ => rfl
  · cases m with
    | summit => exact absurd rfl hm
    | _ => rfl
  · simp [State.joinSummit, State.setLocation, State.clearOverdue]

theorem joinUnlocated_fleet (h : s.FleetBut out loose) {i : Nat} (hi : i ∈ out) :
    (s.joinUnlocated i).FleetBut (out \ {i}) loose := by
  refine joinSet_fleet h (l := .unlocated) (f := fun r => { r with location := .unlocated }) hi nofun
    (State.joinUnlocated_does i (Does.refl _ s) rfl) rfl (fun m hm => ?_)
    (joinUnlocated_reg s i) ?_ (fun _ => rfl) fun _ => rfl
  · cases m with
    | unlocated => exact absurd rfl hm
    | _ => rfl
  · simp [State.joinUnlocated, State.setLocation]

theorem union_diff_single {i : Nat} (h : i ∉ out) : (out ∪ {i}) \ {i} = out := by
  ext j
  simp only [Set.mem_sdiff, Set.mem_union, Set.mem_singleton_iff]
  exact ⟨fun hj => hj.1.resolve_right hj.2, fun hj => ⟨.inl hj, fun he => h (he ▸ hj)⟩⟩

/-! ## Moves to the sets, and arrival matching (R41, R43, R56) -/

/-- Whether a cabin is in service is not changed by where it stands. -/
def SameService (s t : State) : Prop := ∀ j, (t.reg j).stat = (s.reg j).stat

theorem State.InPlace.of_sameService {i : Nat} (h : s.InPlace out i) (hs : SameService s t) : t.InPlace out i :=
  ⟨h.1, h.2.1, by rw [hs i]; exact h.2.2⟩

theorem takeOut_sameService (s : State) (i : Nat) : SameService s (s.takeOut i) := (takeOut_spec s i).standing.stat

theorem takeBooked_sameService (s : State) (i : Nat) : SameService s (s.takeBooked i) := (takeBooked_spec s i).standing.stat

theorem SameService.trans {u : State} (h1 : SameService s t) (h2 : SameService t u) : SameService s u := fun j =>
  (h2 j).trans (h1 j)

theorem joinUnlocated_sameService (s : State) (i : Nat) : SameService s (s.joinUnlocated i) := fun j => by
  rw [joinUnlocated_reg]
  split
  · rename_i hij
    rw [hij.1]
  · rfl

theorem joinSummit_sameService (s : State) (i : Nat) : SameService s (s.joinSummit i) := fun j => by
  rw [joinSummit_reg]
  split
  · rename_i hij
    rw [hij.1]
  · rfl

theorem reportUnlocated_does' (s : State) (i : Nat) (l : Location) (b : UnlocatedBy) :
    Does 4259840 s (s.reportUnlocated i l b) := State.reportUnlocated_does i l b (Does.refl _ s) rfl

theorem sameService_of_does {m : Nat} (hd : Does m s t) (hm : m.testBit 2 = false := by decide) : SameService s t := fun j => by
  rw [reg_congr (hd.registry_eq hm)]

theorem unlocate_fleet (h : s.FleetBut out loose) {i : Nat} (hi : s.InPlace out i) (b : UnlocatedBy) :
    (s.unlocate i b).FleetBut out loose := by
  have hjoin := joinUnlocated_fleet (takeOut_fleet h hi) (i := i) (.inr rfl)
  rw [union_diff_single hi.1] at hjoin
  exact hjoin.does ((reportUnlocated_does' _ _ _ _).mono rfl)

theorem unlocate_sameService (s : State) (i : Nat) (b : UnlocatedBy) : SameService s (s.unlocate i b) :=
  ((takeOut_sameService s i).trans (joinUnlocated_sameService _ i)).trans
    (sameService_of_does (reportUnlocated_does' _ _ _ _))

theorem skipCabins_fleet (l : List Nat) (s : State) (h : s.FleetBut out loose) (hl : ∀ i ∈ l, s.InPlace out i) :
    (s.skipCabins l).FleetBut out loose ∧ SameService s (s.skipCabins l) := by
  induction l generalizing s with
  | nil => exact ⟨h, fun _ => rfl⟩
  | cons i l ih =>
    have hsame := unlocate_sameService s i (.cause .missingCabin)
    obtain ⟨hfleet, hrest⟩ := ih (s.unlocate i (.cause .missingCabin))
      (unlocate_fleet h (hl i List.mem_cons_self) _)
      fun j hj => (hl j (List.mem_cons_of_mem _ hj)).of_sameService hsame
    exact ⟨hfleet, hsame.trans hrest⟩

theorem moveToSummit_fleet (l : List Nat) (s : State) (h : s.FleetBut out loose) (hl : ∀ i ∈ l, s.InPlace out i) :
    (s.moveToSummit l).FleetBut out loose ∧ SameService s (s.moveToSummit l) := by
  induction l generalizing s with
  | nil => exact ⟨h, fun _ => rfl⟩
  | cons i l ih =>
    have hi := hl i List.mem_cons_self
    have hsame := (takeBooked_sameService s i).trans (joinSummit_sameService _ i)
    have hjoin := joinSummit_fleet (takeBooked_fleet h hi).1 (i := i) (.inr rfl)
    rw [union_diff_single hi.1] at hjoin
    obtain ⟨hfleet, hrest⟩ := ih _ hjoin fun j hj => (hl j (List.mem_cons_of_mem _ hj)).of_sameService hsame
    exact ⟨hfleet, hsame.trans hrest⟩

theorem moveToUnlocated_fleet (l : List Nat) (s : State) (h : s.FleetBut out loose) (hl : ∀ i ∈ l, s.InPlace out i) :
    (s.moveToUnlocated l).FleetBut out loose ∧ SameService s (s.moveToUnlocated l) := by
  induction l generalizing s with
  | nil => exact ⟨h, fun _ => rfl⟩
  | cons i l ih =>
    have hi := hl i List.mem_cons_self
    have hsame := (takeOut_sameService s i).trans (joinUnlocated_sameService _ i)
    have hjoin := joinUnlocated_fleet (takeOut_fleet h hi) (i := i) (.inr rfl)
    rw [union_diff_single hi.1] at hjoin
    obtain ⟨hfleet, hrest⟩ := ih _ hjoin fun j hj => (hl j (List.mem_cons_of_mem _ hj)).of_sameService hsame
    exact ⟨hfleet, hsame.trans hrest⟩

theorem duplicate_fleet (h : s.FleetBut out loose) (i : Nat) (l : Location) : (s.duplicate i l).FleetBut out loose :=
  h.does (State.duplicate_does i l (Does.refl _ s) rfl)

theorem mem_expectedList {x : Terminal} {j : Nat} (hj : j ∈ s.expectedList x) :
    j ∈ s.members (match x with | .valley => .downhill | .summit => .uphill) := by
  cases x <;> exact hj

theorem matchArrival_fleet (h : s.FleetBut out loose) (x : Terminal) {i : Nat} (hi : s.InPlace out i) :
    (s.matchArrival x i).FleetBut (out ∪ {i}) loose ∧ (s.matchArrival x i).NoRelease i ∧ SameService s (s.matchArrival x i) := by
  unfold State.matchArrival
  dsimp only
  split
  · split
    · obtain ⟨h1, h2⟩ := takeBooked_fleet h hi
      exact ⟨h1, h2, takeBooked_sameService s i⟩
    · rename_i skipped hskipped
      have hraise := raise_fleet h .missingCabin (some (s.idOf i))
      have hservice : SameService s (s.raise .missingCabin (some (s.idOf i))) := fun _ => rfl
      obtain ⟨hfleet, hsame⟩ := skipCabins_fleet (cabinsAhead (s.expectedList x) i) _ hraise fun j hj =>
        (h.inPlace (mem_expectedList (List.takeWhile_subset _ hj))).of_sameService hservice
      obtain ⟨h1, h2⟩ := takeBooked_fleet hfleet (hi.of_sameService (hservice.trans hsame))
      exact ⟨h1, h2, (hservice.trans hsame).trans (takeBooked_sameService _ i)⟩
  · split
    · obtain ⟨h1, h2⟩ := takeBooked_fleet h hi
      exact ⟨h1, h2, takeBooked_sameService s i⟩
    · have hservice : SameService s (s.duplicate i (s.reg i).location) :=
        sameService_of_does (State.duplicate_does (m := 4292608) i _ (Does.refl _ s) rfl)
      obtain ⟨h1, h2⟩ := takeBooked_fleet (duplicate_fleet h i _) (hi.of_sameService hservice)
      exact ⟨h1, h2, hservice.trans (takeBooked_sameService _ i)⟩

end Sys2Proof.Machine
end
section
/-!
PROOFS. The conservation of the fleet (O27), seventh part: the reconcile and the summit's handovers (R45 to R47, R55, R56).
-/

namespace Sys2Proof.Machine

variable {s t : State} {out loose : Set Nat}

/-! ## The reconcile (R55, R56) -/

theorem inPlace_of_lookup (h : s.FleetBut out loose) {id i : Nat} (hout : i ∉ out) (hlook : s.lookup id = some i)
    (hservice : (s.reg i).stat.inService = true) : s.InPlace out i :=
  ⟨hout, by rw [← h.registered]; exact lt_of_lookup hlook, hservice⟩

theorem applyReply_fleet (h : s.FleetBut ∅ ∅) (seq : Nat) (ids : List Nat) : (s.applyReply seq ids).FleetBut ∅ ∅ := by
  have hset : ∀ i ∈ s.replySet ids, s.InPlace ∅ i := fun i hi => by
    obtain ⟨id, -, hlook, hservice⟩ := (mem_replySet s ids i).mp hi
    exact inPlace_of_lookup h (Set.notMem_empty i) hlook hservice
  unfold State.applyReply
  dsimp only
  obtain ⟨h1, hsame1⟩ := moveToSummit_fleet ((s.ctr.uphill.map UphillEntry.cabin).filter fun i => i ∈ s.replySet ids) s h
    fun i hi => h.inPlace (l := .uphill) (List.mem_filter.mp hi).1
  generalize s.moveToSummit ((s.ctr.uphill.map UphillEntry.cabin).filter fun i => i ∈ s.replySet ids) = s1 at *
  obtain ⟨h2, hsame2⟩ := moveToUnlocated_fleet (s1.ctr.summit.filter fun i => i ∉ s.replySet ids) s1 h1
    fun i hi => h1.inPlace (l := .summit) (List.mem_filter.mp hi).1
  generalize s1.moveToUnlocated (s1.ctr.summit.filter fun i => i ∉ s.replySet ids) = s2 at *
  obtain ⟨h3, -⟩ := moveToSummit_fleet
    ((s.replySet ids).filter fun i => i ∉ s2.ctr.summit && i ∉ s2.ctr.uphill.map UphillEntry.cabin) s2 h2
    fun i hi => ((hset i (List.mem_filter.mp hi).1).of_sameService hsame1).of_sameService hsame2
  refine report_fleet ?_ _ _ _ _
  have h4 := (judge_fleet (h3.does (State.setHandoverBase_does seq (Does.refl _ _) rfl)) .handoverGap false none).does
    (State.setReconcile_does .idle (Does.refl _ _) rfl)
  refine h4.does (does_setCtr (Does.refl _ _) (.inr rfl) (.inr rfl) (.inr ⟨rfl, rfl⟩) (.inr ⟨rfl, rfl⟩) (.inr rfl)
    (.inl rfl) ⟨Nat.le_refl _, Nat.le_refl _, Nat.le_refl _⟩)

theorem takePart_fleet (h : s.FleetBut ∅ ∅) (tag : Nat) (first : Option ReplyParts) (p : ReplyPart) :
    (s.takePart tag first p).FleetBut ∅ ∅ := by
  unfold State.takePart
  dsimp only
  split
  · exact h.does (State.failReconcile_does (Does.refl _ s) rfl)
  · split
    · exact h.does (does_setCtr (Does.refl _ _) (.inr rfl) (.inr rfl) (.inr ⟨rfl, rfl⟩) (.inr ⟨rfl, rfl⟩) (.inr rfl)
        (.inl rfl) ⟨Nat.le_refl _, Nat.le_refl _, Nat.le_refl _⟩)
    · split
      · exact applyReply_fleet (h.does (State.freeRequest_does tag (Does.refl _ s) rfl)) _ _
      · exact h.does (State.setReconcile_does _ (Does.refl _ s) rfl)

theorem takeReplyFrame_fleet (h : s.FleetBut ∅ ∅) (f : LinkFrame) : (s.takeReplyFrame f).FleetBut ∅ ∅ := by
  unfold State.takeReplyFrame State.handReply
  split
  · exact h.does (does_setSlk (Does.refl _ s) (.inl rfl) (by simp))
  · split
    · exact h.does (State.countMalformed_does (Does.refl _ s) rfl)
    · split
      · split
        · exact takePart_fleet h _ _ _
        · exact h
      · exact h

/-! ## A summit arrival (R45) -/

theorem bookSummitArrival_fleet (h : s.FleetBut ∅ ∅) {i : Nat} (hi : s.InPlace ∅ i) (j : Nat) :
    (s.bookSummitArrival i j).FleetBut ∅ ∅ := by
  have hjoin := joinSummit_fleet (matchArrival_fleet h .summit hi).1 (i := i) (.inr rfl)
  rw [union_diff_single hi.1] at hjoin
  exact hjoin.does (State.compareSlot_does _ _ _ (Does.refl _ _) rfl)

/-! ## A cabin joins a line at an EMPTY slot (R46) -/

theorem slot_set (s : State) {k : Nat} (hk : k < s.ctr.slots.length) (x : SlotState) (hs : t.ctr.slots = s.ctr.slots.set k x)
    (j : Nat) : t.slot j = if k = j then x else s.slot j := by
  rw [slot_congr (s := s.setSlot k x) hs, setSlot_slot]
  by_cases hj : k = j
  · rw [if_pos ⟨hj, hk⟩, if_pos hj]
  · rw [if_neg fun hc => hj hc.1, if_neg hj]

theorem cabin_mem_of_slot {k i : Nat} (h : (s.slot k).cabin = some i) : i ∈ s.ctr.slots.filterMap SlotState.cabin := by
  have hlt := lt_of_slot_cabin h
  rw [slot_eq_getElem s hlt] at h
  exact List.mem_filterMap.mpr ⟨_, List.getElem_mem hlt, h⟩

theorem set_cabins_nodup {l : List SlotState} {k i : Nat} {x : SlotState} (h : (l.filterMap SlotState.cabin).Nodup)
    (hx : x.cabin = some i) (hi : i ∉ l.filterMap SlotState.cabin) : ((l.set k x).filterMap SlotState.cabin).Nodup := by
  induction l generalizing k with
  | nil => exact List.nodup_nil
  | cons y l ih =>
    cases k with
    | zero =>
      rw [List.set_cons_zero, List.filterMap_cons_some hx, List.nodup_cons]
      cases hy : y.cabin with
      | none =>
        rw [List.filterMap_cons_none hy] at h hi
        exact ⟨hi, h⟩
      | some c =>
        rw [List.filterMap_cons_some hy] at h hi
        exact ⟨fun hm => hi (List.mem_cons_of_mem _ hm), (List.nodup_cons.mp h).2⟩
    | succ k =>
      rw [List.set_cons_succ]
      cases hy : y.cabin with
      | none =>
        rw [List.filterMap_cons_none hy] at h hi ⊢
        exact ih h hi
      | some c =>
        rw [List.filterMap_cons_some hy] at h hi ⊢
        rw [List.nodup_cons] at h ⊢
        refine ⟨fun hm => ?_, ih h.2 fun hm => hi (List.mem_cons_of_mem _ hm)⟩
        obtain ⟨z, hz, hzc⟩ := List.mem_filterMap.mp hm
        rcases List.mem_or_eq_of_mem_set hz with hz | rfl
        · exact h.1 (List.mem_filterMap.mpr ⟨z, hz, hzc⟩)
        · rw [hx] at hzc
          exact hi (by rw [Option.some.inj hzc]; exact List.mem_cons_self)

/-- A cabin on its way has no slot but that of a release, or one that its watch entry has left. -/
theorem State.FleetBut.no_slot (h : s.FleetBut out loose) {i : Nat} (hi : i ∈ out) (hloose : i ∉ loose)
    (hrelease : s.NoRelease i) : i ∉ s.ctr.slots.filterMap SlotState.cabin := by
  intro hmem
  obtain ⟨x, hx, hc⟩ := List.mem_filterMap.mp hmem
  obtain ⟨k, hk, rfl⟩ := List.mem_iff_getElem.mp hx
  rw [← slot_eq_getElem s hk] at hc
  have hheld := h.slots.1 k hk
  cases hslot : s.slot k with
  | empty => rw [hslot] at hc; cases hc
  | releasePending c =>
    rw [hslot] at hc
    obtain rfl := Option.some.inj hc
    exact hrelease k hslot
  | releasing c =>
    rw [hslot] at hc hheld
    obtain rfl := Option.some.inj hc
    rcases hheld with ⟨w, hw, rfl, -⟩ | ⟨c, hcl, he⟩
    · obtain ⟨e, he, hwho, -⟩ := h.entries.2.2 w hw
      exact h.not_member hi .station (List.mem_filterMap.mpr ⟨e, he, by rw [hwho]; rfl⟩)
    · obtain rfl := SlotState.releasing.inj he
      exact hloose hcl
  | up c =>
    rw [hslot] at hc hheld
    obtain rfl := Option.some.inj hc
    rcases hheld with ⟨u, hu, rfl, -⟩ | ⟨_, _, he⟩
    · exact h.not_member hi .uphill (List.mem_map_of_mem hu)
    · cases he
  | down c =>
    rw [hslot] at hc hheld
    obtain rfl := Option.some.inj hc
    rcases hheld with ⟨d, hd, rfl, -⟩ | ⟨_, _, he⟩
    · exact h.not_member hi .downhill (List.mem_map_of_mem hd)
    · cases he

/-- An EMPTY slot is set for a cabin that had none. -/
theorem slotsBut_of_setBut {loose' : Set Nat} (hsub : loose ⊆ loose') (h : s.slotsBut loose) {i k : Nat} {x : SlotState} (hk : k < s.ctr.slots.length)
    (hempty : s.slot k = .empty) (hx : x.cabin = some i) (hi : i ∉ s.ctr.slots.filterMap SlotState.cabin)
    (hs : t.ctr.slots = s.ctr.slots.set k x) (hholds : ∀ j y, s.slotHolds j y → t.slotHolds j y)
    (hnew : t.slotHolds k x ∨ ∃ c ∈ loose', x = .releasing c)
    (hup : ∀ u ∈ t.ctr.uphill, u ∈ s.ctr.uphill ∨ (u.slot = k ∧ x = .up u.cabin))
    (hdown : ∀ d ∈ t.ctr.downhill, d ∈ s.ctr.downhill ∨ (d.slot = k ∧ x = .down d.cabin))
    (hwatch : t.lgt.watch = s.lgt.watch) : t.slotsBut loose' := by
  have hslot := slot_set s hk x hs
  have hkeep : ∀ j, s.slot j ≠ .empty → t.slot j = s.slot j := fun j hj => by
    rw [hslot, if_neg]
    rintro rfl
    exact hj hempty
  obtain ⟨hsholds, hsup, hsdown, hswatch, hnodup⟩ := h
  refine ⟨fun j hj => ?_, fun u hu => ?_, fun d hd => ?_, fun w hw => ?_, ?_⟩
  · rw [hs, List.length_set] at hj
    rw [hslot]
    split
    · rename_i he
      subst he
      exact hnew
    · exact (hsholds j hj).imp (hholds j _) fun ⟨c, hc, he⟩ => ⟨c, hsub hc, he⟩
  · rcases hup u hu with hu | ⟨rfl, rfl⟩
    · rw [hkeep _ (by rw [hsup u hu]; exact nofun), hsup u hu]
    · rw [hslot, if_pos rfl]
  · rcases hdown d hd with hd | ⟨rfl, rfl⟩
    · rw [hkeep _ (by rw [hsdown d hd]; exact nofun), hsdown d hd]
    · rw [hslot, if_pos rfl]
  · rw [hwatch] at hw
    rw [hkeep _ (by rw [hswatch w hw]; exact nofun), hswatch w hw]
  · rw [hs]
    exact set_cabins_nodup hnodup hx hi

/-- The slot of a cabin that joins a line is set: the slot was EMPTY, and the cabin had none. -/
theorem slotsBut_of_set (h : s.slotsBut loose) {i k : Nat} {x : SlotState} (hk : k < s.ctr.slots.length)
    (hempty : s.slot k = .empty) (hx : x.cabin = some i) (hi : i ∉ s.ctr.slots.filterMap SlotState.cabin)
    (hs : t.ctr.slots = s.ctr.slots.set k x) (hholds : ∀ j y, s.slotHolds j y → t.slotHolds j y) (hnew : t.slotHolds k x)
    (hup : ∀ u ∈ t.ctr.uphill, u ∈ s.ctr.uphill ∨ (u.slot = k ∧ x = .up u.cabin))
    (hdown : ∀ d ∈ t.ctr.downhill, d ∈ s.ctr.downhill ∨ (d.slot = k ∧ x = .down d.cabin))
    (hwatch : t.lgt.watch = s.lgt.watch) : t.slotsBut loose :=
  slotsBut_of_setBut (fun _ hc => hc) h hk hempty hx hi hs hholds (.inl hnew) hup hdown hwatch

theorem joinDownhill_fleet (h : s.FleetBut out loose) {i j : Nat} (hi : i ∈ out) (hloose : i ∉ loose)
    (hrelease : s.NoRelease i) (hj : j < s.ctr.slots.length) (hempty : s.slot j = .empty) :
    (s.joinDownhill i j).FleetBut (out \ {i}) loose := by
  have hd : Does 644 s (s.joinDownhill i j) := State.joinDownhill_does i j (Does.refl _ s) rfl
  have hdown : (s.joinDownhill i j).ctr.downhill = s.ctr.downhill ++ [{ cabin := i, slot := j, oReport := s.rpu.odo }] := rfl
  refine h.joinCabin (l := .downhill) (f := fun r => { r with location := .downhill, overdue := false }) hi
    (sameStore_of_does (hd.mono rfl))
    ?_ (fun m hm => ?_) (fun k => setLocation_clearOverdue_reg _ i k .downhill) ?_ (fun _ => rfl) (fun _ => rfl)
    (fun he => by cases he) (entriesAgree_congr h.entries hd.lgt_eq hd.queue_eq hd.garage_eq) ?_ ?_
  · simp only [State.members, hdown, List.map_append]
    exact List.perm_append_singleton _ _
  · cases m with
    | downhill => exact absurd rfl hm
    | _ => rfl
  · simp [State.joinDownhill, State.setLocation, State.clearOverdue]
  · simp [State.joinDownhill, State.setLocation, State.clearOverdue, State.setSlot]
  · refine slotsBut_of_set h.slots hj hempty (x := .down i) rfl (h.no_slot hi hloose hrelease) rfl (fun k y hy => ?_) ?_
      (fun u hu => .inl hu) (fun d hd' => ?_) (congrArg Lgt.watch hd.lgt_eq)
    · cases y with
      | down c =>
        obtain ⟨d, hd', hc⟩ := hy
        exact ⟨d, by rw [hdown]; exact List.mem_append_left _ hd', hc⟩
      | empty => trivial
      | releasePending c => simpa only [State.slotHolds, hd.lgt_eq] using hy
      | releasing c => simpa only [State.slotHolds, hd.lgt_eq] using hy
      | up c => exact hy
    · exact ⟨_, by rw [hdown]; exact List.mem_append_right _ (List.mem_singleton.mpr rfl), rfl, rfl⟩
    · rw [hdown, List.mem_append, List.mem_singleton] at hd'
      exact hd'.imp id fun he => by rw [he]; exact ⟨rfl, rfl⟩

/-! ## A summit launch (R46, R47) -/

/-- A slot set, and nothing else of the fleet: the slot table agrees afterwards by itself. -/
theorem setSlot_fleet (h : s.FleetBut out loose) {j : Nat} {x : SlotState} {loose' : Set Nat}
    (hslots : (s.setSlot j x).slotsBut loose') : (s.setSlot j x).FleetBut out loose' :=
  ⟨h.registered, h.nodup, h.member, h.placed, h.outside, hslots, h.entries, h.ready,
    geometryAgrees_of_does h.geometry (State.setSlot_does j x (Does.refl _ s) rfl) (by simp [State.setSlot]),
    storeAgrees_of_does h.stored (State.setSlot_does j x (Does.refl _ s) rfl) rfl⟩

theorem setSlot_empty_or (s : State) (j k : Nat) :
    (s.setSlot j .empty).slot k = s.slot k ∨ (s.setSlot j .empty).slot k = .empty := by
  rw [setSlot_slot]
  split
  · exact .inr rfl
  · exact .inl rfl

theorem setSlot_empty_of_ne {j k : Nat} (h : j ≠ k) : (s.setSlot j .empty).slot k = s.slot k := by
  rw [setSlot_slot, if_neg fun hc => h hc.1]

/-- The one slot that may be RELEASING for a cabin of `loose`, which nothing watches, is cleared. -/
theorem clearLoose_fleet (h : s.FleetBut out loose) {j c : Nat} (hj : s.slot j = .releasing c ∨ s.slot j = .empty)
    (hone : ∀ k, s.slot k = .releasing c → k = j) (hwatch : ∀ w ∈ s.lgt.watch, w.cabin ≠ c) :
    (s.setSlot j .empty).FleetBut out (loose \ {c}) := by
  have hkeep : ∀ k, s.slot k ≠ .releasing c → s.slot k ≠ .empty → (s.setSlot j .empty).slot k = s.slot k :=
    fun k h1 h2 => setSlot_empty_of_ne fun he => hj.elim (he ▸ h1) (he ▸ h2)
  obtain ⟨hholds, hup, hdown, hwatched, hnodup⟩ := h.slots
  refine setSlot_fleet h ⟨fun k hk => ?_, fun u hu => ?_, fun d hd => ?_, fun w hw => ?_, ?_⟩
  · by_cases hkj : j = k
    · subst hkj
      have hlt : j < s.ctr.slots.length := by simpa [State.setSlot] using hk
      rw [setSlot_slot_self _ hlt]
      exact .inl trivial
    · rw [setSlot_empty_of_ne hkj]
      refine (hholds k (by simpa [State.setSlot] using hk)).imp id ?_
      rintro ⟨a, ha, hslot⟩
      refine ⟨a, ⟨ha, ?_⟩, hslot⟩
      rintro rfl
      exact hkj (hone k hslot).symm
  · rw [hkeep _ (by rw [hup u hu]; exact nofun) (by rw [hup u hu]; exact nofun), hup u hu]
  · rw [hkeep _ (by rw [hdown d hd]; exact nofun) (by rw [hdown d hd]; exact nofun), hdown d hd]
  · have hslot := hwatched w hw
    rw [hkeep _ (by rw [hslot]; exact fun he => hwatch w hw (SlotState.releasing.inj he)) (by rw [hslot]; exact nofun), hslot]
  · exact hnodup.sublist (cabins_sublist (by simp [State.setSlot]) (setSlot_empty_or s j))

/-- The watch entries of one cabin end, and its slot is left to the booking that follows. -/
theorem endWatch_fleet (h : s.FleetBut out loose) {g : Lgt} {c : Nat} (hpending : g.pending = s.lgt.pending)
    (hwatch : g.watch.Sublist s.lgt.watch) (hkept : ∀ w ∈ s.lgt.watch, w.cabin ≠ c → w ∈ g.watch) :
    (s.setLgt g).FleetBut out (loose ∪ {c}) := by
  have hd : Does 250740735 s (s.setLgt g) := does_setLgt (Does.refl _ s) (.inl rfl) hwatch.length_le
  obtain ⟨hholds, hup, hdown, hwatched, hnodup⟩ := h.slots
  refine ⟨h.registered, h.nodup, h.member, h.placed, h.outside,
    ⟨fun k hk => ?_, hup, hdown, fun w hw => hwatched w (hwatch.subset hw), hnodup⟩,
    ⟨h.entries.1, h.entries.2.1.sublist (hwatch.map _), fun w hw => h.entries.2.2 w (hwatch.subset hw)⟩, h.ready,
    geometryAgrees_of_does h.geometry hd rfl, storeAgrees_of_does h.stored hd rfl⟩
  change (s.setLgt g).slotHolds k (s.slot k) ∨ ∃ a ∈ loose ∪ {c}, s.slot k = .releasing a
  rcases hholds k hk with hheld | ⟨a, ha, hslot⟩
  · cases hslot : s.slot k with
    | empty => exact .inl trivial
    | releasePending a =>
      rw [hslot] at hheld
      refine .inl ?_
      simp only [State.slotHolds, State.setLgt_lgt, hpending]
      exact hheld
    | releasing a =>
      rw [hslot] at hheld
      obtain ⟨w, hw, rfl, rfl⟩ := hheld
      by_cases hc : w.cabin = c
      · exact .inr ⟨w.cabin, .inr hc, rfl⟩
      · exact .inl ⟨w, hkept w hw hc, rfl, rfl⟩
    | up a => rw [hslot] at hheld; exact .inl hheld
    | down a => rw [hslot] at hheld; exact .inl hheld
  · exact .inr ⟨a, .inl ha, hslot⟩

theorem setSlotless_fleet (h : s.FleetBut out loose) (c : Nat) : (s.setSlotless c).FleetBut out loose := by
  refine h.queue (State.setSlotless_does c (Does.refl _ s) rfl) ?_
  exact List.forall₂_map_right_iff.mpr (List.forall₂_same.mpr fun e _ => by
    split <;> exact ⟨rfl, rfl, id⟩)

theorem joinDownhill_cleared (s : State) (i j : Nat) : (s.setSlot j .empty).joinDownhill i j = s.joinDownhill i j := by
  simp only [State.joinDownhill, State.setSlot, State.setLocation, State.clearOverdue, State.modReg, State.setCtr,
    State.setRegistry, State.reg, List.set_set]

theorem slotMismatch_does' (s : State) (i : Nat) (d : List Int) : Does 4292608 s (s.slotMismatch i d) :=
  State.slotMismatch_does i d (Does.refl _ s) rfl

theorem unlocate_slotsEmptied (s : State) (i : Nat) (b : UnlocatedBy) : SlotsEmptied s (s.unlocate i b) := by
  have hsame : (s.unlocate i b).ctr.slots = (s.takeOut i).ctr.slots := (reportUnlocated_does' _ _ _ _).slots_eq
  have htake := takeOut_slotsEmptied s i
  exact ⟨by rw [hsame]; exact htake.length, fun k => by rw [slot_congr hsame]; exact htake.slot k⟩

/-- The cabin launched joins the downhill list at a slot that is EMPTY. -/
theorem joinDownhill_empty_fleet {i j : Nat} (h : s.FleetBut {i} ∅) (hrelease : s.NoRelease i)
    (hj : j < s.ctr.slots.length) (hempty : s.slot j = .empty) : (s.joinDownhill i j).FleetBut ∅ ∅ := by
  have hjoin := joinDownhill_fleet h (Set.mem_singleton i) (Set.notMem_empty i) hrelease hj hempty
  rwa [sdiff_self] at hjoin

/-- As the slot is overwritten, it is enough that the table would agree with it EMPTY. -/
theorem joinDownhill_over_fleet {i j : Nat} (h : (s.setSlot j .empty).FleetBut {i} ∅) (hrelease : s.NoRelease i)
    (hj : j < s.ctr.slots.length) : (s.joinDownhill i j).FleetBut ∅ ∅ := by
  rw [← joinDownhill_cleared]
  refine joinDownhill_empty_fleet h (hrelease.of_emptied ⟨by simp [State.setSlot], setSlot_empty_or s j⟩)
    (by simpa [State.setSlot] using hj) (setSlot_slot_self _ hj)

/-- A cabin of a line list that stood in the slot moves to the unlocated set, and the slot is EMPTY. -/
theorem unlocate_slot_empty (h : s.FleetBut out loose) {c j : Nat} (hc : s.InPlace out c) (hslot : s.slot j = .up c ∨ s.slot j = .down c)
    (b : UnlocatedBy) : (s.unlocate c b).slot j = .empty := by
  have hfleet := unlocate_fleet h hc b
  have hlt : c < (s.takeOut c).registry.length := by
    rw [(takeOut_spec s c).standing.length, h.registered]
    exact hc.2.1
  have hloc : ((s.unlocate c b).reg c).location = .unlocated := by
    rw [State.unlocate, reg_congr (reportUnlocated_does' _ _ _ _).registry_eq, joinUnlocated_reg, if_pos ⟨rfl, hlt⟩]
  rcases (unlocate_slotsEmptied s c b).slot j with hsame | hempty
  · have hheld := fun hk => hfleet.slots.1 j hk
    rw [hsame] at hheld
    have hlen := hheld (lt_of_slot_cabin (i := c) (by rw [hsame]; rcases hslot with hs | hs <;> rw [hs] <;> rfl))
    rcases hslot with hs | hs
    · rw [hs] at hlen
      rcases hlen with ⟨u, hu, rfl, -⟩ | ⟨_, _, he⟩
      · have := (hfleet.member .uphill u.cabin (List.mem_map_of_mem hu)).2.2.2
        rw [hloc] at this
        cases this
      · cases he
    · rw [hs] at hlen
      rcases hlen with ⟨d, hd, rfl, -⟩ | ⟨_, _, he⟩
      · have := (hfleet.member .downhill d.cabin (List.mem_map_of_mem hd)).2.2.2
        rw [hloc] at this
        cases this
      · cases he
  · exact hempty

theorem inPlace_of_slot (h : s.FleetBut out loose) {c j : Nat} (hslot : s.slot j = .up c ∨ s.slot j = .down c) :
    s.InPlace out c := by
  have hheld := h.slots.1 j (lt_of_slot_cabin (i := c) (by rcases hslot with hs | hs <;> rw [hs] <;> rfl))
  rcases hslot with hs | hs
  · rw [hs] at hheld
    rcases hheld with ⟨u, hu, rfl, -⟩ | ⟨_, _, he⟩
    · exact h.inPlace (l := .uphill) (List.mem_map_of_mem hu)
    · cases he
  · rw [hs] at hheld
    rcases hheld with ⟨d, hd, rfl, -⟩ | ⟨_, _, he⟩
    · exact h.inPlace (l := .downhill) (List.mem_map_of_mem hd)
    · cases he

/-- The occupant of a slot named by a summit launch dealt with, and the slot given to the cabin launched (R46, R47). -/
theorem resolveSlot_join_fleet {i j : Nat} (h : s.FleetBut {i} ∅) (hrelease : s.NoRelease i) (hj : j < s.ctr.slots.length) :
    ((s.resolveSlot i j).joinDownhill i j).FleetBut ∅ ∅ := by
  unfold State.resolveSlot
  dsimp only
  generalize hd : ([(j : Nat), ((s.slot j).tag : Nat), idData ((s.slot j).cabin.map s.idOf), (s.idOf i : Nat)] : List Int) = d
  have hm := slotMismatch_does' s i d
  have hfleet : (s.slotMismatch i d).FleetBut {i} ∅ := h.does (hm.mono rfl)
  have hslot := slot_congr hm.slots_eq
  have hnone : (s.slotMismatch i d).NoRelease i := fun k => by rw [hslot]; exact hrelease k
  have hlen : j < (s.slotMismatch i d).ctr.slots.length := by rwa [hm.slots_eq]
  have hslotj := hslot j
  generalize s.slotMismatch i d = x at *
  cases hs : s.slot j with
  | empty => exact joinDownhill_empty_fleet h hrelease hj hs
  | up c =>
    have hc := inPlace_of_slot hfleet (c := c) (j := j) (.inl (by rw [hslotj, hs]))
    have hemptied := unlocate_slotsEmptied x c (.cause .slotMismatch)
    exact joinDownhill_empty_fleet (unlocate_fleet hfleet hc _) (hnone.of_emptied hemptied) (by rwa [hemptied.length])
      (unlocate_slot_empty hfleet hc (.inl (by rw [hslotj, hs])) _)
  | down c =>
    have hc := inPlace_of_slot hfleet (c := c) (j := j) (.inr (by rw [hslotj, hs]))
    have hemptied := unlocate_slotsEmptied x c (.cause .slotMismatch)
    exact joinDownhill_empty_fleet (unlocate_fleet hfleet hc _) (hnone.of_emptied hemptied) (by rwa [hemptied.length])
      (unlocate_slot_empty hfleet hc (.inr (by rw [hslotj, hs])) _)
  | releasePending c =>
    have hw := withdrawRelease_fleet hfleet false
    have hemptied := withdrawRelease_slotsEmptied x false
    have hnone' := hnone.of_emptied hemptied
    simp only [State.loseSlot]
    generalize x.withdrawRelease false = y at *
    have hlen' : j < y.ctr.slots.length := by rwa [hemptied.length]
    rcases hemptied.slot j with hsame | hempty
    · have hyj : y.slot j = .releasePending c := by rw [hsame, hslotj, hs]
      rcases hw.slots.1 j hlen' with hheld | ⟨_, hc, -⟩
      · rw [hyj] at hheld
        obtain ⟨p, hp, rfl, rfl⟩ := hheld
        refine joinDownhill_over_fleet (hw.freePending hp (State.setSlot_does _ _ (Does.refl _ y) rfl) rfl ?_) hnone' hlen'
        rw [State.freeSlotIf, if_pos hyj]
      · exact absurd hc (Set.notMem_empty _)
    · exact joinDownhill_empty_fleet hw hnone' hlen' hempty
  | releasing c =>
    have hxj : x.slot j = .releasing c := by rw [hslotj, hs]
    have hended := setSlotless_fleet (endWatch_fleet hfleet (c := c)
      (g := { x.lgt with watch := x.lgt.watch.filter fun w => w.slot ≠ j || w.cabin ≠ c }) rfl List.filter_sublist
      fun w hw hne => List.mem_filter.mpr ⟨hw, by simp [hne]⟩) c
    have hclear := clearLoose_fleet hended (j := j) (c := c) (.inl hxj)
      (fun k hk => slot_unique hfleet.slots (i := c) (by rw [show x.slot k = .releasing c from hk]; rfl) (by rw [hxj]; rfl))
      (fun w hw hcabin => by
        obtain ⟨hmem, hkept⟩ := List.mem_filter.mp hw
        have hwslot := hfleet.slots.2.2.2.1 w hmem
        have hwj : w.slot = j := slot_unique hfleet.slots (i := c) (by rw [hwslot, hcabin]; rfl) (by rw [hxj]; rfl)
        simp [hwj, hcabin] at hkept)
    rw [union_diff_single (Set.notMem_empty c)] at hclear
    exact joinDownhill_over_fleet hclear (fun k => hnone k) hlen

/-! ## A summit launch booked (R46) -/

theorem takeLaunched_fleet (h : s.FleetBut out loose) {i : Nat} (hi : s.InPlace out i) :
    (s.takeLaunched i).FleetBut (out ∪ {i}) loose ∧ (s.takeLaunched i).NoRelease i ∧
      (s.takeLaunched i).ctr.slots.length = s.ctr.slots.length := by
  unfold State.takeLaunched
  dsimp only
  split
  · obtain ⟨h1, h2⟩ := takeBooked_fleet h hi
    exact ⟨h1, h2, (takeBooked_slotsEmptied s i).length⟩
  · have hd : Does 4292608 s (s.duplicate i (s.reg i).location) := State.duplicate_does i _ (Does.refl _ s) rfl
    obtain ⟨h1, h2⟩ := takeBooked_fleet (duplicate_fleet h i _) (hi.of_sameService (sameService_of_does hd))
    exact ⟨h1, h2, by rw [(takeBooked_slotsEmptied _ i).length, hd.slots_eq]⟩

/-- A cabin sent to a slot number of the geometry in force is sent to a slot of the table. -/
theorem slotCount_eq (h : s.geometryAgrees) {j : Nat} (hj : j < s.slotCount) : j < s.ctr.slots.length := by
  unfold State.slotCount at hj
  split at hj
  · rename_i t ht
    rw [(h.1 t ht).2]
    exact hj
  · exact absurd hj (Nat.not_lt_zero j)

theorem bookSummitLaunch_fleet (h : s.FleetBut ∅ ∅) {i : Nat} (hi : s.InPlace ∅ i) (j : Nat) :
    (s.bookSummitLaunch i j).FleetBut ∅ ∅ := by
  unfold State.bookSummitLaunch
  dsimp only
  split
  · exact report_fleet (unlocate_fleet h hi _) _ _ _ _
  · obtain ⟨htaken, hnone, hlen⟩ := takeLaunched_fleet h hi
    rw [Set.empty_union] at htaken
    split
    · refine State.FleetBut.does ?_ ((slotMismatch_does' _ i _).mono rfl)
      refine State.FleetBut.does ?_ ((reportUnlocated_does' _ i _ _).mono rfl)
      have hjoin := joinUnlocated_fleet htaken (Set.mem_singleton i)
      rwa [sdiff_self] at hjoin
    · rename_i hslot
      have hlt : j < (s.takeLaunched i).ctr.slots.length := by
        rw [hlen]
        exact slotCount_eq h.geometry (Nat.lt_of_not_le hslot)
      exact resolveSlot_join_fleet htaken hnone hlt

theorem takeHandover_fleet (h : s.FleetBut ∅ ∅) (payload : List Byte) {book : State → Nat → Nat → State} (known : Bool)
    (hbook : ∀ (x : State) (i j : Nat), x.FleetBut ∅ ∅ → x.InPlace ∅ i → (book x i j).FleetBut ∅ ∅) :
    (s.takeHandover payload book known).FleetBut ∅ ∅ := by
  have hjudged : (s.judgeHandoverSeq (byteAt payload 1)).FleetBut ∅ ∅ := h.does ((judgeHandoverSeq_does' s _).mono rfl)
  unfold State.takeHandover
  dsimp only
  split
  · rename_i i hlook
    obtain ⟨hlook, hservice⟩ := Option.filter_eq_some_iff.mp hlook
    exact hbook _ _ _ hjudged (inPlace_of_lookup hjudged (Set.notMem_empty i) hlook hservice)
  · exact hjudged.does (State.discardHandover_does _ _ (Does.refl _ _) rfl)

end Sys2Proof.Machine
end
section
/-!
PROOFS. The conservation of the fleet (O27), eighth part: the launch gate's passages, windows and releases (R22 to R31, R34 to
R36).
-/

namespace Sys2Proof.Machine

variable {s t : State} {out loose : Set Nat}

/-! ## Passages and windows (R22, R23, R35, R36) -/

theorem setPassage_fleet (h : s.FleetBut out loose) (p : PassageRecord) : (s.setPassage p).FleetBut out loose := by
  exact setLgt_fleet h rfl rfl

theorem countEmptySlot_fleet (h : s.FleetBut out loose) : s.countEmptySlot.FleetBut out loose := by
  exact setLgt_fleet h rfl rfl

theorem setPhase_fleet (h : s.FleetBut out loose) (f : PendingRelease → PendingRelease) (hf : ∀ p, (f p).place = p.place) :
    (s.setPendingRelease (s.lgt.pending.map f)).FleetBut out loose := by
  refine setLgt_fleet h rfl ?_
  cases s.lgt.pending with
  | none => rfl
  | some p => exact congrArg some (hf p)

theorem countWindow_fleet (h : s.FleetBut out loose) : s.countWindow.FleetBut out loose := by
  unfold State.countWindow
  split
  · exact h
  · split
    · exact setPhase_fleet h _ fun _ => rfl
    · exact countEmptySlot_fleet h

theorem setBlocked_fleet (h : s.FleetBut out loose) (n : Nat) (head : Option Nat) : (s.setBlocked n head).FleetBut out loose := by
  exact setLgt_fleet h rfl rfl

theorem countHead_fleet (h : s.FleetBut out loose) : s.countHead.FleetBut out loose := by
  unfold State.countHead
  split
  · exact setBlocked_fleet h _ _
  · split
    · exact setBlocked_fleet h _ _
    · split
      · exact judge_fleet (setBlocked_fleet h _ _) _ _ _
      · exact setBlocked_fleet h _ _

theorem closeWindow_fleet (h : s.FleetBut out loose) : s.closeWindow.FleetBut out loose := by
  unfold State.closeWindow
  split
  · exact countHead_fleet (countWindow_fleet h)
  · exact h

theorem countUnseen_fleet (h : s.FleetBut out loose) : s.countUnseen.FleetBut out loose := by
  unfold State.countUnseen
  split
  · exact countEmptySlot_fleet (by exact setLgt_fleet h rfl rfl)
  · exact h

theorem endPassage_fleet (h : s.FleetBut out loose) : s.endPassage.FleetBut out loose := by
  unfold State.endPassage
  split
  · exact h
  · split
    · exact countUnseen_fleet h
    · exact closeWindow_fleet h
    · exact h

theorem beginPassage_fleet (h : s.FleetBut out loose) : s.beginPassage.FleetBut out loose := by
  unfold State.beginPassage
  split
  · exact h
  · exact setPassage_fleet (endPassage_fleet h) _

theorem checkOccupied_fleet (h : s.FleetBut out loose) (k : Nat) : (s.checkOccupied k).FleetBut out loose := by
  unfold State.checkOccupied
  dsimp only
  split
  · exact h
  · exact report_fleet (raise_fleet (setPassage_fleet h _) _ _) _ _ _ _

theorem openWindow_fleet (h : s.FleetBut out loose) : s.openWindow.FleetBut out loose := by
  unfold State.openWindow
  split
  · exact checkOccupied_fleet (setPassage_fleet h _) _
  · exact setPassage_fleet h _

theorem movePhase_fleet (h : s.FleetBut out loose) (x : SafetyTables) : (s.movePhase x).FleetBut out loose := by
  unfold State.movePhase
  split
  · split
    · exact openWindow_fleet h
    · exact h
  · split
    · exact h
    · exact setPassage_fleet (closeWindow_fleet h) _
  · exact h

theorem withdrawAtUpdate_fleet (h : s.FleetBut out loose) (x : SafetyTables) : (s.withdrawAtUpdate x).FleetBut out loose := by
  unfold State.withdrawAtUpdate
  split
  · split
    · exact withdrawRelease_fleet h true
    · split
      · exact withdrawRelease_fleet h false
      · exact h
  · exact h

/-! ## Failures (R30) -/

theorem countFailure_fleet (h : s.FleetBut out loose) (id : Nat) : (s.countFailure id).FleetBut out loose := by
  unfold State.countFailure
  split
  · exact setLgt_fleet h rfl rfl
  · exact raise_fleet (by exact setLgt_fleet h rfl rfl) _ _

theorem failRelease_fleet (h : s.FleetBut out loose) {p : PendingRelease} (hp : s.lgt.pending = some p) :
    (s.failRelease p).FleetBut out loose := by
  have hended : (((s.freeSlotIf p.slot (.releasePending p.cabin)).setLgt
      { (s.freeSlotIf p.slot (.releasePending p.cabin)).lgt with
        pending := none
        lastFailed := some { tag := p.tag, slot := p.slot, cabin := p.cabin } }).countFailure p.id).FleetBut out loose := by
    refine countFailure_fleet ?_ _
    refine h.freePending hp ?_ ?_ rfl
    · exact does_setLgt (State.freeSlotIf_does _ _ (Does.refl _ s) rfl) (.inl rfl) (by simp)
    · simp
  unfold State.failRelease
  dsimp only
  split
  · exact countEmptySlot_fleet hended
  · exact hended

theorem timeoutRelease_fleet (h : s.FleetBut out loose) : s.timeoutRelease.FleetBut out loose := by
  unfold State.timeoutRelease
  split
  · exact failRelease_fleet h (by assumption)
  · exact h

theorem sentRelease_pending {tag : Nat} {p : PendingRelease} (h : s.sentRelease tag = some p) : s.lgt.pending = some p :=
  (Option.filter_eq_some_iff.mp h).1

theorem takeGateNack_fleet (h : s.FleetBut out loose) (f : RingFrame) : (s.takeGateNack f).FleetBut out loose := by
  unfold State.takeGateNack
  split
  · rename_i p hp
    exact failRelease_fleet h (sentRelease_pending hp)
  · exact report_fleet (by exact setLgt_fleet h rfl rfl) _ _ _ _

theorem releaseInserted_fleet (h : s.FleetBut out loose) (tag : Nat) : (s.releaseInserted tag).FleetBut out loose := by
  refine setPhase_fleet h _ fun p => ?_
  split <;> rfl

end Sys2Proof.Machine
end
section
/-!
PROOFS. The conservation of the fleet (O27), ninth part: the launch gate's release test, its confirmations and its attach watch
(R25, R26, R29 to R34).
-/

namespace Sys2Proof.Machine

variable {s t : State} {out loose : Set Nat}

theorem oldest_mem {g : Segment} {e : StationEntry} (h : s.oldest g = some e) : e ∈ s.ctr.queue ∧ e.segment = g := by
  obtain ⟨hq, hg⟩ := List.mem_filter.mp (List.mem_of_head? h)
  exact ⟨hq, of_decide_eq_true hg⟩

/-! ## A step of the launch gate's records and the slots -/

/-- A step that touches of the fleet the launch gate's records and the slots, whose agreement is shown. -/
theorem State.FleetBut.launch (h : s.FleetBut out loose) {loose' : Set Nat} (hd : Does 250740251 s t)
    (hcount : t.ctr.slots.length = s.ctr.slots.length) (hwatch : (t.lgt.watch.map WatchEntry.cabin).Nodup)
    (hs7 : ∀ w ∈ t.lgt.watch, ∃ e ∈ s.ctr.queue, e.who = .cabin w.cabin ∧ e.segment = .s7) (hslots : t.slotsBut loose') :
    t.FleetBut out loose' := by
  have hreg := reg_congr hd.registry_eq
  have hmembers : ∀ l, t.members l = s.members l := fun l => by
    cases l <;> simp only [State.members, hd.queue_eq, hd.garage_eq, hd.uphill_eq, hd.downhill_eq, hd.summit_eq,
      hd.unlocated_eq]
  refine ⟨by rw [hd.registry_eq]; exact h.registered, fun l => by rw [hmembers]; exact h.nodup l,
    fun l i hi => by rw [hreg]; rw [hmembers] at hi; exact h.member l i hi,
    fun i hi hout => by rw [hreg, hmembers]; exact h.placed i hi hout, fun i hi => by rw [hreg]; exact h.outside i hi,
    hslots, ⟨by rw [hd.queue_eq, hd.garage_eq]; exact h.entries.1, hwatch, by rw [hd.queue_eq]; exact hs7⟩, fun i hi => ?_,
    geometryAgrees_of_does h.geometry (hd.mono rfl) hcount, storeAgrees_of_does h.stored (hd.mono rfl) (by rw [hd.registry_eq])⟩
  rw [hmembers] at hi
  rw [hreg]
  exact h.ready i hi

/-! ## The release test (R25, R26) -/

/-- A cabin that stands in the queue before S7 has no slot but that of a release. -/
theorem State.FleetBut.no_slot_of_entry (h : s.FleetBut out ∅) {e : StationEntry} {i : Nat} (he : e ∈ s.ctr.queue)
    (hw : e.who = .cabin i) (hseg : e.segment ≠ .s7) (hrelease : s.NoRelease i) :
    i ∉ s.ctr.slots.filterMap SlotState.cabin := by
  have hindex : e.who.index = some i := by rw [hw]; rfl
  obtain ⟨-, -, -, hloc⟩ := h.location_of_entry he hindex
  intro hmem
  obtain ⟨x, hx, hc⟩ := List.mem_filterMap.mp hmem
  obtain ⟨k, hk, rfl⟩ := List.mem_iff_getElem.mp hx
  rw [← slot_eq_getElem s hk] at hc
  have hheld : s.slotHolds k (s.slot k) := (h.slots.1 k hk).resolve_right fun ⟨_, hc, _⟩ => Set.notMem_empty _ hc
  cases hslot : s.slot k with
  | empty => rw [hslot] at hc; cases hc
  | releasePending c =>
    rw [hslot] at hc
    obtain rfl := Option.some.inj hc
    exact hrelease k hslot
  | releasing c =>
    rw [hslot] at hc hheld
    obtain rfl := Option.some.inj hc
    obtain ⟨w, hwatch, rfl, -⟩ := hheld
    obtain ⟨y, hy, hwho, hs7⟩ := h.entries.2.2 w hwatch
    rw [h.entry_unique he hy hindex (by rw [hwho]; rfl)] at hseg
    exact hseg hs7
  | up c =>
    rw [hslot] at hc hheld
    obtain rfl := Option.some.inj hc
    obtain ⟨u, hu, rfl, -⟩ := hheld
    have hup := (h.member .uphill u.cabin (List.mem_map_of_mem hu)).2.2.2
    rw [hloc] at hup
    cases hup
  | down c =>
    rw [hslot] at hc hheld
    obtain rfl := Option.some.inj hc
    obtain ⟨d, hd, rfl, -⟩ := hheld
    have hdown := (h.member .downhill d.cabin (List.mem_map_of_mem hd)).2.2.2
    rw [hloc] at hdown
    cases hdown

theorem noRelease_of_none (h : s.slotsBut loose) (hp : s.lgt.pending = none) (i : Nat) : s.NoRelease i := by
  intro k hk
  rcases h.1 k (lt_of_slot_ne_empty (by rw [hk]; exact nofun)) with hheld | ⟨_, -, he⟩
  · rw [hk] at hheld
    obtain ⟨p, hq, -⟩ := hheld
    rw [hp] at hq
    cases hq
  · rw [hk] at he
    cases he

theorem queueRelease_fleet (h : s.FleetBut out ∅) {e : StationEntry} {k i : Nat} (he : e ∈ s.ctr.queue)
    (hw : e.who = .cabin i) (hseg : e.segment ≠ .s7) (hp : s.lgt.pending = none) (hempty : s.slot k = .empty) :
    (s.queueRelease k i).FleetBut out ∅ := by
  have hd : Does 250740251 s (s.queueRelease k i) := State.queueRelease_does k i (Does.refl _ s) rfl
  have hplace : Does 65536 s (s.placeControl (s.releaseFrame k (s.idOf i))) :=
    State.placeControl_does _ (Does.refl _ s) rfl
  have hslots : (s.queueRelease k i).ctr.slots = s.ctr.slots.set k (.releasePending i) := by
    change (s.placeControl (s.releaseFrame k (s.idOf i))).ctr.slots.set k (.releasePending i) = _
    rw [hplace.slots_eq]
  have hwatch : (s.queueRelease k i).lgt.watch = s.lgt.watch := by
    change (s.placeControl (s.releaseFrame k (s.idOf i))).lgt.watch = _
    rw [hplace.lgt_eq]
  have hholds : ∀ j y, s.slotHolds j y → (s.queueRelease k i).slotHolds j y := fun j y hy => by
    cases y with
    | empty => trivial
    | releasePending c =>
      obtain ⟨q, hq, -⟩ := hy
      rw [hp] at hq
      cases hq
    | releasing c => simpa only [State.slotHolds, hwatch] using hy
    | up c => simpa only [State.slotHolds, hd.uphill_eq] using hy
    | down c => simpa only [State.slotHolds, hd.downhill_eq] using hy
  refine h.launch hd (by rw [hslots, List.length_set]) (by rw [hwatch]; exact h.entries.2.1)
    (by rw [hwatch]; exact h.entries.2.2) ?_
  by_cases hk : k < s.ctr.slots.length
  · exact slotsBut_of_set h.slots hk hempty (x := .releasePending i) rfl
      (h.no_slot_of_entry he hw hseg (noRelease_of_none h.slots hp i)) hslots hholds ⟨_, rfl, rfl, rfl⟩
      (fun u hu => .inl (by rwa [hd.uphill_eq] at hu)) (fun d hd' => .inl (by rwa [hd.downhill_eq] at hd')) hwatch
  · have hsame : (s.queueRelease k i).ctr.slots = s.ctr.slots := by rw [hslots, List.set_eq_of_length_le (Nat.le_of_not_lt hk)]
    have hslot := slot_congr hsame
    obtain ⟨h1, h2, h3, h4, h5⟩ := h.slots
    refine ⟨fun j hj => ?_, fun u hu => ?_, fun d hd' => ?_, fun w hw' => ?_, by rw [hsame]; exact h5⟩
    · rw [hslot]
      exact (h1 j (by rwa [hsame] at hj)).imp (hholds j _) id
    · rw [hslot]
      exact h2 u (by rwa [hd.uphill_eq] at hu)
    · rw [hslot]
      exact h3 d (by rwa [hd.downhill_eq] at hd')
    · rw [hslot]
      exact h4 w (by rwa [hwatch] at hw')

theorem testRelease_fleet (h : s.FleetBut out ∅) : s.testRelease.FleetBut out ∅ := by
  unfold State.testRelease
  split
  · rename_i hmay
    split
    · rename_i i hi
      obtain ⟨e, hhead, hwho, -⟩ := readyHead_eq_some hi
      obtain ⟨he, hs6⟩ := oldest_mem hhead
      simp only [State.mayRelease, Bool.and_eq_true, decide_eq_true_eq, Option.isNone_iff_eq_none] at hmay
      obtain ⟨⟨⟨⟨-, hp⟩, hempty⟩, -⟩, -⟩ := hmay
      have hpassage := setPassage_fleet h { s.lgt.passage with releaseMade := true }
      unfold State.makeRelease
      dsimp only
      split
      · exact queueRelease_fleet hpassage he hwho (by rw [hs6]; exact nofun) hp hempty
      · exact countFailure_fleet (by exact setLgt_fleet hpassage rfl rfl) _
    · exact h
  · exact h

/-! ## The attach watch (R33, R34) -/

/-- A watch entry ends without an ATTACH, and its slot returns to EMPTY. -/
theorem endWatchEntry_fleet (h : s.FleetBut out loose) {w : WatchEntry} (hw : w ∈ s.lgt.watch) :
    ((s.setLgt { s.lgt with watch := s.lgt.watch.filter fun x => x.cabin ≠ w.cabin }).freeSlotIf w.slot
      (.releasing w.cabin)).FleetBut out loose := by
  have hd : Does 250740283 s
      ((s.setLgt { s.lgt with watch := s.lgt.watch.filter fun x => x.cabin ≠ w.cabin }).freeSlotIf w.slot
        (.releasing w.cabin)) :=
    State.freeSlotIf_does _ _ (does_setLgt (Does.refl _ s) (.inl rfl) (List.length_filter_le _ _)) rfl
  have hl : ((s.setLgt { s.lgt with watch := s.lgt.watch.filter fun x => x.cabin ≠ w.cabin }).freeSlotIf w.slot
      (.releasing w.cabin)).lgt = { s.lgt with watch := s.lgt.watch.filter fun x => x.cabin ≠ w.cabin } := by
    rw [freeSlotIf_lgt]
    rfl
  have hslot : ∀ k, ((s.setLgt { s.lgt with watch := s.lgt.watch.filter fun x => x.cabin ≠ w.cabin }).freeSlotIf w.slot
      (.releasing w.cabin)).slot k = if w.slot = k ∧ s.slot w.slot = .releasing w.cabin then .empty else s.slot k :=
    fun k => freeSlotIf_slot _ _ _ _
  have hcount : ((s.setLgt { s.lgt with watch := s.lgt.watch.filter fun x => x.cabin ≠ w.cabin }).freeSlotIf w.slot
      (.releasing w.cabin)).ctr.slots.length = s.ctr.slots.length := freeSlotIf_length _ _ _
  have hqueue : ((s.setLgt { s.lgt with watch := s.lgt.watch.filter fun x => x.cabin ≠ w.cabin }).freeSlotIf w.slot
      (.releasing w.cabin)).ctr.queue = s.ctr.queue := by
    rw [freeSlotIf_queue]
    rfl
  generalize (s.setLgt { s.lgt with watch := s.lgt.watch.filter fun x => x.cabin ≠ w.cabin }).freeSlotIf w.slot
    (.releasing w.cabin) = t at *
  have hkeep : ∀ k, s.slot k ≠ .releasing w.cabin → t.slot k = s.slot k := fun k hk => by
    rw [hslot, if_neg]
    rintro ⟨rfl, he⟩
    exact hk he
  refine h.calm (calm_of_launch hd (by rw [hqueue]; exact sameEntry_refl _) hcount (fun k => ?_) (fun k c hk => ?_)
    (by rw [hl]; exact List.filter_sublist) (fun x hx hs => ?_) fun k hk => ?_)
  · rw [hslot]
    split
    · exact .inr rfl
    · exact .inl rfl
  · exact hkeep k (by rcases hk with hk | hk <;> rw [hk] <;> exact nofun)
  · rw [hl, List.mem_filter, decide_eq_true_iff] at hx
    rw [hkeep _ fun he => hx.2 (SlotState.releasing.inj (hs.symm.trans he)), hs]
  · have hwatched : ∀ c, c ≠ w.cabin → s.slotHolds k (.releasing c) → t.slotHolds k (.releasing c) := fun c hc hheld => by
      obtain ⟨x, hx, rfl, rfl⟩ := hheld
      refine ⟨x, ?_, rfl, rfl⟩
      rw [hl, List.mem_filter, decide_eq_true_iff]
      exact ⟨hx, hc⟩
    cases hx : t.slot k with
    | empty => trivial
    | releasing c =>
      rw [hx] at hk
      refine hwatched c ?_ hk
      rintro rfl
      obtain ⟨x, hmem, hcabin, rfl⟩ := hk
      obtain rfl := watch_unique h.entries hmem hw hcabin
      rw [hslot] at hx
      split at hx
      · cases hx
      · rename_i hne
        exact hne ⟨rfl, hx⟩
    | releasePending c => rw [hx] at hk; simpa only [State.slotHolds, hl] using hk
    | up c => rw [hx] at hk; simpa only [State.slotHolds, hd.uphill_eq] using hk
    | down c => rw [hx] at hk; simpa only [State.slotHolds, hd.downhill_eq] using hk

theorem missAttach_fleet (h : s.FleetBut out loose) {w : WatchEntry} (hw : w ∈ s.lgt.watch) :
    (s.missAttach w).FleetBut out loose :=
  report_fleet (raise_fleet (setSlotless_fleet (endWatchEntry_fleet h hw) w.cabin) _ _) _ _ _ _

theorem checkWatch_fleet (x : SafetyTables) (l : List WatchEntry) (s : State) (h : s.FleetBut out loose)
    (hl : ∀ w ∈ l, w ∈ s.lgt.watch) (hnodup : (l.map WatchEntry.cabin).Nodup) : (s.checkWatch x l).FleetBut out loose := by
  induction l generalizing s with
  | nil => exact h
  | cons w rest ih =>
    obtain ⟨hnew, hrest⟩ := List.nodup_cons.mp hnodup
    unfold State.checkWatch
    split
    · refine ih _ (missAttach_fleet h (hl w List.mem_cons_self)) (fun v hv => ?_) hrest
      rw [State.missAttach_watch, List.mem_filter, decide_eq_true_iff]
      exact ⟨hl v (List.mem_cons_of_mem _ hv), fun hc => hnew (hc ▸ List.mem_map_of_mem hv)⟩
    · exact ih s h (fun v hv => hl v (List.mem_cons_of_mem _ hv)) hrest

theorem noteRope_fleet (h : s.FleetBut out loose) : s.noteRope.FleetBut out loose := setPassage_fleet h _

theorem launchUpdate_fleet (h : s.FleetBut out ∅) : s.launchUpdate.FleetBut out ∅ := by
  unfold State.launchUpdate
  split
  · exact h
  · rename_i x hx
    have hy := testRelease_fleet (withdrawAtUpdate_fleet (noteRope_fleet (movePhase_fleet (beginPassage_fleet h) x)) x)
    exact checkWatch_fleet x _ _ hy (fun _ hw => hw) hy.entries.2.1

end Sys2Proof.Machine
end
section
/-!
PROOFS. The conservation of the fleet (O27), tenth part: gate reports (R29, R30).
-/

namespace Sys2Proof.Machine

variable {s t : State} {out loose : Set Nat}

/-! ## An entry changed in what is not of its place -/

theorem sameEntry_modSerial (q : List StationEntry) (n : Nat) {f : StationEntry → StationEntry}
    (hf : ∀ e ∈ q, e.serial = n → SameEntry e (f e)) : List.Forall₂ SameEntry q (modSerial q n f) := by
  refine List.forall₂_map_right_iff.mpr (List.forall₂_same.mpr fun e he => ?_)
  split
  · exact hf e he (by assumption)
  · exact ⟨rfl, rfl, id⟩

theorem modEntry_fleet (h : s.FleetBut out loose) (n : Nat) {f : StationEntry → StationEntry}
    (hf : ∀ e ∈ s.ctr.queue, e.serial = n → SameEntry e (f e)) : (s.modEntry n f).FleetBut out loose :=
  h.queue (State.modEntry_does n f (Does.refl _ s) rfl) (sameEntry_modSerial _ n hf)

theorem sameEntry_to_s7 (e : StationEntry) (b : Bool) : SameEntry e { e with segment := .s7, slotless := b } :=
  ⟨rfl, rfl, fun _ => rfl⟩

theorem headToS7_fleet (h : s.FleetBut out loose) (e : StationEntry) (b : Bool) : (s.headToS7 e b).FleetBut out loose :=
  reportHead_fleet (judgeSegments_fleet (modEntry_fleet h _ fun x _ _ => sameEntry_to_s7 x b))

theorem mem_modSerial_self {q : List StationEntry} {e : StationEntry} (he : e ∈ q) (f : StationEntry → StationEntry) :
    f e ∈ modSerial q e.serial f :=
  List.mem_map.mpr ⟨e, he, if_pos rfl⟩

/-! ## A confirmed release joins the attach watch (R29) -/

theorem freeSlotIf_slots_congr (h : t.ctr.slots = s.ctr.slots) (k : Nat) (x : SlotState) :
    (t.freeSlotIf k x).ctr.slots = (s.freeSlotIf k x).ctr.slots := by
  unfold State.freeSlotIf
  rw [slot_congr h]
  split
  · simp [State.setSlot, h]
  · exact h

/-- The slot of a release that is confirmed is RELEASING before the attach watch holds it. -/
theorem setReleasing_fleet (h : s.FleetBut out ∅) {k c : Nat} (hk : k < s.ctr.slots.length) (hempty : s.slot k = .empty)
    (hnone : c ∉ s.ctr.slots.filterMap SlotState.cabin) : (s.setSlot k (.releasing c)).FleetBut out {c} := by
  refine setSlot_fleet h (slotsBut_of_setBut (Set.empty_subset _) h.slots hk hempty (x := .releasing c) rfl hnone rfl
    (fun j y hy => ?_) (.inr ⟨c, rfl, rfl⟩) (fun u hu => .inl hu) (fun d hd => .inl hd) rfl)
  cases y <;> exact hy

/-- The watch entry of a release whose slot is RELEASING already. -/
theorem addWatch_fleet {w : WatchEntry} (h : s.FleetBut out {w.cabin}) (hslot : s.slot w.slot = .releasing w.cabin)
    (hnew : ∀ x ∈ s.lgt.watch, x.cabin ≠ w.cabin)
    (hs7 : ∃ e ∈ s.ctr.queue, e.who = .cabin w.cabin ∧ e.segment = .s7) :
    (s.setLgt { s.lgt with watch := s.lgt.watch ++ [w] }).FleetBut out ∅ := by
  obtain ⟨h1, h2, h3, h4, h5⟩ := h.slots
  refine ⟨h.registered, h.nodup, h.member, h.placed, h.outside, ⟨fun k hk => .inl ?_, h2, h3, fun x hx => ?_, h5⟩,
    ⟨h.entries.1, ?_, fun x hx => ?_⟩, h.ready, h.geometry, h.stored⟩
  rotate_left 2
  · change ((s.lgt.watch ++ [w]).map WatchEntry.cabin).Nodup
    rw [List.map_append]
    refine List.nodup_append.mpr ⟨h.entries.2.1, List.nodup_singleton _, fun a ha b hb => ?_⟩
    obtain ⟨x, hx, rfl⟩ := List.mem_map.mp ha
    rw [List.mem_singleton.mp hb]
    exact hnew x hx
  · rcases List.mem_append.mp hx with hx | hx
    · exact h.entries.2.2 x hx
    · rw [List.mem_singleton.mp hx]
      exact hs7
  · change (s.setLgt { s.lgt with watch := s.lgt.watch ++ [w] }).slotHolds k (s.slot k)
    rcases h1 k hk with hheld | ⟨c, rfl, hc⟩
    · generalize s.slot k = y at *
      cases y with
      | releasing c =>
        obtain ⟨x, hx, hxc⟩ := hheld
        exact ⟨x, List.mem_append_left _ hx, hxc⟩
      | _ => exact hheld
    · rw [hc]
      exact ⟨w, List.mem_append_right _ (List.mem_singleton.mpr rfl), rfl,
        slot_unique h.slots (i := w.cabin) (by rw [hslot]; rfl) (by rw [hc]; rfl)⟩
  · rcases List.mem_append.mp hx with hx | hx
    · exact h4 x hx
    · rw [List.mem_singleton.mp hx]
      exact hslot

theorem missAttach_slot (s : State) (w : WatchEntry) {k : Nat} (h : s.slot k ≠ .releasing w.cabin) :
    (s.missAttach w).slot k = s.slot k := by
  have hreport : Does 250739723
      (((s.setLgt { s.lgt with watch := s.lgt.watch.filter fun x => x.cabin ≠ w.cabin }).freeSlotIf w.slot
        (.releasing w.cabin)).setSlotless w.cabin) (s.missAttach w) :=
    State.report_does _ _ _ _ (State.raise_does _ _ (Does.refl _ _) rfl) rfl
  rw [slot_congr hreport.slots_eq]
  exact freeSlotIf_slot_of_ne _ h

theorem missAttach_queue (s : State) (w : WatchEntry) : (s.missAttach w).ctr.queue =
    s.ctr.queue.map fun e => if e.who = .cabin w.cabin then { e with slotless := true } else e := by
  have hreport : Does 250739723
      (((s.setLgt { s.lgt with watch := s.lgt.watch.filter fun x => x.cabin ≠ w.cabin }).freeSlotIf w.slot
        (.releasing w.cabin)).setSlotless w.cabin) (s.missAttach w) :=
    State.report_does _ _ _ _ (State.raise_does _ _ (Does.refl _ _) rfl) rfl
  rw [hreport.queue_eq]
  change (State.freeSlotIf _ w.slot (.releasing w.cabin)).ctr.queue.map _ = _
  rw [freeSlotIf_queue]
  rfl

/-- The room made in the watch by its oldest entry leaves what the new entry rests on. -/
theorem watchRelease_fleet {p : PendingRelease} (h : s.FleetBut out {p.cabin}) (hslot : s.slot p.slot = .releasing p.cabin)
    (hnew : ∀ x ∈ s.lgt.watch, x.cabin ≠ p.cabin)
    (hs7 : ∃ e ∈ s.ctr.queue, e.who = .cabin p.cabin ∧ e.segment = .s7) : (s.watchRelease p).FleetBut out ∅ := by
  unfold State.watchRelease
  dsimp only
  split
  · exact addWatch_fleet (w := ⟨p.cabin, p.slot, s.rpu.odo⟩) h hslot hnew hs7
  · split
    · rename_i w rest hw
      have hmem : w ∈ s.lgt.watch := by rw [hw]; exact List.mem_cons_self
      refine addWatch_fleet (w := ⟨p.cabin, p.slot, s.rpu.odo⟩) (missAttach_fleet h hmem) ?_ (fun x hx => ?_) ?_
      · rw [missAttach_slot, hslot]
        rw [hslot]
        exact fun he => hnew w hmem (SlotState.releasing.inj he).symm
      · rw [State.missAttach_watch] at hx
        exact hnew x (List.mem_filter.mp hx).1
      · obtain ⟨e, he, hwho, hseg⟩ := hs7
        rw [missAttach_queue]
        refine ⟨_, List.mem_map_of_mem he, ?_⟩
        split <;> exact ⟨hwho, hseg⟩
    · exact addWatch_fleet (w := ⟨p.cabin, p.slot, s.rpu.odo⟩) h hslot hnew hs7

/-! ## A release is confirmed (R29) -/

theorem bookRelease_fleet (h : s.FleetBut out ∅) {p : PendingRelease} (hp : s.lgt.pending = some p) :
    ((s.settleRelease p).bookRelease p).FleetBut out ∅ := by
  have hz : (s.settleRelease p).lgt.pending = none := rfl
  have hdz : Does 16 s (s.settleRelease p) := does_setLgt (Does.refl _ s) (.inl rfl) (Nat.le_refl _)
  have hwz : (s.settleRelease p).lgt.watch = s.lgt.watch := rfl
  have hcz : (s.settleRelease p).ctr = s.ctr := rfl
  generalize s.settleRelease p = z at *
  unfold State.bookRelease
  split
  · refine raise_fleet (h.freePending hp (State.freeSlotIf_does _ _ (hdz.mono rfl) rfl) ?_ ?_) _ _
    · rw [freeSlotIf_lgt, hwz]
    · exact freeSlotIf_slots_congr (by rw [hcz]) _ _
  · rename_i e hhead
    obtain ⟨he, hs6⟩ := oldest_mem hhead
    have hctr : ∀ b, (z.headToS7 e b).ctr = { s.ctr with
        queue := modSerial s.ctr.queue e.serial fun x => { x with segment := .s7, slotless := b } } := fun b => by
      rw [headToS7_ctr_of_none e b hz, hcz]
    have hwatch : ∀ b, (z.headToS7 e b).lgt.watch = s.lgt.watch := fun b => by
      obtain ⟨n, k, hl⟩ := headToS7_lgt_of_none e b hz
      rw [hl]
      exact hwz
    have hqueue : ∀ b, List.Forall₂ SameEntry s.ctr.queue (z.headToS7 e b).ctr.queue := fun b => by
      rw [hctr]
      exact sameEntry_modSerial _ _ fun x _ _ => sameEntry_to_s7 x b
    have hd : ∀ b, Does 250740283 s (z.headToS7 e b) := fun b => State.headToS7_does e b (hdz.mono rfl) rfl
    split
    · rename_i hown
      rw [Bool.and_eq_true, decide_eq_true_iff, decide_eq_true_iff] at hown
      obtain ⟨hwho, hslot⟩ := hown
      rw [slot_congr (s := s) (by rw [hcz])] at hslot
      rw [hcz] at he
      have hk : p.slot < s.ctr.slots.length := lt_of_slot_ne_empty (by rw [hslot]; exact nofun)
      have hfreed : ((z.headToS7 e false).setSlot p.slot .empty).FleetBut out ∅ := by
        refine h.freePendingIn hp (State.setSlot_does _ _ (hd false) rfl) (hqueue false) (hwatch false) ?_
        rw [State.freeSlotIf, if_pos hslot]
        simp [hctr]
      have hnone : p.cabin ∉ ((z.headToS7 e false).setSlot p.slot .empty).ctr.slots.filterMap SlotState.cabin := by
        have hbare := h.freePending (t := z.setSlot p.slot .empty) hp (State.setSlot_does _ _ (hdz.mono rfl) rfl) hwz
          (by rw [State.freeSlotIf, if_pos hslot]; simp [hcz])
        have := hbare.no_slot_of_entry (e := e) (by simpa [hcz] using he) hwho (by rw [hs6]; exact nofun)
          (noRelease_of_none hbare.slots hz p.cabin)
        simpa [hctr, hcz] using this
      have hempty : ((z.headToS7 e false).setSlot p.slot .empty).slot p.slot = .empty :=
        setSlot_slot_self _ (by simpa [hctr] using hk)
      have hset := setReleasing_fleet hfreed (k := p.slot) (c := p.cabin) (by simpa [hctr] using hk) hempty hnone
      have htwice : ((z.headToS7 e false).setSlot p.slot .empty).setSlot p.slot (.releasing p.cabin) =
          (z.headToS7 e false).setSlot p.slot (.releasing p.cabin) := by
        simp [State.setSlot, State.setCtr, List.set_set]
      rw [htwice] at hset
      refine watchRelease_fleet hset (setSlot_slot_self _ (by simpa [hctr] using hk)) (fun x hx hc => hnone ?_) ?_
      · exact cabin_mem_of_slot (k := x.slot) (by rw [hfreed.slots.2.2.2.1 x hx, hc]; rfl)
      · refine ⟨{ e with segment := .s7, slotless := false }, ?_, hwho, rfl⟩
        simp only [setSlot_ctr, hctr]
        exact mem_modSerial_self he _
    · have hfreed : ((z.headToS7 e true).freeSlotIf p.slot (.releasePending p.cabin)).FleetBut out ∅ := by
        refine h.freePendingIn hp (State.freeSlotIf_does _ _ (hd true) rfl) ?_ ?_ ?_
        · rw [freeSlotIf_queue]
          exact hqueue true
        · rw [freeSlotIf_lgt, hwatch]
        · exact freeSlotIf_slots_congr (by rw [hctr]) _ _
      exact report_fleet hfreed _ _ _ _

theorem clearLastFailed_fleet (h : s.FleetBut out loose) : (s.setLgt { s.lgt with lastFailed := none }).FleetBut out loose := by
  exact setLgt_fleet h rfl rfl

theorem lateGateReport_fleet (h : s.FleetBut out loose) (x : FailedRelease) : (s.lateGateReport x).FleetBut out loose := by
  unfold State.lateGateReport
  refine report_fleet (raise_fleet (clearLastFailed_fleet ?_) _ _) _ _ _ _
  split
  · split
    · exact headToS7_fleet h _ _
    · exact raise_fleet h _ _
  · exact raise_fleet h _ _

theorem takeGateReport_fleet (h : s.FleetBut out ∅) (f : RingFrame) : (s.takeGateReport f).FleetBut out ∅ := by
  unfold State.takeGateReport
  split
  · rename_i p hp
    unfold State.confirmRelease
    dsimp only
    split
    · refine bookRelease_fleet (report_fleet h _ _ _ _) ?_
      rw [(State.report_does (m := 4259840) _ _ _ _ (Does.refl _ s) rfl).lgt_eq]
      exact sentRelease_pending hp
    · exact bookRelease_fleet h (sentRelease_pending hp)
  · split
    · exact lateGateReport_fleet h _
    · exact raise_fleet h _ _

end Sys2Proof.Machine
end
section
/-!
PROOFS. The conservation of the fleet (O27), eleventh part: the attach (R32, R33).
-/

namespace Sys2Proof.Machine

variable {s t : State} {out loose : Set Nat}

/-- An entry joins the uphill list with its slot, and its cabin's registry entry says so (R32, R42). -/
theorem addUphill_fleet (h : s.FleetBut out loose) {u : UphillEntry} (a : Option Int) (hi : u.cabin ∈ out)
    (hloose : u.cabin ∉ loose) (hrelease : s.NoRelease u.cabin) (hk : u.slot < s.ctr.slots.length)
    (hempty : s.slot u.slot = .empty) :
    (((s.setCtr { s.ctr with uphill := s.ctr.uphill ++ [u] }).modReg u.cabin fun r =>
      { r with location := .uphill, door := .locked, verdict := .pass, attachErr := a }).setSlot u.slot
        (.up u.cabin)).FleetBut (out \ {u.cabin}) loose := by
  refine h.joinCabin (l := .uphill) (f := fun r =>
    { r with location := .uphill, door := .locked, verdict := .pass, attachErr := a }) hi ⟨rfl, rfl, rfl, rfl⟩
    ?_ (fun m hm => ?_) (fun k => ?_) ?_ (fun _ => rfl) (fun _ => rfl)
    (fun _ _ => ⟨rfl, rfl⟩) (entriesAgree_congr h.entries rfl rfl rfl) (List.length_set ..) ?_
  · change ((s.ctr.uphill ++ [u]).map UphillEntry.cabin).Perm _
    rw [List.map_append]
    exact List.perm_append_singleton _ _
  · cases m with
    | uphill => exact absurd rfl hm
    | _ => rfl
  · rw [reg_congr (setSlot_registry ..), modReg_reg]
    rfl
  · rw [setSlot_registry, modReg_registry_length]
    rfl
  · refine slotsBut_of_set h.slots hk hempty (x := .up u.cabin) rfl (h.no_slot hi hloose hrelease) rfl (fun k y hy => ?_)
      ⟨u, List.mem_append_right _ (List.mem_singleton.mpr rfl), rfl, rfl⟩ (fun v hv => ?_) (fun d hd => .inl hd) rfl
    · cases y with
      | up c =>
        obtain ⟨v, hv, hc⟩ := hy
        exact ⟨v, List.mem_append_left _ hv, hc⟩
      | _ => exact hy
    · refine (List.mem_append.mp hv).imp id fun he => ?_
      rw [List.mem_singleton.mp he]
      exact ⟨rfl, rfl⟩

/-! ## A watched cabin attaches (R32) -/

theorem joinUphill_fleet {w : WatchEntry} {rest : List WatchEntry} (h : s.FleetBut ∅ ∅) (hw : s.lgt.watch = w :: rest)
    (e : Int) : ((s.setLgt { s.lgt with watch := rest }).joinUphill w e).FleetBut ∅ ∅ := by
  have hmem : w ∈ s.lgt.watch := by rw [hw]; exact List.mem_cons_self
  have hcabins := h.entries.2.1
  rw [hw, List.map_cons, List.nodup_cons] at hcabins
  have hended := endWatch_fleet h (c := w.cabin) (g := { s.lgt with watch := rest }) rfl
    (by rw [hw]; exact List.sublist_cons_self w rest)
    fun x hx hc => by
      rw [hw] at hx
      exact (List.mem_cons.mp hx).resolve_left fun he => hc (by rw [he])
  have hslot : (s.setLgt { s.lgt with watch := rest }).slot w.slot = .releasing w.cabin := h.slots.2.2.2.1 w hmem
  have hunique : ∀ k, ((s.setLgt { s.lgt with watch := rest }).slot k).cabin = some w.cabin → k = w.slot :=
    fun k hk => slot_unique hended.slots hk (by rw [hslot]; rfl)
  obtain ⟨y, hy, hwho, -⟩ := h.entries.2.2 w hmem
  obtain ⟨x, hx, hentry, hwho⟩ := entryOfCabin_of_member (s := s.setLgt { s.lgt with watch := rest }) (i := w.cabin)
    (List.mem_filterMap.mpr ⟨y, hy, by rw [hwho]; rfl⟩)
  have hleft := leaveStation_fleet hended hx
  rw [hwho, Who.index, cabinsOf_some, Set.empty_union] at hleft
  have hemptied := leaveStation_slotsEmptied (s.setLgt { s.lgt with watch := rest }) x
  obtain ⟨hleftWatch, -, -⟩ := leaveStation_watch (s := s.setLgt { s.lgt with watch := rest }) hwho
    fun v hv hc => hcabins.1 (hc ▸ List.mem_map_of_mem hv)
  have hwatch : ∀ v ∈ ((s.setLgt { s.lgt with watch := rest }).leaveStation x).lgt.watch, v.cabin ≠ w.cabin := fun v hv hc => by
    rw [hleftWatch] at hv
    exact hcabins.1 (hc ▸ List.mem_map_of_mem hv)
  unfold State.joinUphill
  rw [hentry]
  dsimp only
  generalize s.setLgt { s.lgt with watch := rest } = s0 at *
  have hk : w.slot < s0.ctr.slots.length := lt_of_slot_ne_empty (by rw [hslot]; exact nofun)
  generalize s0.leaveStation x = s1 at *
  have hclear := clearLoose_fleet hleft (j := w.slot) (c := w.cabin)
    ((hemptied.slot w.slot).imp (fun he => he.trans hslot) id)
    (fun k hk => (hemptied.slot k).elim (fun he => hunique k (by rw [← he, hk]; rfl)) fun he => by rw [hk] at he; cases he)
    hwatch
  rw [sdiff_self, Set.bot_eq_empty] at hclear
  have hrelease : (s1.setSlot w.slot .empty).NoRelease w.cabin := by
    refine State.NoRelease.of_emptied (s := s0) (fun k hk => ?_) (hemptied.trans (setSlot_empty_slotsEmptied s1 w.slot))
    rw [hunique k (by rw [hk]; rfl), hslot] at hk
    cases hk
  have hlt : w.slot < s1.ctr.slots.length := by rwa [hemptied.length]
  have hadd := addUphill_fleet hclear
    (u := { cabin := w.cabin, slot := w.slot, oRelease := w.oRelease, attachErr := some e }) (some e)
    (Set.mem_singleton _) (Set.notMem_empty _) hrelease (by simpa [State.setSlot] using hlt) (setSlot_slot_self _ hlt)
  rw [sdiff_self, Set.bot_eq_empty] at hadd
  convert hadd using 1
  simp only [State.setSlot, State.modReg, State.setCtr, State.setRegistry, State.reg, List.set_set]

theorem attachWatched_fleet {w : WatchEntry} {rest : List WatchEntry} (h : s.FleetBut ∅ ∅) (hw : s.lgt.watch = w :: rest) :
    (s.attachWatched w rest).FleetBut ∅ ∅ := by
  unfold State.attachWatched State.bookAttach State.checkSpacing
  dsimp only
  have hjoined := (joinUphill_fleet h hw ((s.setLgt { s.lgt with watch := rest }).attachError w.slot)).does
    (State.sendHandover_does (m := 250739723) .valleyLaunch ((s.setLgt { s.lgt with watch := rest }).idOf w.cabin) false
      (some w.slot) (Does.refl _ _) rfl)
  split
  · exact report_fleet (raise_fleet hjoined _ _) _ _ _ _
  · exact hjoined

/-! ## An attach without a watch entry (R33) -/

theorem attachUnslotted_fleet (h : s.FleetBut ∅ ∅) {x : StationEntry} (hx : x ∈ s.ctr.queue) :
    (s.attachUnslotted x).FleetBut ∅ ∅ := by
  unfold State.attachUnslotted
  refine report_fleet ?_ _ _ _ _
  split
  · rename_i i hwho
    exact unlocate_fleet h (h.inPlace (l := .station) (List.mem_filterMap.mpr ⟨x, hx, by rw [hwho]; rfl⟩)) _
  · rename_i hwho
    have hleft := leaveStation_fleet h hx
    rwa [hwho, Who.index, cabinsOf_none, Set.empty_union] at hleft

theorem takeAttach_fleet (h : s.FleetBut ∅ ∅) : s.takeAttach.FleetBut ∅ ∅ := by
  unfold State.takeAttach
  split
  · rename_i w rest hw
    exact attachWatched_fleet h hw
  · unfold State.attachWithoutWatch
    split
    · rename_i x hx
      exact attachUnslotted_fleet h (List.mem_filter.mp (List.mem_of_find?_eq_some hx)).1
    · exact raise_fleet h _ _

end Sys2Proof.Machine
end
section
/-!
PROOFS. The conservation of the fleet (O27), twelfth part: the door sequencer (chapter 5).
-/

namespace Sys2Proof.Machine

variable {s t : State} {out loose : Set Nat}

/-! ## A door state or a verdict of an entry of the queue -/

theorem mem_of_entry {n : Nat} {e : StationEntry} (h : s.entry n = some e) : e ∈ s.ctr.queue := List.mem_of_find?_eq_some h

theorem withDoor_index (w : Who) (d : DoorState) : (w.withDoor d).index = w.index := by
  cases w <;> rfl

theorem withGrip_index (w : Who) (v : GripVerdict) (f : Option Nat) : (w.withGrip v f).index = w.index := by
  cases w <;> rfl

theorem not_uphill_of_entry (h : s.FleetBut out loose) {e : StationEntry} {i : Nat} (he : e ∈ s.ctr.queue)
    (hw : e.who = .cabin i) : (s.reg i).location ≠ .uphill := by
  rw [(h.location_of_entry he (i := i) (by rw [hw]; rfl)).2.2.2]
  exact nofun

theorem setDoor_fleet (h : s.FleetBut out loose) {e : StationEntry} (he : e ∈ s.ctr.queue) (d : DoorState) :
    (s.setDoor e d).FleetBut out loose := by
  unfold State.setDoor
  split
  · rename_i i hw
    exact modReg_fleet h _ (fun _ => rfl) (fun _ => rfl) fun hup => absurd hup (not_uphill_of_entry h he hw)
  · exact modEntry_fleet h _ fun x _ _ => ⟨rfl, withDoor_index _ _, id⟩

/-- Whoever stands in an entry is not on the uphill list. -/
def State.OffUphill (s : State) (e : StationEntry) : Prop := ∀ i, e.who = .cabin i → (s.reg i).location ≠ .uphill

theorem setGrip_fleet (h : s.FleetBut out loose) {e : StationEntry} (he : s.OffUphill e) (v : GripVerdict) (f : Option Nat) :
    (s.setGrip e v f).FleetBut out loose := by
  unfold State.setGrip
  split
  · rename_i i hw
    exact modReg_fleet h _ (fun _ => rfl) (fun _ => rfl) fun hup => absurd hup (he i hw)
  · exact modEntry_fleet h _ fun x _ _ => ⟨rfl, withGrip_index _ _ _, id⟩

theorem changeDoor_fleet (h : s.FleetBut out loose) {e : StationEntry} (he : e ∈ s.ctr.queue) (d : DoorState) :
    (s.changeDoor e d).FleetBut out loose := by
  unfold State.changeDoor
  split
  · exact h
  · exact reportHead_fleet (setDoor_fleet h he d)

/-! ## Insertions, reports and refusals (R93, R98, R103) -/

theorem insertDoor_fleet (h : s.FleetBut out loose) (u : DoorUnitName) (b : BusyCommand) :
    (s.insertDoor u b).FleetBut out loose := by
  unfold State.insertDoor
  split
  · rename_i e p he hp
    refine changeDoor_fleet (h.does (State.setDoorUnit_does _ _ (Does.refl _ s) rfl)) ?_ _
    rw [(State.setDoorUnit_does (m := 2048) u _ (Does.refl _ s) rfl).queue_eq]
    exact mem_of_entry he
  · exact h

theorem doorInserted_fleet (h : s.FleetBut out loose) (k : RingKind) (tag : Nat) :
    (s.doorInserted k tag).FleetBut out loose := by
  unfold State.doorInserted
  dsimp only
  split
  · exact insertDoor_fleet h _ _
  · exact insertDoor_fleet h _ _
  · exact h

theorem completeUnit_fleet (h : s.FleetBut out loose) (u : DoorUnitName) (c : Option Nat) :
    (s.completeUnit u c).FleetBut out loose := h.does (State.completeUnit_does u c (Does.refl _ s) rfl)

theorem modRecord_fleet (h : s.FleetBut out loose) (n : Nat) (f : DoorRecord → DoorRecord) :
    (s.modRecord n f).FleetBut out loose := h.does (State.modRecord_does n f (Does.refl _ s) rfl)

theorem unexpectedReport_fleet (h : s.FleetBut out loose) (u : DoorUnitName) (b : BusyCommand) (r : DoorResult) :
    (s.unexpectedReport u b r).FleetBut out loose := h.does (State.unexpectedReport_does u b r (Does.refl _ s) rfl)

theorem faultReport_fleet (h : s.FleetBut out loose) (u : DoorUnitName) (b : BusyCommand) {e : StationEntry}
    (he : e ∈ s.ctr.queue) : (s.faultReport u b e).FleetBut out loose :=
  completeUnit_fleet (modRecord_fleet ((changeDoor_fleet h he .fault).does
    (State.driveFault_does u b.cmd .faultReport (Does.refl _ _) rfl)) _ _) _ _

theorem takeMatched_fleet (h : s.FleetBut out loose) (u : DoorUnitName) (b : BusyCommand) {e : StationEntry}
    (he : e ∈ s.ctr.queue) (p : DoorProfile) (r : DoorResult) : (s.takeMatched u b e p r).FleetBut out loose := by
  unfold State.takeMatched
  split
  · exact completeUnit_fleet ((changeDoor_fleet h he _).does (State.enterOpen_does e (Does.refl _ _) rfl)) _ _
  · dsimp only
    have hclosed := (changeDoor_fleet h he .closed).does (State.startSettle_does e (Does.refl _ _) rfl)
    split
    · exact completeUnit_fleet hclosed _ _
    · exact hclosed.does (State.extendDeadline_does u b _ (Does.refl _ _) rfl)
  · exact (changeDoor_fleet h he _).does (State.extendDeadline_does u b _ (Does.refl _ _) rfl)
  · exact completeUnit_fleet ((changeDoor_fleet h he _).does (State.reopenDoor_does e p (Does.refl _ _) rfl)) _ _
  · exact completeUnit_fleet (modRecord_fleet (changeDoor_fleet h he _) _ _) _ _
  · exact completeUnit_fleet (modRecord_fleet (changeDoor_fleet h he _) _ _) _ _
  · split
    · exact faultReport_fleet h u b he
    · exact unexpectedReport_fleet h u b _
  · exact unexpectedReport_fleet h u b _

theorem takeDoorReport_fleet (h : s.FleetBut out loose) (u : DoorUnitName) (field : Nat) (r : DoorResult) :
    (s.takeDoorReport u field r).FleetBut out loose := by
  unfold State.takeDoorReport
  split
  · unfold State.reportWhileBusy
    split
    · split
      · rename_i e p he hp
        exact takeMatched_fleet h u _ (mem_of_entry he) p r
      · exact h.does (State.departedReport_does u _ r (Does.refl _ s) rfl)
    · exact h.does (State.unmatchedReport_does u field _ (Does.refl _ s) rfl)
  · split
    · exact h.does (State.lateDoorReport_does u _ (Does.refl _ s) rfl)
    · exact h.does (State.unmatchedReport_does u field _ (Does.refl _ s) rfl)

theorem takeDoorFrame_fleet (h : s.FleetBut out loose) (e : IngressEntry) : (s.takeDoorFrame e).FleetBut out loose := by
  unfold State.takeDoorFrame
  split
  · exact takeDoorReport_fleet h _ _ _
  · exact h

theorem revertDoor_fleet (h : s.FleetBut out loose) (b : BusyCommand) : (s.revertDoor b).FleetBut out loose := by
  unfold State.revertDoor
  split
  · rename_i e he
    exact changeDoor_fleet h (mem_of_entry he) _
  · exact h

theorem takeDoorNack_fleet (h : s.FleetBut out loose) (u : DoorUnitName) (b : BusyCommand) (x : Bool) :
    (s.takeDoorNack u b x).FleetBut out loose := by
  have hreverted := revertDoor_fleet h b
  unfold State.takeDoorNack
  dsimp only
  split
  · exact hreverted.does (State.abandonDoor_does u b.cmd .unsupported (Does.refl _ _) rfl)
  · split
    · exact hreverted.does (State.refuseDoor_does u b.cmd b.tag b.retries (Does.refl _ _) rfl)
    · exact hreverted.does (State.unitToIdle_does u (Does.refl _ _) rfl)

theorem takeDoorRefusal_fleet (h : s.FleetBut out loose) (f : RingFrame) : (s.takeDoorRefusal f).FleetBut out loose := by
  unfold State.takeDoorRefusal
  dsimp only
  split
  · split
    · exact takeDoorNack_fleet h _ _ _
    · exact takeDoorNack_fleet h _ _ _
  · exact takeDoorNack_fleet h _ _ _
  · exact takeDoorNack_fleet h _ _ _
  · exact h.does (State.report_does _ _ _ _ (does_setDsq (Does.refl _ s) (.inl rfl)) rfl)

/-! ## Deadlines, settle times and the operator's holds (R100, R102, R106, R109) -/

theorem timeoutUnit_fleet (h : s.FleetBut out loose) (u : DoorUnitName) : (s.timeoutUnit u).FleetBut out loose := by
  unfold State.timeoutUnit
  split
  · rename_i b hb
    unfold State.doorTimeout
    dsimp only
    refine completeUnit_fleet (State.FleetBut.does (report_fleet ?_ _ _ _ _)
      (State.setDoorUnit_does u _ (Does.refl _ _) rfl)) _ _
    have hraised := raise_fleet h .doorTimeout b.cmd.id
    unfold State.timeoutDoor
    split
    · rename_i e he
      exact modRecord_fleet (changeDoor_fleet hraised (mem_of_entry he) _) _ _
    · exact hraised
  · exact h

theorem settleOver_fleet (h : s.FleetBut out loose) (n : Nat) : (s.settleOver n).FleetBut out loose := by
  have hx := modRecord_fleet h n fun r => { r with settle := none }
  unfold State.settleOver
  dsimp only
  split
  · rename_i e r he hr
    split
    · unfold State.lockAfterSettle
      split
      · exact changeDoor_fleet hx (mem_of_entry he) _
      · split
        · exact hx.does (State.issueDoor_does _ _ (Does.refl _ _) rfl)
        · exact hx
    · exact hx
  · exact hx

theorem leaveReach_fleet (h : s.FleetBut out loose) (e : StationEntry) : (s.leaveReach e).FleetBut out loose := by
  unfold State.leaveReach
  refine State.FleetBut.does (setHoldOpen_fleet (modRecord_fleet ?_ _ _) e false)
    (State.withdrawAllFor_does _ (Does.refl _ _) rfl)
  exact h.does (State.checkLocked_does e (Does.refl _ s) rfl)

theorem takeHoldOpen_fleet (h : s.FleetBut out loose) (e : StationEntry) : (s.takeHoldOpen e).FleetBut out loose :=
  (setHoldOpen_fleet h e true).does (State.withdrawClose_does _ (Does.refl _ _) rfl)

theorem takeReleaseHold_fleet (h : s.FleetBut out loose) (e : StationEntry) : (s.takeReleaseHold e).FleetBut out loose :=
  (setHoldOpen_fleet h e false).does (State.closeTest_does _ (Does.refl _ _) rfl)

end Sys2Proof.Machine
end
section
/-!
PROOFS. The conservation of the fleet (O27), thirteenth part: the rope position unit and the position update (chapter 1).
-/

namespace Sys2Proof.Machine

variable {s t : State} {out loose : Set Nat}

/-! ## The invalidation of the park record (R189) -/

theorem startInvalidation_fleet (h : s.FleetBut out loose) : s.startInvalidation.FleetBut out loose := by
  refine h.calm (calm_of_store (State.startInvalidation_does (Does.refl _ s) rfl) (fun w hw => ?_) (fun x hx => hx)
    (fun x hx => hx) fun x hx => by cases hx)
  obtain rfl := Option.some.inj hw
  exact .inl ⟨rfl, nofun⟩

theorem ropeStarted_fleet (h : s.FleetBut out loose) : s.ropeStarted.FleetBut out loose := by
  have hd : Does 268041227 s s.ropeStarted := State.ropeStarted_does (Does.refl _ s) rfl
  unfold State.ropeStarted at hd ⊢
  split at hd
  · rwa [if_pos (by assumption)]
  · rw [if_neg (by assumption)]
    split at hd
    · exact startInvalidation_fleet h
    · exact h.calm (calm_of_store hd (fun w hw => .inr ⟨w, hw, rfl, id⟩) (fun x hx => hx) (fun x hx => hx) fun x hx => hx)

theorem setRpu_fleet (h : s.FleetBut out loose) {r : Rpu} (hr : r.window = s.rpu.window ∧ r.q = s.rpu.q) :
    (s.setRpu r).FleetBut out loose := h.does (does_setRpu (Does.refl _ s) (.inl rfl) hr)

theorem setMotion_fleet (h : s.FleetBut out loose) (m : Motion) : (s.setMotion m).FleetBut out loose := by
  unfold State.setMotion
  split
  · exact h
  · have hset : (s.setRpu { s.rpu with motion := m }).FleetBut out loose := by exact setRpu_fleet h ⟨rfl, rfl⟩
    dsimp only
    split
    · exact ropeStarted_fleet hset
    · exact hset

theorem setStillness_fleet (h : s.FleetBut out loose) (x : Option Ms) : (s.setStillness x).FleetBut out loose := by
  exact setRpu_fleet h ⟨rfl, rfl⟩

theorem moving_fleet (h : s.FleetBut out loose) (m : Motion) : (s.moving m).FleetBut out loose :=
  setMotion_fleet (setStillness_fleet h none) m

theorem judgeMotion_fleet (h : s.FleetBut out loose) : s.judgeMotion.FleetBut out loose := by
  unfold State.judgeMotion State.slow
  repeat' split
  · exact moving_fleet h _
  · exact moving_fleet h _
  · exact moving_fleet h _
  · exact h
  · exact setStillness_fleet h _
  · exact h

/-! ## Position updates (R8, R9, R51) -/

theorem markOverdue_fleet (h : s.FleetBut out loose) (c : Cause) (k : EventKind) (i j : Nat) (x : Int) :
    (s.markOverdue c k i j x).FleetBut out loose :=
  report_fleet (raise_fleet (modReg_fleet h i (f := fun r => { r with overdue := true }) (fun _ => rfl) (fun _ => rfl)
    fun _ _ => ⟨rfl, rfl⟩) _ _) _ _ _ _

theorem trackUpdate_fleet (h : s.FleetBut out loose) : s.trackUpdate.FleetBut out loose := by
  have hup : s.checkUphill.FleetBut out loose := by
    unfold State.checkUphill
    dsimp only
    repeat' split
    · exact markOverdue_fleet h _ _ _ _ _
    · exact h
    · exact h
  unfold State.trackUpdate State.checkDownhill
  dsimp only
  repeat' split
  · exact markOverdue_fleet hup _ _ _ _ _
  · exact hup
  · exact hup

theorem setRecord_fleet (h : s.FleetBut out loose) (x : SafetyTables) : (s.setRecord x).FleetBut out loose := by
  exact setRpu_fleet h ⟨rfl, rfl⟩

theorem positionUpdate_fleet (h : s.FleetBut out ∅) : s.positionUpdate.FleetBut out ∅ := by
  unfold State.positionUpdate State.updateRope
  split
  · exact h
  · exact takeReport_fleet (trackUpdate_fleet (takeReport_fleet (launchUpdate_fleet (setRecord_fleet (takeReport_fleet h) _))))

theorem quietUpdate_fleet (h : s.FleetBut out ∅) : s.quietUpdate.FleetBut out ∅ := by
  unfold State.quietUpdate
  split
  · exact h
  · exact trackUpdate_fleet (launchUpdate_fleet (setRecord_fleet h _))

/-! ## Samples, their loss and marks (R1 to R16) -/

theorem takeCounts_fleet (h : s.FleetBut out loose) (x : SafetyTables) (a b c d : Nat) :
    (s.takeCounts x a b c d).FleetBut out loose := by
  unfold State.takeCounts
  exact judgeMotion_fleet (h.does (State.updateSpeed_does _ _ (State.addTravel_does _ (State.judgeSlip_does _ _
    (State.judgeChannels_does _ (State.storeCounts_does _ _ _ (Does.refl _ s) rfl) rfl) rfl) rfl) rfl))

theorem acceptSample_fleet (h : s.FleetBut out ∅) (x : SafetyTables) (n a b : Nat) :
    (s.acceptSample x n a b).FleetBut out ∅ := by
  have hkept : (s.setRpu { s.rpu with seqPrev := some n, tachLoss := some (s.after (5 * x.ts)) }).FleetBut out ∅ := by
    exact setRpu_fleet h ⟨rfl, rfl⟩
  unfold State.acceptSample
  dsimp only
  refine positionUpdate_fleet ?_
  split
  · exact takeCounts_fleet hkept _ _ _ _ _
  · exact hkept.does (State.primeChannels_does _ _ (Does.refl _ _) rfl)

theorem takeSample_fleet (h : s.FleetBut out ∅) (x : SafetyTables) (n a b : Nat) :
    (s.takeSample x n a b).FleetBut out ∅ := by
  unfold State.takeSample
  dsimp only
  repeat' split
  · exact acceptSample_fleet h _ _ _ _
  · exact acceptSample_fleet h _ _ _ _
  · exact acceptSample_fleet (h.does (State.tachGap_does _ (Does.refl _ s) rfl)) _ _ _ _
  · exact setRpu_fleet h ⟨rfl, rfl⟩

theorem loseTach_fleet (h : s.FleetBut out ∅) : s.loseTach.FleetBut out ∅ := by
  unfold State.loseTach
  dsimp only
  refine positionUpdate_fleet (judge_fleet (judge_fleet (judge_fleet (judge_fleet (setMotion_fleet ?_ _) _ _ _) _ _ _)
    _ _ _) _ _ _)
  exact (judge_fleet h .tachLost true none).does (Does.setRpu (Does.refl _ _) (.inl rfl) fun hb => ⟨Nat.zero_le _, hb.2⟩)

theorem becomeStopped_fleet (h : s.FleetBut out loose) : s.becomeStopped.FleetBut out loose :=
  withdrawRelease_fleet ((setMotion_fleet (setStillness_fleet h none) .stopped).does
    (State.handMotion_does (Does.refl _ _) rfl)) false

theorem takeMark_fleet (h : s.FleetBut out ∅) (x : SafetyTables) : (s.takeMark x).FleetBut out ∅ := by
  unfold State.takeMark State.laterMark State.correctReference State.firstMark
  dsimp only
  repeat' split
  · exact positionUpdate_fleet (judge_fleet (report_fleet (by exact setRpu_fleet h ⟨rfl, rfl⟩) _ _ _ _) _ _ _)
  · exact judge_fleet h _ _ _
  · exact positionUpdate_fleet (judge_fleet (by exact setRpu_fleet h ⟨rfl, rfl⟩) _ _ _)

end Sys2Proof.Machine
end
section
/-!
PROOFS. The conservation of the fleet (O27), fourteenth part: the passages through the station (R66, R67, R70 to R73).
-/

namespace Sys2Proof.Machine

variable {s t : State} {out loose : Set Nat}

/-! ## An entry moves within the queue (R66, R67) -/

theorem moveEntry_fleet (h : s.FleetBut out loose) {e : StationEntry} (he : e ∈ s.ctr.queue) (hseg : e.segment ≠ .s7)
    (g : Segment) : (s.moveEntry e g).FleetBut out loose :=
  judgeSegments_fleet (modEntry_fleet h _ fun _ hx hn =>
    ⟨rfl, rfl, fun h7 => absurd (eq_of_serial h.entries hx he hn ▸ h7) hseg⟩)

theorem newest_mem {g : Segment} {e : StationEntry} (h : s.newest g = some e) : e ∈ s.ctr.queue ∧ e.segment = g := by
  obtain ⟨hq, hg⟩ := List.mem_filter.mp (List.mem_of_getLast? h)
  exact ⟨hq, of_decide_eq_true hg⟩

theorem moveEntry_offUphill (h : s.FleetBut out loose) {e : StationEntry} (he : e ∈ s.ctr.queue) (g : Segment) :
    (s.moveEntry e g).OffUphill e := fun i hw => by
  rw [reg_congr (State.moveEntry_does (m := 4292640) e g (Does.refl _ s) rfl).registry_eq]
  exact not_uphill_of_entry h he hw

theorem phantom_fleet (h : s.FleetBut out loose) (n : Nat) : (s.phantom n).FleetBut out loose :=
  report_fleet (raise_fleet h _ _) _ _ _ _

theorem reversePassage_fleet (h : s.FleetBut out loose) (n : Nat) : (s.reversePassage n).FleetBut out loose :=
  report_fleet (raise_fleet h _ _) _ _ _ _

section
variable {source dest : Segment} {act : State → StationEntry → State} (n : Nat)
  (hact : ∀ (x : State) (e : StationEntry), x.FleetBut out loose → x.OffUphill e → (act x e).FleetBut out loose)
include hact

theorem passForward_fleet (h : s.FleetBut out loose) (hsource : source ≠ .s7) :
    (s.passForward n source dest act).FleetBut out loose := by
  unfold State.passForward
  split
  · rename_i e he
    obtain ⟨hmem, hseg⟩ := oldest_mem he
    exact hact _ e (moveEntry_fleet h hmem (hseg ▸ hsource) dest) (moveEntry_offUphill h hmem dest)
  · exact phantom_fleet h n

theorem passBackward_fleet (h : s.FleetBut out loose) (hsource : source ≠ .s7) :
    (s.passBackward n source dest act).FleetBut out loose := by
  unfold State.passBackward
  split
  · rename_i e he
    obtain ⟨hmem, hseg⟩ := newest_mem he
    exact hact _ e (moveEntry_fleet h hmem (hseg ▸ hsource) dest) (moveEntry_offUphill h hmem dest)
  · exact phantom_fleet h n

end

theorem afterD4_fleet (h : s.FleetBut out loose) (e : StationEntry) : (s.afterD4 e).FleetBut out loose :=
  judgeGarageExit_fleet ((leaveReach_fleet h e).does (State.checkMerge_does e (Does.refl _ _) rfl))

theorem takePassage_fleet (h : s.FleetBut out loose) (r : Role) : (s.takePassage r).FleetBut out loose := by
  unfold State.takePassage
  split
  · exact passForward_fleet 2 (fun x e hx _ => hx.does (State.openAtD2_does e (Does.refl _ x) rfl)) h nofun
  · exact passForward_fleet 3 (fun x e hx _ => hx.does (State.requestClose_does e (Does.refl _ x) rfl)) h nofun
  · exact passForward_fleet 4 (fun x e hx _ => afterD4_fleet hx e) h nofun
  · exact h

theorem exitIfEmptied_fleet (h : s.FleetBut out loose) (b : State) : (s.exitIfEmptied b).FleetBut out loose := by
  unfold State.exitIfEmptied
  split
  · exact judgeGarageExit_fleet h
  · exact h

theorem takeBackPassage_fleet (h : s.FleetBut out loose) (r : Role) : (s.takeBackPassage r).FleetBut out loose := by
  unfold State.takeBackPassage
  split
  · exact passBackward_fleet 2 (fun x e hx _ => hx.does (State.backD2_does e (Does.refl _ x) rfl)) h nofun
  · exact passBackward_fleet 3 (fun x e hx _ => hx.does (State.backD3_does e (Does.refl _ x) rfl)) h nofun
  · refine exitIfEmptied_fleet (passBackward_fleet 4 (fun x e hx _ => ?_) h (by decide)) s
    exact hx.does (State.backD4_does e (Does.refl _ x) rfl)
  · exact h

/-! ## The grip test and the route (R70, R71) -/

theorem judgeGrip_fleet (h : s.FleetBut out loose) {e : StationEntry} (he : s.OffUphill e) (f : Nat) :
    (s.judgeGrip e f).FleetBut out loose := by
  have hset : ∀ (r : Rmn) (v : GripVerdict) (x : Option Nat), r.towers = s.rmn.towers →
      ((s.setRmn r).setGrip e v x).FleetBut out loose := fun r v x hr =>
    setGrip_fleet (h.does (does_setRmn (Does.refl _ s) (.inl rfl) hr)) he v x
  unfold State.judgeGrip State.judgeForce
  dsimp only
  split
  · split
    · exact hset _ _ _ rfl
    · exact report_fleet (raise_fleet (by exact hset _ _ _ rfl) _ _) _ _ _ _
  · exact report_fleet (by exact hset _ _ _ rfl) _ _ _ _

theorem setRoute_fleet (h : s.FleetBut out loose) (e : StationEntry) (r : Route) : (s.setRoute e r).FleetBut out loose := by
  exact modEntry_fleet h _ fun x _ _ => ⟨rfl, rfl, id⟩

theorem routeEntry_fleet (h : s.FleetBut out loose) (e : StationEntry) : (s.routeEntry e).FleetBut out loose := by
  unfold State.routeEntry
  split
  · exact setRoute_fleet h e _
  · have hforced := (setRoute_fleet h e .line).does (State.reportForced_does e (Does.refl _ _) rfl)
    unfold State.dropGarageNext
    split
    · split
      · exact report_fleet (modReg_fleet hforced _ (f := fun r => { r with garageNext := false }) (fun _ => rfl)
          (fun _ => rfl) fun _ _ => ⟨rfl, rfl⟩) _ _ _ _
      · exact hforced
    · exact hforced

theorem takeGrip_fleet (h : s.FleetBut out loose) (f : Nat) : (s.takeGrip f).FleetBut out loose := by
  refine exitIfEmptied_fleet (passForward_fleet 5 (fun x e hx he => ?_) h (by decide)) s
  exact judgeSwitch_fleet (routeEntry_fleet (judgeGrip_fleet hx he f) _)

theorem takeBackGrip_fleet (h : s.FleetBut out loose) : s.takeBackGrip.FleetBut out loose :=
  passBackward_fleet 5 (fun _ _ hx _ => judgeSwitch_fleet hx) h nofun

theorem takeBackSwitch_fleet (h : s.FleetBut out loose) : s.takeBackSwitch.FleetBut out loose :=
  passBackward_fleet 6 (fun _ _ hx _ => judgeSwitch_fleet (reportHead_fleet hx)) h nofun

end Sys2Proof.Machine
end
section
/-!
PROOFS. The conservation of the fleet (O27), fifteenth part: entries that join the station queue and the garage stack (R64, R65,
R73, R77, R84).
-/

namespace Sys2Proof.Machine

variable {s t : State} {out loose : Set Nat}

/-! ## Whoever stands in an entry joins a collection -/

/-- The part of the tracker besides the station queue, the stack and the serials is left as it is. -/
structure SameLines (s t : State) : Prop where
  lgt : t.lgt = s.lgt
  uphill : t.ctr.uphill = s.ctr.uphill
  downhill : t.ctr.downhill = s.ctr.downhill
  summit : t.ctr.summit = s.ctr.summit
  unlocated : t.ctr.unlocated = s.ctr.unlocated
  slots : t.ctr.slots = s.ctr.slots
  store : SameStore s t

/-- The registry records that whoever was in `g` stands in `l`, and leaves the doors and verdicts of the others. -/
structure Located (s t : State) (g : Option Nat) (l : Location) : Prop where
  stats : t.registry.map RegEntry.stat = s.registry.map RegEntry.stat
  location : ∀ j, (t.reg j).location = if g = some j then l else (s.reg j).location
  doors : ∀ j, g ≠ some j → (t.reg j).door = (s.reg j).door ∧ (t.reg j).verdict = (s.reg j).verdict

theorem located_of_none (h : t.registry = s.registry) (l : Location) : Located s t none l :=
  ⟨by rw [h], fun j => by rw [reg_congr h]; rfl, fun j _ => by rw [reg_congr h]; exact ⟨rfl, rfl⟩⟩

theorem located_of_reg {i : Nat} {l : Location} {f : RegEntry → RegEntry} (hi : i < s.registry.length)
    (hlen : t.registry.length = s.registry.length)
    (hreg : ∀ j, t.reg j = if i = j ∧ i < s.registry.length then f (s.reg i) else s.reg j)
    (hstat : ∀ r, (f r).stat = r.stat) (hloc : ∀ r, (f r).location = l) : Located s t (some i) l := by
  refine ⟨stats_of_reg hlen fun j => ?_, fun j => ?_, fun j hj => ?_⟩
  · rw [hreg]
    split
    · rename_i hij
      rw [hstat, hij.1]
    · rfl
  · rw [hreg]
    by_cases hij : i = j
    · rw [if_pos ⟨hij, hi⟩, hloc, if_pos (by rw [hij])]
    · rw [if_neg fun hc => hij hc.1, if_neg fun hc => hij (Option.some.inj hc)]
  · rw [hreg, if_neg fun hc => hj (by rw [hc.1])]
    exact ⟨rfl, rfl⟩

theorem located_of_modReg {x : State} {i : Nat} {l : Location} {f : RegEntry → RegEntry} (hx : x.registry = s.registry)
    (hi : i < s.registry.length) (hstat : ∀ r, (f r).stat = r.stat) (hloc : ∀ r, (f r).location = l) :
    Located s (x.modReg i f) (some i) l := by
  refine located_of_reg hi (by rw [modReg_registry_length, hx]) (fun j => ?_) hstat hloc
  rw [modReg_reg, reg_congr hx, reg_congr hx, hx]

/-- Whoever was in `g` joins the station queue or the stack. -/
theorem State.FleetBut.joinStanding (h : s.FleetBut out loose) {g : Option Nat} {l : Location} (hl : l ≠ .uphill)
    (hg : ∀ i, g = some i → i ∈ out) (hsame : SameLines s t) (hjoin : (t.members l).Perm (g.toList ++ s.members l))
    (hother : ∀ m, m ≠ l → t.members m = s.members m) (hlocated : Located s t g l) (hentries : t.entriesAgree) :
    t.FleetBut (out \ cabinsOf g) loose := by
  refine h.join (l := l) hsame.store hg (fun m j => ?_) (fun m => ?_) hlocated.stats hlocated.location (fun j hj => ?_)
    hentries (by rw [hsame.slots]) (slotsBut_congr h.slots hsame.lgt hsame.uphill hsame.downhill hsame.slots)
  · by_cases hm : m = l
    · rw [hm, hjoin.mem_iff, List.mem_append, Option.mem_toList]
      simp [or_comm]
    · rw [hother m hm]
      simp [hm]
  · by_cases hm : m = l
    · rw [hm, hjoin.nodup_iff]
      cases g with
      | none => exact h.nodup l
      | some i => exact List.nodup_cons.mpr ⟨h.not_member (hg i rfl) l, h.nodup l⟩
    · rw [hother m hm]
      exact h.nodup m
  · rw [hother .uphill (Ne.symm hl)] at hj
    have hgj : g ≠ some j := fun he => h.not_member (hg j he) .uphill hj
    rw [(hlocated.doors j hgj).1, (hlocated.doors j hgj).2]
    exact h.ready j hj

theorem filterMap_cons_toList {α β : Type} (f : α → Option β) (x : α) (l : List α) :
    (x :: l).filterMap f = (f x).toList ++ l.filterMap f := by
  cases hx : f x <;> simp [hx]

/-- An entry joins the station queue. -/
theorem addEntry_fleet (h : s.FleetBut out loose) {x : StationEntry} (hx : ∀ i, x.who.index = some i → i ∈ out)
    (hsame : SameLines s t) (hqueue : t.ctr.queue.Perm (x :: s.ctr.queue)) (hgarage : t.ctr.garage = s.ctr.garage)
    (hfresh : (∀ y ∈ s.ctr.queue, y.serial ≠ x.serial) ∧ ∀ g ∈ s.ctr.garage, g.serial ≠ x.serial)
    (hlocated : Located s t x.who.index .station) : t.FleetBut (out \ cabinsOf x.who.index) loose := by
  obtain ⟨hserials, hwatch, hs7⟩ := h.entries
  refine h.joinStanding (l := .station) nofun hx hsame ?_ (fun m hm => ?_) hlocated ⟨?_, by rw [hsame.lgt]; exact hwatch,
    fun w hw => ?_⟩
  · exact (hqueue.filterMap _).trans (by rw [filterMap_cons_toList]; exact List.Perm.refl _)
  · cases m with
    | station => exact absurd rfl hm
    | garage => simp only [State.members, hgarage]
    | uphill => simp only [State.members, hsame.uphill]
    | downhill => simp only [State.members, hsame.downhill]
    | summit => simp only [State.members, hsame.summit]
    | unlocated => simp only [State.members, hsame.unlocated]
    | outOfService => rfl
  · rw [hgarage, ((hqueue.map StationEntry.serial).append_right _).nodup_iff]
    refine List.nodup_cons.mpr ⟨fun hmem => ?_, hserials⟩
    rcases List.mem_append.mp hmem with hm | hm
    · obtain ⟨y, hy, he⟩ := List.mem_map.mp hm
      exact hfresh.1 y hy he
    · obtain ⟨y, hy, he⟩ := List.mem_map.mp hm
      exact hfresh.2 y hy he
  · rw [hsame.lgt] at hw
    obtain ⟨e, he, hrest⟩ := hs7 w hw
    exact ⟨e, hqueue.mem_iff.mpr (List.mem_cons_of_mem _ he), hrest⟩

/-- An entry is pushed on the garage stack. -/
theorem pushEntry_fleet (h : s.FleetBut out loose) {x : GarageEntry} (hx : ∀ i, x.who.index = some i → i ∈ out)
    (hsame : SameLines s t) (hqueue : t.ctr.queue = s.ctr.queue) (hgarage : t.ctr.garage = x :: s.ctr.garage)
    (hfresh : (∀ y ∈ s.ctr.queue, y.serial ≠ x.serial) ∧ ∀ g ∈ s.ctr.garage, g.serial ≠ x.serial)
    (hlocated : Located s t x.who.index .garage) : t.FleetBut (out \ cabinsOf x.who.index) loose := by
  obtain ⟨hserials, hwatch, hs7⟩ := h.entries
  refine h.joinStanding (l := .garage) nofun hx hsame ?_ (fun m hm => ?_) hlocated ⟨?_, by rw [hsame.lgt]; exact hwatch,
    fun w hw => ?_⟩
  · simp only [State.members, hgarage]
    rw [filterMap_cons_toList]
  · cases m with
    | garage => exact absurd rfl hm
    | station => simp only [State.members, hqueue]
    | uphill => simp only [State.members, hsame.uphill]
    | downhill => simp only [State.members, hsame.downhill]
    | summit => simp only [State.members, hsame.summit]
    | unlocated => simp only [State.members, hsame.unlocated]
    | outOfService => rfl
  · rw [hgarage, hqueue, List.map_cons, List.perm_middle.nodup_iff]
    refine List.nodup_cons.mpr ⟨fun hmem => ?_, hserials⟩
    rcases List.mem_append.mp hmem with hm | hm
    · obtain ⟨y, hy, he⟩ := List.mem_map.mp hm
      exact hfresh.1 y hy he
    · obtain ⟨y, hy, he⟩ := List.mem_map.mp hm
      exact hfresh.2 y hy he
  · rw [hsame.lgt] at hw
    rw [hqueue]
    exact hs7 w hw

/-! ## The switch into the garage (R73) -/

theorem toLaunchQueue_fleet (h : s.FleetBut out loose) {e : StationEntry} (he : e ∈ s.ctr.queue) (hseg : e.segment ≠ .s7) :
    (s.toLaunchQueue e).FleetBut out loose :=
  reportHead_fleet (judgeSegments_fleet (modEntry_fleet h _ (f := fun x => { x with segment := .s6, route := .line })
    fun _ hx hn => ⟨rfl, rfl, fun h7 => absurd (eq_of_serial h.entries hx he hn ▸ h7) hseg⟩))

theorem leaveStation_garage (s : State) (e : StationEntry) : (s.leaveStation e).ctr.garage = s.ctr.garage :=
  (leaveStation_does' s e).garage_eq

/-- The serial of an entry of the queue is free once it has left. -/
theorem serial_free_of_left (h : s.entriesAgree) {e : StationEntry} (he : e ∈ s.ctr.queue) :
    (∀ y ∈ (s.leaveStation e).ctr.queue, y.serial ≠ e.serial) ∧ ∀ g ∈ (s.leaveStation e).ctr.garage, g.serial ≠ e.serial := by
  rw [State.leaveStation_queue, leaveStation_garage]
  refine ⟨fun y hy => of_decide_eq_true (List.mem_filter.mp hy).2, fun g hg hs => ?_⟩
  exact (List.disjoint_of_nodup_append h.1) (List.mem_map_of_mem he) (hs ▸ List.mem_map_of_mem hg)

theorem toGarage_fleet (h : s.FleetBut ∅ loose) {e : StationEntry} (he : e ∈ s.ctr.queue) :
    (s.toGarage e).FleetBut ∅ loose := by
  have hleft := leaveStation_fleet h he
  rw [Set.empty_union] at hleft
  unfold State.toGarage
  refine judgeGarageExit_fleet ?_
  have hfree := serial_free_of_left h.entries he
  have hjoined := pushEntry_fleet hleft (x := { serial := e.serial, who := e.who })
    (t := (((s.leaveStation e).pushGarage { serial := e.serial, who := e.who }).garageCabin e.who)) (fun i hi => hi) ?_ ?_ ?_
    hfree ?_
  · rwa [sdiff_self] at hjoined
  · unfold State.garageCabin
    split <;> exact ⟨rfl, rfl, rfl, rfl, rfl, rfl, rfl, rfl, rfl, rfl⟩
  · unfold State.garageCabin
    split <;> rfl
  · unfold State.garageCabin
    split <;> rfl
  · unfold State.garageCabin
    split
    · rename_i i hw
      have hlt : i < (s.leaveStation e).registry.length := hleft.lt_registry (by rw [hw]; rfl)
      change Located _ _ e.who.index _
      rw [hw]
      exact located_of_modReg rfl hlt (fun _ => rfl) fun _ => rfl
    · rename_i hw
      change Located _ _ e.who.index _
      rw [hw]
      exact located_of_none (by rfl) .garage

theorem garageOverflow_fleet (h : s.FleetBut ∅ ∅) {e : StationEntry} (he : e ∈ s.ctr.queue) :
    (s.garageOverflow e).FleetBut ∅ ∅ := by
  have hraised : (s.stationOverflow (s.whoId e.who)).FleetBut ∅ ∅ := raise_fleet h _ _
  have hmem : e ∈ (s.stationOverflow (s.whoId e.who)).ctr.queue := he
  unfold State.garageOverflow
  dsimp only
  split
  · rename_i i hw
    exact unlocate_fleet hraised (hraised.inPlace (l := .station) (List.mem_filterMap.mpr ⟨e, hmem, by rw [hw]; rfl⟩)) _
  · rename_i hw
    have hindex : e.who.index = none := by rw [hw]; rfl
    have hleft := leaveStation_fleet hraised hmem
    rwa [hindex, cabinsOf_none, Set.empty_union] at hleft

theorem takeSwitch_fleet (h : s.FleetBut ∅ ∅) (p : SwitchPosition) : (s.takeSwitch p).FleetBut ∅ ∅ := by
  unfold State.takeSwitch
  split
  · rename_i e he
    obtain ⟨hmem, hseg⟩ := oldest_mem he
    refine judgeSwitch_fleet (State.FleetBut.does ?_ (State.checkRoute_does e p (Does.refl _ _) rfl))
    unfold State.crossSwitch
    split
    · exact toLaunchQueue_fleet h hmem (by rw [hseg]; exact nofun)
    · split
      · exact toGarage_fleet h hmem
      · exact garageOverflow_fleet h hmem
  · exact phantom_fleet h 6

end Sys2Proof.Machine
end
section
/-!
PROOFS. The conservation of the fleet (O27), sixteenth part: arrivals at D1 and the garage exit (R64, R65, R77, R79).
-/

namespace Sys2Proof.Machine

variable {s t : State} {out loose : Set Nat}

/-! ## The registry entry of a cabin on its way -/

theorem modOut_fleet (h : s.FleetBut out loose) {i : Nat} (hi : i ∈ out) {f : RegEntry → RegEntry}
    (hf : ∀ r, (f r).stat = r.stat) : (s.modReg i f).FleetBut out loose := by
  have hstats := modReg_stats s i hf
  have hstat := stat_of_stats hstats
  have hreg : ∀ j, j ∉ out → (s.modReg i f).reg j = s.reg j := fun j hj => by
    rw [modReg_reg, if_neg]
    rintro ⟨rfl, -⟩
    exact hj hi
  refine ⟨by rw [modReg_registry_length]; exact h.registered, h.nodup, fun l j hj => ?_, fun j hj hout => ?_, fun j hj => ?_,
    h.slots, h.entries, fun j hj => ?_, h.geometry, ?_⟩
  · obtain ⟨hout, hrest⟩ := h.member l j hj
    rw [hreg j hout]
    exact ⟨hout, hrest⟩
  · rw [hreg j hout]
    exact h.placed j hj hout
  · rw [hstat]
    exact h.outside j hj
  · rw [hreg j (h.member .uphill j hj).1]
    exact h.ready j hj
  · exact storeAgrees_of_same h.stored ⟨rfl, rfl, rfl, rfl⟩ hstats

theorem located_of_location (h : t.registry = s.registry) {g : Option Nat} {l : Location}
    (hg : ∀ i, g = some i → (s.reg i).location = l) : Located s t g l := by
  refine ⟨by rw [h], fun j => ?_, fun j _ => by rw [reg_congr h]; exact ⟨rfl, rfl⟩⟩
  rw [reg_congr h]
  split
  · rename_i hj
    exact hg j hj
  · rfl

/-! ## Arrivals (R64, R65) -/

theorem freshSerial_not_held (h : s.ctr.bounded) :
    (∀ y ∈ s.ctr.queue, y.serial ≠ s.freshSerial) ∧ ∀ g ∈ s.ctr.garage, g.serial ≠ s.freshSerial :=
  not_mem_of_serialHeld (freshSerial_free h.1 h.2.1)

theorem joinAtD1_fleet (h : s.FleetBut out loose) {w : Who} (hw : ∀ i, w.index = some i → i ∈ out)
    (hl : ∀ i, w.index = some i → (s.reg i).location = .station) (hbound : s.ctr.bounded) :
    (s.joinAtD1 w).FleetBut (out \ cabinsOf w.index) loose := by
  unfold State.joinAtD1
  refine judgeSegments_fleet (State.FleetBut.does ?_ (State.setDoorRecords_does _ (Does.refl _ _) rfl))
  exact addEntry_fleet h
    (x := { serial := s.freshSerial, who := w, segment := .s1, route := .undecided, slotless := false }) hw
    ⟨rfl, rfl, rfl, rfl, rfl, rfl, rfl, rfl, rfl, rfl⟩ (List.perm_append_singleton _ _) rfl (freshSerial_not_held hbound)
    (located_of_location (by rfl) hl)

theorem State.Live.does {m : Nat} (h : s.Live) (hd : Does m s t) : t.Live := hd.2.2.2 h

theorem arriveRegistered_fleet (h : s.FleetBut ∅ ∅) (hlive : s.Live) {i : Nat} (hi : s.InPlace ∅ i) (b : Bool) :
    (s.arriveRegistered i b).FleetBut ∅ ∅ := by
  unfold State.arriveRegistered
  dsimp only
  refine State.FleetBut.does ?_ (State.sendHandover_does _ _ _ _ (Does.refl _ _) rfl)
  split
  · have hraised : (s.stationOverflow (some (s.idOf i))).FleetBut ∅ ∅ := raise_fleet h _ _
    have hjoined := joinUnlocated_fleet (matchArrival_fleet hraised .valley hi).1 (i := i) (.inr rfl)
    rw [union_diff_single hi.1] at hjoined
    refine State.FleetBut.does ?_ ((reportUnlocated_does' _ _ _ _).mono rfl)
    exact modReg_fleet hjoined i (f := fun r => { r with idAssumed := b, overdue := false }) (fun _ => rfl) (fun _ => rfl)
      fun _ _ => ⟨rfl, rfl⟩
  · have hmatched := (matchArrival_fleet h .valley hi).1
    have hlt : i < (s.matchArrival .valley i).registry.length := hmatched.lt_registry (.inr rfl)
    have hbound := (hlive.does (State.matchArrival_does (m := 4296692) .valley i (Does.refl _ s) rfl)).ctr
    have hjoined := joinAtD1_fleet (w := .cabin i)
      (modOut_fleet hmatched (i := i) (f := fun r => r.arrived b) (.inr rfl) fun _ => rfl)
      (fun j hj => .inr (Option.some.inj hj).symm) (fun j hj => ?_) hbound
    · rwa [Who.index, cabinsOf_some, union_diff_single hi.1] at hjoined
    · obtain rfl := Option.some.inj hj
      rw [modReg_reg, if_pos ⟨rfl, hlt⟩]
      rfl

theorem arriveAnonymous_fleet (h : s.FleetBut out ∅) (hlive : s.Live) : s.arriveAnonymous.FleetBut out ∅ := by
  unfold State.arriveAnonymous
  split
  · exact report_fleet (raise_fleet h _ _) _ _ _ _
  · have hjoined := joinAtD1_fleet h (w := .anon .locked .untested none) nofun nofun hlive.ctr
    rwa [Who.index, cabinsOf_none, Set.sdiff_empty] at hjoined

theorem takeArrival_fleet (h : s.FleetBut ∅ ∅) (hlive : s.Live) (id : Nat) : (s.takeArrival id).FleetBut ∅ ∅ := by
  have hcount := countUnread_does' s id
  have hcounted := h.does (hcount.mono rfl)
  have hlive' := hlive.does hcount
  unfold State.takeArrival
  dsimp only
  generalize s.countUnread id = y at *
  split
  · rename_i i b hidentity
    refine arriveRegistered_fleet hcounted hlive' ?_ b
    unfold State.arrivalIdentity at hidentity
    split at hidentity
    · obtain ⟨d, hd, he⟩ := Option.map_eq_some_iff.mp hidentity
      rw [← (Prod.mk.inj he).1]
      exact hcounted.inPlace (l := .downhill) (List.mem_map_of_mem (List.mem_of_head? hd))
    · obtain ⟨j, hj, he⟩ := Option.map_eq_some_iff.mp hidentity
      obtain ⟨hlook, hservice⟩ := Option.filter_eq_some_iff.mp hj
      rw [← (Prod.mk.inj he).1]
      exact inPlace_of_lookup hcounted (Set.notMem_empty _) hlook hservice
  · split
    · exact arriveAnonymous_fleet hcounted hlive'
    · have hunknown : Does 250739723 y (y.reportUnknownCabin id) := State.reportUnknownCabin_does id (Does.refl _ _) rfl
      exact arriveAnonymous_fleet (hcounted.does hunknown) (hlive'.does hunknown)

/-! ## The garage exit (R77, R79) -/

/-- Whoever is on top of the stack leaves it. -/
theorem popTop_fleet (h : s.FleetBut out loose) {g : GarageEntry} {rest : List GarageEntry} (hg : s.ctr.garage = g :: rest) :
    (s.setGarage rest).FleetBut (out ∪ cabinsOf g.who.index) loose := by
  have hmem : ∀ i, g.who.index = some i → i ∈ s.members .garage := fun i hi =>
    List.mem_filterMap.mpr ⟨g, by rw [hg]; exact List.mem_cons_self, hi⟩
  have hgarage : s.members .garage = g.who.index.toList ++ rest.filterMap fun x => x.who.index := by
    simp only [State.members, hg]
    exact filterMap_cons_toList ..
  have hnodup := h.nodup .garage
  rw [hgarage] at hnodup
  refine leaveSet_fleet h (fun i hi => ⟨(h.member _ i (hmem i hi)).2.1, (h.member _ i (hmem i hi)).2.2.1⟩) ?_
    (by rw [hg]; exact List.sublist_cons_self g rest) fun l => ?_
  · exact does_setCtr (Does.refl _ s) (.inr rfl) (.inl rfl) (.inr ⟨rfl, rfl⟩) (.inl rfl) (.inr rfl) (.inl rfl)
      ⟨Nat.le_refl _, by rw [hg]; exact Nat.le_succ _, Nat.le_refl _⟩
  · by_cases hl : l = .garage
    · subst hl
      rw [hgarage]
      change rest.filterMap _ = _
      cases hw : g.who.index with
      | none => exact (List.filter_eq_self.mpr fun j _ => by simp).symm
      | some i =>
        rw [hw] at hnodup
        rw [Option.toList_some, List.singleton_append, List.filter_cons_of_neg (by simp)]
        refine (List.filter_eq_self.mpr fun j hj => ?_).symm
        rw [decide_eq_true_iff]
        rintro he
        exact (List.nodup_cons.mp hnodup).1 (Option.some.inj he ▸ hj)
    · have hsame : (s.setGarage rest).members l = s.members l := by
        cases l with
        | garage => exact absurd rfl hl
        | _ => rfl
      rw [hsame]
      refine (List.filter_eq_self.mpr fun j hj => ?_).symm
      rw [decide_eq_true_iff]
      intro he
      have hloc := (h.member _ j (hmem j he)).2.2.2
      rw [(h.member l j hj).2.2.2] at hloc
      exact hl hloc

theorem placeInS4_perm (q : List StationEntry) (e : StationEntry) : (placeInS4 q e).Perm (e :: q) := by
  unfold placeInS4
  refine List.perm_middle.trans (List.Perm.cons e ?_)
  rw [List.takeWhile_append_dropWhile]

/-- The serial of the top of the stack is free once it has been popped. -/
theorem serial_free_of_popped (h : s.entriesAgree) {g : GarageEntry} {rest : List GarageEntry} (hg : s.ctr.garage = g :: rest) :
    (∀ y ∈ s.ctr.queue, y.serial ≠ g.serial) ∧ ∀ x ∈ rest, x.serial ≠ g.serial := by
  have hserials := h.1
  rw [hg, List.map_cons, List.perm_middle.nodup_iff, List.nodup_cons, List.mem_append, not_or] at hserials
  obtain ⟨⟨hqueue, hrest⟩, -⟩ := hserials
  exact ⟨fun y hy he => hqueue (he ▸ List.mem_map_of_mem hy), fun x hx he => hrest (he ▸ List.mem_map_of_mem hx)⟩

theorem exitToS4_fleet (h : s.FleetBut ∅ loose) {g : GarageEntry} {rest : List GarageEntry} (hg : s.ctr.garage = g :: rest) :
    ((s.setGarage rest).exitToS4 g).FleetBut ∅ loose := by
  have hpopped := popTop_fleet h hg
  rw [Set.empty_union] at hpopped
  have hfree := serial_free_of_popped h.entries hg
  have hjoined := addEntry_fleet hpopped (t := (s.setGarage rest).exitToS4 g)
    (x := { serial := g.serial, who := g.who, segment := .s4, route := .undecided, slotless := false })
    (fun i hi => hi) ?_ ?_ ?_ hfree ?_
  · rwa [sdiff_self] at hjoined
  · unfold State.exitToS4 State.locateWho
    split <;> exact ⟨rfl, rfl, rfl, rfl, rfl, rfl, rfl, rfl, rfl, rfl⟩
  · unfold State.exitToS4 State.locateWho
    split <;> exact placeInS4_perm _ _
  · unfold State.exitToS4 State.locateWho
    split <;> rfl
  · change Located _ _ g.who.index _
    unfold State.exitToS4 State.locateWho
    dsimp only
    split
    · rename_i i hw
      have hlt : i < (s.setGarage rest).registry.length := hpopped.lt_registry (by rw [hw]; rfl)
      rw [hw]
      exact located_of_modReg (f := fun r => { r with location := .station }) (by rfl) hlt (fun _ => rfl) fun _ => rfl
    · rename_i hw
      rw [hw]
      exact located_of_none (by rfl) .station

theorem exitToUnlocated_fleet (h : s.FleetBut ∅ loose) {g : GarageEntry} {rest : List GarageEntry} (hg : s.ctr.garage = g :: rest) :
    ((s.setGarage rest).exitToUnlocated g).FleetBut ∅ loose := by
  have hpopped := popTop_fleet h hg
  rw [Set.empty_union] at hpopped
  have hraised : ((s.setGarage rest).stationOverflow ((s.setGarage rest).whoId g.who)).FleetBut (cabinsOf g.who.index) loose :=
    raise_fleet hpopped _ _
  unfold State.exitToUnlocated
  dsimp only
  split
  · rename_i i hw
    have hindex : g.who.index = some i := by rw [hw]; rfl
    rw [hindex, cabinsOf_some] at hraised
    have hjoined := joinUnlocated_fleet hraised (Set.mem_singleton i)
    rw [sdiff_self] at hjoined
    exact hjoined.does ((reportUnlocated_does' _ _ _ _).mono rfl)
  · rename_i hw
    have hindex : g.who.index = none := by rw [hw]; rfl
    rwa [hindex, cabinsOf_none] at hraised

/-- CTR's counters and commands set, and none of its collections. -/
theorem setTrack_fleet (h : s.FleetBut out loose) {c : Ctr}
    (hc : c.queue = s.ctr.queue ∧ c.garage = s.ctr.garage ∧ c.uphill = s.ctr.uphill ∧ c.downhill = s.ctr.downhill ∧
      c.summit = s.ctr.summit ∧ c.unlocated = s.ctr.unlocated ∧ c.slots = s.ctr.slots)
    (hpending : c.exitPending ≤ s.ctr.exitPending) : (s.setCtr c).FleetBut out loose := by
  obtain ⟨h1, h2, h3, h4, h5, h6, h7⟩ := hc
  exact h.does (does_setCtr (Does.refl _ s) (.inr h1) (.inr h2) (.inr ⟨h3, h4⟩) (.inr ⟨h5, h6⟩) (.inr h7) (.inl rfl)
    ⟨by rw [h1], by rw [h2], hpending⟩)

theorem popGarage_fleet (h : s.FleetBut ∅ loose) (c : ExitCommand) {g : GarageEntry} {rest : List GarageEntry}
    (hg : s.ctr.garage = g :: rest) : (s.popGarage c g rest).FleetBut ∅ loose := by
  have hout : ((if s.queueFull then (s.setGarage rest).exitToUnlocated g
      else (s.setGarage rest).exitToS4 g).countExit.checkTop c g).FleetBut ∅ loose := by
    refine State.FleetBut.does ?_ (State.checkTop_does c g (State.countExit_does (Does.refl _ _) rfl) rfl)
    split
    · exact exitToUnlocated_fleet h hg
    · exact exitToS4_fleet h hg
  unfold State.popGarage
  dsimp only
  split
  · exact setTrack_fleet hout ⟨rfl, rfl, rfl, rfl, rfl, rfl, rfl⟩ (Nat.zero_le _)
  · exact hout

theorem endExitCommand_fleet (h : s.FleetBut out loose) : s.endExitCommand.FleetBut out loose := by
  exact setTrack_fleet h ⟨rfl, rfl, rfl, rfl, rfl, rfl, rfl⟩ (Nat.le_refl _)

theorem takeExit_fleet (h : s.FleetBut ∅ loose) : s.takeExit.FleetBut ∅ loose := by
  unfold State.takeExit
  refine judgeGarageExit_fleet (judgeSegments_fleet ?_)
  split
  · rename_i c g rest hc hg
    exact popGarage_fleet (endExitCommand_fleet h) c hg
  · exact phantom_fleet (endExitCommand_fleet h) 9
  · exact phantom_fleet h 9

end Sys2Proof.Machine
end
section
/-!
PROOFS. The conservation of the fleet (O27), seventeenth part: the operator's cabin actions and the writes of fleet entries (R81 to
R84, R190).
-/

namespace Sys2Proof.Machine

variable {s t : State} {out loose : Set Nat}

/-! ## A stored FLEET group that is being written (R189, R190) -/

/-- The store without its FLEET group, which a fleet write clears first. -/
def State.withoutFleet (s : State) : State := s.setStore { s.store with fleet := none }

theorem modReg_withoutFleet_length (s : State) (i : Nat) (f : RegEntry → RegEntry) :
    (s.modReg i f).withoutFleet.registry.length = s.registry.length := modReg_registry_length ..

theorem withoutFleet_reg (s : State) (j : Nat) : s.withoutFleet.reg j = s.reg j := rfl

/-- While the FLEET group is being written, what is stored need not agree with the registry. -/
theorem State.FleetBut.of_places {y : State} (h : s.FleetBut out loose) {out' : Set Nat}
    (hlen : y.registry.length = s.registry.length) (hctr : y.ctr = s.ctr) (hlgt : y.lgt = s.lgt) (htst : y.tst = s.tst)
    (hstore : y.store = { s.store with fleet := none })
    (hmember : ∀ l, ∀ i ∈ s.members l, i ∉ out' ∧ (y.reg i).stat.inService = true ∧ (y.reg i).location = l)
    (hplaced : ∀ i < 128, i ∉ out' →
      if (y.reg i).stat.inService then i ∈ s.members (y.reg i).location else (y.reg i).location = .outOfService)
    (houtside : ∀ i ∈ out', i < 128 ∧ (y.reg i).stat.inService = true)
    (hready : ∀ i ∈ s.members .uphill, (y.reg i).door = .locked ∧ (y.reg i).verdict = .pass) : y.FleetBut out' loose := by
  have hmembers : ∀ l, y.members l = s.members l := fun l => by cases l <;> simp only [State.members, hctr]
  refine ⟨by rw [hlen]; exact h.registered, fun l => by rw [hmembers]; exact h.nodup l, fun l i hi => ?_,
    fun i hi hout => by rw [hmembers]; exact hplaced i hi hout, houtside,
    slotsBut_congr h.slots hlgt (by rw [hctr]) (by rw [hctr]) (by rw [hctr]),
    entriesAgree_congr h.entries hlgt (by rw [hctr]) (by rw [hctr]), fun i hi => hready i (by rwa [hmembers] at hi), ?_,
    fun f hf => ?_⟩
  · rw [hmembers] at hi
    obtain ⟨hout, hrest⟩ := hmember l i hi
    exact ⟨hout, (h.member l i hi).2.1, hrest⟩
  · have hgeometry := h.geometry
    unfold State.geometryAgrees at hgeometry ⊢
    rw [htst, hstore, hctr]
    exact hgeometry
  · rw [hstore] at hf
    cases hf

/-- A cabin on its way is taken out of service. -/
theorem retire_fleet {i : Nat} (h : s.FleetBut {i} loose) {f : RegEntry → RegEntry}
    (hservice : ∀ r, (f r).stat.inService = false) (hl : ∀ r, (f r).location = .outOfService) :
    (s.modReg i f).withoutFleet.FleetBut ∅ loose := by
  have hlt := h.lt_registry (Set.mem_singleton i)
  have hreg : ∀ j, (s.modReg i f).withoutFleet.reg j = if i = j ∧ i < s.registry.length then f (s.reg i) else s.reg j :=
    fun j => by
    rw [withoutFleet_reg, modReg_reg]
  have hother : ∀ j, j ≠ i → (s.modReg i f).withoutFleet.reg j = s.reg j := fun j hj => by
    rw [hreg, if_neg fun hc => hj hc.1.symm]
  have hne : ∀ l, ∀ j ∈ s.members l, j ≠ i := fun l j hj => (h.member l j hj).1
  refine h.of_places (modReg_withoutFleet_length ..) rfl rfl rfl rfl (fun l j hj => ?_) (fun j hj _ => ?_)
    (fun j hj => absurd hj (Set.notMem_empty j)) fun j hj => ?_
  · rw [hother j (hne l j hj)]
    exact ⟨Set.notMem_empty j, (h.member l j hj).2.2⟩
  · by_cases hij : j = i
    · subst hij
      have hself := hreg j
      rw [if_pos ⟨rfl, hlt⟩] at hself
      rw [hself, if_neg (by rw [hservice]; exact Bool.false_ne_true), hl]
    · rw [hother j hij]
      exact h.placed j hj hij
  · rw [hother j (hne _ j hj)]
    exact h.ready j hj

/-- The static fields of a registry entry set, its service as it was. -/
theorem restat_fleet (h : s.FleetBut ∅ loose) {i : Nat} {x : FleetStatic} (hx : x.inService = (s.reg i).stat.inService) :
    (s.modReg i fun r => { r with stat := x }).withoutFleet.FleetBut ∅ loose := by
  have hreg : ∀ j, ((s.modReg i fun r => { r with stat := x }).withoutFleet.reg j).stat.inService =
        (s.reg j).stat.inService ∧
      ((s.modReg i fun r => { r with stat := x }).withoutFleet.reg j).location = (s.reg j).location ∧
      ((s.modReg i fun r => { r with stat := x }).withoutFleet.reg j).door = (s.reg j).door ∧
      ((s.modReg i fun r => { r with stat := x }).withoutFleet.reg j).verdict = (s.reg j).verdict := fun j => by
    rw [withoutFleet_reg, modReg_reg]
    split
    · rename_i hij
      rw [← hij.1]
      exact ⟨hx, rfl, rfl, rfl⟩
    · exact ⟨rfl, rfl, rfl, rfl⟩
  refine h.of_places (modReg_withoutFleet_length ..) rfl rfl rfl rfl (fun l j hj => ?_) (fun j hj hout => ?_)
    (fun j hj => absurd hj (Set.notMem_empty j)) fun j hj => ?_
  · rw [(hreg j).1, (hreg j).2.1]
    exact (h.member l j hj).imp id And.right
  · rw [(hreg j).1, (hreg j).2.1]
    exact h.placed j hj hout
  · rw [(hreg j).2.2.1, (hreg j).2.2.2]
    exact h.ready j hj

/-- An entry out of service is set in service: its cabin is in no collection yet. -/
theorem enlist_fleet (h : s.FleetBut ∅ loose) {i : Nat} {x : FleetStatic} (hi : i < 128)
    (hold : (s.reg i).stat.inService = false) (hx : x.inService = true) :
    (s.modReg i fun r => { r with stat := x }).withoutFleet.FleetBut {i} loose := by
  have hlt : i < s.registry.length := by rwa [h.registered]
  have hreg : ∀ j, (s.modReg i fun r => { r with stat := x }).withoutFleet.reg j =
      if i = j ∧ i < s.registry.length then { s.reg i with stat := x } else s.reg j := fun j => by
    rw [withoutFleet_reg, modReg_reg]
  have hother : ∀ j, j ≠ i → (s.modReg i fun r => { r with stat := x }).withoutFleet.reg j = s.reg j := fun j hj => by
    rw [hreg, if_neg fun hc => hj hc.1.symm]
  have hne : ∀ l, ∀ j ∈ s.members l, j ≠ i := fun l j hj he => by
    have hservice := (h.member l j hj).2.2.1
    rw [he, hold] at hservice
    cases hservice
  refine h.of_places (modReg_withoutFleet_length ..) rfl rfl rfl rfl (fun l j hj => ?_) (fun j hj hout => ?_) (fun j hj => ?_)
    fun j hj => ?_
  · rw [hother j (hne l j hj)]
    exact ⟨hne l j hj, (h.member l j hj).2.2⟩
  · rw [hother j hout]
    exact h.placed j hj (Set.notMem_empty j)
  · rw [Set.mem_singleton_iff.mp hj, hreg, if_pos ⟨rfl, hlt⟩]
    exact ⟨hi, hx⟩
  · rw [hother j (hne _ j hj)]
    exact h.ready j hj

/-! ## A fleet write begins (R189, R190) -/

/-- The write begins after reports that touch no part of the fleet. -/
theorem beginFleet_fleet {y : State} (h : y.withoutFleet.FleetBut out loose) (hd : Does 250739723 y t) (i : Nat) (r : ReplyTo) :
    (t.beginFleet i r).FleetBut out loose := by
  have hy : Does 268041227 y.withoutFleet y :=
    (Does.refl 268041227 y.withoutFleet).setStore (x := y.store) (.inl rfl) fun hl => hl.store
  have hd' : Does 268041227 y.withoutFleet (t.beginFleet i r) := State.beginFleet_does i r (hy.trans (hd.mono rfl)) rfl
  have hstore : (t.beginFleet i r).store = { y.store with fleet := none } := by
    change { t.store with fleet := none } = _
    rw [hd.1 .store rfl]
  refine h.calm (calm_of_store hd' (fun w hw => .inl ?_) (fun x hx => ?_) (fun x hx => ?_) fun x hx => ?_)
  · obtain rfl := Option.some.inj hw
    exact ⟨rfl, nofun⟩
  all_goals
    rw [hstore] at hx
    exact hx

/-! ## Removals (R83) -/

theorem takeOutOfService_fleet (h : s.FleetBut ∅ loose) {i : Nat} (hi : s.InPlace ∅ i) :
    (s.takeOutOfService i).withoutFleet.FleetBut ∅ loose := by
  have hout := takeOut_fleet h hi
  rw [Set.empty_union] at hout
  exact retire_fleet hout (fun _ => rfl) fun _ => rfl

theorem mem_station_of_who {e : StationEntry} {i : Nat} (he : e ∈ s.ctr.queue) (hw : e.who = .cabin i) :
    i ∈ s.members .station := List.mem_filterMap.mpr ⟨e, he, by rw [hw]; rfl⟩

theorem mem_garage_of_who {g : GarageEntry} {i : Nat} (hg : g ∈ s.ctr.garage) (hw : g.who = .cabin i) :
    i ∈ s.members .garage := List.mem_filterMap.mpr ⟨g, hg, by rw [hw]; rfl⟩

/-- What the place of a removal's target says of the collections (R83). -/
def State.PlaceStands (s : State) : RemovalPlace → Prop
  | .launchEnd e => e ∈ s.ctr.queue
  | .stackTop g => ∃ rest, s.ctr.garage = g :: rest
  | .unlocatedSet i => i < 128 ∧ (s.reg i).location = .unlocated
  | _ => True

theorem stackPlace_stands (s : State) (p : Who → Bool) (q : Nat → Bool) : s.PlaceStands (s.stackPlace p q) := by
  unfold State.stackPlace
  split
  · rename_i g rest hg
    split
    · exact ⟨rest, hg⟩
    · trivial
  · trivial

theorem entryPlace_stands {e : StationEntry} (he : e ∈ s.ctr.queue) : s.PlaceStands e.removalPlace := by
  unfold StationEntry.removalPlace
  split
  · exact he
  · trivial

theorem removalPlace_stands (h : s.FleetBut out loose) (w : Word) : s.PlaceStands (s.removalPlace w) := by
  unfold State.removalPlace
  split
  · split
    · rename_i e he
      exact entryPlace_stands (mem_of_entry (Option.filter_eq_some_iff.mp he).1)
    · split
      · exact stackPlace_stands s _ _
      · trivial
  · split
    · trivial
    · rename_i i hlook
      split
      · split
        · rename_i e he
          exact entryPlace_stands (List.mem_of_find?_eq_some he)
        · trivial
      · exact stackPlace_stands s _ _
      · rename_i hl
        exact ⟨by rw [← h.registered]; exact lt_of_lookup hlook, hl⟩
      · trivial

/-- A cabin whose location names a collection is in service. -/
theorem inPlace_of_location (h : s.FleetBut ∅ loose) {i : Nat} (hi : i < 128) (hl : (s.reg i).location ≠ .outOfService) :
    s.InPlace ∅ i := by
  refine ⟨Set.notMem_empty i, hi, ?_⟩
  have hplaced := h.placed i hi (Set.notMem_empty i)
  split at hplaced
  · assumption
  · exact absurd hplaced hl

theorem reportRemoved_does' (s : State) (n i : Option Nat) (l : Location) (b : Bool) :
    Does 250739723 s (s.reportRemoved n i l b) := State.reportRemoved_does n i l b (Does.refl _ s) rfl

/-- A removal out of service, but for the write that follows. -/
theorem retireAt_fleet (h : s.FleetBut ∅ loose) {p : RemovalPlace} {i : Nat} (hp : s.PlaceStands p) (hi : p.cabin = some i)
    (j : Nat) (r : ReplyTo) : ((s.removeAt p true).beginFleet j r).FleetBut ∅ loose := by
  cases p with
  | launchEnd e =>
    have hw : e.who = .cabin i := who_eq_cabin_of_index hi
    change ((s.removeEntry e true).beginFleet j r).FleetBut ∅ loose
    unfold State.removeEntry State.removeWho
    rw [hw]
    exact beginFleet_fleet (takeOutOfService_fleet h (h.inPlace (mem_station_of_who hp hw))) (reportRemoved_does' _ _ _ _ _) j r
  | stackTop g =>
    obtain ⟨rest, hg⟩ := hp
    have hw : g.who = .cabin i := who_eq_cabin_of_index hi
    change ((s.removeTop g true).beginFleet j r).FleetBut ∅ loose
    unfold State.removeTop State.removeWho
    rw [hw]
    exact beginFleet_fleet
      (takeOutOfService_fleet h (h.inPlace (mem_garage_of_who (by rw [hg]; exact List.mem_cons_self) hw)))
      (reportRemoved_does' _ _ _ _ _) j r
  | unlocatedSet k =>
    obtain ⟨h128, hl⟩ := hp
    change ((s.removeUnlocated k true).beginFleet j r).FleetBut ∅ loose
    rw [State.removeUnlocated, if_pos rfl]
    exact beginFleet_fleet (takeOutOfService_fleet h (inPlace_of_location h h128 (by rw [hl]; exact nofun)))
      (reportRemoved_does' _ _ _ _ _) j r
  | barred => cases hi
  | unknownTarget => cases hi

/-- A removal to the unlocated set, and one of an anonymous entry. -/
theorem removeAt_fleet (h : s.FleetBut ∅ loose) {p : RemovalPlace} {b : Bool} (hp : s.PlaceStands p)
    (hb : p.cabin = none ∨ b = false) : (s.removeAt p b).FleetBut ∅ loose := by
  cases p with
  | launchEnd e =>
    refine State.FleetBut.does ?_ (reportRemoved_does' _ _ _ _ _)
    unfold State.removeWho State.removeRegistered
    split
    · rename_i i hw
      obtain rfl : b = false := hb.resolve_left fun hc => by rw [RemovalPlace.cabin, hw] at hc; cases hc
      exact unlocate_fleet h (h.inPlace (mem_station_of_who hp hw)) _
    · rename_i hw
      have hindex : e.who.index = none := by rw [hw]; rfl
      have hleft := leaveStation_fleet h hp
      rwa [hindex, cabinsOf_none, Set.empty_union] at hleft
  | stackTop g =>
    obtain ⟨rest, hg⟩ := hp
    refine State.FleetBut.does ?_ (reportRemoved_does' _ _ _ _ _)
    unfold State.removeWho State.removeRegistered
    split
    · rename_i i hw
      obtain rfl : b = false := hb.resolve_left fun hc => by rw [RemovalPlace.cabin, hw] at hc; cases hc
      exact unlocate_fleet h (h.inPlace (mem_garage_of_who (by rw [hg]; exact List.mem_cons_self) hw)) _
    · rename_i hw
      have hindex : g.who.index = none := by rw [hw]; rfl
      have hpopped := popTop_fleet h hg
      rw [hindex, cabinsOf_none, Set.empty_union] at hpopped
      change (s.setGarage (s.ctr.garage.drop 1)).FleetBut ∅ loose
      rwa [hg, List.drop_one, List.tail_cons]
  | unlocatedSet k =>
    obtain rfl : b = false := hb.resolve_left nofun
    exact h
  | barred => exact h
  | unknownTarget => exact h

theorem reply_fleet (h : s.FleetBut out loose) (r : ReplyTo) (x : Status) (d : List Word) : (s.reply r x d).FleetBut out loose :=
  h.does (State.reply_does r x d (Does.refl _ s) rfl)

theorem takeRemove_fleet (h : s.FleetBut ∅ loose) (f : RingFrame) : (takeRemove f s).FleetBut ∅ loose := by
  have hp := removalPlace_stands h (f.word 1)
  unfold takeRemove
  dsimp only
  split
  · exact reply_fleet h _ _ _
  · exact reply_fleet h _ _ _
  · split
    · rename_i i hi hout
      exact retireAt_fleet h hp hi i _
    · rename_i hne
      refine reply_fleet (removeAt_fleet h hp ?_) _ _ _
      cases hc : (s.removalPlace (f.word 1)).cabin with
      | none => exact .inl rfl
      | some i => exact .inr (Bool.eq_false_iff.mpr fun hb => hne i hc hb)

end Sys2Proof.Machine
end
section
/-!
PROOFS. The conservation of the fleet (O27), eighteenth part: fleet entries, GARAGE_NEXT and LOCATE_CABIN (R82, R84, R190).
-/

namespace Sys2Proof.Machine

variable {s t : State} {out loose : Set Nat}

/-! ## The head of S6 is reported whatever the store holds (R85) -/

section
variable (s : State) (x : Store)

theorem freeSlotIf_setStore (k : Nat) (y : SlotState) : (s.setStore x).freeSlotIf k y = (s.freeSlotIf k y).setStore x := by
  unfold State.freeSlotIf
  by_cases h : s.slot k = y
  · rw [if_pos h, if_pos (show (s.setStore x).slot k = y from h)]
    rfl
  · rw [if_neg h, if_neg (show ¬ (s.setStore x).slot k = y from h)]

theorem withdrawRelease_setStore : (s.setStore x).withdrawRelease false = (s.withdrawRelease false).setStore x := by
  cases hp : s.lgt.pending with
  | none => simp only [State.withdrawRelease, hp, show (s.setStore x).lgt.pending = none from hp]
  | some p =>
    cases hq : p.phase with
    | sent d => simp only [State.withdrawRelease, hp, hq, show (s.setStore x).lgt.pending = some p from hp]
    | queued =>
      simp only [State.withdrawRelease, hp, hq, show (s.setStore x).lgt.pending = some p from hp]
      rw [show (s.setStore x).withdrawControl .gateRelease p.tag = (s.withdrawControl .gateRelease p.tag).setStore x from rfl,
        freeSlotIf_setStore]
      rfl

theorem reportHead_setStore : (s.setStore x).reportHead = s.reportHead.setStore x := by
  have hu : (s.setStore x).withdrawUnlessHead = s.withdrawUnlessHead.setStore x := by
    unfold State.withdrawUnlessHead
    cases hp : s.lgt.pending with
    | none => simp only [show (s.setStore x).lgt.pending = none from hp]
    | some p =>
      simp only [show (s.setStore x).lgt.pending = some p from hp]
      by_cases hr : s.pendingHeadReady p = true
      · rw [if_pos hr, if_pos (show (s.setStore x).pendingHeadReady p = true from hr)]
      · rw [if_neg hr, if_neg (show ¬ (s.setStore x).pendingHeadReady p = true from hr), withdrawRelease_setStore]
  unfold State.reportHead
  rw [hu]
  generalize s.withdrawUnlessHead = y
  unfold State.releaseCountedHead
  cases hc : y.lgt.countedHead with
  | none => simp only [show (y.setStore x).lgt.countedHead = none from hc]
  | some n =>
    simp only [show (y.setStore x).lgt.countedHead = some n from hc]
    by_cases hr : y.countedHeadStands n = true
    · rw [if_pos hr, if_pos (show (y.setStore x).countedHeadStands n = true from hr)]
    · rw [if_neg hr, if_neg (show ¬ (y.setStore x).countedHeadStands n = true from hr)]
      unfold State.judge
      by_cases h : (y.setLgt { y.lgt with blocked := 0, countedHead := none }).condition .headBlocked = false
      · rw [if_pos h, if_pos (show ((y.setStore x).setLgt _).condition .headBlocked = false from h)]
        rfl
      · rw [if_neg h, if_neg (show ¬ ((y.setStore x).setLgt _).condition .headBlocked = false from h)]
        rfl
end

theorem reportHead_withoutFleet (s : State) : s.withoutFleet.reportHead = s.reportHead.withoutFleet := by
  have hstore : s.reportHead.store = s.store := (State.reportHead_does (m := 4293136) (Does.refl _ s) rfl).1 .store rfl
  rw [State.withoutFleet, reportHead_setStore, State.withoutFleet, hstore]

/-! ## A fleet entry is applied (R190) -/

theorem modReg_twice (s : State) {i : Nat} (hi : i < s.registry.length) (f g : RegEntry → RegEntry) :
    (s.modReg i f).modReg i g = s.modReg i fun r => g (f r) := by
  rw [State.modReg, modReg_reg, if_pos ⟨rfl, hi⟩]
  simp only [State.modReg, State.setRegistry, List.set_set]

theorem restatRetired_fleet (h : s.FleetBut ∅ loose) {i : Nat} (hi : s.InPlace ∅ i) {x : FleetStatic} (hx : x.inService = false) :
    ((s.takeOutOfService i).modReg i fun r => { r with stat := x }).withoutFleet.FleetBut ∅ loose := by
  have hout := takeOut_fleet h hi
  rw [Set.empty_union] at hout
  rw [State.takeOutOfService, modReg_twice _ (hout.lt_registry (Set.mem_singleton i))]
  exact retire_fleet hout (fun _ => hx) fun _ => rfl

theorem restatEnlisted_fleet (h : s.FleetBut ∅ loose) {i : Nat} {x : FleetStatic} (hi : i < 128)
    (hold : (s.reg i).stat.inService = false) (hx : x.inService = true) :
    (((s.modReg i RegEntry.enterService).joinUnlocated i).modReg i fun r => { r with stat := x }).withoutFleet.FleetBut ∅
      loose := by
  have hz := enlist_fleet h hi hold hx
  have hlt : i < s.registry.length := by rwa [h.registered]
  have hjoinedLength : ((s.modReg i RegEntry.enterService).joinUnlocated i).registry.length = s.registry.length := by
    simp [State.joinUnlocated, State.setLocation]
  have hjoined := hz.joinCabin (l := .unlocated) (loose' := loose)
    (t := (((s.modReg i RegEntry.enterService).joinUnlocated i).modReg i fun r => { r with stat := x }).withoutFleet)
    (f := fun r => { r.enterService with location := .unlocated }) (Set.mem_singleton i) ⟨rfl, rfl, rfl, rfl⟩
    (insertIndex_perm (hz.not_member (Set.mem_singleton i) .unlocated)) (fun m hm => ?_) (fun j => ?_) ?_ (fun _ => rfl)
    (fun _ => rfl) (fun he => by cases he) (entriesAgree_congr hz.entries rfl rfl rfl) rfl
    (slotsBut_congr hz.slots rfl rfl rfl rfl)
  · rwa [sdiff_self] at hjoined
  · cases m with
    | unlocated => exact absurd rfl hm
    | _ => rfl
  · rw [withoutFleet_reg, withoutFleet_reg, withoutFleet_reg, modReg_withoutFleet_length, modReg_reg, hjoinedLength]
    by_cases hij : i = j
    · subst hij
      simp only [joinUnlocated_reg, modReg_reg, modReg_registry_length, hlt, and_self, if_true]
      rfl
    · simp only [joinUnlocated_reg, modReg_reg, hij, false_and, if_false]
  · rw [modReg_withoutFleet_length, modReg_withoutFleet_length, hjoinedLength]

/-- A fleet entry applied and its write begun. -/
theorem takeWriteFleet_fleet (h : s.FleetBut ∅ loose) (f : RingFrame) : (takeWriteFleet f s).FleetBut ∅ loose := by
  unfold takeWriteFleet
  dsimp only
  split
  · exact reply_fleet h _ _ _
  · rename_i hjudged
    generalize (f.word 1).toNat = i at *
    generalize staticOfWord (f.word 2) = x at *
    have hi : i < 128 := by
      unfold State.judgeFleetWrite at hjudged
      dsimp only at hjudged
      split at hjudged
      · cases hjudged
      · rename_i hbad
        simp only [Bool.or_eq_true, decide_eq_true_eq, not_or] at hbad
        exact Nat.lt_of_not_le hbad.1.1.1.1
    have hplaced : ((s.placeFleet i x).modReg i fun r => { r with stat := x }).withoutFleet.FleetBut ∅ loose := by
      unfold State.placeFleet
      dsimp only
      split
      · rename_i hleft
        rw [Bool.and_eq_true, Bool.not_eq_true'] at hleft
        exact restatRetired_fleet h ⟨Set.notMem_empty i, hi, hleft.1⟩ hleft.2
      · rename_i hleft
        split
        · rename_i hentered
          rw [Bool.and_eq_true, Bool.not_eq_true'] at hentered
          exact restatEnlisted_fleet h hi hentered.1 hentered.2
        · rename_i hentered
          refine restat_fleet h ?_
          revert hleft hentered
          cases x.inService <;> cases (s.reg i).stat.inService <;> simp
    have hhead := reportHead_fleet hplaced
    rw [reportHead_withoutFleet] at hhead
    exact beginFleet_fleet hhead (State.report_does _ _ _ _ (Does.refl _ _) rfl) i f.replyTo

/-! ## GARAGE_NEXT and LOCATE_CABIN (R82, R84) -/

theorem takeGarageNext_fleet (h : s.FleetBut out loose) (w : Word) : (s.takeGarageNext w).state.FleetBut out loose := by
  unfold State.takeGarageNext
  split
  · exact h
  · split
    · exact h
    · split
      · exact report_fleet (modReg_fleet h _ (f := fun r => { r with garageNext := bitOf w 24 }) (fun _ => rfl) (fun _ => rfl)
          fun _ _ => ⟨rfl, rfl⟩) _ _ _ _
      · exact h

theorem parkCabin_fleet (h : s.FleetBut ∅ loose) (hlive : s.Live) {i : Nat} (hi : s.InPlace ∅ i) :
    (s.parkCabin i).FleetBut ∅ loose := by
  have hout := takeOut_fleet h hi
  rw [Set.empty_union] at hout
  have hlive' := hlive.does (State.takeOut_does (m := 4296692) i (Does.refl _ s) rfl)
  have hlt : i < (s.takeOut i).registry.length := hout.lt_registry (Set.mem_singleton i)
  unfold State.parkCabin
  dsimp only
  refine judgeGarageExit_fleet ?_
  have hjoined := pushEntry_fleet hout (x := { serial := (s.takeOut i).freshSerial, who := .cabin i })
    (t := ((((s.takeOut i).takeSerial (s.takeOut i).freshSerial).pushGarage
      { serial := (s.takeOut i).freshSerial, who := .cabin i }).modReg i fun r =>
        { r with location := .garage, door := .locked, verdict := .untested, force := none }))
    (fun j hj => (Option.some.inj hj).symm) ⟨rfl, rfl, rfl, rfl, rfl, rfl, rfl, rfl, rfl, rfl⟩ rfl rfl
    (freshSerial_not_held hlive'.ctr) (located_of_modReg (by rfl) hlt (fun _ => rfl) fun _ => rfl)
  rwa [Who.index, cabinsOf_some, sdiff_self] at hjoined

theorem takeLocateCabin_fleet (h : s.FleetBut ∅ loose) (hlive : s.Live) (w : Word) :
    (s.takeLocateCabin w).state.FleetBut ∅ loose := by
  unfold State.takeLocateCabin
  split
  · exact h
  · split
    · exact h
    · split
      · exact h
      · rename_i i hlook
        split
        · rename_i hmay
          simp only [Bool.and_eq_true, decide_eq_true_eq] at hmay
          refine parkCabin_fleet h hlive (inPlace_of_location h ?_ ?_)
          · rw [← h.registered]
            exact lt_of_lookup hlook
          · rw [hmay.1.1]
            exact nofun
        · exact h

end Sys2Proof.Machine
end
section
/-!
PROOFS. The conservation of the fleet (O27), nineteenth part: the table groups, their staging copies and the store writes that
begin (R185 to R191).
-/

namespace Sys2Proof.Machine

variable {s t : State} {out loose : Set Nat}

/-! ## Steps that leave every cabin, and change the tables or the store -/

/-- The registry, the collections, the slot table and LGT's records are left as they are. -/
structure SamePlaces (s t : State) : Prop where
  registry : t.registry = s.registry
  lgt : t.lgt = s.lgt
  ctr : t.ctr = s.ctr

theorem members_congr (h : t.ctr = s.ctr) (l : Location) : t.members l = s.members l := by
  cases l <;> simp only [State.members, h]

theorem State.FleetBut.of_same (h : s.FleetBut out loose) (hs : SamePlaces s t) (hgeometry : t.geometryAgrees)
    (hstored : t.storeAgrees) : t.FleetBut out loose := by
  have hreg := reg_congr hs.registry
  have hmembers := members_congr hs.ctr
  refine ⟨by rw [hs.registry]; exact h.registered, fun l => by rw [hmembers]; exact h.nodup l,
    fun l i hi => ?_, fun i hi hout => ?_, fun i hi => ?_,
    slotsBut_congr h.slots hs.lgt (by rw [hs.ctr]) (by rw [hs.ctr]) (by rw [hs.ctr]),
    entriesAgree_congr h.entries hs.lgt (by rw [hs.ctr]) (by rw [hs.ctr]), fun i hi => ?_, hgeometry, hstored⟩
  · rw [hmembers] at hi
    rw [hreg]
    exact h.member l i hi
  · rw [hreg, hmembers]
    exact h.placed i hi hout
  · rw [hreg]
    exact h.outside i hi
  · rw [hmembers] at hi
    rw [hreg]
    exact h.ready i hi

/-! ## Staging (R186) -/

/-- What a staging request makes of a copy, where it does not refuse it. -/
def Staged.copy {α : Type} : Staged α → Option α
  | .taken c => some c
  | .clamped c _ => some c
  | .refused => none

theorem copy_ranged {α : Type} {v lo hi : Nat} {x c : α} (h : c ∈ (ranged v lo hi x).copy) : c = x ∧ lo ≤ v := by
  unfold ranged at h
  split at h
  · rename_i hv
    rw [Bool.and_eq_true, decide_eq_true_eq, decide_eq_true_eq] at hv
    exact ⟨(Option.some.inj h).symm, hv.1⟩
  · cases h

theorem copy_stageMatrix {x c : SafetyTables} {k : Cause} {v : Nat} (h : c ∈ (x.stageMatrix k v).copy) : c.S = x.S := by
  unfold SafetyTables.stageMatrix at h
  repeat' split at h
  all_goals cases h
  all_goals rfl

theorem copy_stageBands {x c : SafetyTables} {w w2 : Word} (h : c ∈ (x.stageBands w w2).copy) : c.S = x.S := by
  unfold SafetyTables.stageBands at h
  dsimp only at h
  split at h <;> cases h
  rfl

theorem copy_stageNode {x c : SafetyTables} {n : Nat} {w : Word} (h : c ∈ (x.stageNode n w).copy) : c.S = x.S := by
  unfold SafetyTables.stageNode at h
  split at h <;> cases h
  rfl

theorem copy_stageTower {x c : SafetyTables} {n : Nat} {w : Word} (h : c ∈ (x.stageTower n w).copy) : c.S = x.S := by
  unfold SafetyTables.stageTower at h
  split at h <;> cases h
  rfl

/-- The length of a slot is staged from 1 up (R186). -/
theorem copy_stage_S {x c : SafetyTables} {n : Nat} {w w2 : Word} (h : c ∈ (x.stage n w w2).copy) (hx : 0 < x.S) : 0 < c.S := by
  unfold SafetyTables.stage at h
  dsimp only at h
  split at h
  case h_3 =>
    obtain ⟨rfl, hv⟩ := copy_ranged h
    exact hv
  case h_21 => rwa [copy_stageBands h]
  case h_24 =>
    split at h
    · rwa [(copy_ranged h).1]
    · split at h
      · split at h
        · rwa [copy_stageMatrix h]
        · cases h
      · split at h
        · rwa [copy_stageNode h]
        · split at h
          · rwa [copy_stageTower h]
          · cases h
  all_goals rwa [(copy_ranged h).1]

/-- TST's records set, but for its tables and the write in flight. -/
theorem setTst_fleet (h : s.FleetBut out loose) {x : Tst}
    (hx : x.safety = s.tst.safety ∧ x.stageSafety = s.tst.stageSafety ∧ x.write = s.tst.write) :
    (s.setTst x).FleetBut out loose := by
  obtain ⟨hsafety, hstaged, hwrite⟩ := hx
  refine h.of_same ⟨rfl, rfl, rfl⟩ ?_ ?_
  · have hgeometry := h.geometry
    unfold State.geometryAgrees at hgeometry ⊢
    rw [State.setTst_tst, hsafety, hstaged, hwrite]
    exact hgeometry
  · have hstored := h.stored
    unfold State.storeAgrees at hstored ⊢
    rw [State.setTst_tst, hwrite]
    exact hstored

/-- A staging copy set while no write is in flight. -/
theorem setTst_staged_fleet (h : s.FleetBut out loose) {x : Tst}
    (hx : x.safety = s.tst.safety ∧ x.write = none) (hS : 0 < x.stageSafety.S) : (s.setTst x).FleetBut out loose := by
  obtain ⟨hsafety, hw⟩ := hx
  obtain ⟨hforce, hstore, -, -⟩ := h.geometry
  refine h.of_same ⟨rfl, rfl, rfl⟩ ⟨fun y hy => hforce y (hsafety ▸ hy), hstore, hS, fun w hin => ?_⟩ fun f hf => ?_
  · rw [State.setTst_tst, hw] at hin
    cases hin
  · obtain ⟨hstats, hpark, -⟩ := h.stored f hf
    refine ⟨hstats, hpark, fun w hin => ?_⟩
    rw [State.setTst_tst, hw] at hin
    cases hin

theorem answerStaged_fleet {α : Type} (h : s.FleetBut out loose) {x : Staged α} {put : State → α → State}
    (hput : ∀ c ∈ x.copy, (put s c).FleetBut out loose) : (s.answerStaged x put).state.FleetBut out loose := by
  cases x with
  | taken c => exact hput c rfl
  | clamped c b => exact hput c rfl
  | refused => exact h

theorem takeStage_fleet (h : s.FleetBut out loose) (hwrite : s.tst.write = none) (w v v2 : Word) :
    (s.takeStage w v v2).state.FleetBut out loose := by
  unfold State.takeStage
  split
  · exact answerStaged_fleet h fun c hc => setTst_staged_fleet h ⟨rfl, hwrite⟩ (copy_stage_S hc h.geometry.2.2.1)
  · exact answerStaged_fleet h fun c _ => setTst_staged_fleet h ⟨rfl, hwrite⟩ h.geometry.2.2.1
  · exact h

theorem takeDiscard_fleet (h : s.FleetBut out loose) (hwrite : s.tst.write = none) (g : Nat) :
    (s.takeDiscard g).state.FleetBut out loose := by
  unfold State.takeDiscard
  split
  · refine setTst_staged_fleet h ⟨rfl, hwrite⟩ ?_
    change 0 < (s.tst.safety.getD SafetyTables.default).S
    cases hs : s.tst.safety with
    | none => decide
    | some x => exact (h.geometry.1 x hs).1.2
  · exact setTst_staged_fleet h ⟨rfl, hwrite⟩ h.geometry.2.2.1
  · exact h

/-! ## Writes that begin (R187 to R189) -/

theorem setStore_sameFleet (h : s.FleetBut out loose) {x : Store} (hsafety : ∀ y ∈ x.safety, y ∈ s.store.safety)
    (hfleet : ∀ f ∈ x.fleet, f ∈ s.store.fleet) (hpark : ∀ p ∈ x.park, p ∈ s.store.park) : (s.setStore x).FleetBut out loose := by
  obtain ⟨hforce, hstore, hS, hw⟩ := h.geometry
  refine h.of_same ⟨rfl, rfl, rfl⟩ ⟨hforce, fun y hy => hstore y (hsafety y hy), hS, hw⟩ fun f hf => ?_
  obtain ⟨hstats, hagrees, hsnapshot⟩ := h.stored f (hfleet f hf)
  exact ⟨hstats, fun p hp => hagrees p (hpark p hp), hsnapshot⟩

/-- A write begins whose contents agree with the fleet and the geometry. -/
theorem beginWrite_fleet (h : s.FleetBut out loose) {k : WriteKind} (r : Option ReplyTo)
    (hsized : k = .commit .safety → s.tst.stageSafety.sized)
    (hsnapshot : ∀ f ∈ s.store.fleet, ∀ p ∈ k.snapshot, p.agrees f) : (s.beginWrite k r).FleetBut out loose := by
  obtain ⟨hforce, hstore, hS, -⟩ := h.geometry
  refine h.of_same ⟨rfl, rfl, rfl⟩ ⟨hforce, hstore, hS, fun w hw => ?_⟩ fun f hf => ?_
  · obtain rfl := Option.some.inj hw
    exact hsized
  · obtain ⟨hstats, hpark, -⟩ := h.stored f hf
    refine ⟨hstats, hpark, fun w hw => ?_⟩
    obtain rfl := Option.some.inj hw
    exact hsnapshot f hf

theorem beginCommit_fleet (h : s.FleetBut out loose) {g : TableGroup} (r : ReplyTo)
    (hsized : g = .safety → s.tst.stageSafety.sized) : (s.beginCommit g r).FleetBut out loose := by
  have hnone : ∀ f : List FleetStatic, ∀ p ∈ (WriteKind.commit g).snapshot, p.agrees f := fun _ _ hp => by cases hp
  cases g with
  | safety =>
    have hcleared : (s.setStore { s.store with safety := none }).FleetBut out loose :=
      setStore_sameFleet h (fun _ hy => by cases hy) (fun _ hf => hf) fun _ hp => hp
    exact beginWrite_fleet hcleared _ (fun _ => hsized rfl) fun f _ => hnone f
  | operations =>
    have hcleared : (s.setStore { s.store with operations := none }).FleetBut out loose :=
      setStore_sameFleet h (fun _ hy => hy) (fun _ hf => hf) fun _ hp => hp
    exact beginWrite_fleet hcleared _ (fun he => by cases he) fun f _ => hnone f
  | fleet => exact beginWrite_fleet h _ (fun he => by cases he) fun f _ => hnone f

/-- A staging copy that passes check 1 has N slots of its length (R188). -/
theorem sized_of_noFailure {x : SafetyTables} (h : x.firstFailure = none) (hS : 0 < x.S) : x.sized := by
  have hcheck := List.find?_eq_none.mp h 1 (by decide)
  simp only [SafetyTables.passes, Bool.not_eq_true, Bool.not_eq_false', Bool.and_eq_true, decide_eq_true_eq] at hcheck
  exact ⟨hcheck.1.1.1, hS⟩

theorem takeCommit_fleet (h : s.FleetBut out loose) (f : RingFrame) : (takeCommit f s).FleetBut out loose := by
  unfold takeCommit
  split
  · exact reply_fleet h _ _ _
  · exact reply_fleet h _ _ _
  · rename_i g _ _
    split
    · exact reply_fleet h _ _ _
    · rename_i hgate
      split
      · exact reply_fleet h _ _ _
      · refine beginCommit_fleet h _ fun hg => sized_of_noFailure ?_ h.geometry.2.2.1
        subst hg
        unfold State.commitGate at hgate
        repeat' split at hgate
        all_goals first | cases hgate | exact Option.map_eq_none_iff.mp hgate

theorem takeProtection_fleet (h : s.FleetBut out loose) (f : RingFrame) : (takeProtection f s).FleetBut out loose := by
  have hwrite : ∀ m, (s.beginWrite (.protection m) (some f.replyTo)).FleetBut out loose := fun m =>
    beginWrite_fleet h _ nofun fun _ _ _ hp => by cases hp
  unfold takeProtection
  split
  · split
    · exact reply_fleet h _ _ _
    · split
      · exact reply_fleet h _ _ _
      · exact hwrite _
  · exact hwrite _
  · exact reply_fleet (by exact setTst_fleet h ⟨rfl, rfl, rfl⟩) _ _ _
  · exact reply_fleet h _ _ _

theorem takeRestart_fleet (h : s.FleetBut out loose) (f : RingFrame) : (takeRestart f s).FleetBut out loose := by
  unfold takeRestart
  split
  · exact reply_fleet h _ _ _
  · split
    · exact reply_fleet h _ _ _
    · have hset : (s.setTst { s.tst with restart := some (s.after 100) }).FleetBut out loose := setTst_fleet h ⟨rfl, rfl, rfl⟩
      exact hset.does (State.placeReport_does _ (Does.refl _ _) rfl)

/-! ## The park snapshot (R191) -/

theorem disjoint_members (h : s.FleetBut out loose) {l m : Location} (hne : l ≠ m) : List.Disjoint (s.members l) (s.members m) :=
  fun i hl hm => hne ((h.member l i hl).2.2.2.symm.trans (h.member m i hm).2.2.2)

/-- The cabins that a snapshot names are those of the collections but the unlocated set. -/
theorem snapshot_named (s : State) (x : SafetyTables) :
    (s.snapshot x).named =
      s.members .station ++ s.members .garage ++ s.members .uphill ++ s.members .downhill ++ s.members .summit := by
  simp only [ParkRecord.named, State.snapshot, List.filterMap_map, State.members]
  rfl

theorem stats_getD (s : State) (i : Nat) : (s.registry.map RegEntry.stat).getD i FleetStatic.blank = (s.reg i).stat := by
  rw [State.reg, List.getD_eq_getElem?_getD, List.getD_eq_getElem?_getD, List.getElem?_map]
  cases s.registry[i]? <;> rfl

/-- The snapshot of a fleet that is conserved agrees with its registry. -/
theorem snapshot_agrees (h : s.FleetBut ∅ ∅) {x : SafetyTables} (hx : s.tst.safety = some x) :
    (s.snapshot x).agrees (s.registry.map RegEntry.stat) := by
  obtain ⟨⟨hsize, -⟩, hcount⟩ := h.geometry.1 x hx
  obtain ⟨hholds, hup, hdown, -, -⟩ := (slotsBut_empty s).mp h.slots
  refine ⟨?_, fun i hi => ?_, ?_, fun k hk => ?_, hup, hdown⟩
  · rw [snapshot_named]
    have hstation := h.nodup .station
    simp only [List.nodup_append', List.disjoint_append_left]
    refine ⟨⟨⟨⟨h.nodup _, h.nodup _, disjoint_members h nofun⟩, h.nodup _, ⟨disjoint_members h nofun, disjoint_members h nofun⟩⟩,
      h.nodup _, ⟨⟨disjoint_members h nofun, disjoint_members h nofun⟩, disjoint_members h nofun⟩⟩, h.nodup _,
      ⟨⟨disjoint_members h nofun, disjoint_members h nofun⟩, disjoint_members h nofun⟩, disjoint_members h nofun⟩
  · rw [stats_getD]
    rw [snapshot_named] at hi
    simp only [List.mem_append] at hi
    obtain (((hi | hi) | hi) | hi) | hi := hi
    all_goals exact ⟨(h.member _ i hi).2.1, (h.member _ i hi).2.2.1⟩
  · change s.ctr.slots.length * x.S = x.L
    rw [hcount, hsize]
  · have hk' := hholds k hk
    change match s.slot k with
      | .up c => ∃ u ∈ s.ctr.uphill, u.cabin = c ∧ u.slot = k
      | .down c => ∃ d ∈ s.ctr.downhill, d.cabin = c ∧ d.slot = k
      | _ => True
    cases hslot : s.slot k <;> rw [hslot] at hk' <;> first | exact hk' | trivial

theorem takePark_fleet (h : s.FleetBut ∅ ∅) (f : RingFrame) : (takePark f s).FleetBut ∅ ∅ := by
  unfold takePark
  split
  · exact reply_fleet h _ _ _
  · split
    · exact reply_fleet h _ _ _
    · rename_i x hx
      split
      · have hcleared : (s.setStore { s.store with park := none }).FleetBut ∅ ∅ :=
          setStore_sameFleet h (fun _ hy => hy) (fun _ hg => hg) fun _ hp => by cases hp
        refine beginWrite_fleet hcleared _ nofun fun g hg p hp => ?_
        obtain rfl := Option.some.inj hp
        rw [(h.stored g hg).1]
        exact snapshot_agrees h hx
      · exact reply_fleet h _ _ _

end Sys2Proof.Machine
end
section
/-!
PROOFS. The conservation of the fleet (O27), twentieth part: a SAFETY commit that changes L or S (R20, R39, R60).
-/

namespace Sys2Proof.Machine

variable {s t : State} {out loose : Set Nat}

/-! ## Cabins of the lines moved, whatever the slot table holds -/

/-- Two states with one registry and one set of collections. -/
structure SameCollections (s t : State) : Prop where
  registry : t.registry = s.registry
  queue : t.ctr.queue = s.ctr.queue
  garage : t.ctr.garage = s.ctr.garage
  uphill : t.ctr.uphill = s.ctr.uphill
  downhill : t.ctr.downhill = s.ctr.downhill
  summit : t.ctr.summit = s.ctr.summit
  unlocated : t.ctr.unlocated = s.ctr.unlocated

theorem SameCollections.members (h : SameCollections s t) (l : Location) : t.members l = s.members l := by
  cases l with
  | station => simp only [State.members, h.queue]
  | garage => simp only [State.members, h.garage]
  | uphill => simp only [State.members, h.uphill]
  | downhill => simp only [State.members, h.downhill]
  | summit => simp only [State.members, h.summit]
  | unlocated => simp only [State.members, h.unlocated]
  | outOfService => rfl

/-- The location of a cabin on one of the line lists. -/
def Location.isLine (l : Location) : Prop := l = .uphill ∨ l = .downhill

theorem takeOut_line_registry {i : Nat} (hl : (s.reg i).location.isLine) : (s.takeOut i).registry = s.registry := by
  unfold State.takeOut
  rcases hl with hl | hl <;> rw [hl]
  · unfold State.leaveUphill
    dsimp only
    split <;> rfl
  · unfold State.leaveDownhill
    dsimp only
    split <;> rfl

/-- A move from a line reads and writes no slot that another collection rests on. -/
theorem SameCollections.moveOne (h : SameCollections s t) {i : Nat} (hl : (s.reg i).location.isLine) :
    SameCollections ((s.takeOut i).joinUnlocated i) ((t.takeOut i).joinUnlocated i) := by
  have hreg := reg_congr h.registry i
  have hlt : (t.reg i).location.isLine := by rwa [hreg]
  have hs := takeOut_spec s i
  have ht := takeOut_spec t i
  have hstation : (s.reg i).location ≠ .station := by rcases hl with hl | hl <;> rw [hl] <;> exact nofun
  have hregistry : (t.takeOut i).registry = (s.takeOut i).registry := by
    rw [takeOut_line_registry hl, takeOut_line_registry hlt, h.registry]
  refine ⟨?_, ?_, ?_, ?_, ?_, ?_, congrArg (insertIndex i) ?_⟩
  · change (t.takeOut i).registry.set i _ = (s.takeOut i).registry.set i _
    rw [hregistry]
    exact congrArg (fun r : RegEntry => (s.takeOut i).registry.set i { r with location := .unlocated }) (reg_congr hregistry i)
  · change (t.takeOut i).ctr.queue = (s.takeOut i).ctr.queue
    rw [hs.queue, ht.queue, hreg, if_neg hstation, if_neg hstation, h.queue]
  · change (t.takeOut i).ctr.garage = (s.takeOut i).ctr.garage
    rw [hs.garage, ht.garage, hreg, h.garage]
  · change (t.takeOut i).ctr.uphill = (s.takeOut i).ctr.uphill
    rw [hs.uphill, ht.uphill, hreg, h.uphill]
  · change (t.takeOut i).ctr.downhill = (s.takeOut i).ctr.downhill
    rw [hs.downhill, ht.downhill, hreg, h.downhill]
  · change (t.takeOut i).ctr.summit = (s.takeOut i).ctr.summit
    rw [hs.summit, ht.summit, hreg, h.summit]
  · rw [hs.unlocated, ht.unlocated, hreg, h.unlocated]

theorem SameCollections.move (cs : List Nat) (hnodup : cs.Nodup) (h : SameCollections s t)
    (hl : ∀ i ∈ cs, (s.reg i).location.isLine) : SameCollections (s.moveToUnlocated cs) (t.moveToUnlocated cs) := by
  induction cs generalizing s t with
  | nil => exact h
  | cons i rest ih =>
    obtain ⟨hi, hrest⟩ := List.nodup_cons.mp hnodup
    refine ih hrest (h.moveOne (hl i List.mem_cons_self)) fun j hj => ?_
    have hne : ¬ (i = j ∧ i < (s.takeOut i).registry.length) := fun hc => hi (hc.1 ▸ hj)
    rw [joinUnlocated_reg, if_neg hne, reg_congr (takeOut_line_registry (hl i List.mem_cons_self))]
    exact hl j (List.mem_cons_of_mem _ hj)

/-! ## LGT's records and the releases cleared (R38, R39) -/

/-- The state with nothing pending or watched, no slot of a release, and a queue set. -/
def State.launchless (s : State) (q : List StationEntry) : State :=
  (s.setCtr { s.ctr with queue := q, slots := s.ctr.slots.map SlotState.restored }).setLgt
    { s.lgt with watch := [], pending := none }

theorem launchless_slot (s : State) (q : List StationEntry) (k : Nat) : (s.launchless q).slot k = (s.slot k).restored := by
  change (s.ctr.slots.map SlotState.restored).getD k .empty = (s.ctr.slots.getD k .empty).restored
  rw [List.getD_eq_getElem?_getD, List.getD_eq_getElem?_getD, List.getElem?_map]
  cases s.ctr.slots[k]? <;> rfl

theorem restored_or (x : SlotState) : x.restored = x ∨ x.restored = .empty := by
  cases x <;> first | exact .inl rfl | exact .inr rfl

theorem launchless_fleet (h : s.FleetBut out loose) {q : List StationEntry} (hq : List.Forall₂ SameEntry s.ctr.queue q) :
    (s.launchless q).FleetBut out loose := by
  have hslot := launchless_slot s q
  exact h.calm
    { stats := rfl
      location := fun _ => rfl
      uphillDoors := fun _ _ => ⟨rfl, rfl⟩
      queue := hq
      garage := rfl
      lines := ⟨rfl, rfl⟩
      sets := ⟨rfl, rfl⟩
      slotCount := List.length_map _
      slot := fun k => by
        rw [hslot]
        exact restored_or _
      lineSlot := fun k c hk => by
        rw [hslot]
        rcases hk with hk | hk <;> rw [hk] <;> rfl
      watch := List.nil_sublist _
      watchSlot := fun w hw => absurd hw List.not_mem_nil
      backed := fun k hk => by
        rw [hslot] at hk ⊢
        generalize s.slot k = x at *
        cases x <;> trivial
      safety := rfl
      staged := rfl
      write := fun w hw => .inr ⟨w, hw, rfl, id⟩
      storedSafety := fun _ hx => hx
      storedFleet := fun _ hx => hx
      storedPark := fun _ hx => hx }

/-! ## No line, and N EMPTY slots (R39, R60) -/

/-- A state without lines and with EMPTY slots, whose collections are those of a fleet that is conserved. -/
theorem State.FleetBut.lineless (h : s.FleetBut out ∅) (hsame : SameCollections s t) (hup : t.ctr.uphill = [])
    (hdown : t.ctr.downhill = []) (hwatch : t.lgt.watch = []) (hslots : ∀ x ∈ t.ctr.slots, x = .empty)
    (hgeometry : t.geometryAgrees) (hstored : t.storeAgrees) : t.FleetBut out ∅ := by
  have hreg := reg_congr hsame.registry
  have hmembers := hsame.members
  have hempty : ∀ k, t.slot k = .empty := fun k => by
    rw [State.slot, List.getD_eq_getElem?_getD]
    cases hk : t.ctr.slots[k]? with
    | none => rfl
    | some x => exact hslots x (List.mem_of_getElem? hk)
  refine ⟨by rw [hsame.registry]; exact h.registered, fun l => by rw [hmembers]; exact h.nodup l,
    fun l i hi => ?_, fun i hi hout => ?_, fun i hi => ?_, (slotsBut_empty t).mpr ⟨fun k _ => ?_, ?_, ?_, ?_, ?_⟩, ⟨?_, ?_, ?_⟩,
    fun i hi => ?_, hgeometry, hstored⟩
  · rw [hmembers] at hi
    rw [hreg]
    exact h.member l i hi
  · rw [hreg, hmembers]
    exact h.placed i hi hout
  · rw [hreg]
    exact h.outside i hi
  · rw [hempty]
    trivial
  · rw [hup]
    exact fun u hu => absurd hu List.not_mem_nil
  · rw [hdown]
    exact fun d hd => absurd hd List.not_mem_nil
  · rw [hwatch]
    exact fun w hw => absurd hw List.not_mem_nil
  · rw [List.filterMap_eq_nil_iff.mpr fun x hx => by rw [hslots x hx]; rfl]
    exact List.nodup_nil
  · rw [hsame.queue, hsame.garage]
    exact h.entries.1
  · rw [hwatch]
    exact List.nodup_nil
  · rw [hwatch]
    exact fun w hw => absurd hw List.not_mem_nil
  · rw [hmembers] at hi
    rw [hreg]
    exact h.ready i hi

theorem sameEntry_trans {a b c : List StationEntry} (h1 : List.Forall₂ SameEntry a b) (h2 : List.Forall₂ SameEntry b c) :
    List.Forall₂ SameEntry a c := by
  induction h1 generalizing c with
  | nil => exact h2
  | cons hxy _ ih =>
    cases h2 with
    | cons hyz h2 =>
      exact .cons ⟨hyz.1.trans hxy.1, hyz.2.1.trans hxy.2.1, fun h7 => hyz.2.2 (hxy.2.2 h7)⟩ (ih h2)

theorem foldl_setSlotless (l : List WatchEntry) (x : State) :
    ∃ q, List.Forall₂ SameEntry x.ctr.queue q ∧
      l.foldl (fun y w => y.setSlotless w.cabin) x = x.setCtr { x.ctr with queue := q } := by
  induction l generalizing x with
  | nil => exact ⟨x.ctr.queue, sameEntry_refl _, rfl⟩
  | cons w l ih =>
    obtain ⟨q, hq, he⟩ := ih (x.setSlotless w.cabin)
    refine ⟨q, ?_, he⟩
    have hflag : List.Forall₂ SameEntry x.ctr.queue (x.setSlotless w.cabin).ctr.queue :=
      List.forall₂_map_right_iff.mpr (List.forall₂_same.mpr fun e _ => by
        split <;> exact ⟨rfl, rfl, id⟩)
    exact sameEntry_trans hflag hq

theorem resetLaunch_collections (x : State) :
    ∃ q, List.Forall₂ SameEntry x.ctr.queue q ∧ SameCollections (x.launchless q) x.resetLaunch := by
  obtain ⟨q, hq, he⟩ := foldl_setSlotless x.lgt.watch x
  refine ⟨q, hq, ?_⟩
  unfold State.resetLaunch
  rw [he]
  dsimp only
  split
  · split <;> exact ⟨rfl, rfl, rfl, rfl, rfl, rfl, rfl⟩
  · exact ⟨rfl, rfl, rfl, rfl, rfl, rfl, rfl⟩

/-! ## The commit of a new geometry -/

theorem line_of_mem (h : s.FleetBut out loose) {i : Nat}
    (hi : i ∈ s.ctr.uphill.map UphillEntry.cabin ++ s.ctr.downhill.map DownhillEntry.cabin) :
    s.InPlace out i ∧ (s.reg i).location.isLine := by
  rcases List.mem_append.mp hi with hi | hi
  · exact ⟨h.inPlace (l := .uphill) hi, .inl (h.member .uphill i hi).2.2.2⟩
  · exact ⟨h.inPlace (l := .downhill) hi, .inr (h.member .downhill i hi).2.2.2⟩

theorem nodup_lines (h : s.FleetBut out loose) :
    (s.ctr.uphill.map UphillEntry.cabin ++ s.ctr.downhill.map DownhillEntry.cabin).Nodup :=
  (h.nodup .uphill).append (h.nodup .downhill) (disjoint_members (l := .uphill) (m := .downhill) h nofun)

/-- The collections of a state after the lines are cleared are those of a fleet that is conserved. -/
theorem clearLines_collections (h : s.FleetBut out ∅) {x : State} (hx : SameCollections s x) :
    ∃ y : State, y.FleetBut out ∅ ∧ SameService s y ∧ SameCollections y (x.resetLaunch.clearLines) := by
  obtain ⟨q, hq, hsame⟩ := resetLaunch_collections x
  have hy := launchless_fleet h (q := q) (by rwa [← hx.queue])
  have hxy : SameCollections (s.launchless q) x.resetLaunch :=
    ⟨hsame.registry.trans hx.registry, hsame.queue, hsame.garage.trans hx.garage, hsame.uphill.trans hx.uphill,
      hsame.downhill.trans hx.downhill, hsame.summit.trans hx.summit, hsame.unlocated.trans hx.unlocated⟩
  have hmoved := hxy.move _ (nodup_lines hy) fun i hi => (line_of_mem hy hi).2
  obtain ⟨hfleet, hservice⟩ := moveToUnlocated_fleet _ _ hy fun i hi => (line_of_mem hy hi).1
  refine ⟨_, hfleet, hservice, ?_⟩
  have hreport : Does 250739723 (x.resetLaunch.moveToUnlocated
      (x.resetLaunch.ctr.uphill.map UphillEntry.cabin ++ x.resetLaunch.ctr.downhill.map DownhillEntry.cabin))
      x.resetLaunch.clearLines := State.report_does _ _ _ _ (Does.refl _ _) rfl
  have hcabins : (s.launchless q).ctr.uphill.map UphillEntry.cabin ++ (s.launchless q).ctr.downhill.map DownhillEntry.cabin =
      x.resetLaunch.ctr.uphill.map UphillEntry.cabin ++ x.resetLaunch.ctr.downhill.map DownhillEntry.cabin := by
    rw [hxy.uphill, hxy.downhill]
  rw [← hcabins] at hreport
  rw [hcabins] at hmoved hreport ⊢
  exact ⟨hreport.registry_eq.trans hmoved.registry, hreport.queue_eq.trans hmoved.queue, hreport.garage_eq.trans hmoved.garage,
    hreport.uphill_eq.trans hmoved.uphill, hreport.downhill_eq.trans hmoved.downhill,
    hreport.summit_eq.trans hmoved.summit, hreport.unlocated_eq.trans hmoved.unlocated⟩

/-- The state in which a SAFETY commit takes effect: the tables are in force and in the store (R189). -/
def State.inForce (s : State) (x : SafetyTables) : State :=
  (s.storeSafety x s.geometryChanges).setTst
    { s.tst with safety := some x, stageSafety := x, safetyChanged := false }

/-- What a commit needs of the geometry: N entries in the slot table. -/
theorem inForce_geometry {x : SafetyTables} (hx : x.sized) (hwrite : s.tst.write = none) (hs : SameStore (s.inForce x) t)
    (hcount : t.ctr.slots.length = x.N) : t.geometryAgrees := by
  unfold State.geometryAgrees
  rw [hs.safety, hs.staged, hs.write, hs.store]
  refine ⟨fun y hy => ?_, fun y hy => ?_, hx.2, fun w hw => ?_⟩
  · obtain rfl := Option.some.inj hy
    exact ⟨hx, hcount⟩
  · obtain rfl := Option.some.inj hy
    exact hx
  · rw [show (s.inForce x).tst.write = none from hwrite] at hw
    cases hw

theorem SameCollections.rebuildSlots (h : SameCollections s t) (n : Nat) : SameCollections s (t.rebuildSlots n) :=
  ⟨h.registry, h.queue, h.garage, h.uphill, h.downhill, h.summit, h.unlocated⟩

theorem inForce_stored {x : SafetyTables} (h : s.storeAgrees) (hwrite : s.tst.write = none) (hs : SameStore (s.inForce x) t)
    (hstats : t.registry.map RegEntry.stat = s.registry.map RegEntry.stat) : t.storeAgrees := by
  unfold State.storeAgrees
  rw [hs.store, hs.write, hstats]
  intro f hf
  obtain ⟨hreg, hpark, -⟩ := h f hf
  refine ⟨hreg, fun p hp => ?_, fun w hw => ?_⟩
  · change p ∈ (if s.geometryChanges then none else s.store.park) at hp
    split at hp
    · cases hp
    · exact hpark p hp
  · rw [show (s.inForce x).tst.write = none from hwrite] at hw
    cases hw

theorem commitGeometry_fleet (h : s.FleetBut out ∅) (hwrite : s.tst.write = none) {x : SafetyTables} (hx : x.sized) (b : Bool) :
    ((s.inForce x).commitGeometry x b).FleetBut out ∅ := by
  have hs : SameStore (s.inForce x) ((s.inForce x).commitGeometry x b) :=
    sameStore_of_does (State.commitGeometry_does x b (Does.refl _ _) rfl)
  obtain ⟨-, hup, hdown, -, -, hslots, -, hwatch⟩ := commitGeometry_spec (s := s.inForce x) x b
    (fun y hy => (h.member .uphill y.cabin (List.mem_map_of_mem hy)).2.2.2)
    (fun y hy => (h.member .downhill y.cabin (List.mem_map_of_mem hy)).2.2.2)
  have hstart : SameCollections s
      (if b then (s.inForce x).loseReference else (s.inForce x).loseReference.startTachLoss x) := by
    have hlose : Does 32776 (s.inForce x) (s.inForce x).loseReference := State.loseReference_does (Does.refl _ _) rfl
    have htach : Does 32776 (s.inForce x) ((s.inForce x).loseReference.startTachLoss x) :=
      State.startTachLoss_does x hlose rfl
    split
    · exact ⟨hlose.registry_eq, hlose.queue_eq, hlose.garage_eq, hlose.uphill_eq, hlose.downhill_eq, hlose.summit_eq,
        hlose.unlocated_eq⟩
    · exact ⟨htach.registry_eq, htach.queue_eq, htach.garage_eq, htach.uphill_eq, htach.downhill_eq, htach.summit_eq,
        htach.unlocated_eq⟩
  obtain ⟨y, hy, hservice, hsame⟩ := clearLines_collections h hstart
  have hz : SameCollections y ((s.inForce x).commitGeometry x b) := by
    unfold State.commitGeometry
    exact hsame.rebuildSlots x.N
  refine hy.lineless hz hup hdown hwatch (fun z hin => ?_) (inForce_geometry hx hwrite hs ?_)
    (inForce_stored h.stored hwrite hs (stats_of_reg ?_ fun j => ?_))
  · rw [hslots] at hin
    exact List.eq_of_mem_replicate hin
  · rw [hslots, List.length_replicate]
  · rw [hz.registry, hy.registered, h.registered]
  · rw [reg_congr hz.registry, hservice j]

/-- A commit that leaves L and S leaves N. -/
theorem inForce_fleet (h : s.FleetBut out loose) (hwrite : s.tst.write = none) {x : SafetyTables} (hx : x.sized)
    (hstaged : s.tst.stageSafety = x) (hsame : s.geometryChanges = false) : (s.inForce x).FleetBut out loose := by
  refine h.of_same ⟨rfl, rfl, rfl⟩ (inForce_geometry hx hwrite ⟨rfl, rfl, rfl, rfl⟩ ?_)
    (inForce_stored h.stored hwrite ⟨rfl, rfl, rfl, rfl⟩ rfl)
  change s.ctr.slots.length = x.N
  unfold State.geometryChanges at hsame
  split at hsame
  · rename_i y hy
    rw [hstaged] at hsame
    simp only [decide_not, Bool.or_eq_false_iff, Bool.not_eq_false', decide_eq_true_eq] at hsame
    obtain ⟨⟨hsize, hS⟩, hcount⟩ := h.geometry.1 y hy
    obtain ⟨hL, hSeq⟩ := hsame
    rw [hcount]
    exact Nat.eq_of_mul_eq_mul_right hS (by rw [← hsize, hL, hx.1, hSeq])
  · cases hsame

end Sys2Proof.Machine
end
section
/-!
PROOFS. The conservation of the fleet (O27), twenty-first part: the completions of store writes (R187 to R191).
-/

namespace Sys2Proof.Machine

variable {s t : State} {out loose : Set Nat}

/-! ## A SAFETY commit takes effect (R172, R184, R189) -/

theorem commitMatrix_fleet (h : s.FleetBut out loose) (m : List Category) : (s.commitMatrix m).FleetBut out loose :=
  formOutput_fleet (h.does (Does.foldl _ _ (Does.refl _ s) fun _ c hx => State.recategorise_does m c hx rfl)) _

theorem updateRope_fleet (h : s.FleetBut out ∅) (x : SafetyTables) : (s.updateRope x).FleetBut out ∅ :=
  takeReport_fleet (launchUpdate_fleet (setRecord_fleet (takeReport_fleet h) x))

theorem commitUpdate_fleet (h : s.FleetBut out ∅) (x : SafetyTables) : (s.commitUpdate x).FleetBut out ∅ :=
  takeReport_fleet (trackUpdate_fleet (judgeSegments_fleet (updateRope_fleet h x)))

theorem followTables_fleet (h : s.FleetBut out ∅) (towers : List (Option TowerEntry)) (nodes : List NodeEntry)
    (x : SafetyTables) (b : Bool) : (s.followTables towers nodes x b).FleetBut out ∅ := by
  have hmonitor : ((s.commitTension b).commitTowers towers x.towers).FleetBut out ∅ :=
    h.does (State.commitTowers_does _ _ (State.commitTension_does b (Does.refl _ s) rfl) rfl)
  exact judgeGarageExit_fleet (commitUpdate_fleet ((commitMatrix_fleet hmonitor x.matrix).does
    (State.commitNodes_does _ _ (Does.refl _ _) rfl)) x)

theorem applyStaged_fleet (h : s.FleetBut out ∅) (hwrite : s.tst.write = none) (hsized : s.tst.stageSafety.sized) :
    ((s.storeSafety s.tst.stageSafety s.geometryChanges).applySafety s.tst.stageSafety).FleetBut out ∅ := by
  obtain ⟨towers, nodes, he⟩ := applySafety_eq (s.storeSafety s.tst.stageSafety s.geometryChanges) s.tst.stageSafety
  rw [he]
  refine followTables_fleet ?_ towers nodes _ _
  split
  · exact commitGeometry_fleet h hwrite hsized _
  · rename_i hsame
    exact inForce_fleet h hwrite hsized rfl (Bool.eq_false_iff.mpr hsame)

theorem applyOperations_fleet (h : s.FleetBut out loose) (o : OperationsTables) : (s.applyOperations o).FleetBut out loose := by
  have hstore : (s.setStore { s.store with operations := some o }).FleetBut out loose :=
    setStore_sameFleet h (fun _ hy => hy) (fun _ hf => hf) fun _ hp => hp
  exact setTst_fleet hstore ⟨rfl, rfl, rfl⟩

/-! ## After any write (R189) -/

theorem replyIf_fleet (h : s.FleetBut out loose) (r : Option ReplyTo) (x : Status) : (s.replyIf r x).FleetBut out loose :=
  h.does (State.replyIf_does r x (Does.refl _ s) rfl)

theorem judgeTables_fleet (h : s.FleetBut out loose) : s.judgeTables.FleetBut out loose := judge_fleet h ..

theorem endWrite_fleet (h : s.FleetBut out loose) : s.endWrite.FleetBut out loose := by
  refine h.calm (calm_of_store (State.endWrite_does (Does.refl _ s) rfl) (fun w hw => by cases hw) (fun _ hx => hx)
    (fun _ hx => hx) fun _ hx => hx)

theorem followQueued_fleet (h : s.FleetBut out loose) : s.followQueued.FleetBut out loose := by
  unfold State.followQueued
  split
  · have hset : (s.setTst { s.tst with invalidationQueued := false }).FleetBut out loose := setTst_fleet h ⟨rfl, rfl, rfl⟩
    dsimp only
    split
    · exact startInvalidation_fleet hset
    · exact hset
  · exact h

theorem applyCommit_fleet (h : s.FleetBut out ∅) (hwrite : s.tst.write = none) {g : TableGroup}
    (hsized : g = .safety → s.tst.stageSafety.sized) (r : Option ReplyTo) : (s.applyCommit g r).FleetBut out ∅ := by
  unfold State.applyCommit
  refine replyIf_fleet (takeReport_fleet (judgeTables_fleet ?_)) r .ok
  split
  · exact applyStaged_fleet h hwrite (hsized rfl)
  · exact applyOperations_fleet h _
  · exact h

/-- The FLEET group stored is the registry's, and no park record stands beside it (R190). -/
theorem completeFleet_fleet (h : s.FleetBut out loose) (hwrite : s.tst.write = none) (r : Option ReplyTo) :
    (s.completeFleet r).FleetBut out loose := by
  have hstored : (s.setStore { s.store with fleet := some (s.registry.map RegEntry.stat), park := none }).FleetBut out loose := by
    obtain ⟨hforce, hstore, hS, -⟩ := h.geometry
    have hnone : ∀ w, w ∉ (s.setStore { s.store with fleet := some (s.registry.map RegEntry.stat), park := none }).tst.write :=
      fun w hw => by
        rw [State.setStore_tst, hwrite] at hw
        cases hw
    refine h.of_same ⟨rfl, rfl, rfl⟩ ⟨hforce, hstore, hS, fun w hw => absurd hw (hnone w)⟩ fun f hf => ?_
    exact ⟨(Option.some.inj hf).symm, (fun p hp => by cases hp), fun w hw => absurd hw (hnone w)⟩
  exact replyIf_fleet (takeReport_fleet (judgeTables_fleet (by exact setTst_fleet hstored ⟨rfl, rfl, rfl⟩))) r .ok

theorem completeProtection_fleet (h : s.FleetBut out loose) (m : ProtectionMode) (r : Option ReplyTo) :
    (s.completeProtection m r).FleetBut out loose := by
  have hstored : (s.setStore { s.store with protection := m }).FleetBut out loose :=
    setStore_sameFleet h (fun _ hy => hy) (fun _ hf => hf) fun _ hp => hp
  exact replyIf_fleet hstored r .ok

theorem completePark_fleet (h : s.FleetBut out loose) {p : ParkRecord} (hp : ∀ f ∈ s.store.fleet, p.agrees f) (b : Bool)
    (r : Option ReplyTo) : (s.completePark p b r).FleetBut out loose := by
  unfold State.completePark
  split
  · exact replyIf_fleet (report_fleet h _ _ _ _) r .notAllowed
  · refine replyIf_fleet ?_ r .ok
    obtain ⟨hforce, hstore, hS, hw⟩ := h.geometry
    refine h.of_same ⟨rfl, rfl, rfl⟩ ⟨hforce, hstore, hS, hw⟩ fun f hf => ?_
    obtain ⟨hstats, -, hsnapshot⟩ := h.stored f hf
    refine ⟨hstats, fun q hq => ?_, hsnapshot⟩
    obtain rfl := Option.some.inj hq
    exact hp f hf

/-- The completion of a write: the store becomes IDLE, what was written stands, and a queued invalidation follows. -/
theorem complete_fleet (h : s.FleetBut out loose) {act : WriteKind → Option (Option ReplyTo → State → State)}
    (hact : ∀ w ∈ s.tst.write, ∀ effect ∈ act w.kind, (effect w.reply s.endWrite).FleetBut out loose) :
    (complete act s).FleetBut out loose := by
  unfold complete
  split
  · rename_i w hw
    split
    · rename_i effect he
      unfold whole
      split
      · exact h
      · exact settle_fleet (followQueued_fleet (hact w hw effect he)) s
    · exact h
  · exact h

theorem commitComplete_fleet (h : s.FleetBut ∅ ∅) :
    (complete (fun k => match k with | .commit g => some fun r x => x.applyCommit g r | _ => none) s).FleetBut ∅ ∅ := by
  refine complete_fleet h fun w hw effect he => ?_
  split at he
  · rename_i g hk
    obtain rfl := Option.some.inj he
    exact applyCommit_fleet (endWrite_fleet h) rfl (fun hg => h.geometry.2.2.2 w hw (by rw [hk, hg])) _
  · cases he

theorem fleetComplete_fleet (h : s.FleetBut ∅ ∅) :
    (complete (fun k => match k with | .fleet _ => some fun r x => x.completeFleet r | _ => none) s).FleetBut ∅ ∅ := by
  refine complete_fleet h fun w _ effect he => ?_
  split at he
  · obtain rfl := Option.some.inj he
    exact completeFleet_fleet (endWrite_fleet h) rfl _
  · cases he

theorem protectionComplete_fleet (h : s.FleetBut ∅ ∅) :
    (complete (fun k => match k with | .protection m => some fun r x => x.completeProtection m r | _ => none) s).FleetBut ∅
      ∅ := by
  refine complete_fleet h fun w _ effect he => ?_
  split at he
  · obtain rfl := Option.some.inj he
    exact completeProtection_fleet (endWrite_fleet h) _ _
  · cases he

theorem parkComplete_fleet (h : s.FleetBut ∅ ∅) :
    (complete (fun k => match k with | .park p stale => some fun r x => x.completePark p stale r | _ => none) s).FleetBut ∅
      ∅ := by
  refine complete_fleet h fun w hw effect he => ?_
  split at he
  · rename_i p stale hk
    obtain rfl := Option.some.inj he
    exact completePark_fleet (endWrite_fleet h) (fun f hf => (h.stored f hf).2.2 w hw p (by rw [hk]; rfl)) _ _
  · cases he

theorem invalidationComplete_fleet (h : s.FleetBut ∅ ∅) :
    (complete
      (fun k => match k with | .invalidation => some fun _ x => x.setStore { x.store with park := none } | _ => none)
      s).FleetBut ∅ ∅ := by
  refine complete_fleet h fun w _ effect he => ?_
  split at he
  · obtain rfl := Option.some.inj he
    exact setStore_sameFleet (endWrite_fleet h) (fun _ hy => hy) (fun _ hf => hf) fun _ hp => by cases hp
  · cases he

end Sys2Proof.Machine
end
section
/-!
PROOFS. The conservation of the fleet (O27), twenty-second part: resets and the park record (R37, R38, R58, R59, R86, R87, R189,
R192).
-/

namespace Sys2Proof.Machine

variable {s t : State} {out loose : Set Nat}

/-! ## What a reset reads in the store -/

/-- The stored tables are sized, and the FLEET group has 128 entries, with which a park record beside it agrees. -/
def Store.sound (x : Store) : Prop :=
  (∀ y ∈ x.safety, y.sized) ∧ ∀ f ∈ x.fleet, f.length = 128 ∧ ∀ p ∈ x.park, p.agrees f

theorem State.FleetBut.soundStore (h : s.FleetBut out loose) : s.store.sound := by
  refine ⟨h.geometry.2.1, fun f hf => ?_⟩
  obtain ⟨rfl, hpark, -⟩ := h.stored f hf
  exact ⟨by rw [List.length_map, h.registered], hpark⟩

/-! ## A write cut short (R189) -/

theorem setFree_fleet (h : s.FleetBut out loose) (n : Nat) : (s.setFree n).FleetBut out loose :=
  h.of_same ⟨rfl, rfl, rfl⟩ h.geometry h.stored

theorem parkCutShort_fleet (h : s.FleetBut out loose) : s.parkCutShort.FleetBut out loose := by
  have hstore : (s.setStore
      { s.store with park := if Config.parkFlagSurvives s.free then s.store.park else none }).FleetBut out loose := by
    refine setStore_sameFleet h (fun _ hy => hy) (fun _ hf => hf) fun p hp => ?_
    dsimp only at hp
    split at hp
    · exact hp
    · cases hp
  exact setFree_fleet hstore _

theorem cutShort_fleet (h : s.FleetBut out loose) : s.cutShort.FleetBut out loose := by
  unfold State.cutShort
  split
  · exact h
  · refine endWrite_fleet ?_
    split
    · exact setStore_sameFleet h (fun _ hy => hy) (fun _ hf => hf) fun _ hp => hp
    · split
      · exact parkCutShort_fleet h
      · exact h

/-! ## The blocks come up (R37, R58, R86) -/

theorem loadedRegistry_length (x : Store) : x.loadedRegistry.length = 128 := by simp [Store.loadedRegistry]

/-- The registry loaded is the FLEET group. -/
theorem loadedRegistry_stats {x : Store} {f : List FleetStatic} (hf : x.fleet = some f) (hlen : f.length = 128) :
    x.loadedRegistry.map RegEntry.stat = f := by
  refine List.ext_getElem (by simp [Store.loadedRegistry, hlen]) fun j hj hj' => ?_
  simp [Store.loadedRegistry, hf, RegEntry.initial, List.getD_eq_getElem?_getD, List.getElem?_eq_getElem hj']

theorem loadedSlots_empty {x : Option SafetyTables} {y : SlotState} (h : y ∈ loadedSlots x) : y = .empty := by
  unfold loadedSlots at h
  split at h
  · exact List.eq_of_mem_replicate h
  · cases h

theorem storeAgrees_of_sound (h : s.store.sound) (hwrite : s.tst.write = none)
    (hstats : ∀ f, s.store.fleet = some f → f.length = 128 → s.registry.map RegEntry.stat = f) : s.storeAgrees := by
  intro f hf
  obtain ⟨hlen, hpark⟩ := h.2 f hf
  refine ⟨(hstats f hf hlen).symm, hpark, fun w hw => ?_⟩
  rw [hwrite] at hw
  cases hw

theorem initial_location (x : FleetStatic) :
    if x.inService then (RegEntry.initial x).location = .unlocated else (RegEntry.initial x).location = .outOfService := by
  cases hx : x.inService <;> simp [RegEntry.initial, hx]

/-- The blocks of a reset hold every cabin in service in the unlocated set. -/
theorem blocksReset_fleet (h : s.store.sound) (locked : Bool) : (s.blocksReset locked).FleetBut ∅ ∅ := by
  have hreg := fun i hi => blocksReset_reg s locked i hi
  have hmembers : ∀ l, l ≠ .unlocated → (s.blocksReset locked).members l = [] := fun l hl => by
    cases l with
    | unlocated => exact absurd rfl hl
    | _ => rfl
  have hunlocated : ∀ i, i ∈ (s.blocksReset locked).members .unlocated ↔
      i < 128 ∧ ((s.store.fleet.getD []).getD i FleetStatic.blank).inService = true := mem_inServiceIndices s.store
  have hslot : ∀ k, (s.blocksReset locked).slot k = .empty := fun k => by
    rw [State.slot, List.getD_eq_getElem?_getD]
    cases hk : (s.blocksReset locked).ctr.slots[k]? with
    | none => rfl
    | some x => exact loadedSlots_empty (List.mem_of_getElem? hk)
  refine ⟨loadedRegistry_length _, fun l => ?_, fun l i hi => ?_, fun i hi _ => ?_, fun i hi => absurd hi (Set.notMem_empty i),
    (slotsBut_empty _).mpr ⟨fun k _ => ?_, fun u hu => absurd hu List.not_mem_nil, fun d hd => absurd hd List.not_mem_nil,
      fun w hw => absurd hw List.not_mem_nil, ?_⟩,
    ⟨List.nodup_nil, List.nodup_nil, fun w hw => absurd hw List.not_mem_nil⟩, fun i hi => absurd hi List.not_mem_nil,
    ⟨fun x hx => ?_, h.1, ?_, fun w hw => by cases hw⟩, storeAgrees_of_sound h rfl fun f hf hlen => loadedRegistry_stats hf hlen⟩
  · by_cases hl : l = .unlocated
    · rw [hl]
      exact List.nodup_range.filter _
    · rw [hmembers l hl]
      exact List.nodup_nil
  · by_cases hl : l = .unlocated
    · subst hl
      obtain ⟨h128, hservice⟩ := (hunlocated i).mp hi
      refine ⟨Set.notMem_empty i, h128, ?_⟩
      rw [hreg i h128]
      have hinit := initial_location ((s.store.fleet.getD []).getD i FleetStatic.blank)
      rw [if_pos hservice] at hinit
      exact ⟨hservice, hinit⟩
    · rw [hmembers l hl] at hi
      cases hi
  · rw [hreg i hi]
    have hinit := initial_location ((s.store.fleet.getD []).getD i FleetStatic.blank)
    change if ((s.store.fleet.getD []).getD i FleetStatic.blank).inService then _ else _
    split at hinit
    · rw [if_pos (by assumption), hinit]
      exact (hunlocated i).mpr ⟨hi, by assumption⟩
    · rw [if_neg (by assumption)]
      exact hinit
  · rw [hslot]
    trivial
  · rw [List.filterMap_eq_nil_iff.mpr fun x hx => by rw [loadedSlots_empty hx]; rfl]
    exact List.nodup_nil
  · have hx' : s.store.safety = some x := hx
    refine ⟨h.1 x hx, ?_⟩
    change (loadedSlots s.store.safety).length = x.N
    rw [hx']
    exact List.length_replicate
  · change 0 < (s.store.safety.getD SafetyTables.default).S
    cases hx : s.store.safety with
    | none => decide
    | some x => exact (h.1 x hx).2

theorem startWatching_fleet (h : s.FleetBut ∅ ∅) : s.startWatching.FleetBut ∅ ∅ := by
  unfold State.startWatching
  split
  · rename_i x hx
    have htach : (s.startTachLoss x).FleetBut ∅ ∅ := h.does (State.startTachLoss_does x (Does.refl _ s) rfl)
    have hrmn : ((s.startTachLoss x).setRmn
        { (s.startTachLoss x).rmn with tensionLoss := some ((s.startTachLoss x).after 1000) }).FleetBut ∅ ∅ :=
      htach.of_same ⟨rfl, rfl, rfl⟩ htach.geometry htach.stored
    exact quietUpdate_fleet (hrmn.does (State.startTowers_does (Does.refl _ _) rfl))
  · exact h

theorem blocksUp_fleet (h : s.store.sound) (locked : Bool) : (s.blocksUp locked).FleetBut ∅ ∅ :=
  startWatching_fleet (blocksReset_fleet h locked)

end Sys2Proof.Machine
end
section
/-!
PROOFS. The conservation of the fleet (O27), twenty-third part: a park record restored (R38, R59, R87, R112, R192).
-/

namespace Sys2Proof.Machine

variable {s t : State} {out loose : Set Nat} {p : ParkRecord}

/-! ## The cabins that a record names -/

/-- The cabins of a record by the collection that a restore puts them in. -/
def ParkRecord.members (p : ParkRecord) : Location → List Nat
  | .station => p.queue.filterMap ParkEntry.index
  | .garage => p.garage.filterMap ParkEntry.index
  | .uphill => p.uphill.map UphillEntry.cabin
  | .downhill => p.downhill.map DownhillEntry.cabin
  | .summit => p.summit
  | .unlocated | .outOfService => []

theorem mem_named (i : Nat) : i ∈ p.named ↔ ∃ l, i ∈ p.members l := by
  simp only [ParkRecord.named, List.mem_append]
  constructor
  · rintro ((((h | h) | h) | h) | h)
    exacts [⟨.station, h⟩, ⟨.garage, h⟩, ⟨.uphill, h⟩, ⟨.downhill, h⟩, ⟨.summit, h⟩]
  · rintro ⟨l, h⟩
    cases l with
    | station => exact .inl (.inl (.inl (.inl h)))
    | garage => exact .inl (.inl (.inl (.inr h)))
    | uphill => exact .inl (.inl (.inr h))
    | downhill => exact .inl (.inr h)
    | summit => exact .inr h
    | unlocated => cases h
    | outOfService => cases h

theorem nodup_parkMembers (h : p.named.Nodup) (l : Location) : (p.members l).Nodup := by
  simp only [ParkRecord.named, List.nodup_append'] at h
  obtain ⟨⟨⟨⟨hqueue, hgarage, -⟩, hup, -⟩, hdown, -⟩, hsummit, -⟩ := h
  cases l with
  | station => exact hqueue
  | garage => exact hgarage
  | uphill => exact hup
  | downhill => exact hdown
  | summit => exact hsummit
  | unlocated => exact List.nodup_nil
  | outOfService => exact List.nodup_nil

/-! ## The registry of a restored part -/

theorem editRegs_stat (edits : List (Nat × (RegEntry → RegEntry))) (x : State) (h : ∀ e ∈ edits, ∀ r, (e.2 r).stat = r.stat)
    (j : Nat) : ((x.editRegs edits).reg j).stat = (x.reg j).stat := by
  induction edits generalizing x with
  | nil => rfl
  | cons e es ih =>
    refine (ih (x.modReg e.1 e.2) fun y hy => h y (List.mem_cons_of_mem _ hy)).trans ?_
    rw [modReg_reg]
    split
    · rename_i hj
      rw [h e List.mem_cons_self, hj.1]
    · rfl

theorem editsOf_stat {l : Location} {es : List ParkEntry} : ∀ e ∈ editsOf l es, ∀ r, (e.2 r).stat = r.stat := by
  intro e he r
  obtain ⟨x, -, hx⟩ := List.mem_filterMap.mp he
  obtain ⟨i, -, rfl⟩ := Option.map_eq_some_iff.mp hx
  rfl

/-- A restore changes no ID and no service flag. -/
theorem edits_stat (p : ParkRecord) : ∀ e ∈ p.edits, ∀ r, (e.2 r).stat = r.stat := by
  intro e he r
  simp only [ParkRecord.edits, List.mem_append] at he
  rcases he with (((he | he) | he) | he) | he
  · exact editsOf_stat e he r
  · exact editsOf_stat e he r
  all_goals
    obtain ⟨x, -, rfl⟩ := List.mem_map.mp he
    rfl

section
variable (locked : Bool)

theorem blocksUp_length (s : State) : (s.blocksUp locked).registry.length = 128 := by
  obtain ⟨-, -, -, hcab, -⟩ := blocksUp_spec s locked
  rw [hcab.1]
  exact loadedRegistry_length _

theorem editRegs_length (edits : List (Nat × (RegEntry → RegEntry))) (x : State) :
    (x.editRegs edits).registry.length = x.registry.length := by
  induction edits generalizing x with
  | nil => rfl
  | cons e es ih => exact (ih (x.modReg e.1 e.2)).trans (modReg_registry_length ..)

theorem restoredPart_length : (s.restoredPart locked p).registry.length = 128 := by
  rw [(restoredPart_placed (s := s) (p := p) locked).cabins.1, editRegs_length, blocksUp_length]

theorem restoredPart_stat {i : Nat} (hi : i < 128) :
    ((s.restoredPart locked p).reg i).stat = (s.store.fleet.getD []).getD i FleetStatic.blank := by
  obtain ⟨b, hb⟩ := (restoredPart_placed (s := s) (p := p) locked).cabins.2 i
  obtain ⟨-, -, -, hcab, -⟩ := blocksUp_spec s locked
  obtain ⟨b', hb'⟩ := hcab.2 i
  have hedit := editRegs_stat p.edits (s.blocksUp locked) (edits_stat p) i
  rw [hb', blocksReset_reg s locked i hi] at hedit
  rw [hb]
  exact hedit

theorem restoredPart_location_of_named (hnodup : p.named.Nodup) (h128 : ∀ i ∈ p.named, i < 128) {l : Location} {i : Nat}
    (hi : i ∈ p.members l) : ((s.restoredPart locked p).reg i).location = l := by
  obtain ⟨hqueue, hgarage, hup, hdown, hsummit⟩ := restoredPart_cabins (s := s) locked hnodup h128
  cases l with
  | station =>
    obtain ⟨e, he, hei⟩ := List.mem_filterMap.mp hi
    exact (hqueue e he i hei).1
  | garage =>
    obtain ⟨e, he, hei⟩ := List.mem_filterMap.mp hi
    exact (hgarage e he i hei).1
  | uphill =>
    obtain ⟨u, hu, rfl⟩ := List.mem_map.mp hi
    exact (hup u hu).1
  | downhill =>
    obtain ⟨d, hd, rfl⟩ := List.mem_map.mp hi
    exact (hdown d hd).1
  | summit => exact (hsummit i hi).1
  | unlocated => cases hi
  | outOfService => cases hi

theorem restoredPart_location_of_unnamed {i : Nat} (hi : i < 128) (hnamed : i ∉ p.named) :
    if ((s.store.fleet.getD []).getD i FleetStatic.blank).inService then
      ((s.restoredPart locked p).reg i).location = .unlocated
    else ((s.restoredPart locked p).reg i).location = .outOfService := by
  obtain ⟨b, hb⟩ := (restoredPart_placed (s := s) (p := p) locked).cabins.2 i
  obtain ⟨-, -, -, hcab, -⟩ := blocksUp_spec s locked
  obtain ⟨b', hb'⟩ := hcab.2 i
  rw [hb, editRegs_reg_of_not_mem _ (by rwa [edits_fst]), hb', blocksReset_reg s locked i hi]
  exact initial_location _

/-! ## The collections of a restored part -/

theorem restored_station_members :
    ((p.stationQueue.map p.settle).filterMap fun e => e.who.index) = p.queue.filterMap ParkEntry.index := by
  rw [List.filterMap_map]
  change (p.stationQueue.filterMap fun e => (p.settle e).who.index) = _
  simp only [settle_entry_who]
  unfold ParkRecord.stationQueue
  rw [List.filterMap_map]
  conv_rhs => rw [← List.zipIdx_map_fst 0 p.queue, List.filterMap_map]
  exact List.filterMap_congr fun x _ => entry_who_index x.1

theorem restored_garage_members : (p.garageStack.filterMap fun g => g.who.index) = p.garage.filterMap ParkEntry.index := by
  unfold ParkRecord.garageStack
  rw [List.filterMap_map]
  conv_rhs => rw [← List.zipIdx_map_fst p.queue.length p.garage, List.filterMap_map]
  exact List.filterMap_congr fun x _ => entry_who_index x.1

theorem restoredPart_members (l : Location) (hl : l ≠ .unlocated) : (s.restoredPart locked p).members l = p.members l := by
  have hplaced := restoredPart_placed (s := s) (p := p) locked
  cases l with
  | station => exact (congrArg _ hplaced.queue).trans restored_station_members
  | garage => exact (congrArg _ hplaced.garage).trans restored_garage_members
  | uphill => exact congrArg _ hplaced.uphill
  | downhill => exact congrArg _ hplaced.downhill
  | summit => exact hplaced.summit
  | unlocated => exact absurd rfl hl
  | outOfService => rfl

theorem restoredPart_unlocated : (s.restoredPart locked p).members .unlocated =
    (inServiceIndices s.store.loadedRegistry).filter fun i => i ∉ p.named := by
  have hplaced := restoredPart_placed (s := s) (p := p) locked
  obtain ⟨hctr, -⟩ := blocksUp_spec s locked
  refine hplaced.unlocated.trans ?_
  rw [hctr]
  rfl

theorem garageStack_serials (p : ParkRecord) :
    p.garageStack.map GarageEntry.serial = List.range' p.queue.length p.garage.length := by
  unfold ParkRecord.garageStack
  rw [List.map_map, ← List.zipIdx_map_snd p.queue.length p.garage]
  rfl

theorem restoredPart_serials : ((s.restoredPart locked p).ctr.queue.map StationEntry.serial ++
    (s.restoredPart locked p).ctr.garage.map GarageEntry.serial).Nodup := by
  have hplaced := restoredPart_placed (s := s) (p := p) locked
  rw [hplaced.queue, hplaced.garage, List.map_map,
    show StationEntry.serial ∘ p.settle = StationEntry.serial from funext (settle_entry_serial p), stationQueue_serials,
    garageStack_serials]
  refine List.nodup_range.append List.nodup_range' fun n hn hn' => ?_
  rw [List.mem_range] at hn
  rw [List.mem_range'_1] at hn'
  omega

end

/-! ## The slot table of a restored part (R38) -/

section
variable {f : List FleetStatic}

/-- No cabin is in two slots of a record whose slots agree with its lines. -/
theorem restored_slots_nodup (h : p.agrees f) : ((p.slots.map SlotState.restored).filterMap SlotState.cabin).Nodup := by
  obtain ⟨hnodup, -, -, hbacked, -, -⟩ := h
  have hup := nodup_parkMembers hnodup .uphill
  have hdown := nodup_parkMembers hnodup .downhill
  have hdisjoint : ∀ u ∈ p.uphill, ∀ d ∈ p.downhill, u.cabin ≠ d.cabin := fun u hu d hd he => by
    simp only [ParkRecord.named, List.nodup_append'] at hnodup
    obtain ⟨⟨-, -, hlines⟩, -⟩ := hnodup
    rw [List.disjoint_append_left] at hlines
    exact hlines.2 (List.mem_map_of_mem hu) (he ▸ List.mem_map_of_mem hd)
  rw [List.nodup_iff_pairwise_ne, List.pairwise_filterMap, List.pairwise_iff_getElem]
  intro j k hj hk hjk c hc c' hc'
  rw [List.length_map] at hj hk
  rw [List.getElem_map] at hc hc'
  have hbackedj := hbacked j hj
  have hbackedk := hbacked k hk
  rw [List.getD_eq_getElem?_getD, List.getElem?_eq_getElem hj, Option.getD_some] at hbackedj
  rw [List.getD_eq_getElem?_getD, List.getElem?_eq_getElem hk, Option.getD_some] at hbackedk
  rintro rfl
  cases hsj : p.slots[j] with
  | up a =>
    rw [hsj] at hc hbackedj
    obtain rfl := Option.some.inj hc
    obtain ⟨u, hu, rfl, rfl⟩ := hbackedj
    cases hsk : p.slots[k] with
    | up b =>
      rw [hsk] at hc' hbackedk
      obtain ⟨v, hv, rfl, rfl⟩ := hbackedk
      obtain rfl : u = v := List.inj_on_of_nodup_map hup hu hv (Option.some.inj hc').symm
      exact absurd hjk (Nat.lt_irrefl _)
    | down b =>
      rw [hsk] at hc' hbackedk
      obtain ⟨d, hd, rfl, -⟩ := hbackedk
      exact hdisjoint u hu d hd (Option.some.inj hc').symm
    | _ => rw [hsk] at hc'; cases hc'
  | down a =>
    rw [hsj] at hc hbackedj
    obtain rfl := Option.some.inj hc
    obtain ⟨d, hd, rfl, rfl⟩ := hbackedj
    cases hsk : p.slots[k] with
    | up b =>
      rw [hsk] at hc' hbackedk
      obtain ⟨u, hu, rfl, -⟩ := hbackedk
      exact hdisjoint u hu d hd (Option.some.inj hc')
    | down b =>
      rw [hsk] at hc' hbackedk
      obtain ⟨e, he, rfl, rfl⟩ := hbackedk
      obtain rfl : d = e := List.inj_on_of_nodup_map hdown hd he (Option.some.inj hc').symm
      exact absurd hjk (Nat.lt_irrefl _)
    | _ => rw [hsk] at hc'; cases hc'
  | _ => rw [hsj] at hc; cases hc

theorem restoredPart_slot (locked : Bool) (k : Nat) : (s.restoredPart locked p).slot k = (p.slots.getD k .empty).restored := by
  rw [State.slot, (restoredPart_placed (s := s) (p := p) locked).slots, List.getD_eq_getElem?_getD, List.getD_eq_getElem?_getD,
    List.getElem?_map]
  cases p.slots[k]? <;> rfl

theorem restoredPart_slots (locked : Bool) (h : p.agrees f) : (s.restoredPart locked p).slotsAgree := by
  have hplaced := restoredPart_placed (s := s) (p := p) locked
  have hslot := fun k => restoredPart_slot (s := s) (p := p) locked k
  obtain ⟨-, -, -, hbacked, hup, hdown⟩ := id h
  refine ⟨fun k hk => ?_, fun u hu => ?_, fun d hd => ?_, fun w hw => ?_, ?_⟩
  · rw [hplaced.slots, List.length_map] at hk
    have hk' := hbacked k hk
    rw [hslot]
    cases hx : p.slots.getD k .empty <;> rw [hx] at hk'
    case up c =>
      change ∃ u ∈ (s.restoredPart locked p).ctr.uphill, _
      rwa [hplaced.uphill]
    case down c =>
      change ∃ d ∈ (s.restoredPart locked p).ctr.downhill, _
      rwa [hplaced.downhill]
    all_goals trivial
  · rw [hplaced.uphill] at hu
    rw [hslot, hup u hu]
    rfl
  · rw [hplaced.downhill] at hd
    rw [hslot, hdown d hd]
    rfl
  · rw [hplaced.watch] at hw
    cases hw
  · rw [hplaced.slots]
    exact restored_slots_nodup h

end

/-! ## The restored fleet -/

/-- A valid park record restored beside the groups it agrees with is a fleet that is conserved. -/
theorem restoredPart_fleet {x : SafetyTables} {f : List FleetStatic} (h : s.store.sound) (locked : Bool)
    (hsafety : s.store.safety = some x) (hfleet : s.store.fleet = some f) (hpark : s.store.park = some p)
    (hL : p.L = x.L) (hS : p.S = x.S) : (s.restoredPart locked p).FleetBut ∅ ∅ := by
  obtain ⟨hlen, hparks⟩ := h.2 f hfleet
  have hagrees := hparks p hpark
  obtain ⟨hnodup, hnamed, hsize, -, -, -⟩ := id hagrees
  have hplaced := restoredPart_placed (s := s) (p := p) locked
  have hstore := blocksUp_store s locked
  have hd : Does 4845564 (s.blocksUp locked) (s.restoredPart locked p) :=
    State.restorePark_does p (Does.refl _ _) rfl (by rw [hstore]; exact hpark)
  have hup := blocksUp_fleet h locked
  have hwrite : (s.blocksUp locked).tst.write = none :=
    ((State.startWatching_does (m := 4297276) (Does.refl _ (s.blocksReset locked)) rfl).1 .write rfl).1
  have hsame : SameStore (s.blocksUp locked) (s.restoredPart locked p) :=
    ⟨hd.safety_eq, (hd.1 .staging rfl).1, hplaced.write, hd.1 .store rfl⟩
  have hstat : ∀ i < 128, ((s.restoredPart locked p).reg i).stat = f.getD i FleetStatic.blank := fun i hi => by
    rw [restoredPart_stat locked hi, hfleet]
    rfl
  have hunlocated : ∀ i, i ∈ (s.restoredPart locked p).members .unlocated ↔
      (i < 128 ∧ (f.getD i FleetStatic.blank).inService = true) ∧ i ∉ p.named := fun i => by
    rw [restoredPart_unlocated, List.mem_filter, mem_inServiceIndices, hfleet, decide_eq_true_iff]
    rfl
  refine ⟨restoredPart_length locked, fun l => ?_, fun l i hi => ?_, fun i hi _ => ?_,
    fun i hi => absurd hi (Set.notMem_empty i), (slotsBut_empty _).mpr (restoredPart_slots locked hagrees),
    ⟨restoredPart_serials locked, ?_, fun w hw => ?_⟩, fun i hi => ?_, ?_, ?_⟩
  · by_cases hl : l = .unlocated
    · rw [hl, restoredPart_unlocated]
      exact (List.nodup_range.filter _).filter _
    · rw [restoredPart_members locked l hl]
      exact nodup_parkMembers hnodup l
  · refine ⟨Set.notMem_empty i, ?_⟩
    by_cases hl : l = .unlocated
    · subst hl
      obtain ⟨⟨h128, hservice⟩, hout⟩ := (hunlocated i).mp hi
      have hlocation := restoredPart_location_of_unnamed (s := s) locked h128 hout
      rw [hfleet, Option.getD_some, if_pos hservice] at hlocation
      exact ⟨h128, by rw [hstat i h128]; exact hservice, hlocation⟩
    · rw [restoredPart_members locked l hl] at hi
      obtain ⟨h128, hservice⟩ := hnamed i ((mem_named i).mpr ⟨l, hi⟩)
      exact ⟨h128, by rw [hstat i h128]; exact hservice,
        restoredPart_location_of_named locked hnodup (fun j hj => (hnamed j hj).1) hi⟩
  · rw [hstat i hi]
    by_cases hin : i ∈ p.named
    · obtain ⟨l, hl⟩ := (mem_named i).mp hin
      have hlu : l ≠ .unlocated := fun hc => by rw [hc] at hl; cases hl
      rw [if_pos (hnamed i hin).2, restoredPart_location_of_named locked hnodup (fun j hj => (hnamed j hj).1) hl,
        restoredPart_members locked l hlu]
      exact hl
    · have hlocation := restoredPart_location_of_unnamed (s := s) locked hi hin
      rw [hfleet, Option.getD_some] at hlocation
      split at hlocation
      · rw [if_pos (by assumption), hlocation]
        exact (hunlocated i).mpr ⟨⟨hi, by assumption⟩, hin⟩
      · rw [if_neg (by assumption)]
        exact hlocation
  · rw [hplaced.watch]
    exact List.nodup_nil
  · rw [hplaced.watch] at hw
    cases hw
  · rw [restoredPart_members locked .uphill nofun] at hi
    obtain ⟨u, hu, rfl⟩ := List.mem_map.mp hi
    obtain ⟨-, -, hready, -, -⟩ := restoredPart_cabins (s := s) locked hnodup fun j hj => (hnamed j hj).1
    exact (hready u hu).2
  · obtain ⟨hforce, hstored, hstage, -⟩ := hup.geometry
    unfold State.geometryAgrees
    rw [hsame.safety, hsame.staged, hsame.write, hsame.store, hwrite]
    refine ⟨fun y hy => ?_, hstored, hstage, fun w hw => by cases hw⟩
    obtain ⟨⟨hysize, hyS⟩, -⟩ := hforce y hy
    rw [blocksUp_safety, hsafety] at hy
    obtain rfl := Option.some.inj hy
    refine ⟨⟨hysize, hyS⟩, ?_⟩
    rw [hplaced.slots, List.length_map]
    exact Nat.eq_of_mul_eq_mul_right hyS (by rw [← hysize, ← hL, ← hsize, hS])
  · refine storeAgrees_of_same hup.stored hsame (stats_of_reg ?_ fun i => ?_)
    · rw [restoredPart_length, blocksUp_length]
    · obtain ⟨b, hb⟩ := hplaced.cabins.2 i
      rw [hb]
      exact editRegs_stat p.edits _ (edits_stat p) i

theorem tryRestore_fleet (h : s.store.sound) (locked : Bool) : (s.blocksUp locked).tryRestore.FleetBut ∅ ∅ := by
  have hup := blocksUp_fleet h locked
  unfold State.tryRestore
  rw [blocksUp_store]
  split
  · exact hup
  · rename_i p hp
    split
    · rename_i hf
      unfold State.restoreFailure at hf
      rw [blocksUp_safety, blocksUp_fleetValid] at hf
      split at hf
      · cases hf
      · rename_i x hx
        cases hfleet : s.store.fleet with
        | none => rw [hfleet] at hf; cases hf
        | some f =>
          rw [hfleet] at hf
          have hgeometry : ¬ (decide (p.L ≠ x.L) || decide (p.S ≠ x.S)) = true := fun hc => by
            rw [Option.isSome_some, Bool.not_true, if_neg Bool.false_ne_true, if_pos hc] at hf
            cases hf
          simp only [Bool.or_eq_true, decide_eq_true_eq, not_or, not_not] at hgeometry
          exact restoredPart_fleet h locked hx hfleet hp hgeometry.1 hgeometry.2
    · exact report_fleet hup _ _ _ _

/-! ## The reset of the part (R172, R192) -/

theorem setStc_fleet (h : s.FleetBut out loose) (x : Stc) : (s.setStc x).FleetBut out loose :=
  h.of_same ⟨rfl, rfl, rfl⟩ h.geometry h.stored

theorem resetReport_fleet (h : s.FleetBut out loose) : s.resetReport.FleetBut out loose := by
  have hclear : ∀ {x : State}, x.FleetBut out loose → x.clearGathered.FleetBut out loose := fun hx => setStc_fleet hx _
  have hjudged := judge_fleet (judge_fleet (judge_fleet (raise_fleet (hclear h) .powerOn none) .estopLoop
    (s.pins.loop = .loopOpen) none) .ropeUnreferenced (!s.rpu.referenced) none) .tablesInvalid s.tablesInvalid none
  exact takeReport_fleet (setStc_fleet (takeTogether_fleet (hclear hjudged) _) _)

theorem resetPart_fleet (h : s.store.sound) (locked : Bool) : (s.resetPart locked).FleetBut ∅ ∅ :=
  resetReport_fleet (tryRestore_fleet h locked)

theorem powerOn_fleet (h : s.FleetBut out loose) : s.powerOn.FleetBut ∅ ∅ := resetPart_fleet (cutShort_fleet h).soundStore false

theorem restartPart_fleet (h : s.FleetBut out loose) : s.restartPart.FleetBut ∅ ∅ := resetPart_fleet h.soundStore _

end Sys2Proof.Machine
end
section
/-!
PROOFS. The conservation of the fleet (O27), twenty-fourth part: the ring, the link, and what a command does around its own effect
(R131, R133, R135, R173 to R181, R185).
-/

namespace Sys2Proof.Machine

variable {s t : State} {out loose : Set Nat}

/-! ## Blocks that hold no part of the fleet -/

theorem setRng_fleet (h : s.FleetBut out loose) (x : Rng) : (s.setRng x).FleetBut out loose :=
  h.of_same ⟨rfl, rfl, rfl⟩ h.geometry h.stored

theorem setSlk_fleet (h : s.FleetBut out loose) (x : Slk) : (s.setSlk x).FleetBut out loose :=
  h.of_same ⟨rfl, rfl, rfl⟩ h.geometry h.stored

theorem setPins_fleet (h : s.FleetBut out loose) (x : Pins) : (s.setPins x).FleetBut out loose :=
  h.of_same ⟨rfl, rfl, rfl⟩ h.geometry h.stored

/-! ## The ring (R173 to R181) -/

theorem reportInsertion_fleet (h : s.FleetBut ∅ ∅) (f : EgressFrame) : (s.reportInsertion f).FleetBut ∅ ∅ := by
  have hoffer : s.offerEvent.FleetBut ∅ ∅ := h.does (State.offerEvent_does (Does.refl _ s) rfl)
  unfold State.reportInsertion
  split
  · exact releaseInserted_fleet h _
  · exact doorInserted_fleet h _ _
  · exact doorInserted_fleet h _ _
  · exact doorInserted_fleet h _ _
  · exact h.does (State.scanInserted_does _ _ (Does.refl _ s) rfl)
  · exact h.does (State.exitInserted_does _ (Does.refl _ s) rfl)
  · split
    · exact restartPart_fleet h
    · exact hoffer
  · exact hoffer
  · exact h

theorem letGo_fleet (h : s.FleetBut out loose) (x : SlotOut) : (s.letGo x).FleetBut out loose := setRng_fleet h _

theorem setSlotRecord_fleet (h : s.FleetBut out loose) (n : Nat) (r : Option Word) : (s.setSlotRecord n r).FleetBut out loose :=
  setRng_fleet h _

theorem fillSlot_fleet (h : s.FleetBut ∅ ∅) (n : Nat) : (s.fillSlot n).FleetBut ∅ ∅ := by
  unfold State.fillSlot
  split
  · exact letGo_fleet (reportInsertion_fleet (setSlotRecord_fleet (setRng_fleet h _) _ _) _) _
  · exact letGo_fleet (setSlotRecord_fleet h _ _) _

theorem countOrphan_fleet (h : s.FleetBut out loose) (f : RingFrame) (r : Word) : (s.countOrphan f r).FleetBut out loose :=
  takeReport_fleet (setRng_fleet (h.does (State.missAll_does _ (State.seenAlive_does _ (Does.refl _ s) rfl) rfl)) _)

theorem filterOut_fleet (h : s.FleetBut out loose) (f : RingFrame) (r : FilterReason) : (s.filterOut f r).FleetBut out loose :=
  h.does (State.filterOut_does f r (Does.refl _ s) rfl)

theorem acceptFrame_fleet (h : s.FleetBut ∅ ∅) (n : Nat) (f : RingFrame) : (s.acceptFrame n f).FleetBut ∅ ∅ := by
  have hseen : (s.clearMisses f.source).FleetBut ∅ ∅ := h.does (State.clearMisses_does _ (Does.refl _ s) rfl)
  have hcopied : (if bitOf f.mask 0 then (s.clearMisses f.source).copyFrame { f with mark := true }
      else s.clearMisses f.source).FleetBut ∅ ∅ := by
    split
    · exact hseen.does (State.copyFrame_does _ (Does.refl _ _) rfl)
    · exact hseen
  unfold State.acceptFrame
  dsimp only
  split
  · exact fillSlot_fleet hcopied n
  · exact letGo_fleet (setSlotRecord_fleet hcopied _ _) _

theorem passSlot_fleet (h : s.FleetBut ∅ ∅) (n : Nat) (w0 w1 : Word) (payload : List Word) :
    (s.passSlot n w0 w1 payload).FleetBut ∅ ∅ := by
  have htaken : (s.recordTaken (s.rng.slotRecords.getD n none)).FleetBut ∅ ∅ :=
    h.does (State.recordTaken_does _ (Does.refl _ s) rfl)
  unfold State.passSlot
  dsimp only
  split
  · exact letGo_fleet (setSlotRecord_fleet (setRng_fleet h _) _ _) _
  · split
    · exact fillSlot_fleet htaken n
    · split
      · unfold State.removeMarked
        refine fillSlot_fleet ?_ n
        split
        · exact countOrphan_fleet h _ _
        · exact filterOut_fleet h _ _
      · unfold State.firstPass
        split
        · exact fillSlot_fleet (filterOut_fleet htaken _ _) n
        · exact acceptFrame_fleet htaken n _

/-! ## The summit link (R128 to R137) -/

theorem enterDown_fleet (h : s.FleetBut out loose) : s.enterDown.FleetBut out loose := by
  have hset := setSlk_fleet h s.slk.down
  have hcall : (((((s.setSlk s.slk.down).failRequests).setMirror .run).judge .positionDisagree false).callLinkDown).FleetBut out
      loose :=
    hset.does (State.callLinkDown_does (State.judge_does _ _ _ (State.setMirror_does _
      (State.failRequests_does (Does.refl _ _) rfl) rfl) rfl) rfl)
  unfold State.enterDown
  dsimp only
  refine takeReport_fleet ?_
  split
  · exact hcall.does (State.linkLost_does (Does.refl _ _) rfl)
  · exact hcall

theorem actOnSafety_fleet (h : s.FleetBut out loose) (c : SummitContents) : (s.actOnSafety c).FleetBut out loose := by
  have hcompared : ((s.setMirror c.category).comparePosition c).FleetBut out loose :=
    h.does (State.comparePosition_does c (State.setMirror_does _ (Does.refl _ s) rfl) rfl)
  exact (takeReport_fleet hcompared).does
    (State.superviseSummit_does _ (State.judgeEmergency_does (Does.refl _ _) rfl) rfl)

theorem takeSafety_fleet (h : s.FleetBut out loose) (c : SummitContents) : (s.takeSafety c).FleetBut out loose := by
  have hstored : (s.linkSafety.storeSummit c).FleetBut out loose :=
    h.does (State.storeSummit_does c (State.linkSafety_does (Does.refl _ s) rfl) rfl)
  unfold State.takeSafety
  dsimp only
  split
  · split
    · exact actOnSafety_fleet hstored c
    · exact (actOnSafety_fleet (hstored.does (State.enterUp_does (Does.refl _ _) rfl)) c).does
        (State.startReconcile_does (Does.refl _ _) rfl)
  · exact hstored

theorem takeSafetyFrame_fleet (h : s.FleetBut out loose) (bytes : List Byte) : (s.takeSafetyFrame bytes).FleetBut out loose := by
  have hvalid : (s.takeValid bytes).FleetBut out loose := h.does (State.takeValid_does bytes (Does.refl _ s) rfl)
  unfold State.takeSafetyFrame
  dsimp only
  split
  · exact hvalid.does (State.countMalformed_does (State.linkOther_does (Does.refl _ _) rfl) rfl)
  · exact takeSafety_fleet hvalid _

theorem restartLink_fleet (h : s.FleetBut out loose) : s.restartLink.FleetBut out loose := by
  unfold State.restartLink
  split
  · exact h
  · exact enterDown_fleet h

/-! ## Answers to management requests (R185) -/

theorem takeResetCauses_fleet (h : s.FleetBut out loose) : s.takeResetCauses.state.FleetBut out loose :=
  formOutput_fleet (h.does (Does.foldl _ _ (Does.refl _ s) fun _ c hx => State.releaseCause_does c hx rfl)) _

theorem give_fleet {a : Answer} (h : a.state.FleetBut out loose) (f : RingFrame) : (a.give f).FleetBut out loose :=
  reply_fleet h _ _ _

theorem answerCall_fleet {r : State × Bool} (h : r.1.FleetBut out loose) : (answerCall r).state.FleetBut out loose := h

theorem answerEntry_state (s : State) (w : Option (List Word)) : (s.answerEntry w).state = s := by
  unfold State.answerEntry
  split <;> rfl

theorem readEntry_state (s : State) (w : Word) : (s.readEntry w).state = s := by
  unfold State.readEntry
  dsimp only
  repeat' split
  all_goals first | exact answerEntry_state s _ | rfl

theorem readPage_state (s : State) (w : Word) : (s.readPage w).state = s := by
  unfold State.readPage
  split <;> rfl

theorem atDoor_fleet (h : s.FleetBut out loose) (w : Word) {act : StationEntry → Answer}
    (hact : ∀ e, (act e).state.FleetBut out loose) : (s.atDoor w act).state.FleetBut out loose := by
  unfold State.atDoor
  split
  · exact hact _
  · exact h

theorem doorAnswer_fleet (h : s.FleetBut out loose) (b : Bool) {act : State → State} (hact : (act s).FleetBut out loose) :
    (s.doorAnswer b act).state.FleetBut out loose := by
  unfold State.doorAnswer
  split
  · exact hact
  · exact h

theorem takeDoorMode_fleet (h : s.FleetBut out loose) (n : Nat) : (s.takeDoorMode n).state.FleetBut out loose := by
  unfold State.takeDoorMode
  split
  · exact h.does (State.setDoorMode_does _ (Does.refl _ s) rfl)
  · exact h.does (State.setDoorMode_does _ (Does.refl _ s) rfl)
  · exact h

theorem takeReadStatus_fleet (h : s.FleetBut out loose) (f : RingFrame) : (takeReadStatus f s).FleetBut out loose :=
  reply_fleet (h.does (State.clearDropped_does (Does.refl _ s) rfl)) _ _ _

theorem takeUnknownRequest_fleet (h : s.FleetBut out loose) (f : RingFrame) : (takeUnknownRequest f s).FleetBut out loose := by
  unfold takeUnknownRequest
  split
  · exact setTst_fleet h ⟨rfl, rfl, rfl⟩
  · exact reply_fleet h _ _ _

end Sys2Proof.Machine
end
section
/-!
PROOFS. The conservation of the fleet (O27), twenty-fifth part: the commands, and the statement.
-/

namespace Sys2Proof.Machine

variable {s t : State} {out loose : Set Nat}

/-! ## What a command does around its own effect -/

/-- A part that keeps the invariant of O3 and whose fleet is conserved. -/
structure State.Kept (s : State) : Prop where
  fleet : s.FleetBut ∅ ∅
  live : s.pins.held = false → s.Live

theorem whole_fleet (h : s.Kept) {body : State → State} (hbody : s.Live → (body s).FleetBut ∅ ∅) :
    (whole body s).FleetBut ∅ ∅ := by
  unfold whole
  split
  · exact h.fleet
  · rename_i hheld
    exact settle_fleet (hbody (h.live (Bool.eq_false_iff.mpr hheld))) s

theorem expiry_fleet (h : s.Kept) {timer : Option Ms} {body : State → State} (hbody : (body s).FleetBut ∅ ∅) :
    (expiry timer body s).FleetBut ∅ ∅ := by
  unfold expiry
  split
  · exact whole_fleet h fun _ => hbody
  · exact h.fleet

theorem receive_fleet (h : s.Kept) {mine : List Byte → Bool} {bytes : List Byte} {body : State → State}
    (hbody : (body s).FleetBut ∅ ∅) : (receive mine bytes body s).FleetBut ∅ ∅ := by
  unfold receive
  split
  · exact whole_fleet h fun _ => hbody
  · exact h.fleet

theorem deliver_fleet (h : s.Kept) {row : Row} {body : IngressEntry → State → State}
    (hbody : ∀ e x, x.FleetBut ∅ ∅ → x.Live → x.tst = s.tst → (body e x).FleetBut ∅ ∅) :
    (deliver row body s).FleetBut ∅ ∅ := by
  unfold deliver
  split
  · rename_i e rest hingress
    have hd : Does 65536 s (s.takeHead rest) := State.takeHead_does (Does.refl _ s) rfl hingress
    have htst : (s.takeHead rest).tst = s.tst := by
      unfold State.takeHead
      dsimp only
      split
      · unfold State.setHold
        split <;> rfl
      · rfl
    have hhead : (s.takeHead rest).FleetBut ∅ ∅ := h.fleet.does (hd.mono rfl)
    split
    · refine whole_fleet h fun hlive => ?_
      dsimp only
      split
      · exact hhead.does (State.discardMalformed_does _ (Does.refl _ _) rfl)
      · exact hbody e _ hhead (hlive.does hd) htst
    · exact h.fleet
  · exact h.fleet

/-- A request is handed to its owner while no write is in flight, but for READ_STATUS (R185). -/
theorem manage_fleet (h : s.Kept) {row : Row} {body : RingFrame → State → State}
    (hbody : ∀ f x, x.FleetBut ∅ ∅ → x.Live → (row ≠ .readStatus → x.tst.write = none) → (body f x).FleetBut ∅ ∅) :
    (manage row body s).FleetBut ∅ ∅ := by
  unfold manage
  split
  · exact h.fleet
  · refine deliver_fleet h fun e x hx hlive _ => ?_
    unfold judgeRequest
    split
    · exact reply_fleet hx _ _ _
    · rename_i hbusy
      refine hbody e.frame x hx hlive fun hrow => ?_
      simpa [hrow] using hbusy

theorem deliverUnanswered_fleet (h : s.Kept) {kind : LinkFrame → Bool} {body : LinkFrame → State → State}
    (hbody : ∀ f x, x.FleetBut ∅ ∅ → (body f x).FleetBut ∅ ∅) : (deliverUnanswered kind body s).FleetBut ∅ ∅ := by
  unfold deliverUnanswered
  split
  · split
    · exact whole_fleet h fun _ => hbody _ _ (setSlk_fleet h.fleet _)
    · exact h.fleet
  · exact h.fleet

theorem deliverAnswered_fleet (h : s.Kept) {kind : LinkFrame → Bool} {body : LinkFrame → State → State}
    (hbody : ∀ f x, x.FleetBut ∅ ∅ → (body f x).FleetBut ∅ ∅) : (deliverAnswered kind body s).FleetBut ∅ ∅ := by
  unfold deliverAnswered
  split
  · split
    · exact whole_fleet h fun _ => hbody _ _ (setSlk_fleet h.fleet _)
    · exact h.fleet
  · exact h.fleet

theorem withSafety_fleet (h : s.FleetBut ∅ ∅) {body : SafetyTables → State → State}
    (hbody : ∀ x, (body x s).FleetBut ∅ ∅) : (withSafety body s).FleetBut ∅ ∅ := by
  unfold withSafety
  split
  · exact hbody _
  · exact h

/-! ## The resets and the level of the loop -/

/-- Whatever state an outcome brings, the fleet is conserved in it. -/
def KeepsFleet (o : Outcome) : Prop := ∀ t, o = .next t → t.FleetBut ∅ ∅

theorem next_fleet {x : State} (h : x.FleetBut ∅ ∅) : KeepsFleet (.next x) := by
  rintro _ ⟨⟩
  exact h

theorem resetIn_fleet (h : s.FleetBut ∅ ∅) : KeepsFleet (execResetInAsserted s) := by
  rintro _ ⟨⟩
  exact setStc_fleet (setPins_fleet (cutShort_fleet h) _) _

theorem estopIn_fleet (h : s.Kept) (level : LoopLevel) : KeepsFleet (execEstopInChange level s) := by
  rintro _ ⟨⟩
  split
  · exact setPins_fleet h.fleet _
  · exact whole_fleet h fun _ => judge_fleet (setPins_fleet h.fleet _) _ _ _

theorem execRestart_fleet (h : s.Kept) (key : KeyPosition) : KeepsFleet (execRestart key s) := by
  rintro _ ⟨⟩
  have hrequest : (manage .restart (fun f x => takeRestart f (x.setKey key)) s).FleetBut ∅ ∅ :=
    manage_fleet h fun f x hx _ _ => takeRestart_fleet (setPins_fleet hx _) f
  split
  · exact restartPart_fleet hrequest
  · exact hrequest

theorem execTransmitComplete_fleet (h : s.Kept) : KeepsFleet (execTransmitComplete s) := by
  rintro _ ⟨⟩
  split
  · exact whole_fleet h fun _ => setSlk_fleet h.fleet _
  · exact h.fleet

theorem execUnknownRequest_fleet (h : s.Kept) : KeepsFleet (execMgmtRequestUnknownKind s) := by
  rintro _ ⟨⟩
  split
  · exact h.fleet
  · exact deliver_fleet h fun e _ hx _ _ => takeUnknownRequest_fleet hx e.frame

/-! ## Every command -/

/-- The commands whose own effect touches no part of the fleet. -/
theorem quietDelivery_fleet (h : s.Kept) {row : Row} {body : IngressEntry → State → State}
    (hbody : ∀ e x, Does 250739723 x (body e x)) : KeepsFleet (.next (deliver row body s)) :=
  next_fleet (deliver_fleet h fun e x hx _ _ => hx.does (hbody e x))

theorem quietExpiry_fleet (h : s.Kept) {timer : Option Ms} {body : State → State} (hbody : Does 250739723 s (body s)) :
    KeepsFleet (.next (expiry timer body s)) :=
  next_fleet (expiry_fleet h (h.fleet.does hbody))

theorem quietReceipt_fleet (h : s.Kept) {mine : List Byte → Bool} {bytes : List Byte} {body : State → State}
    (hbody : Does 250739723 s (body s)) : KeepsFleet (.next (receive mine bytes body s)) :=
  next_fleet (receive_fleet h (h.fleet.does hbody))

theorem quietUnanswered_fleet (h : s.Kept) {kind : LinkFrame → Bool} {body : LinkFrame → State → State}
    (hbody : ∀ f x, Does 250739723 x (body f x)) :
    KeepsFleet (.next (deliverUnanswered kind body s)) :=
  next_fleet (deliverUnanswered_fleet h fun f x hx => hx.does (hbody f x))

theorem quietAnswered_fleet (h : s.Kept) {kind : LinkFrame → Bool} {body : LinkFrame → State → State}
    (hbody : ∀ f x, Does 250739723 x (body f x)) :
    KeepsFleet (.next (deliverAnswered kind body s)) :=
  next_fleet (deliverAnswered_fleet h fun f x hx => hx.does (hbody f x))

/-- A request answered by its owner, where no write is in flight. -/
theorem answered_fleet (h : s.Kept) {row : Row} {ask : RingFrame → State → Answer}
    (hask : ∀ f x, x.FleetBut ∅ ∅ → x.Live → (row ≠ .readStatus → x.tst.write = none) → (ask f x).state.FleetBut ∅ ∅) :
    KeepsFleet (.next (manage row (fun f x => (ask f x).give f) s)) :=
  next_fleet (manage_fleet h fun f x hx hlive hw => give_fleet (hask f x hx hlive hw) f)

/-- Every command conserves the fleet. -/
theorem exec_fleet (h : s.Kept) (c : Instr) : KeepsFleet (exec c s) := by
  have hf := h.fleet
  cases c with
  | powerOnReset => exact next_fleet (powerOn_fleet hf)
  | resetInAsserted => exact resetIn_fleet hf
  | estopInChange level => exact estopIn_fleet h level
  | restart key => exact execRestart_fleet h key
  | restartOfferTimeout => exact next_fleet (expiry_fleet h (restartPart_fleet hf))
  | timebaseWindowEnd edges =>
    exact next_fleet (whole_fleet h fun _ => hf.does (State.takeWindow_does edges (Does.refl _ s) rfl))
  | ringSlotPass n w0 w1 payload => exact next_fleet (whole_fleet h fun _ => passSlot_fleet hf n w0 w1 payload)
  | frameUndeliverable => exact quietDelivery_fleet h fun e x => State.discardUndeliverable_does e (Does.refl _ x) rfl
  | tachSample =>
    exact next_fleet (deliver_fleet h fun e x hx _ _ => withSafety_fleet hx fun y => takeSample_fleet hx y _ _ _)
  | tachLostExpiry => exact next_fleet (expiry_fleet h (loseTach_fleet hf))
  | stillnessExpiry => exact next_fleet (expiry_fleet h (becomeStopped_fleet hf))
  | refMark => exact next_fleet (deliver_fleet h fun e x hx _ _ => withSafety_fleet hx fun y => takeMark_fleet hx y)
  | gateReport =>
    refine next_fleet (deliver_fleet h fun e x hx _ _ => ?_)
    split
    · exact reversePassage_fleet hx 7
    · exact takeGateReport_fleet hx e.frame
  | gateReportTimeout => exact next_fleet (expiry_fleet h (timeoutRelease_fleet hf))
  | nackGateRelease => exact next_fleet (deliver_fleet h fun e x hx _ _ => takeGateNack_fleet hx e.frame)
  | attach =>
    refine next_fleet (deliver_fleet h fun e x hx _ _ => ?_)
    split
    · exact reversePassage_fleet hx 8
    · exact takeAttach_fleet hx
  | arrivalForward => exact next_fleet (deliver_fleet h fun e x hx hlive _ => takeArrival_fleet hx hlive _)
  | arrivalBackward => exact next_fleet (deliver_fleet h fun e x hx _ _ => reversePassage_fleet hx 1)
  | passageForward => exact next_fleet (deliver_fleet h fun e x hx _ _ => takePassage_fleet hx e.role)
  | passageBackward => exact next_fleet (deliver_fleet h fun e x hx _ _ => takeBackPassage_fleet hx e.role)
  | gripSampleForward => exact next_fleet (deliver_fleet h fun e x hx _ _ => takeGrip_fleet hx _)
  | gripSampleBackward => exact next_fleet (deliver_fleet h fun e x hx _ _ => takeBackGrip_fleet hx)
  | switchPassageForward => exact next_fleet (deliver_fleet h fun e x hx _ _ => takeSwitch_fleet hx _)
  | switchPassageBackward => exact next_fleet (deliver_fleet h fun e x hx _ _ => takeBackSwitch_fleet hx)
  | nackSwitchSet => exact quietDelivery_fleet h fun e x => State.takeSwitchNack_does _ (Does.refl _ x) rfl
  | garageExitForward => exact next_fleet (deliver_fleet h fun e x hx _ _ => takeExit_fleet hx)
  | garageExitBackward => exact next_fleet (deliver_fleet h fun e x hx _ _ => reversePassage_fleet hx 9)
  | garageExitTimeout => exact quietExpiry_fleet h (State.abandonExit_does _ _ (Does.refl _ s) rfl)
  | nackGarageExitCommand => exact quietDelivery_fleet h fun e x => State.takeExitNack_does _ (Does.refl _ x) rfl
  | doorReport => exact next_fleet (deliver_fleet h fun e x hx _ _ => takeDoorFrame_fleet hx e)
  | nackDoor => exact next_fleet (deliver_fleet h fun e x hx _ _ => takeDoorRefusal_fleet hx e.frame)
  | doorDeadlineExpiry u => exact next_fleet (expiry_fleet h (timeoutUnit_fleet hf u))
  | unitRecoverExpiry u => exact quietExpiry_fleet h (State.unitToIdle_does u (Does.refl _ s) rfl)
  | doorRetryTimerExpiry u => exact quietExpiry_fleet h (State.retryUnit_does u (Does.refl _ s) rfl)
  | dwellExpiry n => exact quietExpiry_fleet h (State.dwellOver_does n (Does.refl _ s) rfl)
  | reopenWaitExpiry n => exact quietExpiry_fleet h (State.reopenWaitOver_does n (Does.refl _ s) rfl)
  | settleExpiry n => exact next_fleet (expiry_fleet h (settleOver_fleet hf n))
  | tensionSample => exact quietDelivery_fleet h fun e x => State.takeTension_does _ (Does.refl _ x) rfl
  | tensionLossExpiry => exact quietExpiry_fleet h (State.loseTension_does (Does.refl _ s) rfl)
  | towerDueExpiry i =>
    exact quietExpiry_fleet h (State.atTower_does i (Does.refl _ s) fun e => State.scanDue_does i e (Does.refl _ s) rfl)
  | scanReport => exact quietDelivery_fleet h fun e x => State.takeScanReport_does _ (Does.refl _ x) rfl
  | scanDeadlineExpiry i =>
    exact quietExpiry_fleet h (State.atTower_does i (Does.refl _ s) fun e => State.failScan_does i e (Does.refl _ s) rfl)
  | nackScanRequest => exact quietDelivery_fleet h fun e x => State.takeScanNack_does _ (Does.refl _ x) rfl
  | towerAlarm => exact quietDelivery_fleet h fun e x => State.takeAlarm_does _ (Does.refl _ x) rfl
  | linkBadCheckFrame bytes => exact quietReceipt_fleet h (State.badCheck_does (Does.refl _ s) rfl)
  | linkSafetyFrame bytes => exact next_fleet (receive_fleet h (takeSafetyFrame_fleet hf bytes))
  | linkBufferedFrame bytes =>
    exact quietReceipt_fleet h (State.takeBuffered_does _ (State.takeValid_does bytes (Does.refl _ s) rfl) rfl)
  | linkVoiceFrame bytes =>
    exact quietReceipt_fleet h (State.takeVoice_does _ (State.takeValid_does bytes (Does.refl _ s) rfl) rfl)
  | handoverSummitArrival =>
    exact next_fleet (deliverUnanswered_fleet h fun f x hx =>
      takeHandover_fleet hx _ _ fun _ _ j hy hi => bookSummitArrival_fleet hy hi j)
  | handoverSummitLaunch =>
    exact next_fleet (deliverUnanswered_fleet h fun f x hx =>
      takeHandover_fleet hx _ _ fun _ _ j hy hi => bookSummitLaunch_fleet hy hi j)
  | replyPart => exact next_fleet (deliverUnanswered_fleet h fun f x hx => takeReplyFrame_fleet hx f)
  | reconcileRetryExpiry => exact quietExpiry_fleet h (State.retryReconcile_does (Does.refl _ s) rfl)
  | requestTimeout tag => exact quietExpiry_fleet h (State.timeoutRequest_does tag (Does.refl _ s) rfl)
  | valleySetQuery => exact quietAnswered_fleet h fun f x => State.placeAnswer_does _ _ _ (Does.refl _ x) rfl
  | locate => exact quietAnswered_fleet h fun f x => State.placeAnswer_does _ _ _ (Does.refl _ x) rfl
  | summitRequestUnsupported => exact quietAnswered_fleet h fun f x => State.placeAnswer_does _ _ _ (Does.refl _ x) rfl
  | silenceExpiry => exact next_fleet (expiry_fleet h (enterDown_fleet hf))
  | safetySendExpiry => exact quietExpiry_fleet h (State.sendSafety_does (Does.refl _ s) rfl)
  | transmitComplete => exact execTransmitComplete_fleet h
  | callSetup => exact quietUnanswered_fleet h fun _ x => State.takeCallSetup_does (Does.refl _ x) rfl
  | callAccept => exact quietUnanswered_fleet h fun _ x => State.takeCallAccept_does (Does.refl _ x) rfl
  | callClear => exact quietUnanswered_fleet h fun _ x => State.takeCallClear_does (Does.refl _ x) rfl
  | callTimerExpiry => exact quietExpiry_fleet h (State.callTimeout_does (Does.refl _ s) rfl)
  | playoutExpiry => exact quietExpiry_fleet h (State.playout_does (Does.refl _ s) rfl)
  | handsetVoice => exact quietDelivery_fleet h fun e x => State.takeHandsetVoice_does _ _ (Does.refl _ x) rfl
  | callKeyCall =>
    exact quietDelivery_fleet h fun _ x => State.keyOutcome_does _ (State.callRequest_does _ (Does.refl _ x) rfl) rfl
  | callKeyAnswer =>
    exact quietDelivery_fleet h fun _ x => State.keyOutcome_does _ (State.answerRequest_does _ (Does.refl _ x) rfl) rfl
  | callKeyHangUp =>
    exact quietDelivery_fleet h fun _ x => State.keyOutcome_does _ (State.hangUpRequest_does _ (Does.refl _ x) rfl) rfl
  | call =>
    exact answered_fleet h fun _ x hx _ _ => answerCall_fleet (hx.does (State.callRequest_does _ (Does.refl _ x) rfl))
  | answer =>
    exact answered_fleet h fun _ x hx _ _ => answerCall_fleet (hx.does (State.answerRequest_does _ (Does.refl _ x) rfl))
  | hangUp =>
    exact answered_fleet h fun _ x hx _ _ => answerCall_fleet (hx.does (State.hangUpRequest_does _ (Does.refl _ x) rfl))
  | readStatus key =>
    exact next_fleet (manage_fleet h fun f x hx _ _ => takeReadStatus_fleet (setPins_fleet hx _) f)
  | readEntry => exact answered_fleet h fun f x hx _ _ => by rwa [readEntry_state]
  | readCollection => exact answered_fleet h fun f x hx _ _ => by rwa [readPage_state]
  | stageEntry => exact answered_fleet h fun f x hx _ hw => takeStage_fleet hx (hw (by decide)) _ _ _
  | discardStage => exact answered_fleet h fun f x hx _ hw => takeDiscard_fleet hx (hw (by decide)) _
  | commit key => exact next_fleet (manage_fleet h fun f x hx _ _ => takeCommit_fleet (setPins_fleet hx _) f)
  | writeFleetEntry => exact next_fleet (manage_fleet h fun f x hx _ _ => takeWriteFleet_fleet hx f)
  | setProtection key => exact next_fleet (manage_fleet h fun f x hx _ _ => takeProtection_fleet (setPins_fleet hx _) f)
  | park => exact next_fleet (manage_fleet h fun f x hx _ _ => takePark_fleet hx f)
  | resetCauses key => exact answered_fleet h fun f x hx _ _ => takeResetCauses_fleet (setPins_fleet hx _)
  | setDoorMode => exact answered_fleet h fun f x hx _ _ => takeDoorMode_fleet hx _
  | holdOpen =>
    exact answered_fleet h fun f x hx _ _ => atDoor_fleet hx _ fun e => doorAnswer_fleet hx _ (takeHoldOpen_fleet hx e)
  | releaseHold =>
    exact answered_fleet h fun f x hx _ _ =>
      atDoor_fleet hx _ fun e => doorAnswer_fleet hx _ (takeReleaseHold_fleet hx e)
  | doorRetry =>
    exact answered_fleet h fun f x hx _ _ =>
      atDoor_fleet hx _ fun e => doorAnswer_fleet hx _ (hx.does (State.takeDoorRetry_does e (Does.refl _ x) rfl))
  | garageNext => exact answered_fleet h fun f x hx _ _ => takeGarageNext_fleet hx _
  | garageRelease =>
    exact answered_fleet h fun f x hx _ _ => hx.does (State.takeGarageRelease_does _ (Does.refl _ x) rfl)
  | removeCabin => exact next_fleet (manage_fleet h fun f x hx _ _ => takeRemove_fleet hx f)
  | locateCabin => exact answered_fleet h fun f x hx hlive _ => takeLocateCabin_fleet hx hlive _
  | linkRestart => exact answered_fleet h fun f x hx _ _ => restartLink_fleet hx
  | commitWriteComplete => exact next_fleet (commitComplete_fleet hf)
  | fleetWriteComplete => exact next_fleet (fleetComplete_fleet hf)
  | protectionWriteComplete => exact next_fleet (protectionComplete_fleet hf)
  | parkWriteComplete => exact next_fleet (parkComplete_fleet hf)
  | invalidationWriteComplete => exact next_fleet (invalidationComplete_fleet hf)
  | mgmtRequestUnknownKind => exact execUnknownRequest_fleet h

/-! ## The statement -/

theorem State.Inv.registered (h : s.Inv) : s.registry.length = 128 := by
  obtain ⟨⟨-, -, -, -, -, -, -, -, -, -, hreg⟩, -⟩ := h
  exact hreg

/-- Settles O27: between commands no cabin is on its way, each booking takes a cabin out of its collection and puts it into
another one, and a tick changes no part of the fleet. -/
theorem stepKeepsTheFleet : Obligations.StepKeepsTheFleet := by
  intro s t hinv hkept ht
  have hfleet := fleetBut_of_fleetKept hkept hinv.registered
  unfold step at ht
  split at ht
  · rename_i c rest _
    have hset : (s.setPending rest).FleetBut ∅ ∅ := hfleet.of_same ⟨rfl, rfl, rfl⟩ hfleet.geometry hfleet.stored
    exact (exec_fleet ⟨hset, fun hheld => State.Inv.live (s := s.setPending rest) hinv hheld⟩ c t ht).fleetKept
  · cases ht
    exact hkept

end Sys2Proof.Machine
end
